-- ==== Sys2Proof/Word.lean ====
section
/-!
DEFINITION. The word types of the U70: bytes, 32-bit register words, 64-bit words and 64-byte vectors, and the sparse
map type every indexed piece of state uses.
-/
namespace Sys2Proof

/-- A byte. -/
abbrev Byte := BitVec 8

/-- A 32-bit register word (R74). -/
abbrev Word := BitVec 32

/-- A 64-bit word: address registers, instruction words (R376, R379). -/
abbrev DWord := BitVec 64

/-- A 64-byte vector register or message payload, byte 0 least significant (R376, R345). -/
abbrev Vec := BitVec 512

/-- A map from indexes to values in one canonical form: keys strictly rising, no entry equal to what an unlisted
index reads as. What an unlisted index reads as is given where the map is read (Ops.lean). -/
abbrev Sparse (α : Type) := List (Nat × α)

end Sys2Proof
end

