-- ==== Sys2Proof/Syntax.lean ====
section
/-!
DEFINITION. The commands of the block: one constructor of `Instr` for each row of the table of operations and events,
with its operands. The types before it name the units, masters and measured things that commands carry.
-/
namespace Sys2Proof

/-- Who makes a register access: PF0 of the host, VF(n + 1) of the host, or the side-band, whose `tag` says whether
the write came with a valid tag or while the node is OPEN (R86, R87, R596, Table 3.4 AUTH). -/
inductive Master where
  | host
  | vf (n : Nat)
  | side (tag : Bool)
  deriving DecidableEq, Repr

/-- A register page: its block and its index (Tables 3.2, 3.5, 3.6). `corectl k` is the page of logical device core
k for k < 512 and of spare k - 512 - 2t of tile t otherwise (R333); `queue k` is queue page 8n + q; `lane k` is lane
8p + l. -/
inductive PageRef where
  | ident | boot | event | ledger | arbiter | cal | tmb | therm | hearth | token
  | net (n : Nat)
  | cell (i : Nat)
  | loop (d : Nat)
  | survey (d : Nat)
  | grid (t : Nat)
  | tally (t : Nat)
  | mem (t : Nat)
  | corectl (k : Nat)
  | hostif
  | tenant (n : Nat)
  | queue (k : Nat)
  | port (p : Nat)
  | lane (k : Nat)
  | wiring (p : Nat)
  deriving DecidableEq, Repr

/-- One write access to a 32-bit register: the master, the value and the byte enables (R74, R75), and what it coincides with.
`meets` matters to a write of INT_RAW alone: the bits whose cause, or whose INT_FORCE write, comes in the same cycle (R108).
`late` matters to BANKS and TRIM_DATA: the write ends less than 5 ns before the next frame start (R183), or with that frame start
or conversion end (R238). -/
structure RegWrite where
  master : Master
  value : Word
  be : BitVec 4
  meets : Word := 0
  late : Bool := false
  deriving DecidableEq, Repr

/-- A fast clock with a lock bound (Table 2.4). -/
inductive Clock where
  | hubPll
  | loopClk (d : Nat)
  | tilePll (t : Nat)
  | hbmPhy (t : Nat)
  deriving DecidableEq, Repr

/-- The failure of a hub firmware copy (Table 3.22): 0 read, 1 digest, 2 signature. -/
inductive CopyFail where
  | read | digest | signature
  deriving DecidableEq, Repr

/-- What the boot ROM found in one firmware copy (R47): the declared length, and whether the read, the digest and
the signature were good. -/
structure CopyCheck where
  length : Nat
  readOk : Bool
  digestOk : Bool
  signatureOk : Bool
  deriving DecidableEq, Repr

/-- One calibration slot as the NOR holds it: byte offset in the slot and byte, ascending; a byte not listed is
erased, 0xFF (R614). -/
abbrev SlotBytes := List (Nat × Byte)

/-- The unit a Function Level Reset names (R498). -/
inductive FlrTarget where
  | pf0
  | vf (n : Nat)
  deriving DecidableEq, Repr

/-- A field of a function's configuration space that Table 15.1 gives. -/
inductive CfgField where
  | vendor | device | classCode | totalVfs | initialVfs | vfStride | maxPayload | maxReadRequest | d3hot | aspmL1
  deriving DecidableEq, Repr

/-- A configuration request (R474): the function, PF0 (`none`) or VF(n + 1) (`some n`), the field, and the value of a
write. -/
structure CfgReq where
  fn : Option Nat
  field : CfgField
  write : Option Nat
  deriving DecidableEq, Repr

/-- A spine access that found no answer (R110): a read, or a write by a master with its value. -/
inductive SpineAccess where
  | read
  | write (w : RegWrite)
  deriving DecidableEq, Repr

/-- One loop ADC result as it reaches the engine (R218, R241): a code, with a flag for a clamped sample, or nothing. -/
inductive AdcIn where
  | code (c : BitVec 12) (clamped : Bool)
  | missing
  deriving DecidableEq, Repr

/-- The loop ADC results of one cell at a sampling instant: output voltage and four phase currents (R215). -/
structure CellSample where
  cell : Nat
  v : AdcIn
  i0 : AdcIn
  i1 : AdcIn
  i2 : AdcIn
  i3 : AdcIn
  deriving DecidableEq, Repr

/-- What the Hearth measures each millisecond (Tables 5.7, 5.8). -/
structure HearthMeas where
  vinMv : Nat
  feedI : Nat
  pkgP : Nat
  vhbmP : Nat
  vsbMw : Nat
  deriving DecidableEq, Repr

/-- Who asks for an urgent survey conversion (R228): a write of URGENT, or the Hearth for a channel, or both in the same cycle
(R232). -/
inductive UrgentBy where
  | write (w : RegWrite)
  | hearth (ch : Nat)
  | both (ch : Nat) (w : RegWrite)
  deriving DecidableEq, Repr

/-- A mesh or bridge link (Table 11.5, R373): link number of a tile's mesh (stop x 4 + direction), a tile-to-tile
bridge (0 to 9, in the order of Table 1.3), or an edge bridge: 0 E0-T0, 1 E1-T3, 2 E2-T7. -/
inductive LinkRef where
  | mesh (t link : Nat)
  | tiles (b : Nat)
  | edge (e : Nat)
  deriving DecidableEq, Repr

/-- The fields of a core instruction word that are not CLASS and OP (Table 12.3). -/
structure Fields where
  d : BitVec 5
  a : BitVec 5
  b : BitVec 5
  i : Bool
  x : BitVec 6
  imm : Word
  deriving DecidableEq, Repr

/-- What a read of one memory line finds in its check code (R421): nothing, or an error in a row (bank x 2^20 + row)
whose bank has a spare row left or has not, and the lines of the row that a repair then finds to be uncorrectable (R424). -/
inductive EccRead where
  | clean
  | corrected (row : Nat) (spare : Bool) (more : List Nat)
  | uncorrectable (row : Nat) (spare : Bool) (more : List Nat)
  deriving DecidableEq, Repr

/-- What the reads of a command find, by the DPA of each line; a line not named is clean (R421). -/
abbrev EccFound := List (Nat × EccRead)

/-- What a VERIFY or data measurement of a lane delivers (R519, R520, R526 to R528): frequency offset in 0.01 ppm,
one-way delay in 0.1 ns, SNR in 0.1 dB, the preset with the highest SNR, canceller taps and equaliser taps. -/
structure LaneMeas where
  fofs : Int
  oneWay : Nat
  snr : Nat
  bestPreset : BitVec 3
  ecTaps : Sparse Word
  fdeTaps : Sparse Word
  deriving DecidableEq, Repr

/-- The canceller's and the equaliser's taps as they have adapted in data (R526, R527). -/
structure Adapted where
  ecTaps : Sparse Word
  fdeTaps : Sparse Word
  deriving DecidableEq, Repr

/-- A flit as it arrives (Table 17.1): SEQ, VC, NULL, LEN, CREDIT's channel and count, body, whether its CRC passed
and its codeword decoded. -/
structure Flit where
  seq : BitVec 16
  vc : BitVec 2
  null : Bool
  len : Nat
  cvc : BitVec 2
  credit : BitVec 14
  body : List Byte
  crcOk : Bool
  decoded : Bool
  deriving DecidableEq, Repr

/-- A far end's identity record (Table 17.4). -/
structure IdentRec where
  magic : Word
  part : BitVec 16
  stepping : Byte
  kind : Byte
  serial : DWord
  pkg : BitVec 16
  port : Byte
  modeLanes : Byte
  laneMask : BitVec 16
  bufs0 : BitVec 16
  bufs1 : BitVec 16
  bufs2 : BitVec 16
  bufs3 : BitVec 16
  expectPkg : BitVec 16
  expectPort : Byte
  deriving DecidableEq, Repr

/-- A TMB request frame that passed the checks of R586, less LEN, DST, OP and CRC (Table 18.2). -/
structure TmbReq where
  src : BitVec 5
  seq : Byte
  flags : Byte
  byte7 : Byte
  ctr : Word
  payload : List Byte
  tag : List Byte
  deriving DecidableEq, Repr

/-- Why a received frame is discarded (R586). -/
inductive FrameFault where
  | crc | dst | rsp | layout
  deriving DecidableEq, Repr

/-- The commands: one constructor a row of the table, in the table's order. -/
inductive Instr where
  -- States, Clocks and Bring-up
  | vsbValid (addr : BitVec 5)
  | vsbInvalid
  | vinValid
  | vinLost
  | vhbmValid
  | vhbmLost (mv : Nat)
  | perstNChange (asserted : Bool)
  | functionLevelReset (fn : FlrTarget)
  | pcieLinkChange (l0 : Bool) (rate width : Nat)
  | pcieConfigRequest (tag : Nat) (req : CfgReq)
  | aoLock
  | aoLockTimeout
  | clockLock (clk : Clock)
  | clockLockTimeout (clk : Clock)
  | bootCopyVerified (chk : CopyCheck)
  | calSlotsRead (a b : SlotBytes)
  | deviceReady
  | pwrReqOff (w : RegWrite)
  | pwrReqBanked (w : RegWrite)
  | pwrReqSmouldering (w : RegWrite)
  | pwrReqKindled (w : RegWrite)
  | pwrReqStoked (w : RegWrite)
  | transitionStepDone (stuck : List Nat)
  -- Register pages, owners, the event log
  | registerWrite (addr : Nat) (w : RegWrite)
  | ownerWrite (p : PageRef) (w : RegWrite)
  | pageFreeze (p : PageRef) (w : RegWrite)
  | intForce (p : PageRef) (w : RegWrite)
  | hostAbsent
  | seize (w : RegWrite)
  | release (w : RegWrite)
  | cursorWrite (k : Fin 2) (ecc : Bool) (w : RegWrite)
  | eventWindowRead (k : Fin 2) (ecc : Bool)
  | spineTimeout (p : PageRef) (off : Nat) (acc : SpineAccess)
  | dieAnswer (d : Nat)
  | ownershipTableError
  -- Ledgers
  | take (w : RegWrite)
  | snapshotDone (buf : Fin 2)
  | reseal (w : RegWrite)
  | ledgerCheck (ecc : Option (Nat × Nat × Nat))
  -- The regulator array
  | targetWrite (n : Nat) (w : RegWrite)
  | cellRollResume (i : Nat)
  | rollResumeTimeout (i : Nat)
  | slewDone (n : Nat)
  | netRampDone (n : Nat)
  | netRampTimeout (n mv : Nat)
  | netDischarged (n : Nat)
  | outOfBand (n : Nat)
  | modeWrite (i : Nat) (w : RegWrite)
  | shareWtWrite (i : Nat) (w : RegWrite)
  | dutyWrite (i : Nat) (late : Bool) (w : RegWrite)
  | inletLimitWrite (w : RegWrite)
  | hearthMsUpdate (m : HearthMeas)
  -- Loop engines
  | loopFrame (d : Nat) (samples : List CellSample) (scrubSlots : Nat)
  | coefDataWrite (d : Nat) (w : RegWrite)
  | schedDataWrite (d : Nat) (w : RegWrite)
  | coefSwap (d : Nat) (w : RegWrite)
  | schedSwap (d : Nat) (w : RegWrite)
  | injCtrlWrite (d : Nat) (w : RegWrite)
  | injDataWrite (d : Nat) (w : RegWrite)
  | capStart (d : Nat) (w : RegWrite)
  | loopMemError (d mem word cell : Nat) (both : Bool)
  | stokeNotice (n : Nat)
  -- Sensing and conversion
  | surveyPeriod (d : Nat)
  | surveyStart (d : Nat) (w : RegWrite)
  | urgent (d : Nat) (r : UrgentBy)
  | surveyConversionDone (d : Nat) (code : BitVec 12) (ovr : Bool)
  | surveyTimeout (d : Nat)
  | trimDataWrite (d : Nat) (w : RegWrite)
  -- Current tokens
  | stokeRequest (c : Nat)
  | grantCommit
  | grantRelease (c : Nat)
  | grantApply (c : Nat)
  | issueCapStep (c : Nat)
  | grantResend (c : Nat)
  | tokenReturn (c : Nat)
  | recallReceived (c : Nat)
  | recallTimeout (c : Nat)
  -- Power faults
  | phaseRemove (i k : Nat)
  | stuckHighSide (i k : Nat)
  | netShort (n : Nat)
  | inputSwitchFailed (i : Nat)
  | pathJudge (i : Nat)
  | pathConfirmRetry (i : Nat)
  | restore (i : Nat) (w : RegWrite)
  -- Temperature and throttling
  | sensorReading (k : Nat) (temp : Int)
  | sensorMissing (k : Nat)
  | zoneJudge
  | graceExpire
  | enforceStep
  | relaxStep
  | hwTrip (k : Nat) (stack : Bool)
  -- The core grid and messages
  | stepWrite (t : Nat) (w : RegWrite)
  | clockChangeDone (t : Nat)
  | messageDelivered (src dst : Nat)
  | creditGrantArrival (rcv q sender : Nat)
  | creditReturnArrival (rcv q sender : Nat)
  | tallyAddApply (c tally : Nat)
  | tallyValueWrite (t : Nat) (w : RegWrite)
  | queueRelease (slot : Nat)
  | start (k : Nat) (w : RegWrite)
  | stop (k : Nat) (w : RegWrite)
  | coreHalt (c : Nat)
  | resume (k : Nat) (w : RegWrite)
  | regDataWrite (k : Nat) (w : RegWrite)
  | lsDataWrite (k : Nat) (w : RegWrite)
  | heartbeatTimeout (c : Nat)
  | coreEccError (c : Nat) (uncorrectable : Bool)
  | meshFlitResend (l : LinkRef) (again : Bool)
  -- Core instruction set: scalar
  | add (c : Nat) (f : Fields)
  | sub (c : Nat) (f : Fields)
  | and (c : Nat) (f : Fields)
  | or (c : Nat) (f : Fields)
  | xor (c : Nat) (f : Fields)
  | shl (c : Nat) (f : Fields)
  | shr (c : Nat) (f : Fields)
  | sra (c : Nat) (f : Fields)
  | mul (c : Nat) (f : Fields)
  | mulh (c : Nat) (f : Fields)
  | slt (c : Nat) (f : Fields)
  | sltu (c : Nat) (f : Fields)
  | min (c : Nat) (f : Fields)
  | max (c : Nat) (f : Fields)
  | aadd (c : Nat) (f : Fields)
  | amov (c : Nat) (f : Fields)
  | ard (c : Nat) (f : Fields)
  -- local store
  | ld (c : Nat) (f : Fields)
  | st (c : Nat) (f : Fields)
  | lda (c : Nat) (f : Fields)
  | sta (c : Nat) (f : Fields)
  | csrr (c : Nat) (f : Fields)
  | csrw (c : Nat) (f : Fields) (sets : BitVec 4)
  -- control
  | beq (c : Nat) (f : Fields)
  | bne (c : Nat) (f : Fields)
  | blt (c : Nat) (f : Fields)
  | bge (c : Nat) (f : Fields)
  | bltu (c : Nat) (f : Fields)
  | bgeu (c : Nat) (f : Fields)
  | j (c : Nat) (f : Fields)
  | jal (c : Nat) (f : Fields)
  | jr (c : Nat) (f : Fields)
  | loop (c : Nat) (f : Fields)
  | nop (c : Nat) (f : Fields)
  -- stream
  | scfg (c : Nat) (f : Fields)
  | sgo (c : Nat) (f : Fields)
  | swait (c : Nat) (f : Fields)
  | sstat (c : Nat) (f : Fields)
  | sstop (c : Nat) (f : Fields)
  -- matrix
  | mma (c : Nat) (f : Fields)
  | mmaz (c : Nat) (f : Fields)
  | accz (c : Nat) (f : Fields)
  | accrd (c : Nat) (f : Fields)
  | accwr (c : Nat) (f : Fields)
  | accst (c : Nat) (f : Fields)
  | accld (c : Nat) (f : Fields)
  -- vector
  | vadd (c : Nat) (f : Fields)
  | vsub (c : Nat) (f : Fields)
  | vmul (c : Nat) (f : Fields)
  | vfma (c : Nat) (f : Fields)
  | vmax (c : Nat) (f : Fields)
  | vmin (c : Nat) (f : Fields)
  | vexp2 (c : Nat) (f : Fields)
  | vrcp (c : Nat) (f : Fields)
  | vrsqrt (c : Nat) (f : Fields)
  | vcvt (c : Nat) (f : Fields)
  | vrsum (c : Nat) (f : Fields)
  | vrmax (c : Nat) (f : Fields)
  | vbcast (c : Nat) (f : Fields)
  | vmovs (c : Nat) (f : Fields)
  | vld (c : Nat) (f : Fields)
  | vst (c : Nat) (f : Fields)
  -- message, tally
  | qcfg (c : Nat) (f : Fields)
  | send (c : Nat) (f : Fields)
  | recv (c : Nat) (f : Fields)
  | qcnt (c : Nat) (f : Fields)
  | tadd (c : Nat) (f : Fields)
  | twait (c : Nat) (f : Fields)
  | trd (c : Nat) (f : Fields)
  -- power, system
  | stoke (c : Nat) (f : Fields)
  | ease (c : Nat) (f : Fields)
  | easeR (c : Nat) (f : Fields)
  | grantw (c : Nat) (f : Fields)
  | yield (c : Nat) (f : Fields)
  | end_ (c : Nat) (f : Fields)
  | trap (c : Nat) (f : Fields)
  | fence (c : Nat) (f : Fields)
  | stalledInstructionComplete (c : Nat)
  -- Memory stacks
  | streamEngineTransfer (c e : Nat) (ecc : EccFound)
  | scrub (t line : Nat) (ecc : EccRead)
  | retire (t : Nat) (w : RegWrite)
  | channelRetireDone (t : Nat)
  | lostListClear (t : Nat) (w : RegWrite)
  | bar2Read (addr len : Nat) (ecc : List EccRead)
  | bar2Write (addr : Nat) (data : List Byte)
  -- Tenants
  | commit (n : Nat) (w : RegWrite)
  | discard (n : Nat) (w : RegWrite)
  | partWrite (n : Nat) (w : RegWrite)
  | tokQuotaWrite (n : Nat) (w : RegWrite)
  | tallyQuotaWrite (n : Nat) (w : RegWrite)
  | tenantDrainStart (n : Nat) (w : RegWrite)
  | tenantDrainEnd (n : Nat) (w : RegWrite)
  | commandStart (part : Nat) (ecc : EccFound)
  | quantumExpire (slot : Nat)
  | yieldGraceExpire (slot : Nat)
  | switchOut (slot : Nat)
  | saveDone (slot : Nat)
  | restoreDone (slot : Nat) (ecc : EccFound)
  -- Host interface
  | queueEnable (q : Nat) (w : RegWrite)
  | queueDisable (q : Nat) (w : RegWrite)
  | sqTail (q : Nat) (w : RegWrite)
  | cqHead (q : Nat) (w : RegWrite)
  | slotLimitWrite (w : RegWrite)
  | descriptorFetchStart
  | descriptorReceived (bytes : List Byte)
  | duplicateComplete (slot : Nat)
  | load (slot : Nat) (ecc : EccFound)
  | unload (slot : Nat)
  | run (slot : Nat) (ecc : EccFound)
  | nopCommand (slot : Nat)
  | completionRecordWrite (q : Nat)
  | cqFullTimeout (q : Nat)
  | dmaFailure (q : Nat) (record : Bool)
  -- Link signalling
  | synthLock (i : Nat)
  | synthLockTimeout (i : Nat)
  | detectPreambleSend (i : Nat)
  | preambleDetected (i : Nat) (corr : List Int)
  | role (i : Nat) (cw : DWord)
  | ready (i : Nat) (cw : DWord)
  | trainingPhaseDone (i : Nat) (m : LaneMeas)
  | presetReq (i : Nat) (cw : DWord)
  | seed (i : Nat) (cw : DWord)
  | wake (i : Nat) (cw : DWord)
  | abort (i : Nat) (cw : DWord)
  | phaseBoundExpire (i : Nat)
  | verifyEnd (i uncorrectable snr : Nat)
  | retrain (i : Nat) (w : RegWrite)
  | steeringUpdate (i : Nat) (ofs : Int)
  | snrUpdate (i snr corrected uncorrectable : Nat) (taps : Option Adapted)
  | laneDegraded (i : Nat)
  | quietWindow (i : Nat) (qsnr : Option Nat)
  | impulseBlock (i err mean : Nat)
  | impulseRunEnd (i uncorrectable gap : Nat)
  | alignmentLost (i : Nat) (frequency : Bool)
  | wakeFalseDetect (i : Nat)
  | wakeDataResume (i : Nat) (seen : Bool)
  -- Link layer
  | flitSubmit (p : Nat) (vc : BitVec 2) (body : List Byte)
  | flitReceived (p : Nat) (f : Flit)
  | ackReceived (p : Nat) (ack : BitVec 16)
  | nakReceived (p : Nat) (ack : BitVec 16)
  | replayTimeout (p : Nat)
  | receiveBufferFree (p : Nat) (vc : BitVec 2)
  | identity (p : Nat) (r : IdentRec)
  | verdict (p : Nat) (isMatch : Bool) (cause : Nat)
  | identifyTimeout (p : Nat)
  | reform (p : Nat) (mask : BitVec 16)
  | sleepReq (p : Nat) (count : Word)
  | sleepAck (p : Nat) (count : Word)
  | idleExpire (p : Nat)
  | bertGo (p : Nat) (w : RegWrite)
  | bertHoursExpire (p : Nat)
  | bertReq (p : Nat) (count ms : Word)
  | bertAck (p : Nat) (count ms : Word)
  | bertEnd (p : Nat) (bits : Nat) (errors : List Nat)
  | portEnable (p : Nat) (w : RegWrite)
  | seedHoldExpire (p : Nat)
  | portDisable (p : Nat) (w : RegWrite)
  | portDisableDone (p : Nat)
  | portDrain (p : Nat) (w : RegWrite)
  | drainNotice (p : Nat)
  | drained (p : Nat)
  | recheck (p : Nat) (w : RegWrite)
  -- Side-band
  | tmbCapture (chips : List Int)
  | status (r : TmbReq)
  | read (r : TmbReq)
  | write (r : TmbReq)
  | eventRead (r : TmbReq)
  | latchRead (r : TmbReq)
  | retainRead (r : TmbReq)
  | power (r : TmbReq)
  | drain (r : TmbReq)
  | calStore (r : TmbReq)
  | inlet (r : TmbReq)
  | openSession (r : TmbReq)
  | tmbResponseSend
  | tmbBusOccupied (ms : Nat)
  | keyCommit (w : RegWrite)
  | tmbWindowError (src : BitVec 5)
  -- Calibration
  | calErase
  | calEraseDone (blank : Bool)
  | storeGo (w : RegWrite)
  | measure (w : RegWrite)
  | holdupMeasureDone (vStart dropB dropL : Nat)
  | calStoreStepDone (ok : Bool)
  | norTimeout
  -- JTAG
  | extest
  | extestPulse
  | extestTrain
  | clamp
  | idcode
  -- rows after the first table
  | clearingRead (m : Master) (p : PageRef) (off : Nat) (coincident : Bool)
  | dutyReload (i : Nat)
  | hbmPhyRetrainFail (t ch : Nat)
  | frameDiscarded (why : FrameFault)
  | unlistedOp (op : Byte) (r : TmbReq)
  deriving DecidableEq, Repr

end Sys2Proof
end

