-- ==== Sys2Proof/Decode.lean ====
section
/-!
DEFINITION. Commands from words. No row of spec/opcode_table.json gives bits, so no table word spells a command. The words that a
core fetches have the fields of Table 12.3 and name the instructions of Table 12.4 (R379, R380).
-/
namespace Sys2Proof

/-- The command a table word spells: none, since the table gives no row bits. -/
def decodeTableWord (_nbits _w : Nat) : Option Instr := none

/-- The fields of an instruction word (Table 12.3). -/
def wordFields (w : DWord) : Fields :=
  { d := w.extractLsb' 49 5, a := w.extractLsb' 44 5, b := w.extractLsb' 39 5, i := w.getLsbD 38, x := w.extractLsb' 32 6,
    imm := w.extractLsb' 0 32 }

/-- CLASS and OP of an instruction word (Table 12.3). -/
def wordClass (w : DWord) : Nat := (w.extractLsb' 60 4).toNat
def wordOp (w : DWord) : Nat := (w.extractLsb' 54 6).toNat

/-- The operations of a class, with their codes (Table 12.4). CSRW is the write alone, with no flag set in its cycle. -/
def classOps : Nat → List (Nat × (Nat → Fields → Instr))
  | 0 => [(0x00, .add), (0x01, .sub), (0x02, .and), (0x03, .or), (0x04, .xor), (0x05, .shl), (0x06, .shr), (0x07, .sra), (0x08, .mul),
          (0x09, .mulh), (0x0A, .slt), (0x0B, .sltu), (0x0C, .min), (0x0D, .max), (0x20, .aadd), (0x21, .amov), (0x22, .ard)]
  | 1 => [(0x00, .ld), (0x01, .st), (0x02, .lda), (0x03, .sta), (0x08, .csrr), (0x09, fun c f => .csrw c f 0)]
  | 2 => [(0x00, .beq), (0x01, .bne), (0x02, .blt), (0x03, .bge), (0x04, .bltu), (0x05, .bgeu), (0x06, .j), (0x07, .jal), (0x08, .loop),
          (0x09, .jr), (0x0A, .nop)]
  | 3 => [(0x00, .scfg), (0x01, .sgo), (0x02, .swait), (0x03, .sstat), (0x04, .sstop)]
  | 4 => [(0x00, .mma), (0x01, .mmaz), (0x02, .accz), (0x03, .accrd), (0x04, .accwr), (0x05, .accst), (0x06, .accld)]
  | 5 => [(0x00, .vadd), (0x01, .vsub), (0x02, .vmul), (0x03, .vfma), (0x04, .vmax), (0x05, .vmin), (0x06, .vexp2), (0x07, .vrcp),
          (0x08, .vrsqrt), (0x09, .vcvt), (0x0A, .vrsum), (0x0B, .vrmax), (0x0C, .vbcast), (0x0D, .vld), (0x0E, .vst), (0x0F, .vmovs)]
  | 6 => [(0x00, .qcfg), (0x01, .send), (0x02, .recv), (0x03, .qcnt)]
  | 7 => [(0x00, .tadd), (0x01, .twait), (0x02, .trd)]
  | 8 => [(0x00, .stoke), (0x01, fun c f => if f.x.getLsbD 0 then .easeR c f else .ease c f), (0x02, .grantw)]
  | 9 => [(0x00, .yield), (0x01, .end_), (0x02, .trap), (0x03, .fence)]
  | _ => []

/-- The instruction that a word spells for core `c`; none where its CLASS or OP is not listed (R380). -/
def coreInstr (c : Nat) (w : DWord) : Option Instr :=
  ((classOps (wordClass w)).find? (fun e => e.1 = wordOp w)).map (fun e => e.2 c (wordFields w))

end Sys2Proof
end

