-- ==== Sys2Proof/Config.lean ====
section
/-!
DEFINITION. What one part or one implementation fixes and the spec leaves open. Every constant here is opaque: nothing
in Lean can evaluate it, so a claim that holds, holds whatever its value.
-/
namespace Sys2Proof.Config

/-- The unit serial number in the fuses (Table 3.15, reset `fuse`). Log entry 6. -/
opaque serial : BitVec 64

/-- Byte `o` of the factory calibration held in the fuses, laid out as the record (R63, R620). Log entry 6. -/
opaque factoryByte : Nat → Byte

/-- Byte `k` of the fused 32-byte mask that hides the tray key in the record (Table 19.2). Log entry 6. -/
opaque keyMask : Nat → Byte

/-- The manufacturer identity field of IDCODE, [11:1] (R651 names it without a number). Log entry 6. -/
opaque manufacturer : BitVec 11

/-- Harenay's vendor identifier (Table 15.1 names it without a number). Log entry 102. -/
opaque vendorId : BitVec 16

/-- Free values: value number `k` of the run (`State.free` counts them). Log entry 9. -/
opaque freeWord : Nat → Word

/-- The result of a lane operation on operands for which the spec states none, and its flags: operation, format, the
run's count of free values and the lane. Log entry 10. -/
opaque unstatedLane : Nat → Nat → Nat → Nat → Word

/-- Sign and payload of a NaN result: operation, format, the run's count of free values and the lane. Log entry 10. -/
opaque nanPayload : Nat → Nat → Nat → Nat → Word

/-- How far, in units in the last place, a result of VEXP2, VRCP or VRSQRT lies from the true one (R395): operation,
format, the run's count of free values and the lane. Used only after limiting it to the tolerance of R395. Log entry 11. -/
opaque ulpError : Nat → Nat → Nat → Nat → Int

/-- Underflow is judged before rounding: the spec names the flag and not the judgement (Table 12.2). Log entry 10. -/
opaque tinyBefore : Bool

/-- The CRC result code of a slot in event 0x8003, by whether its CRCs pass (Table 2.8 gives no code). Log entry 10. -/
opaque crcResult : Bool → Word

/-- The place among the remaining channels of a 256-byte block once channels of its stack are retired, by stack,
number retired and block (R409 does not expose it). Log entry 25. -/
opaque placement : Nat → Nat → Nat → Nat

/-- Receive buffers of a virtual channel, as the port advertises them (R550 gives no number). Log entry 30. -/
opaque rxBuffers : Nat → BitVec 16

end Sys2Proof.Config
end

