-- ==== Sys2Proof/Machine/State.lean ====
section
/-!
DEFINITION. The state of the package: everything the spec gives it, as plain data, and `State.reset`. Registers that the
spec calls `hw` are not stored: they are computed from this state where they are read. Registers whose reset is `cal`
live in the calibration image (`CalSt.image`), which the spec keeps equal to them (chapter 19).
-/
namespace Sys2Proof.Machine
open Sys2Proof

/-- No command of this block stops the machine: the spec gives every row of its table an effect. The type is closed
and its one value is raised by nothing. -/
inductive Fault where
  /-- Raised by no command. Safe: a step that faults would claim nothing about the hardware. -/
  | unused
  deriving DecidableEq, Repr

/-- Why the model gives a command no meaning. -/
inductive Refusal where
  /-- The command with this mnemonic has no meaning in the model. Raised only by an arm of `exec`; safe. -/
  | notModelled (mnemonic : String)
  deriving DecidableEq, Repr

/-- The refusal codes of Table 3.4, and OK for an accepted request. -/
inductive RefCode where
  | ok | notOwner | wrongState | outOfRange | locked | bringup | ledgerFault | noResource | auth | tripped
  | duplicate | budget
  deriving DecidableEq, Repr

/-! ### Events and outputs -/

/-- One event record (R100, Table 3.10). `unlocked` is bit 47 of the timestamp (R40). -/
structure EventRec where
  unlocked : Bool
  ticks : Nat
  code : Nat
  die : Nat
  sev : Nat
  block : Nat
  inst : Nat
  seq : Nat
  a0 : Nat
  a1 : Nat
  a2 : Nat
  a3 : Nat
  deriving DecidableEq, Repr

/-- A read cursor of the EVENT page and its window (R103, R111, Tables 3.28 to 3.30). `window` holds the latched
record, `none` reads 0. -/
structure Cursor where
  seq : Nat := 0
  valid : Bool := false
  ecc : Bool := false
  window : Option EventRec := none
  deriving DecidableEq, Repr

/-- What the package sends at its edges. -/
inductive Output where
  /-- An MSI-X message: PF0 (`none`) or VF(n + 1) (`some n`), and the vector (R96, R97, R478). -/
  | msix (vf : Option Nat) (vector : Nat)
  /-- A configuration request answered: with CRS, or completed with the field it names (R48, R474). -/
  | cfg (tag : Nat) (crs : Bool) (value : Nat)
  /-- A register read answered with this value (R80, R81). -/
  | readData (value : Word)
  /-- A BAR2 read completed, with the poisoned flag of its TLP (R431). -/
  | bar2Data (data : List Byte) (poisoned : Bool)
  /-- A BAR2 request answered with Unsupported Request (R430, R48). -/
  | unsupported (addr : Nat)
  /-- An AER report (R431). -/
  | aer
  /-- A memory write into host memory (R492): the requester's function, address and bytes. -/
  | hostWrite (vf : Option Nat) (addr : Nat) (data : List Byte)
  /-- A descriptor read from host memory (R475, R486). -/
  | hostRead (vf : Option Nat) (addr len : Nat)
  /-- A TMB frame sent: its preamble and its bytes, as symbols (R580, R581, R588). -/
  | tmbFrame (symbols : List Int)
  /-- A link lane sends a wake preamble (R533). -/
  | preamble (lane : Nat)
  /-- A link lane sends a control word (Table 16.4). -/
  | control (lane : Nat) (word : DWord)
  /-- A port sends a management flit: TYPE and body bytes from 1 on (Table 17.3). -/
  | mgmt (port : Nat) (type : Nat) (body : List Byte)
  /-- A port sends, or sends again, the flit of this SEQ (R554, R557). -/
  | flit (port : Nat) (seq : Nat)
  /-- The endpoint of a port is given an accepted flit (R552). -/
  | deliver (port : Nat) (vc : Nat) (body : List Byte)
  /-- The AO domain programs NOR bytes from this address (R614, R615). -/
  | nor (addr : Nat) (data : List Byte)
  /-- The AO domain erases the calibration slot with this number (R621). -/
  | norErase (slot : Nat)
  /-- The TAP shifts out its IDCODE (R651). -/
  | tdo (value : Word)
  deriving DecidableEq, Repr

/-! ### Always-on domain, power, boot -/

/-- The latched hardware trip (Tables 10.12, 10.13): kind, sensor, its last reading (signed, 0.25 degrees) and time. -/
structure TripRec where
  stack : Bool
  sensor : Nat
  temp : Int
  unlocked : Bool
  ticks : Nat
  deriving DecidableEq, Repr

/-- The always-on domain and the rails (chapters 02, 20). -/
structure AoSt where
  /-- VSB valid (R43). -/
  vsb : Bool := false
  /-- VIN valid (R43). -/
  vin : Bool := false
  /-- VHBM valid (R638). -/
  vhbm : Bool := false
  /-- AO ticks since VSB valid (R100). -/
  ticks : Nat := 0
  /-- AO oscillator locked to the crystal (R39, BOOT_STATUS AO_LOCK). -/
  aoLock : Bool := false
  /-- A lock timeout was seen and event 0x8004 waits for the hub to run (R659). -/
  lockFailDue : Bool := false
  /-- Hold-in-Banked policy (R44). -/
  hold : Bool := false
  /-- TMB address sampled from the straps (R586). -/
  tmbAddr : BitVec 5 := 0
  /-- AO retention memory, oldest first, at most 64 records (R53). -/
  retention : List EventRec := []
  /-- PERST_N asserted (R60). -/
  perst : Bool := true
  /-- PCIe link in L0, with its rate in GT/s and width (R91, Table 15.11). -/
  l0 : Bool := false
  rate : Nat := 0
  width : Nat := 0
  /-- AO tick at which the host's present absence began (R91); `none` while present. -/
  absentSince : Option Nat := none
  /-- HOST_ABSENT (R91). -/
  hostAbsent : Bool := false
  /-- AO tick at which the last wake from Banked, or VSB valid, began (R49, BRINGUP_MS). -/
  wakeTick : Nat := 0
  /-- The bring-up under way follows VSB valid rather than a wake (R45, R49, R622). -/
  cold : Bool := true
  /-- The TAP executes a test instruction that drives the lands: 0 none, 1 EXTEST, 2 EXTEST_PULSE, 3 EXTEST_TRAIN,
  4 CLAMP, 5 BYPASS (R652). -/
  tap : Nat := 0
  deriving DecidableEq, Repr

/-- How far the hub's start has come (Table 2.5). -/
inductive BootStage where
  /-- Banked: only the AO domain is powered. -/
  | banked
  /-- Start-up regulator in range; the hub PLL is locking. -/
  | pll
  /-- The boot ROM verifies firmware copy A. -/
  | copyA
  /-- The boot ROM verifies firmware copy B. -/
  | copyB
  /-- The calibration slots are being read. -/
  | slots
  /-- The hold-up is being measured (cold bring-up only). -/
  | holdup
  /-- The Hearth runs; the loop clock of H locks and net 19 ramps. -/
  | hubNet
  /-- Nets 16, 17 and 18 ramp. -/
  | edgeNets
  /-- E2 trains its link; the device is about to be ready. -/
  | train
  /-- Ready (R46). -/
  | ready
  /-- Boot failed (R62, R170). -/
  | failed
  deriving DecidableEq, Repr

/-- A power-state request (Table 3.20): target code, tile mask, requester (0 host, 1 side-band, 2 device). -/
structure PwrReq where
  target : Nat
  tiles : BitVec 8
  requester : Nat
  deriving DecidableEq, Repr

/-- A single step of Table 2.3. -/
inductive PStep where
  | wake
  | kindle (tiles : BitVec 8)
  | stoke (t : Nat)
  | unstoke (t : Nat)
  | off (tiles : BitVec 8)
  | bank
  deriving DecidableEq, Repr

/-- The running transition (R57): the request, its present step, the tiles that failed on the way (R64) or were taken
Off by force, and whether it stops with its present step (R298, R325). -/
structure Trans where
  req : PwrReq
  cur : PStep
  failed : Nat := 0
  stop : Bool := false
  deriving DecidableEq, Repr

/-- Power states, requests and boot status (chapter 02, BOOT page). -/
structure PowerSt where
  stage : BootStage := .banked
  trans : Option Trans := none
  pending : Option PwrReq := none
  /-- PWR_RESULT fields (Table 3.21). -/
  outcome : Nat := 0
  code : Nat := 0
  requester : Nat := 0
  reached : BitVec 8 := 0
  /-- BOOT_STATUS fields (Table 3.22): 3 is none. -/
  copy : Nat := 3
  failA : Nat := 3
  failB : Nat := 3
  calSlot : Nat := 3
  /-- BRINGUP_MS (Table 3.23). -/
  bringupMs : Nat := 0
  /-- State code from which the hub's start under way left: Banked, or Boot failed (Table 2.1, event 0x1010). -/
  wakeFrom : Nat := 1
  /-- A hub PLL lock was seen in this start (Table 2.4). -/
  hubPll : Bool := false
  /-- The device drives the SPI NOR lands for the boot ROM and hub (R52). -/
  norDriven : Bool := false
  deriving DecidableEq, Repr

/-- A tile's own power state (R27). -/
inductive TileState where
  | off | kindled | stoked | rising | falling
  deriving DecidableEq, Repr

/-- How far a tile's entry to Kindled has come (Table 5.3). -/
inductive KindleStage where
  | idle | loopClk | sram | core | pll | phy | done
  deriving DecidableEq, Repr

/-- One tile: power state, clocks, core clock, spares (chapters 02, 05, 11). -/
structure TileSt where
  st : TileState := .off
  kindle : KindleStage := .idle
  /-- State code in which the tile last settled, for event 0x1010. -/
  settled : Nat := 0
  /-- The tile is being taken Off by force (R281, R315, R373, R658). -/
  forced : Bool := false
  /-- Requests for Kindled are refused until the hub next starts (R281, R373). -/
  barred : Bool := false
  pll : Bool := false
  phy : Bool := false
  /-- A change of STEP is running, to this STEP, by this writer (R339). -/
  changing : Option (Nat × Nat) := none
  /-- AO tick until which core clock periods are stretched to 4/3 (R279): the time of the last start. -/
  stretchAt : Option Nat := none
  /-- SPARE_MAP (Table 11.10): the logical core each spare serves, and whether the spare is lost. -/
  spare0 : Option Nat := none
  spare1 : Option Nat := none
  spare0Lost : Bool := false
  spare1Lost : Bool := false
  /-- RETRIES (Table 11.12). -/
  meshRetries : Nat := 0
  bridgeRetries : Nat := 0
  /-- VF_SEL (Table 11.8). -/
  vfSel : Nat := 12
  /-- TALLY_SEL (Table 11.20). -/
  tallySel : Nat := 0
  /-- WRAPS (Table 11.20). -/
  wraps : Nat := 0
  /-- The Hearth's tile cap and the excess recall in force (R290, R292). -/
  cap : Nat := 512
  deriving DecidableEq, Repr

/-! ### Register pages -/

/-- The header of a page and the hub's ownership record of it (Table 3.1, R83). -/
structure PageHdr where
  intRaw : Word := 0
  intEnable : Word := 0
  errCount : Nat := 0
  /-- OWNER[1:0]; `none` is the page's default owner of Table 3.8. -/
  owner : Option Nat := none
  lock : Bool := false
  lastRefusal : Word := 0
  freeze : Bool := false
  deriving DecidableEq, Repr

/-- ARBITER registers and the ownership table (Tables 3.31 to 3.37). -/
structure ArbSt where
  unpAddr : Word := 0
  unpCode : Nat := 0
  unpMaster : Nat := 0
  unpVf : Nat := 0
  unpCount : Nat := 0
  /-- Pages presently seized, by page address, rising (R92, SEIZED_COUNT). -/
  seized : List Nat := []
  /-- Dies that did not answer the spine and for which event 0x1014 has been logged (R110). -/
  unreachable : List Nat := []
  deriving DecidableEq, Repr

/-- The event log (R99 to R111). -/
structure EventSt where
  /-- Records, newest first, at most 1024. -/
  log : List EventRec := []
  writeSeq : Nat := 0
  dropped : Nat := 0
  threshold : Nat := 3
  cursor0 : Cursor := {}
  cursor1 : Cursor := {}
  /-- Sequence numbers of the records found to hold an uncorrectable ECC error (R111). -/
  bad : List Nat := []
  /-- AO tick of the last log of each rate-limited event, by event and unit (R194, R221, R229, R233, R287, R497, R532,
  R545, R596). -/
  lastAt : Sparse Nat := []
  deriving DecidableEq, Repr

/-! ### Ledgers -/

/-- Token ledger columns but TOTAL, which is always 4928 (Table 4.2). -/
structure TokLedger where
  free : Nat := 4928
  held : Nat := 0
  transit : Nat := 0
  withheld : Nat := 0
  retired : Nat := 0
  shortfall : Nat := 0
  budget : Nat := 4928
  deriving DecidableEq, Repr

/-- A row of the message-credit ledger (Table 4.3). -/
structure CredRow where
  capacity : Nat := 0
  senderHeld : Nat := 0
  inFlight : Nat := 0
  queued : Nat := 0
  returning : Nat := 0
  writtenOff : Nat := 0
  deriving DecidableEq, Repr

/-- A row of the tally ledger, the 64-bit totals whole (Table 4.4). -/
structure TallyRow where
  issued : DWord := 0
  applied : DWord := 0
  inFlight : Nat := 0
  deriving DecidableEq, Repr

/-- The command-slot ledger, less TOTAL = 256 (Table 4.5). -/
structure SlotLedger where
  free : Nat := 256
  fetched : Nat := 0
  running : Nat := 0
  completing : Nat := 0
  completed : Word := 0
  deriving DecidableEq, Repr

/-- A row of the replay ledger, less CAPACITY = 256 (Table 4.6). -/
structure ReplayRow where
  free : Nat := 256
  unacked : Nat := 0
  sent : Word := 0
  acked : Word := 0
  writtenOff : Word := 0
  deriving DecidableEq, Repr

/-- The five ledgers (Table 4.1). -/
structure Ledgers where
  tok : TokLedger := {}
  cred : Sparse CredRow := []
  tally : Sparse TallyRow := []
  slots : SlotLedger := {}
  replay : Sparse ReplayRow := []
  deriving DecidableEq, Repr

/-- A ledger fault (Table 4.11). -/
structure LedgerFault where
  invariant : Bool
  ledger : Nat
  row : Nat
  column : Nat
  deriving DecidableEq, Repr

/-- A snapshot buffer (R122, R123). -/
structure Snap where
  busy : Bool := false
  done : Bool := false
  frozen : Bool := false
  unlocked : Bool := false
  ticks : Nat := 0
  epoch : Nat := 0
  data : Ledgers := {}
  deriving DecidableEq, Repr

/-- The LEDGER page's own state (R119, R130, Tables 4.10 to 4.17). -/
structure LedgerSt where
  epoch : Nat := 1
  /-- The epoch under way has not ended (R119). -/
  open_ : Bool := false
  /-- No epoch has begun since VSB became valid. -/
  first : Bool := true
  fault : Option LedgerFault := none
  snap0 : Snap := {}
  snap1 : Snap := {}
  selLedger : Nat := 0
  selRow : Nat := 0
  selBuf : Nat := 0
  deriving DecidableEq, Repr

/-! ### Nets, cells, loop engines, survey ADCs -/

/-- The state of a net (NET STATE, Table 3.3 and 0x6 ROLLING). -/
inductive NetState where
  | off | rising | on | falling | rolling
  deriving DecidableEq, Repr

/-- A slew of the reference (R141): its start in microvolts, the AO tick of its start and its rate in mV/us. -/
structure Slew where
  fromUv : Nat
  at_ : Nat
  rate : Nat
  deriving DecidableEq, Repr

/-- A range change (R143): the new range, cells still to change (rising), the cell being changed, cells changed and
skipped; `slewing` while step 1 runs. -/
structure Roll where
  range : Bool
  slewing : Bool
  todo : List Nat
  cur : Option Nat
  changed : Nat
  skipped : Nat
  /-- The roll has stopped where it stands, since its tile goes to Off (R168). -/
  halted : Bool := false
  deriving DecidableEq, Repr

/-- One net (chapter 05). SETPOINT and RANGE of TARGET, FLOOR, CEIL and LOADLINE are in the calibration image. -/
structure NetSt where
  st : NetState := .off
  /-- Slewed set-point in microvolts when no slew runs (APPLIED VSET). -/
  vsetUv : Nat := 0
  slew : Option Slew := none
  roll : Option Roll := none
  /-- SLEW RATE (Table 5.15). -/
  rate : Nat := 5
  /-- Measured output in mV and I_net in Q15.16 from the last frame (R146, Table 5.17). -/
  voutMv : Nat := 0
  iQ : Int := 0
  /-- Failed enable attempts (R170). -/
  attempts : Nat := 0
  /-- Enabled since the hub started: the Hearth has written CELL_SHARE of its cells (R177, Table 6.17). -/
  shared : Bool := false
  /-- Disabled by R281: every phase counts out of service (R282). -/
  dead : Bool := false
  /-- Consecutive frames below V_ref - 150 mV at CAPACITY (Table 9.1), up to 20. -/
  lowFrames : Nat := 0
  /-- Consecutive frames outside V_ref ± 15 mV, the extreme output in mV, and whether the excursion is reported (R171). -/
  bandFrames : Nat := 0
  bandMv : Nat := 0
  bandTold : Bool := false
  deriving DecidableEq, Repr

/-- What the die fault logic counts of a phase, in consecutive frames (Table 9.1): above 0.72 A, up to 101; above 1.0 A, up
to 4; open, up to 64. -/
structure PhaseWatch where
  oc : Nat := 0
  peak : Nat := 0
  idle : Nat := 0
  deriving DecidableEq, Repr

/-- A regulator cell: CELL page, observer states, fault counters (chapters 05, 06, 07, 09). -/
structure CellSt where
  manual : Bool := false
  shareWt : Nat := 8
  /-- SHARE_WT before the first phase was removed (R276, R293). -/
  savedWt : Option Nat := none
  /-- Duty shadow and who wrote it (R157, R158); a host write that came too late for the next reload (R159). -/
  shadow : BitVec 12 := 0
  shadowHost : Bool := false
  lateDuty : Option (BitVec 12) := none
  /-- DUTY D as last written (Table 5.21). -/
  dutyReg : BitVec 12 := 0
  /-- Duty in force, its source and the reload count (R160). -/
  applied : BitVec 12 := 0
  appliedHost : Bool := false
  reloads : Nat := 0
  /-- Phases in service, bit k (Table 5.24). -/
  phases : BitVec 4 := 0xF
  isolated : Bool := false
  isoCause : Nat := 0
  /-- PH_CAUSE, two bits a phase (Table 9.8). -/
  phCause : BitVec 8 := 0
  /-- The fault logic's counts of each phase (R272). -/
  phWatch : Sparse PhaseWatch := []
  /-- Frames in a row since the isolation in which the phase currents came to more than 0.5 A (R301). -/
  leak : Nat := 0
  /-- Discharge path on (R150). -/
  discharge : Bool := true
  range : Bool := false
  suspect : Bool := false
  permanent : Bool := false
  /-- AO tick of the last restore (R294). -/
  restoredAt : Option Nat := none
  /-- R_F and last R_IN in microohm (R284, R285). -/
  rF : Nat := 0
  rIn : Nat := 0
  /-- Sums of x1 and x4 and frames since the last ms, and the last 1 ms means, in Q15.16 and Q11.20 (R284). -/
  sumX1 : Int := 0
  sumX4 : Int := 0
  sumN : Nat := 0
  meanX1 : Int := 0
  /-- Steps counted, AO ticks of those of the last second, and x1, x4 as the last four frames left them since the last preset, the
  latest first (R287). -/
  steps : Nat := 0
  stepTicks : List Nat := []
  past : List (Int × Int) := []
  /-- Path confirmation: urgent channels still to convert, results in microvolts so far, retries used (R285, R286). -/
  pathWant : List Nat := []
  pathGot : Sparse Int := []
  pathTries : Nat := 0
  /-- The cell has been judged suspect on its output or ground side and stays in service (Table 9.2). -/
  judged : Bool := false
  /-- Observer states, integrator, share term, extended term (Tables 6.1, 6.17). -/
  x1 : Int := 0
  x2 : Int := 0
  x3 : Int := 0
  x4 : Int := 0
  z : Int := 0
  ush : Int := 0
  uext : Int := 0
  /-- Presets due at the next evaluation (R196) and the bumpless transfer due (R198). -/
  preset : Bool := false
  transfer : Bool := false
  /-- Duty held because a coefficient or schedule word was lost in both copies (R212), until the cell is restored (R293). -/
  held : Bool := false
  /-- The next sample is discarded (R194). -/
  discard : Bool := false
  overruns : Nat := 0
  /-- Trimmed sample of the latest frame: v in Q11.20, phase currents in Q15.16 (R219, R220). -/
  vQ : Int := 0
  i0Q : Int := 0
  i1Q : Int := 0
  i2Q : Int := 0
  i3Q : Int := 0
  deriving DecidableEq, Repr

/-- A bank exchange requested (R183, R187): who wrote it. -/
structure SwapReq where
  coef : Bool
  sched : Bool
  writer : Nat
  /-- It came too late for the next frame start (R183). -/
  wait : Bool := false
  deriving DecidableEq, Repr

/-- Injection settings and progress (Table 6.21, R201 to R203). -/
structure InjSt where
  run : Bool := false
  point : Bool := false
  src : Bool := false
  cell : Nat := 0
  scale : Nat := 0
  tlen : Nat := 10
  rate : Nat := 0
  addr : Nat := 0
  table : Sparse (BitVec 16) := []
  ptr : Nat := 0
  count : Nat := 0
  prbs : BitVec 31 := BitVec.allOnes 31
  /-- RUN has just been written 1 (capture trigger 3). -/
  started : Bool := false
  deriving DecidableEq, Repr

/-- Capture settings, buffer and progress (Tables 6.22 to 6.24, R204). -/
structure CapSt where
  wide : Bool := false
  trig : Nat := 0
  cell : Nat := 0
  cdec : Nat := 0
  length : Nat := 1
  busy : Bool := false
  triggered : Bool := false
  done : Bool := false
  records : Nat := 0
  /-- Frames since the trigger. -/
  frames : Nat := 0
  addr : Nat := 0
  buf : Sparse Word := []
  deriving DecidableEq, Repr

/-- One loop engine (chapter 06). -/
structure LoopSt where
  /-- The loop-engine clock runs (Table 2.4). -/
  clk : Bool := false
  frame : Word := 0
  coefAct : Nat := 0
  schedAct : Nat := 0
  /-- Words written to the two coefficient banks and the two schedule banks; a word not listed holds what the hub
  loaded (R184, R188). -/
  coef0 : Sparse (Option Word) := []
  coef1 : Sparse (Option Word) := []
  sched0 : Sparse (Option Word) := []
  sched1 : Sparse (Option Word) := []
  coefAddr : Nat := 0
  coefRead : Bool := false
  schedAddr : Nat := 0
  schedRead : Bool := false
  cellSel : Nat := 0
  /-- I_ann of the die's two nets, in tokens, and notices taken at the next frame start (R199). -/
  annLo : Nat := 0
  annHi : Nat := 0
  noteLo : Option Nat := none
  noteHi : Option Nat := none
  vinMv : Nat := 0
  swap : Option SwapReq := none
  inj : InjSt := {}
  cap : CapSt := {}
  overrunTotal : Nat := 0
  /-- Slots by which the last frame's evaluation ran past the frame; no entry overruns because of it (R195). -/
  late : Nat := 0
  /-- The frame of the last scrub stall (R192). -/
  scrubFrame : Option Nat := none
  deriving DecidableEq, Repr

/-- A survey conversion in progress: its channel, and whether it is a reconversion (R229). -/
structure Conv where
  ch : Nat
  reconv : Bool
  deriving DecidableEq, Repr

/-- An urgent request: channel, whether the Hearth made it, and the requester of an event (0 host, 1 side-band). -/
structure UrgReq where
  ch : Nat
  hearth : Bool
  who : Nat
  deriving DecidableEq, Repr

/-- A survey ADC (chapter 07). -/
structure SurveySt where
  channel : Nat := 96
  cont : Bool := true
  preempt : Bool := true
  period : Nat := 10
  running : Option Conv := none
  urg : Option UrgReq := none
  urgWait : Option UrgReq := none
  /-- The conversion aborted for an urgent one, to be converted again (R229). -/
  redo : Option Nat := none
  /-- A periodic start was deferred (R231). -/
  deferred : Bool := false
  settle : Nat := 0
  resCode : BitVec 12 := 0
  resCh : Nat := 0
  resFlags : Nat := 0
  resSeq : Nat := 0
  resUv : Int := 0
  urgCode : BitVec 12 := 0
  urgCh : Nat := 0
  urgFlags : Nat := 0
  urgSeq : Nat := 0
  urgUv : Int := 0
  urgDropped : Nat := 0
  urgPreempted : Nat := 0
  ovr : BitVec 128 := 0
  trimSel : Word := 0
  /-- Trims that a late write has replaced and that still act once, by record offset, as TRIM_DATA shows them (R238). -/
  oldTrims : Sparse (Option Word) := []
  clampCount : Nat := 0
  clampLast : Nat := 0
  staleCount : Nat := 0
  staleLast : Nat := 0
  failed : Bool := false
  /-- Consecutive channel-96 results below 1700 mV, and the episode's event has been logged (Table 9.1, R283). -/
  lowRun : Nat := 0
  lowLogged : Bool := false
  /-- AO tick at which the die's low episode began. -/
  lowAt : Nat := 0
  /-- Last channel-96 value in microvolts, and the last 16 values of FEED(d), newest first (R288). -/
  v96Uv : Int := 0
  feeds : List Nat := []
  feedSuspect : Bool := false
  deriving DecidableEq, Repr

/-! ### The Hearth: measured values, tokens -/

/-- A fault that a die's fault logic has acted on and of which the Hearth hears later: at the end of the frame, since causes of one
frame make one event (R297), or when an unreachable die answers (R300). The cell, its event, the frame, and the phases that the
Hearth counts in service until then. -/
structure LateFault where
  cell : Nat
  code : Nat
  args : List Nat
  frame : Word
  known : Nat
  deriving DecidableEq, Repr

/-- HEARTH measured values and registers (Tables 5.5 to 5.10, 9.10). -/
structure HearthSt where
  vinMv : Nat := 0
  feedI : Nat := 0
  pkgP : Nat := 0
  vhbmP : Nat := 0
  vsbMw : Nat := 0
  /-- INLET_LIMIT WATTS. -/
  watts : Nat := 0
  dieSel : Nat := 0
  /-- The package feed is low; its episode began at this AO tick (R283). -/
  feedLowAt : Option Nat := none
  /-- Faults of which the Hearth has not yet heard, oldest first (R297, R300). -/
  late : List LateFault := []
  deriving DecidableEq, Repr

/-- A grant committed and not yet applied (R251, R270). -/
structure Grant where
  core : Nat
  n : Nat
  lead : Nat
  seq : Nat
  released : Bool
  sends : Nat
  /-- AO tick at which its STOKE was issued (STATS MAX_LAT). -/
  stokeAt : Nat
  deriving DecidableEq, Repr

/-- A STOKE request (R247, R249): core, target holding, AO tick of its issue. -/
structure TokReq where
  core : Nat
  target : Nat
  at_ : Nat
  deriving DecidableEq, Repr

/-- Token management on the hub (chapter 08, TOKEN page). -/
structure TokenSt where
  /-- Requests on the spine, not yet at the Hearth (Table 8.1). -/
  sent : List TokReq := []
  queue : List TokReq := []
  aside : List TokReq := []
  grants : List Grant := []
  grantSeq : Nat := 0
  /-- Eased tokens on their way to the pool: core and number (R248). -/
  returns : List (Nat × Nat) := []
  lead : Nat := 200
  /-- RETIRED as R289 last set it; a change during a ledger fault waits for the reseal (R299). -/
  retire : Nat := 0
  /-- Budget in force (R26). -/
  inForce : Nat := 4928
  thermalCap : Nat := 4928
  inletCap : Nat := 4928
  /-- INLET_INFO: last computed cap, and UNTOK. -/
  lastCap : Nat := 0
  untok : Nat := 0
  level : Nat := 0
  coreSel : Nat := 0
  clamps : Nat := 0
  maxLat : Nat := 0
  /-- Stoke notices on the spine, oldest first: net and tokens (R199, R253). -/
  notices : List (Nat × Nat) := []
  /-- Value last sent in a notice to each net (R253). -/
  notified : Sparse Nat := []
  /-- Nets to which a notice went in the present frame of their engine (R253). -/
  noticed : List Nat := []
  /-- Tiles with a notice that could not be delivered, until their die answers (R269). -/
  undelivered : List Nat := []
  /-- What the issue cap of each core will be LEAD from now, as the Hearth announces it (R253). -/
  plan : Sparse Nat := []
  /-- Cores whose planned cap rose at a commit of the present frame. -/
  planNew : List Nat := []
  /-- Every core's issue is clamped until a reseal (R132). -/
  clampAll : Bool := false
  /-- Event 0x1053 has been logged for the present shortage (R261). -/
  belowBase : Bool := false
  deriving DecidableEq, Repr

/-! ### Temperature -/

/-- One sensor (R303, R329). -/
structure SensorSt where
  temp : Option Int := none
  failed : Bool := false
  /-- Consecutive readings that disagree with the other sensors. -/
  differs : Nat := 0
  deriving DecidableEq, Repr

/-- The throttle states (Table 10.2). -/
inductive Throttle where
  | idle | requested | enforcing | relaxing
  deriving DecidableEq, Repr

/-- Thermal management (chapter 10, THERM page). -/
structure ThermSt where
  sensors : Sparse SensorSt := []
  /-- Level of each zone (R306). -/
  levels : Sparse Nat := []
  throttle : Throttle := .idle
  dieWarn : Nat := 92
  dieThrottle : Nat := 100
  dieShutdown : Nat := 108
  hyst : Nat := 3
  stackWarn : Nat := 85
  stackThrottle : Nat := 90
  stackShutdown : Nat := 95
  grace : Nat := 20
  /-- GRACE as it stood on entry to REQUESTED, and the AO tick of that entry (R324). -/
  graceUsed : Nat := 20
  graceAt : Nat := 0
  /-- Zone that asked, the lowest cap and the steps down since (event 0x2004). -/
  zone : Nat := 0
  lowest : Nat := 4928
  steps : Nat := 0
  zoneSel : Nat := 0
  sensorSel : Nat := 0
  requests : Nat := 0
  enforced : Nat := 0
  /-- Zones held at THROTTLE for want of sensors, logged (R330). -/
  heldZones : List Nat := []
  deriving DecidableEq, Repr

/-! ### Cores, messages, tallies -/

/-- Core states (Table 11.2); WAITING is RUNNING with a stalled SEND or TWAIT (R387). -/
inductive CoreState where
  | idle | running | stopped | faulted | lost
  deriving DecidableEq, Repr

/-- One level of the loop stack (R376, R384): counter, address of the first and of the last body instruction. -/
structure LoopLevel where
  count : Nat
  start : Nat
  last : Nat
  deriving DecidableEq, Repr

/-- A configured receive queue (R346, Table 12.6): depth, ring bases, next entry to consume and occupied entries, and
the credit table. -/
structure RQueue where
  depth : Nat
  base : Nat
  meta_ : Nat
  head : Nat
  count : Nat
  deriving DecidableEq, Repr

/-- Where a stream engine is (R419): idle, running, paused, faulted. -/
inductive EngRun where
  | idle | running | paused | faulted
  deriving DecidableEq, Repr

/-- A stream engine (R415 to R420): its descriptor, its progress, its buffered expanded tiles (each a list of 1024
elements in output format, weight k of column j at 32j + k), its cause, and the id that orders its writes (R352). -/
structure EngineSt where
  run : EngRun := .idle
  loaded : Bool := false
  base : Nat := 0
  sbase : Nat := 0
  ostride : Nat := 0
  sstride : Nat := 0
  lsaddr : Nat := 0
  lstride : Nat := 0
  mode : Nat := 0
  inFmt : Nat := 0
  outFmt : Nat := 0
  inner : Nat := 0
  outer : Nat := 0
  j : Nat := 0
  i : Nat := 0
  tiles : List (List (BitVec 16)) := []
  cause : Nat := 0
  id : Nat := 0
  deriving DecidableEq, Repr

/-- A stalled instruction (R387), with its fields. -/
inductive Stall where
  | send (f : Fields)
  | recv (f : Fields)
  | twait (f : Fields)
  | swait (f : Fields)
  | grantw (f : Fields)
  | fence (f : Fields)
  | scfg (f : Fields)
  | mma (zero : Bool) (f : Fields)
  deriving DecidableEq, Repr

/-- An EASE that waits for the grants that were in TRANSIT at it, those numbered below `before` (R265). -/
structure Easing where
  target : Nat
  before : Nat
  deriving DecidableEq, Repr

/-- A core's tokens (chapter 08): holding, issue cap, committed tokens, pending recall target, clamp, the EASEs that wait for a
grant in transit, oldest first (R265), and the holding at the last stop (RESUME, R458). -/
structure CoreTok where
  held : Nat := 0
  cap : Nat := 0
  committed : Nat := 0
  /-- Recall targets: of the budget's recall (R258) and of the tile's (R292). -/
  recallG : Option Nat := none
  recallT : Option Nat := none
  /-- The recall has reached the core (TOK[16], R397). -/
  seen : Bool := false
  clamped : Bool := false
  easing : List Easing := []
  atStop : Nat := 0
  /-- Sequence number of the last grant applied (R270). -/
  lastSeq : Option Nat := none
  deriving DecidableEq, Repr

/-- One logical core: architectural state (Table 12.1), memories, queues, engines, control (chapters 11, 12). -/
structure CoreSt where
  st : CoreState := .idle
  pc : Nat := 0
  s : Sparse Word := []
  a : Sparse DWord := []
  v : Sparse Vec := []
  acc : Sparse Word := []
  fpflags : BitVec 4 := 0
  mode : BitVec 3 := 0
  loops : List LoopLevel := []
  /-- CYCLE, as it was last looked at (Table 12.2). -/
  cycles : DWord := 0
  ls : List Host.Cell := []
  imem : List Host.Cell := []
  queues : Sparse RQueue := []
  engines : Sparse EngineSt := []
  stall : Option Stall := none
  /-- A STOP has been accepted and the core has not yet halted (R357). -/
  stopping : Bool := false
  exc : Nat := 0
  excPc : Nat := 0
  /-- Cause of its loss (Table 11.4). -/
  lostCause : Nat := 0
  startPc : Nat := 0
  arg : Word := 0
  corr : Nat := 0
  regSel : Nat := 0
  lsAddr : Nat := 0
  queueSel : Nat := 0
  /-- The command slot whose command this core runs; `none` when started by hand or idle. -/
  slot : Option Nat := none
  /-- The core has halted at a YIELD or been stopped for a switch-out (R456), or has executed END. -/
  yielded : Bool := false
  ended : Bool := false
  tok : CoreTok := {}
  /-- The registered wait: tally and threshold (R353). -/
  wait : Option (Nat × Word) := none
  deriving DecidableEq, Repr

/-- A message on the mesh (R345, Table 11.1), with the id of its SEND (R352). -/
structure Msg where
  src : Nat
  dst : Nat
  q : Nat
  len : Nat
  tag : BitVec 16
  data : Vec
  id : Nat
  /-- Tenant of the source's command (Table 11.1). -/
  tenant : Nat := 0
  deriving DecidableEq, Repr

/-- Credits on the mesh (R348, R349): a grant or a return for queue q of core `rcv` to `sender`. -/
structure CredPkt where
  rcv : Nat
  q : Nat
  sender : Nat
  n : Nat
  /-- Its command has not ended (R370). -/
  live : Bool
  /-- Number of its issue, which orders it among the packets of its source (R343). -/
  id : Nat
  /-- Tenant of the source's command (Table 11.1). -/
  tenant : Nat := 0
  deriving DecidableEq, Repr

/-- A tally add issued and not yet applied (R352). -/
structure TallyAdd where
  core : Nat
  tally : Nat
  amount : Nat
  id : Nat
  /-- Slot of the command that issued it (R352). -/
  own : Option Nat := none
  deriving DecidableEq, Repr

/-- The mesh: messages, credits, tally adds in flight, and the tallies (chapter 11). -/
structure GridSt where
  msgs : List Msg := []
  grants : List CredPkt := []
  returns : List CredPkt := []
  /-- Credits held: key (sender x 512 + receiver) x 8 + queue. -/
  credits : Sparse Nat := []
  adds : List TallyAdd := []
  tallies : Sparse Word := []
  nextId : Nat := 1
  /-- Resends of the flit being sent on each link, by link key (R373). -/
  resends : Sparse Nat := []
  deriving DecidableEq, Repr

/-! ### Memory stacks -/

/-- The lasting condition of a stack (MEM STATE): usable, contents lost, out of service. -/
inductive StackCond where
  | good | lost | failed
  deriving DecidableEq, Repr

/-- One channel's counters (Table 13.9). -/
structure ChanSt where
  repairs : Nat := 0
  unrepairable : Nat := 0
  /-- AO ticks of the lines poisoned in the last 24 h. -/
  poisoned : List Nat := []
  phyFails : Nat := 0
  deriving DecidableEq, Repr

/-- One stack (chapter 13, MEM page). -/
structure StackSt where
  init : Bool := false
  selfRefresh : Bool := false
  hot : Bool := false
  cond : StackCond := .good
  /-- Retired channels, in order (R425). -/
  gone : List Nat := []
  corr : Nat := 0
  uncorr : Nat := 0
  errAddr : Nat := 0
  hours : Nat := 24
  donePct : Nat := 0
  /-- Lost pages in the order listed, with REMOVED (R427). -/
  lostList : List (Nat × Bool) := []
  overflow : Bool := false
  lostSel : Nat := 0
  chSel : Nat := 0
  chans : Sparse ChanSt := []
  /-- AO ticks of corrected errors of each row, by row key (R424). -/
  rowErrs : Sparse (List Nat) := []
  /-- Rows found unrepairable, by row key (R424). -/
  badRows : List Nat := []
  /-- A retirement stall is running (R425). -/
  retiring : Bool := false
  /-- Channels to be retired, with their causes, once the stall ends. -/
  retireNext : List (Nat × Nat) := []
  /-- A change of the refresh interval waits for the end of a retirement (R437). -/
  hotDue : Bool := false
  deriving DecidableEq, Repr

/-- Device memory (R408, R421): bytes by DPA; poisoned lines by DPA with their row key + 1; lines written whole since a
retirement poisoned them (R425, R422), rising. -/
structure MemSt where
  data : List Host.Cell := []
  poison : Sparse Nat := []
  cleared : List Nat := []
  stk : Sparse StackSt := []
  deriving DecidableEq, Repr

/-! ### Tenants, partitions, plates, commands -/

/-- A partition's definition (R441): mode, and per tile the core mask, page range and tally range. -/
structure PartDef where
  shared : Bool := false
  cores : Sparse DWord := []
  memBase : Sparse Nat := []
  memPages : Sparse Nat := []
  tallyBase : Sparse Nat := []
  tallyCount : Sparse Nat := []
  deriving DecidableEq, Repr

/-- Partition p (Table 14.10). -/
structure PartSt where
  staged : PartDef := {}
  active : PartDef := {}
  quantum : Nat := 2000
  grace : Nat := 200
  tileSel : Nat := 0
  /-- The tenant whose command was started last (R455). -/
  lastTenant : Option Nat := none
  deriving DecidableEq, Repr

/-- One placed slot of a plate (Table 14.3, R448, R449). -/
structure PSlot where
  mask : DWord
  tile : Nat
  wPages : Nat
  sPages : Nat
  image : Nat
  entry : Nat
  /-- First page of the slot's region, its pages, and its first tally (device number). -/
  base : Nat
  pages : Nat
  tally : Nat
  deriving DecidableEq, Repr

/-- An admitted plate (R447 to R449). -/
structure Plate where
  part : Nat
  slots : List PSlot
  tallies : Nat
  lsBytes : Nat
  maxTokens : Nat
  queues : Byte
  /-- Offset of each image in the code page, and its size. -/
  images : List (Nat × Nat)
  /-- The first line found poisoned in a code page since the plate was admitted (R472). -/
  codeBad : Option Nat := none
  deriving DecidableEq, Repr

/-- Tenant n (Table 14.9). -/
structure TenantSt where
  part : Nat := 0
  assigned : Bool := false
  tokQuota : Nat := 4928
  tallyQuota : Nat := 4096
  go : Bool := false
  mode : Bool := false
  done : Bool := false
  /-- Commands aborted by the drain (event 0x5005). -/
  aborted : Nat := 0
  /-- The ABORT drain of a host reset is under way (R498). -/
  resetDrain : Bool := false
  admCode : Nat := 0
  admRes : Nat := 0
  admHandle : Nat := 0
  admSlot : Nat := 0
  selHandle : Nat := 0
  selSlot : Nat := 0
  plates : Sparse (Option Plate) := []
  slotLimit : Nat := 8
  deriving DecidableEq, Repr

/-- A parsed descriptor (Table 15.3). -/
structure Desc where
  opcode : Nat
  flags : Byte
  handle : Nat
  tenantByte : Nat
  tag : Word
  addr : Nat
  args : List Word
  deriving DecidableEq, Repr

/-- A completion record's contents but SQ_HEAD and PHASE, which are set when it is written (Table 15.5). -/
structure CompRec where
  tag : Word
  status : Nat
  dup : Bool
  replaySafe : Bool
  irq : Bool
  resource : Nat
  handle : Nat
  opcode : Nat
  result : Word
  detail : Word
  runUs : Nat
  deriving DecidableEq, Repr

/-- Where a command is (ledger 3, Table 4.5; R457). -/
inductive CmdState where
  | fetched | running | completing
  deriving DecidableEq, Repr

/-- Where a running command of a shared partition is in its switching (R456, R458). -/
inductive SwitchState where
  | on | leaving | saving | out | restoring
  deriving DecidableEq, Repr

/-- A queue kept across a switch-out: core, queue, its ring state, and the credits each sender held (R456, R458). -/
structure SavedQueue where
  core : Nat
  q : Nat
  ring : RQueue
  credits : List (Nat × Nat)
  deriving DecidableEq, Repr

/-- The saved state of a core (R456): everything `CoreSt` holds but its memories' unused part. -/
structure SavedCore where
  core : Nat
  st : CoreSt
  deriving DecidableEq, Repr

/-- A command slot in use (R487): its queue, tenant, descriptor and progress. -/
structure Cmd where
  queue : Nat
  tenant : Nat
  desc : Desc
  /-- Order of fetching (R488). -/
  order : Nat
  st : CmdState
  /-- Waits for the record of the command in this slot, whose tag it repeats (R497). -/
  dupOf : Option Nat
  startAt : Nat
  /-- Logical cores of the command. -/
  cores : List Nat
  switch : SwitchState
  /-- Quantum expiry seen and not renewed (R456). -/
  expired : Bool
  saved : List SavedCore
  savedQueues : List SavedQueue
  /-- An ABORT drain has reached it (R462, R467). -/
  aborting : Bool
  /-- The outcome found before the queues could be released (R350): the record to write. -/
  ending : Option CompRec
  record : Option CompRec
  /-- Order in which the record became ready (R488). -/
  readyOrder : Nat
  /-- Its record is to be discarded when it is ready (R498, R506). -/
  discard : Bool
  /-- Ledger 3 counts its slot; a reseal sets the ledger to its reset state under it (R133; log entry 55). -/
  counted : Bool := true
  deriving DecidableEq, Repr

/-- A queue pair (Table 15.9); index 8n + q, or 256 + a for administrative queue a. -/
structure QueueSt where
  sqBase : DWord := 0
  cqBase : DWord := 0
  log2 : Nat := 4
  /-- VECTOR as written; `none` reads q (R478). -/
  vector : Option Nat := none
  enable : Bool := false
  fault : Bool := false
  sqHead : Nat := 0
  sqTail : Nat := 0
  cqHead : Nat := 0
  cqTail : Nat := 0
  phase : Bool := true
  /-- Tag history, newest first, at most 64 (R496). -/
  history : List CompRec := []
  dups : Nat := 0
  refused : Nat := 0
  /-- The descriptor read of this queue has failed once and is being retried (R506). -/
  readFailed : Bool := false
  /-- The record write of this queue has failed once and is being retried (R506). -/
  writeFailed : Bool := false
  /-- Event 0x5013 has been logged for the present full episode (R507). -/
  fullLogged : Bool := false
  /-- ADM_INT and ADM_INT_EN of an administrative queue. -/
  admInt : BitVec 3 := 0
  admIntEn : BitVec 3 := 0
  deriving DecidableEq, Repr

/-- What software sets in the configuration space of a function (Table 15.1). The values after a reset are PCIe's own
(log entry 102). -/
structure PcieFn where
  /-- Max payload size in bytes. -/
  payload : Nat := 128
  /-- Max read request size in bytes. -/
  readSize : Nat := 512
  /-- D3hot, else D0. -/
  d3hot : Bool := false
  /-- ASPM L1 is enabled. -/
  aspmL1 : Bool := false
  deriving DecidableEq, Repr

/-- HOSTIF and the command slots (chapter 15). -/
structure HostSt where
  queues : Sparse QueueSt := []
  cmds : Sparse (Option Cmd) := []
  pathLost : Bool := false
  tenSel : Nat := 0
  admLimit : Nat := 16
  /-- The queue whose descriptor is being read (R486). -/
  fetching : Option Nat := none
  /-- The tenants whose drain started while that descriptor is being read, each with whether it is an ABORT drain (R502). -/
  fetchDrains : List (Nat × Bool) := []
  /-- A host reset has reached the queue of that descriptor since its read began (R498, R502). -/
  fetchReset : Bool := false
  /-- The queue from which the rotation over queues goes on (R486). -/
  lastFetched : Nat := 0
  nextOrder : Nat := 0
  /-- The functions' configuration: 0 PF0, n + 1 VF(n + 1) (R474). -/
  pcie : Sparse PcieFn := []
  /-- The words of the MSI-X tables: function (0 PF0, n + 1 VF(n + 1)) x 256 + word (R476). -/
  msix : Sparse Word := []
  deriving DecidableEq, Repr

/-! ### Links -/

/-- One lane (chapter 16, LANE page). -/
structure LaneSt where
  /-- Phase code of Table 16.7. -/
  phase : Nat := 0
  follower : Bool := false
  preset : BitVec 3 := 0
  attempts : Nat := 0
  fofs : Int := 0
  trim : Int := 0
  snr : Nat := 0
  qsnr : Nat := 0
  oneWay : Nat := 0
  log2n : Nat := 20
  /-- LOG2N in use since the lane last entered training (R530). -/
  log2nUsed : Nat := 20
  windows : Nat := 0
  impDb : Nat := 12
  impHold : Nat := 64
  impBlocks : Nat := 0
  runs : Nat := 0
  /-- Blocks marked in the present run; adaptation is frozen while positive or HOLD_ADAPT (R531). -/
  runBlocks : Nat := 0
  /-- AO tick at which SNR was first seen below 18.7 dB, while it stays there (R545). -/
  lowSince : Option Nat := none
  /-- An impulse block fell in the present wake (R540). -/
  impSeen : Bool := false
  fecCorr : Nat := 0
  fecUncorr : Nat := 0
  ecSel : Nat := 0
  fdeSel : Nat := 0
  ecTaps : Sparse Word := []
  fdeTaps : Sparse Word := []
  lastUs : Nat := 0
  cause : Nat := 0
  wakes : Nat := 0
  falses : Nat := 0
  holdAdapt : Bool := false
  presetForce : BitVec 3 := 0
  force : Bool := false
  degraded : Bool := false
  synth : Bool := false
  /-- Sequence number of the last control word acted on (R522), and of the last sent. -/
  lastSeq : Option Byte := none
  sendSeq : Byte := 0
  /-- The message in force and its payload, sent in every training block until it changes (R522). -/
  msg : Nat := 0
  msgPay : Nat := 0
  draw : BitVec 16 := 0
  equalDraws : Nat := 0
  /-- Own work in the present phase is done; the far end's READY for it is held (R523). -/
  ownDone : Bool := false
  farReady : Bool := false
  /-- PRESET has been passed (R563). -/
  presetPassed : Bool := false
  seedTx : BitVec 31 := 0
  seedRx : Option (BitVec 31) := none
  seedSent : Bool := false
  /-- AO tick at which the far end was detected (TRAIN_INFO). -/
  detectAt : Nat := 0
  /-- Superblock at which data resumes, named here and by the far end, and whether the wake has been retried (R535). -/
  wakeAt : Option Nat := none
  wakeRetried : Bool := false
  /-- Superblock periods counted from data start, modulo 2^32, as of the last command that looked at the count (R516; log
  entry 63). -/
  count : Word := 0
  /-- The waking end is this one. -/
  waker : Bool := false
  /-- AO tick of the last entry to sleep (R538). -/
  sleepAt : Nat := 0
  /-- The lane is left out of the port until it next trains (R566). -/
  dropped : Bool := false
  deriving DecidableEq, Repr

/-- Port states (Table 17.6). -/
inductive PortState where
  | off | training | identify | quarantine | up | reforming | asleep | testing | draining | drained | failed
  deriving DecidableEq, Repr

/-- A sequenced flit in the replay buffer (R549). -/
structure TxFlit where
  seq : BitVec 16
  vc : BitVec 2
  body : List Byte
  /-- Ledger 4 counts it; a reseal sets the ledger to its reset state under it (R133; log entry 55). -/
  counted : Bool := true
  deriving DecidableEq, Repr

/-- One port (chapter 17, PORT and WIRING pages). -/
structure PortSt where
  st : PortState := .off
  enable : Bool := false
  mask : BitVec 8 := 0
  qCause : Nat := 0
  idleUs : Nat := 20
  nextTx : BitVec 16 := 0
  ack : BitVec 16 := 0
  /-- SEQ of the flit to be accepted next (R552). -/
  rxNext : BitVec 16 := 0
  nak : Bool := false
  /-- The replay buffer, oldest first, and how many of its newest flits have not been sent yet (R549, R557). -/
  unacked : List TxFlit := []
  unsent : Nat := 0
  /-- ACK of the last NAK acted on (R554). -/
  lastNak : Option (BitVec 16) := none
  resends : Nat := 0
  replays : Nat := 0
  timeouts : Nat := 0
  /-- Flits sent on each VC since IDENTIFY, and the far end's freed counts and advertised buffers (R550). -/
  sentVc : Sparse Nat := []
  freedFar : Sparse Nat := []
  farBufs : Sparse Nat := []
  /-- Own receive buffers occupied and freed on each VC. -/
  usedVc : Sparse Nat := []
  freedVc : Sparse Nat := []
  far : Option IdentRec := none
  sentMatch : Bool := false
  gotMatch : Bool := false
  bertMs : Nat := 1000
  berExp : Nat := 12
  bertHours : Nat := 0
  bertLane : Nat := 0
  bertPass : Bool := false
  bertErrs : Sparse Nat := []
  /-- A test is requested or run because of INSTALL (R568, R569); a BERT_REQ of this end waits for its answer. -/
  bertInstall : Bool := false
  bertAsked : Bool := false
  /-- A DRAIN waits for the port to be UP, as one written during TESTING does (R574; log entry 63). -/
  drainDue : Bool := false
  farSel : Nat := 0
  /-- Lanes proposed by this end and by the far end in a reform (R565). -/
  reformOwn : Option (BitVec 8) := none
  reformOld : BitVec 8 := 0
  reformFar : Option (BitVec 8) := none
  sleepSent : Bool := false
  sentDrained : Bool := false
  gotDrained : Bool := false
  /-- The far end is draining: no new flits are given (R570). -/
  farDraining : Bool := false
  /-- The endpoint is given no new flits because ENABLE = 0 was written (R564). -/
  closing : Bool := false
  /-- AO ticks of the downs of the last second (R576). -/
  downs : List Nat := []
  /-- The replay was stopped by a lane leaving service (R572). -/
  replayHeld : Bool := false
  /-- WIRING fields (Table 17.10). -/
  valid : Bool := false
  optical : Bool := false
  install : Bool := false
  dropDegraded : Bool := false
  lanesMin : Nat := 1
  expectPort : Nat := 0
  expectPkg : BitVec 16 := 0
  expectSerial : DWord := 0
  deriving DecidableEq, Repr

/-- The links: lanes 8p + l, ports, LOCAL_PKG (R561). -/
structure LinkSt where
  lanes : Sparse LaneSt := []
  ports : Sparse PortSt := []
  localPkg : BitVec 16 := 0
  deriving DecidableEq, Repr

/-! ### Side-band and calibration -/

/-- A response, less its header checks (Table 18.2): destination, SEQ, STATUS, byte 7, whether AUTH is set, CTR and
payload. -/
structure TmbResp where
  dst : BitVec 5
  seq : Byte
  status : Nat
  orig : Nat
  auth : Bool
  ctr : Word
  payload : List Byte
  deriving DecidableEq, Repr

/-- A requester's window and session (R591, R594). -/
structure Requester where
  /-- SEQ, CTR and response of the 8 latest requests, newest first. -/
  window : List (Byte × Word × TmbResp) := []
  session : Bool := false
  nonceR : List Byte := []
  nonceD : List Byte := []
  ctr : Word := 0
  /-- AO tick of the last event 0x7010 for this requester (R596). -/
  authLogAt : Option Nat := none
  deriving DecidableEq, Repr

/-- The TMB node (chapter 18, TMB page). -/
structure TmbSt where
  key : Option (List Byte) := none
  /-- Staged key, 32 bytes by index. -/
  staged : Sparse Byte := []
  reqs : Sparse Requester := []
  /-- Ready responses, oldest first, at most 4 (R589). -/
  responses : List TmbResp := []
  frames : Nat := 0
  crcErr : Nat := 0
  captured : Nat := 0
  /-- Correlation energy C of the preamble of the frame being received; `none` while none is (R582). -/
  energy : Option Nat := none
  overflow : Nat := 0
  authFail : Nat := 0
  dups : Nat := 0
  busySent : Nat := 0
  reqSel : Nat := 0
  /-- The bus is occupied without frames; the device waits for 4 us of idle bus (R610). -/
  busFault : Bool := false
  deriving DecidableEq, Repr

/-- A step of the store (Table 19.6 STEP). -/
inductive StoreStep where
  | idle | check | program | verify | mark | done
  deriving DecidableEq, Repr

/-- Calibration image, slots, store and hold-up (chapter 19, CAL page). -/
structure CalSt where
  /-- Bytes of the image by record offset (Table 19.2); a byte not listed reads 0, or the factory byte when `factory`. -/
  image : Sparse (Option Byte) := []
  /-- The image was built from the factory calibration (R620). -/
  factory : Bool := false
  /-- The image as loaded from, or last stored to, the selected slot, for DIRTY (R621). -/
  loaded : Sparse (Option Byte) := []
  /-- 0 slot A, 1 slot B, 3 none. -/
  selected : Nat := 3
  validA : Bool := false
  validB : Bool := false
  genA : Word := 0
  genB : Word := 0
  blank : Bool := false
  erasing : Bool := false
  step : StoreStep := .idle
  result : Nat := 0
  ms : Nat := 0
  /-- The store under way: tick and timestamp of its acceptance, its target slot and GEN, its copy of the image. -/
  startAt : Nat := 0
  startUnlocked : Bool := false
  target : Nat := 0
  gen : Word := 0
  copy : Sparse (Option Byte) := []
  measuring : Bool := false
  mj : Nat := 0
  c : Nat := 0
  vStart : Nat := 0
  auto : Bool := false
  /-- The image as the hub built it at this start (R140, R184). -/
  boot : Sparse (Option Byte) := []
  /-- AO memory holds an image (R632). -/
  present : Bool := false
  deriving DecidableEq, Repr

/-- The state of the package. -/
structure State where
  /-- Commands waiting, first in, first out. -/
  pending : List Instr := []
  /-- The latched hardware trip (R320, R322). -/
  trip : Option TripRec := none
  ao : AoSt := {}
  power : PowerSt := {}
  tiles : Sparse TileSt := []
  hdrs : Sparse PageHdr := []
  /-- Status and counter registers of frozen pages as they stood at FREEZE, by BAR0 address (R72). -/
  frozen : Sparse Word := []
  arb : ArbSt := {}
  events : EventSt := {}
  ledgers : Ledgers := {}
  ledger : LedgerSt := {}
  nets : Sparse NetSt := []
  cells : Sparse CellSt := []
  loops : Sparse LoopSt := []
  surveys : Sparse SurveySt := []
  hearth : HearthSt := {}
  token : TokenSt := {}
  therm : ThermSt := {}
  cores : Sparse CoreSt := []
  grid : GridSt := {}
  mem : MemSt := {}
  parts : Sparse PartSt := []
  tenants : Sparse TenantSt := []
  host : HostSt := {}
  links : LinkSt := {}
  tmb : TmbSt := {}
  cal : CalSt := {}
  /-- What the package has sent at its edges, oldest first. -/
  out : List Output := []
  /-- The model's own: number of free values used so far (log entry 9). -/
  free : Nat := 0
  deriving DecidableEq, Repr

/-- The package with no rail applied: VSB is not yet valid, every register at its reset value, no command waiting
(log entry 1). -/
def State.reset : State := {}

end Sys2Proof.Machine
end

