-- ==== Sys2Proof/Machine/Ops.lean ====
section
/-!
DEFINITION. The named operations every meaning is built from: sparse maps, bit fields, time, units and their dies,
power predicates, page addresses, interrupts, the event log, and the judgement of a register write (chapter 03).
-/
namespace Sys2Proof

/-! ### Bits and numbers -/

/-- Bit `i` of a natural number. -/
def bit (v i : Nat) : Bool := v / 2 ^ i % 2 = 1

/-- The field of `n` bits from bit `lo`. -/
def fld (v lo n : Nat) : Nat := v / 2 ^ lo % 2 ^ n

/-- 1 for true. -/
def b2n (b : Bool) : Nat := if b then 1 else 0

/-- A 32-bit word from fields given as (lowest bit, value). -/
def word (l : List (Nat × Nat)) : Word := BitVec.ofNat 32 (l.foldl (fun a p => a + p.2 * 2 ^ p.1) 0)

/-- A natural number as a word. -/
def w32 (n : Nat) : Word := BitVec.ofNat 32 n

/-- A signed number in two's complement of `n` bits. -/
def twos (n : Nat) (i : Int) : Nat := (i % (2 ^ n : Int)).toNat

/-- The signed reading of the low `n` bits of `v`. -/
def sgn (n v : Nat) : Int := if bit (v % 2 ^ n) (n - 1) then ((v % 2 ^ n : Nat) : Int) - 2 ^ n else ((v % 2 ^ n : Nat) : Int)

/-- Saturating count. -/
def satInc (n top : Nat) : Nat := if n < top then n + 1 else n

/-- A value limited to a range. -/
def clampI (lo hi v : Int) : Int := if v < lo then lo else if v > hi then hi else v

/-- Round to nearest, halves away from zero, of `a / b` (R5, R205 name the halves). -/
def divNear (a : Int) (b : Nat) : Int :=
  if a < 0 then -(((-a) * 2 + b) / (2 * b)) else (a * 2 + b) / (2 * b)

/-- The bits that are 1, rising. -/
def bitsOf (width v : Nat) : List Nat := (List.range width).filter (bit v)

/-- Number of bits that are 1 among the low `width`. -/
def popCount (width v : Nat) : Nat := (bitsOf width v).length

/-- Bytes of a word, least significant first (R7). -/
def leBytes (n v : Nat) : List Byte := (List.range n).map (fun k => BitVec.ofNat 8 (v / 2 ^ (8 * k)))

/-- The number little-endian bytes spell (R7). -/
def leNat : List Byte → Nat
  | [] => 0
  | b :: r => b.toNat + 256 * leNat r

/-- The mask of a set of byte enables. -/
def beMask (be : BitVec 4) : Word :=
  word [(0, 255 * b2n (be.getLsbD 0)), (8, 255 * b2n (be.getLsbD 1)), (16, 255 * b2n (be.getLsbD 2)),
    (24, 255 * b2n (be.getLsbD 3))]

/-- The value a write leaves: bytes that are not enabled keep their values (R75). -/
def RegWrite.merged (w : RegWrite) (old : Word) : Word := (w.value &&& beMask w.be) ||| (old &&& ~~~ beMask w.be)

/-- The ones a W1C or W1S write carries in its enabled bytes. -/
def RegWrite.ones (w : RegWrite) : Word := w.value &&& beMask w.be

/-- All four bytes are enabled. -/
def RegWrite.full (w : RegWrite) : Bool := w.be = 15

/-! ### Units, dies, nets (Table 0.6) -/

def numCells : Nat := 428

/-- The die of a cell. -/
def cellDie (i : Nat) : Nat := if i < 384 then i / 48 else if i < 396 then 8 else if i < 408 then 9 else if i < 420 then 10 else 11

/-- The first cell of a die. -/
def dieFirst (d : Nat) : Nat := if d < 8 then 48 * d else if d = 8 then 384 else if d = 9 then 396 else if d = 10 then 408 else 420

/-- The number of cells of a die. -/
def dieCount (d : Nat) : Nat := if d < 8 then 48 else if d < 11 then 12 else 8

/-- The net of a cell. -/
def cellNet (i : Nat) : Nat :=
  if i < 384 then (if i % 48 < 40 then 2 * (i / 48) else 2 * (i / 48) + 1) else cellDie i + 8

/-- The die of a net. -/
def netDie (n : Nat) : Nat := if n < 16 then n / 2 else n - 8

/-- The cells of a net, rising. -/
def netCells (n : Nat) : List Nat :=
  if n < 16 then
    (if n % 2 = 0 then (List.range 40).map (· + 48 * (n / 2)) else (List.range 8).map (· + (48 * (n / 2) + 40)))
  else (List.range (dieCount (n - 8))).map (· + dieFirst (n - 8))

/-- The nets of a die. -/
def dieNets (d : Nat) : List Nat := if d < 8 then [2 * d, 2 * d + 1] else [d + 8]

/-- The cells of a die, rising. -/
def dieCells (d : Nat) : List Nat := (List.range (dieCount d)).map (· + dieFirst d)

/-! ### Pages (Tables 3.2, 3.5, 3.6, 3.8, 3.9) -/

/-- The page exists. -/
def PageRef.exists : PageRef → Bool
  | .net n => n < 20
  | .cell i => i < 428
  | .loop d => d < 12
  | .survey d => d < 12
  | .grid t | .tally t | .mem t => t < 8
  | .corectl k => k < 528
  | .tenant n => n < 32
  | .queue k => k < 256
  | .port p | .wiring p => p < 8
  | .lane k => k < 64
  | _ => true

/-- Block type code (Table 3.5). -/
def PageRef.block : PageRef → Nat
  | .ident => 0x0001 | .boot => 0x0002 | .event => 0x0003 | .ledger => 0x0004 | .arbiter => 0x0005
  | .hearth => 0x0010 | .net _ => 0x0011 | .cell _ => 0x0012 | .loop _ => 0x0013 | .survey _ => 0x0014
  | .token => 0x0015 | .therm => 0x0016 | .cal => 0x0017 | .grid _ => 0x0020 | .corectl _ => 0x0021
  | .tally _ => 0x0022 | .mem _ => 0x0023 | .hostif => 0x0030 | .tenant _ => 0x0031 | .queue _ => 0x0032
  | .port _ => 0x0040 | .lane _ => 0x0041 | .wiring _ => 0x0042 | .tmb => 0x0050

/-- The tile and the core number within it of a CORECTL page: 64 and 65 are the spares (R333). -/
def corePage (k : Nat) : Nat × Nat := if k < 512 then (k / 64, k % 64) else ((k - 512) / 2, 64 + (k - 512) % 2)

/-- Instance in PAGE_ID (Table 3.2). -/
def PageRef.inst : PageRef → Nat
  | .cell i => i - dieFirst (cellDie i)
  | .net n => n
  | .loop d | .survey d => d
  | .grid t | .tally t | .mem t => t
  | .corectl k => (corePage k).2
  | .port p | .wiring p => p
  | .lane k => k
  | .tenant n => n
  | .queue k => k
  | _ => 0

/-- Instance in event records (Table 3.2). -/
def PageRef.evInst : PageRef → Nat
  | .cell i => i
  | .corectl k => k
  | p => p.inst

/-- The die on which a page's block lies. -/
def PageRef.die : PageRef → Nat
  | .cell i => cellDie i
  | .loop d | .survey d => d
  | .grid t | .tally t | .mem t => t
  | .corectl k => (corePage k).1
  | .hostif | .queue _ => 10
  | .port p => if p < 4 then 8 else 9
  | .lane k => if k < 32 then 8 else 9
  | _ => 11

/-- BAR0 address of a page (Table 3.6). -/
def PageRef.addr : PageRef → Nat
  | .ident => 0x0 | .boot => 0x1000 | .event => 0x2000 | .ledger => 0x3000 | .arbiter => 0x4000
  | .cal => 0x5000 | .tmb => 0x6000 | .therm => 0x8000 | .hearth => 0x10000 | .token => 0x11000
  | .net n => 0x14000 + n * 0x100
  | .cell i => 0x20000 + i * 0x400
  | .loop d => 0x90000 + d * 0x1000
  | .survey d => 0xA0000 + d * 0x1000
  | .grid t => 0x1000000 + t * 0x200000
  | .tally t => 0x1000000 + t * 0x200000 + 0x1000
  | .mem t => 0x1000000 + t * 0x200000 + 0x2000
  | .corectl k => 0x1000000 + (corePage k).1 * 0x200000 + 0x10000 + (corePage k).2 * 0x1000
  | .hostif => 0x2000000
  | .tenant n => 0x2010000 + n * 0x1000
  | .queue k => 0x2100000 + (k / 8) * 0x10000 + 0x4000 + (k % 8) * 0x1000
  | .port p => 0x3000000 + p * 0x10000
  | .lane k => 0x3000000 + (k / 8) * 0x10000 + 0x1000 + (k % 8) * 0x1000
  | .wiring p => 0x3000000 + p * 0x10000 + 0x9000

/-- A rate and a width the host's link may have in L0 (Table 15.1). -/
def linkModeOk (rate width : Nat) : Bool := (rate = 64 || rate = 32 || rate = 16) && (width = 16 || width = 8 || width = 4)

/-- One step of a PRBS31 register (ITU-T O.150): stages 28 and 31 are fed back to stage 1 (R201, R513, R515, R521; log entries
95 and 103). -/
def prbsStep (r : BitVec 31) : BitVec 31 := (r <<< 1) ||| (if r.getLsbD 30 ^^ r.getLsbD 27 then 1 else 0)

/-- The page and the offset in it of a PF0 BAR0 address; `none` is unmapped (R85). -/
def pageAt (a : Nat) : Option (PageRef × Nat) :=
  let o := a % 0x1000
  if a < 0x1000 then some (.ident, o)
  else if a < 0x2000 then some (.boot, o)
  else if a < 0x3000 then some (.event, o)
  else if a < 0x4000 then some (.ledger, o)
  else if a < 0x5000 then some (.arbiter, o)
  else if a < 0x6000 then some (.cal, o)
  else if a < 0x7000 then some (.tmb, o)
  else if a < 0x8000 then none
  else if a < 0x9000 then some (.therm, o)
  else if a < 0x10000 then none
  else if a < 0x11000 then some (.hearth, o)
  else if a < 0x12000 then some (.token, o)
  else if a < 0x14000 then none
  else if a < 0x15400 then some (.net ((a - 0x14000) / 0x100), a % 0x100)
  else if a < 0x20000 then none
  else if a < 0x20000 + 428 * 0x400 then some (.cell ((a - 0x20000) / 0x400), a % 0x400)
  else if a < 0x90000 then none
  else if a < 0x9C000 then some (.loop ((a - 0x90000) / 0x1000), o)
  else if a < 0xA0000 then none
  else if a < 0xAC000 then some (.survey ((a - 0xA0000) / 0x1000), o)
  else if a < 0x1000000 then none
  else if a < 0x2000000 then
    let t := (a - 0x1000000) / 0x200000
    let r := (a - 0x1000000) % 0x200000
    if r < 0x1000 then some (.grid t, o)
    else if r < 0x2000 then some (.tally t, o)
    else if r < 0x3000 then some (.mem t, o)
    else if r < 0x10000 then none
    else if r < 0x50000 then some (.corectl (64 * t + (r - 0x10000) / 0x1000), o)
    else if r < 0x52000 then some (.corectl (512 + 2 * t + (r - 0x50000) / 0x1000), o)
    else none
  else if a < 0x2001000 then some (.hostif, o)
  else if a < 0x2010000 then none
  else if a < 0x2030000 then some (.tenant ((a - 0x2010000) / 0x1000), o)
  else if a < 0x2100000 then none
  else if a < 0x2300000 then
    let n := (a - 0x2100000) / 0x10000
    let r := a % 0x10000
    if r < 0x4000 then none else if r < 0xC000 then some (.queue (8 * n + (r - 0x4000) / 0x1000), o) else none
  else if a < 0x3000000 then none
  else if a < 0x3080000 then
    let p := (a - 0x3000000) / 0x10000
    let r := a % 0x10000
    if r < 0x1000 then some (.port p, o)
    else if r < 0x9000 then some (.lane (8 * p + (r - 0x1000) / 0x1000), o)
    else if r < 0xA000 then some (.wiring p, o)
    else none
  else none

/-- The page and offset of an offset in the BAR0 of VF(n + 1) (Table 3.7). -/
def vfPageAt (n a : Nat) : Option (PageRef × Nat) :=
  if a < 0x1000 then some (.ident, a)
  else if a < 0x2000 then some (.tenant n, a % 0x1000)
  else if a < 0x4000 then none
  else if a < 0xC000 then some (.queue (8 * n + (a - 0x4000) / 0x1000), a % 0x1000)
  else none

/-- Default owner (Table 3.8): 0 host, 1 side-band, 2 shared. -/
def PageRef.defaultOwner : PageRef → Nat
  | .therm | .cal | .tmb => 1
  | .ident | .boot | .event | .ledger | .arbiter | .hearth => 2
  | _ => 0

/-- PF0 MSI-X vector of a page (Table 3.9); tenants' QUEUE pages interrupt their own VF (R478). -/
def PageRef.vector : PageRef → Option Nat
  | .event => some 0 | .boot | .ident => some 1 | .ledger => some 2 | .arbiter => some 3
  | .hearth | .net _ | .cell _ | .loop _ | .survey _ => some 4
  | .token => some 5 | .therm => some 6 | .cal => some 7 | .tmb => some 8 | .hostif => some 9
  | .grid t | .tally t | .mem t => some (10 + t)
  | .corectl k => some (10 + (corePage k).1)
  | .port p | .wiring p => some (18 + p)
  | .lane k => some (18 + k / 8)
  | .tenant n => some (26 + n)
  | .queue _ => none

/-! ### Masters -/

/-- Number of a master in LAST_REFUSAL and in events: 0 host, 1 side-band. -/
def Master.num : Master → Nat
  | .host => 0 | .vf _ => 0 | .side _ => 1

/-- The side-band write came without a valid tag (R77, AUTH). -/
def Master.untagged : Master → Bool
  | .side tag => !tag
  | _ => false

end Sys2Proof

namespace Sys2Proof.Machine
open Sys2Proof

/-! ### Sparse maps -/

/-- What index `k` of a sparse map reads as; an unlisted index reads `d`. -/
def look {α : Type} (d : α) : Sparse α → Nat → α
  | [], _ => d
  | (k', v) :: r, k => if k = k' then v else look d r k

/-- Insert a value at index `k`, in the place of an earlier one. -/
def putNew {α : Type} : Sparse α → Nat → α → Sparse α
  | [], k, v => [(k, v)]
  | (k', v') :: r, k, v =>
    if k < k' then (k, v) :: (k', v') :: r
    else if k = k' then (k, v) :: r
    else (k', v') :: putNew r k v

/-- Write index `k`, keeping the canonical form: keys strictly rising, no entry equal to `d`. -/
def put {α : Type} [DecidableEq α] (d : α) (m : Sparse α) (k : Nat) (v : α) : Sparse α :=
  if v = d then m.filter (fun e => e.1 ≠ k) else putNew m k v

/-- Change index `k` of a sparse map. -/
def modAt {α : Type} [DecidableEq α] (d : α) (m : Sparse α) (k : Nat) (f : α → α) : Sparse α :=
  put d m k (f (look d m k))

/-- The canonical form of a sparse map: keys strictly rising and no entry equal to what an unlisted index reads as. -/
def sparseWf {α : Type} [DecidableEq α] (d : α) : Sparse α → Bool
  | [] => true
  | [(_, v)] => v ≠ d
  | (k, v) :: (k', v') :: r => (v ≠ d) && (k < k') && sparseWf d ((k', v') :: r)

/-- Write the list of values at consecutive indexes from `k`. -/
def putList {α : Type} [DecidableEq α] (d : α) (m : Sparse α) (k : Nat) : List α → Sparse α
  | [] => m
  | v :: vs => putList d (put d m k v) (k + 1) vs

/-- The `n` values at consecutive indexes from `k`. -/
def lookList {α : Type} (d : α) (m : Sparse α) (k : Nat) : Nat → List α
  | 0 => []
  | n + 1 => look d m k :: lookList d m (k + 1) n

/-- Apply `f` for every element of a list, left to right. -/
def forEach {α : Type} (l : List α) (s : State) (f : State → α → State) : State := l.foldl f s

/-! ### Time (R39, R100) -/

/-- AO ticks a second. -/
def tickHz : Nat := 4194304

/-- Whole milliseconds since AO tick `t`. -/
def msSince (s : State) (t : Nat) : Nat := (s.ao.ticks - t) * 1000 / tickHz

/-- Whole microseconds since AO tick `t`. -/
def usSince (s : State) (t : Nat) : Nat := (s.ao.ticks - t) * 1000000 / tickHz

/-- Less than `us` microseconds have passed since tick `t`. -/
def withinUs (s : State) (t us : Nat) : Bool := (s.ao.ticks - t) * 1000000 < us * tickHz

/-- An AO timestamp as software reads it: bit 47 set before first lock (R40). -/
def stamp (unlocked : Bool) (ticks : Nat) : Nat := ticks % 2 ^ 47 + b2n unlocked * 2 ^ 47

/-! ### Parts of the state by index -/

def State.tile (s : State) (t : Nat) : TileSt := look {} s.tiles t
def State.setTile (s : State) (t : Nat) (v : TileSt) : State := { s with tiles := put {} s.tiles t v }
def State.modTile (s : State) (t : Nat) (f : TileSt → TileSt) : State := s.setTile t (f (s.tile t))
def State.net (s : State) (n : Nat) : NetSt := look {} s.nets n
def State.setNet (s : State) (n : Nat) (v : NetSt) : State := { s with nets := put {} s.nets n v }
def State.modNet (s : State) (n : Nat) (f : NetSt → NetSt) : State := s.setNet n (f (s.net n))
def State.cell (s : State) (i : Nat) : CellSt := look {} s.cells i
def State.setCell (s : State) (i : Nat) (v : CellSt) : State := { s with cells := put {} s.cells i v }
def State.modCell (s : State) (i : Nat) (f : CellSt → CellSt) : State := s.setCell i (f (s.cell i))
def State.loopE (s : State) (d : Nat) : LoopSt := look {} s.loops d
def State.setLoop (s : State) (d : Nat) (v : LoopSt) : State := { s with loops := put {} s.loops d v }
def State.modLoop (s : State) (d : Nat) (f : LoopSt → LoopSt) : State := s.setLoop d (f (s.loopE d))
def State.survey (s : State) (d : Nat) : SurveySt := look {} s.surveys d
def State.setSurvey (s : State) (d : Nat) (v : SurveySt) : State := { s with surveys := put {} s.surveys d v }
def State.modSurvey (s : State) (d : Nat) (f : SurveySt → SurveySt) : State := s.setSurvey d (f (s.survey d))
def State.core (s : State) (c : Nat) : CoreSt := look {} s.cores c
def State.setCore (s : State) (c : Nat) (v : CoreSt) : State := { s with cores := put {} s.cores c v }
def State.modCore (s : State) (c : Nat) (f : CoreSt → CoreSt) : State := s.setCore c (f (s.core c))
def State.stack (s : State) (t : Nat) : StackSt := look {} s.mem.stk t
def State.setStack (s : State) (t : Nat) (v : StackSt) : State := { s with mem := { s.mem with stk := put {} s.mem.stk t v } }
def State.modStack (s : State) (t : Nat) (f : StackSt → StackSt) : State := s.setStack t (f (s.stack t))
def State.part (s : State) (n : Nat) : PartSt := look {} s.parts n
def State.setPart (s : State) (n : Nat) (v : PartSt) : State := { s with parts := put {} s.parts n v }
def State.modPart (s : State) (n : Nat) (f : PartSt → PartSt) : State := s.setPart n (f (s.part n))
def State.tenant (s : State) (n : Nat) : TenantSt := look {} s.tenants n
def State.setTenant (s : State) (n : Nat) (v : TenantSt) : State := { s with tenants := put {} s.tenants n v }
def State.modTenant (s : State) (n : Nat) (f : TenantSt → TenantSt) : State := s.setTenant n (f (s.tenant n))
def State.queue (s : State) (q : Nat) : QueueSt := look {} s.host.queues q
def State.setQueue (s : State) (q : Nat) (v : QueueSt) : State := { s with host := { s.host with queues := put {} s.host.queues q v } }
def State.modQueue (s : State) (q : Nat) (f : QueueSt → QueueSt) : State := s.setQueue q (f (s.queue q))
def State.cmd (s : State) (k : Nat) : Option Cmd := look none s.host.cmds k
def State.setCmd (s : State) (k : Nat) (v : Option Cmd) : State := { s with host := { s.host with cmds := put none s.host.cmds k v } }
def State.modCmd (s : State) (k : Nat) (f : Cmd → Cmd) : State := s.setCmd k ((s.cmd k).map f)
def State.lane (s : State) (k : Nat) : LaneSt := look {} s.links.lanes k
def State.setLane (s : State) (k : Nat) (v : LaneSt) : State := { s with links := { s.links with lanes := put {} s.links.lanes k v } }
def State.modLane (s : State) (k : Nat) (f : LaneSt → LaneSt) : State := s.setLane k (f (s.lane k))
def State.port (s : State) (p : Nat) : PortSt := look {} s.links.ports p
def State.setPort (s : State) (p : Nat) (v : PortSt) : State := { s with links := { s.links with ports := put {} s.links.ports p v } }
def State.modPort (s : State) (p : Nat) (f : PortSt → PortSt) : State := s.setPort p (f (s.port p))

/-- Something sent at an edge of the package. -/
def emit (s : State) (o : Output) : State := { s with out := s.out ++ [o] }

/-- A free value and the state with the count of free values advanced (log entry 9). -/
def freeVal (s : State) : Word × State := (Config.freeWord s.free, { s with free := s.free + 1 })

/-! ### Power predicates -/

/-- The hub is powered: it has left Banked and boot has not failed (Table 2.5, R62). -/
def hubOn (s : State) : Bool := s.power.stage ≠ .banked && s.power.stage ≠ .failed

/-- The device is ready (R46). -/
def isReady (s : State) : Bool := s.power.stage = .ready

/-- Bring-up is under way, before the device is ready: the hub starts, or VSB has become valid within the 50 ms in which VIN is
expected (Tables 2.5 and 2.6; log entry 96). -/
def bringingUp (s : State) : Bool :=
  (hubOn s && !isReady s) ||
  (s.ao.vsb && s.power.stage = .banked && s.ledger.first && s.trip.isNone && !s.ao.hold && msSince s 0 < 50)

/-- The die has power, and its spine stop answers (R18, R281): a tile that is not Off, an edge die whose net is up,
the hub. -/
def dieOn (s : State) (d : Nat) : Bool :=
  if d < 8 then hubOn s && (s.tile d).st ≠ .off
  else if d < 11 then hubOn s && ((s.net (d + 8)).st = .on || (s.net (d + 8)).st = .rolling)
  else hubOn s

/-- The tile is powering up or down (R56). -/
def tileMoving (s : State) (t : Nat) : Bool := (s.tile t).st = .rising || (s.tile t).st = .falling

/-- The tile is Kindled or Stoked, or in the step between the two: its cores and its stack have power (R33, R36). -/
def tileUp (s : State) (t : Nat) : Bool :=
  let x := s.tile t
  match x.st with
  | .kindled => true
  | .stoked => true
  | .rising => x.settled = 3
  | .falling => x.settled = 4 && !x.forced
  | .off => false

/-- State code of a tile (Table 2.1). -/
def tileCode (s : State) (t : Nat) : Nat :=
  match (s.tile t).st with
  | .off => 0 | .kindled => 3 | .stoked => 4 | .rising => 8 | .falling => 9

/-- Some tile is in this state. -/
def anyTile (s : State) (x : TileState) : Bool := (List.range 8).any (fun t => (s.tile t).st = x)

/-- The level of a target or state for comparing: Off and Smouldering 2 for the package, Banked 1. -/
def pkgLevel (s : State) : Nat := if anyTile s .stoked then 4 else if anyTile s .kindled then 3 else 2

/-- The running step goes to a higher state. -/
def stepRises : PStep → Bool
  | .wake => true | .kindle _ => true | .stoke _ => true | .unstoke _ => false | .off _ => false | .bank => false

/-- Package state code (Table 2.1, R28): a transition on request shows its direction, as does a tile taken Off by
force. -/
def pkgCode (s : State) : Nat :=
  if s.trip.isSome then 0xF
  else match s.power.stage with
  | .failed => 0xE
  | .banked => 1
  | .ready => (match s.power.trans with
    | some tr => if stepRises tr.cur then 8 else 9
    | none => if anyTile s .rising then 8 else if anyTile s .falling then 9 else pkgLevel s)
  | _ => 8

/-- The tiles that are not Off, as a mask. -/
def liveMask (s : State) : Nat := ((List.range 8).map (fun t => if (s.tile t).st = .off then 0 else 2 ^ t)).sum

/-- The lane `8p + l` has power: its port is in use and the lane is not in OFF (chapter 16). -/
def laneOn (s : State) (k : Nat) : Bool := (s.lane k).phase ≠ 0

/-- Lane `k` is one of lanes 4 to 7 of a port in optical split mode, which has no such lanes (R510). -/
def laneAbsent (s : State) (k : Nat) : Bool := 4 ≤ k % 8 && (s.port (k / 8)).optical

/-- The block of a page has power. -/
def pageOn (s : State) (p : PageRef) : Bool :=
  dieOn s p.die && (match p with
    | .lane k => !laneAbsent s k
    | _ => true)

/-- The block of a page is RISING or FALLING (R56). A CELL follows its net, an isolated one is FAULT; the blocks of a tile follow
the tile; LOOP and SURVEY are only OFF or ON. -/
def pageMoving (s : State) (p : PageRef) : Bool :=
  match p with
  | .net n => (s.net n).st = .rising || (s.net n).st = .falling
  | .grid t | .tally t | .mem t => tileMoving s t
  | .corectl k => tileMoving s (corePage k).1
  | .cell i => !(s.cell i).isolated && ((s.net (cellNet i)).st = .rising || (s.net (cellNet i)).st = .falling)
  | _ => false

/-! ### Page headers, interrupts (R67, R95 to R98) -/

def State.hdr (s : State) (p : PageRef) : PageHdr := look {} s.hdrs p.addr

/-- Write a page's header. -/
def State.putHdr (s : State) (p : PageRef) (h : PageHdr) : State := { s with hdrs := put {} s.hdrs p.addr h }

/-- OWNER[1:0] of a page: 0 host, 1 side-band, 2 shared. -/
def ownerOf (s : State) (p : PageRef) : Nat := (s.hdr p).owner.getD p.defaultOwner

/-- OWNER[1:0] as the hub's table holds it. -/
def ownerEntry (p : PageRef) (o : Nat) : Option Nat := if o = p.defaultOwner then none else some o

/-- INT_PENDING of a page (Table 3.1); an unpowered page reads 0 (R81). -/
def intPending (s : State) (p : PageRef) : Word := if pageOn s p then (s.hdr p).intRaw &&& (s.hdr p).intEnable else 0

/-- The pages with a listed header. -/
def listedPages (s : State) : List PageRef := s.hdrs.filterMap (fun e => (pageAt e.1).map (·.1))

/-- Some page on PF0 vector `v` has INT_PENDING non-zero (Table 3.37). -/
def vecPending (s : State) (v : Nat) : Bool :=
  (listedPages s).any (fun p => p.vector = some v && intPending s p ≠ 0)

/-- INT_PENDING of page `p` is signalled to the host: the host owns it, or it is shared (R95). -/
def hostSignalled (s : State) (p : PageRef) : Bool := ownerOf s p ≠ 1

/-- VECTOR of queue page `k` (R478). -/
def queueVec (s : State) (k : Nat) : Nat := (s.queue k).vector.getD (k % 8)

/-- Some QUEUE page of VF(n + 1) on its vector `v` has INT_PENDING non-zero. -/
def vfVecPending (s : State) (n v : Nat) : Bool :=
  (List.range 8).any (fun q => queueVec s (8 * n + q) = v && intPending s (.queue (8 * n + q)) ≠ 0)

/-- The MSI-X message of a page: PF0's vector of Table 3.9, or the VF's of Q_CFG. -/
def msixOf (s : State) (p : PageRef) : Option Output :=
  match p, p.vector with
  | .queue k, _ => some (.msix (some (k / 8)) (queueVec s k))
  | _, some v => some (.msix none v)
  | _, none => none

/-- The OR of INT_PENDING over the pages that share the page's vector. -/
def vectorPending (s : State) (p : PageRef) : Bool :=
  match p, p.vector with
  | .queue k, _ => vfVecPending s (k / 8) (queueVec s k)
  | _, some v => vecPending s v
  | _, none => false

/-- Change a page's header; an MSI-X message goes out when the OR over the page's vector goes from 0 to non-zero
(R95, R96). -/
def State.modHdr (s : State) (p : PageRef) (f : PageHdr → PageHdr) : State :=
  let s' := s.putHdr p (f (s.hdr p))
  match msixOf s' p with
  | none => s'
  | some o => if !vectorPending s p && vectorPending s' p && hostSignalled s' p then emit s' o else s'

/-- A page that signals the host has INT_PENDING non-zero on PF0 vector `v`. -/
def vecSignalled (s : State) (v : Nat) : Bool :=
  (listedPages s).any (fun p => p.vector = some v && intPending s p ≠ 0 && hostSignalled s p)

/-- The messages of vectors `vs` whose OR over INT_PENDING a change other than a header's has taken from 0 (in `old`) to
non-zero: pages that have power again with the causes they kept (R96). -/
def signalRise (old s : State) (vs : List Nat) : State :=
  forEach vs s (fun t v => if !vecPending old v && vecSignalled s v then emit t (.msix none v) else t)

/-- Set bits of INT_RAW of a page: causes. -/
def raiseBits (s : State) (p : PageRef) (m : Word) : State := s.modHdr p (fun h => { h with intRaw := h.intRaw ||| m })

/-- Set one bit of INT_RAW of a page: a cause. -/
def raise (s : State) (p : PageRef) (i : Nat) : State := raiseBits s p (w32 (2 ^ i))

/-! ### The event log (R99 to R111) -/

/-- Records written in the last millisecond (R102). -/
def recentEvents (s : State) : Nat := (s.events.log.takeWhile (fun r => withinUs s r.ticks 1000)).length

/-- A record as the hub numbers it. -/
def mkRecord (s : State) (code sev : Nat) (p : PageRef) (args : List Nat) : EventRec :=
  { unlocked := !s.ao.aoLock, ticks := s.ao.ticks, code := code, die := p.die, sev := sev, block := p.block,
    inst := p.evInst, seq := s.events.writeSeq, a0 := args.getD 0 0 % 2 ^ 32, a1 := args.getD 1 0 % 2 ^ 32,
    a2 := args.getD 2 0 % 2 ^ 32, a3 := args.getD 3 0 % 2 ^ 32 }

/-- The hub logs an event of page `p`'s block: written to the ring, or dropped and counted past 256 in 1 ms (R99,
R102, EVENT INT_RAW). Nothing is logged while the hub has no power. -/
def logEvent (s : State) (code sev : Nat) (p : PageRef) (args : List Nat) : State :=
  if !hubOn s then s
  else if 256 ≤ recentEvents s then
    raise { s with events := { s.events with dropped := satInc s.events.dropped 0xFFFF } } .event 1
  else
    let r := mkRecord s code sev p args
    let s := { s with events := { s.events with log := (r :: s.events.log).take 1024,
                                                writeSeq := (s.events.writeSeq + 1) % 2 ^ 32,
                                                bad := s.events.bad.filter (fun n => n ≠ r.seq && r.seq < n + 1024) } }
    if s.events.threshold ≤ sev then raise s .event 0 else s

/-- Log an event unless it was logged, under this key, within the last `us` microseconds. -/
def logLimited (s : State) (key us code sev : Nat) (p : PageRef) (args : List Nat) : State :=
  let s' := logEvent s code sev p args
  let s'' := { s' with events := { s'.events with lastAt := put 0 s.events.lastAt key (s.ao.ticks + 1) } }
  match look 0 s.events.lastAt key with
  | 0 => s''
  | t + 1 => if withinUs s t us then s else s''

/-- The always-on domain keeps a record when the hub has no power: at most 64, oldest first (R53, R58). -/
def retainEvent (s : State) (code sev : Nat) (p : PageRef) (args : List Nat) : State :=
  let l := s.ao.retention ++ [mkRecord s code sev p args]
  { s with ao := { s.ao with retention := l.drop (l.length - 64) } }

/-! ### The judgement of a write (R74 to R82, Table 3.4) -/

/-- Refusal code (Table 3.4). -/
def RefCode.num : RefCode → Nat
  | .ok => 0x00 | .notOwner => 0x01 | .wrongState => 0x02 | .outOfRange => 0x03 | .locked => 0x04 | .bringup => 0x05
  | .ledgerFault => 0x06 | .noResource => 0x07 | .auth => 0x08 | .tripped => 0x09 | .duplicate => 0x0A | .budget => 0x0B

/-- The checks of Table 3.4 that a register's own rules decide, in the table's order. `exempt` is R94. -/
structure Checks where
  tripped : Bool := false
  exempt : Bool := false
  notOwner : Bool := false
  locked : Bool := false
  outOfRange : Bool := false
  wrongState : Bool := false
  ledgerFault : Bool := false
  noResource : Bool := false
  budget : Bool := false
  deriving DecidableEq, Repr

/-- The writer owns the page (R86, R89, R94): PF0 and a VF in its own QUEUE pages write as the host. -/
def ownsPage (s : State) (p : PageRef) (m : Master) : Bool :=
  match m with
  | .host => ownerOf s p ≠ 1
  | .side _ => ownerOf s p ≠ 0
  | .vf n => (match p with | .queue k => k / 8 = n && ownerOf s p ≠ 1 | _ => false)

/-- The first check of Table 3.4 that fails; `ok` when none does. -/
def judge (s : State) (p : PageRef) (w : RegWrite) (c : Checks) : RefCode :=
  if pageMoving s p then .bringup
  else if c.tripped then .tripped
  else if c.notOwner || (!c.exempt && !ownsPage s p w.master) then .notOwner
  else if c.locked then .locked
  else if c.outOfRange then .outOfRange
  else if c.wrongState then .wrongState
  else if c.ledgerFault then .ledgerFault
  else if c.noResource then .noResource
  else if c.budget then .budget
  else if w.master.untagged then .auth
  else .ok

/-- A refusal is recorded in the page: LAST_REFUSAL takes code, offset and master, ERR_COUNT counts (R78). -/
def recordRefusal (s : State) (p : PageRef) (off : Nat) (m : Master) (c : RefCode) : State :=
  s.modHdr p (fun h => { h with lastRefusal := word [(0, c.num), (8, off % 0x10000), (24, m.num)],
                                errCount := satInc h.errCount 0xFFFF })

/-- A write refused under R82 is recorded in UNP_ADDR and UNP_INFO. -/
def recordUnp (s : State) (addr : Nat) (m : Master) (c : RefCode) : State :=
  raise { s with arb := { s.arb with
            unpAddr := w32 addr, unpCode := c.num,
            unpMaster := (match m with | .host => 0 | .side _ => 1 | .vf _ => 2),
            unpVf := (match m with | .vf n => n % 64 | _ => 0),
            unpCount := satInc s.arb.unpCount 0xFFFF } } .arbiter 3

/-- The address a writer used for a register: its own BAR0 offset for a VF (Table 3.35). -/
def writtenAddr (p : PageRef) (off : Nat) (m : Master) : Nat :=
  match m, p with
  | .vf _, .queue k => 0x4000 + (k % 8) * 0x1000 + off
  | .vf _, .tenant _ => 0x1000 + off
  | .vf _, .ident => off
  | _, _ => p.addr + off

/-- The always-on domain serves the side-band's writes of the TMB page while the hub is not running (Table 18.6). -/
def aoServes (s : State) (p : PageRef) (m : Master) : Bool :=
  p = .tmb && (match m with | .side _ => true | _ => false) && s.ao.vsb && !hubOn s

/-- After a thermal trip the ledgers hold their last values and stay readable over both masters until VSB ceases to be valid, so
the LEDGER page answers, and takes TAKE and SNAP_SEL, without which no column can be read (R120; log entry 98). -/
def ledgerHeld (s : State) (p : PageRef) : Bool := p = .ledger && s.trip.isSome && s.ao.vsb && !hubOn s

/-- The registers of the held LEDGER page that are written: SNAP_CTRL and SNAP_SEL. -/
def snapWrite (s : State) (p : PageRef) (off : Nat) : Bool := ledgerHeld s p && (off = 0x4C || off = 0x54)

/-- The page's block has power and its die answers the spine (R81, R110). -/
def pageAnswers (s : State) (p : PageRef) : Bool := pageOn s p && !s.arb.unreachable.contains p.die

/-- Judge a write to the register at `off` of page `p`, and act on it or refuse it. Before the device is ready the
host's access is answered Unsupported Request (R48), and the side-band's is not executed (R50). -/
def guarded (s : State) (p : PageRef) (off : Nat) (w : RegWrite) (c : Checks) (eff : State → State) : State × RefCode :=
  let act : State × RefCode :=
    let r := judge s p w c
    if r = .ok then (eff s, .ok) else (recordRefusal s p off w.master r, r)
  if aoServes s p w.master || snapWrite s p off then act
  else if !isReady s then
    (match w.master with
     | .side _ => (s, .bringup)
     | _ => (emit s (.unsupported (writtenAddr p off w.master)), .bringup))
  else if !p.exists then (recordUnp s (writtenAddr p off w.master) w.master .outOfRange, .outOfRange)
  else if !pageAnswers s p then (recordUnp s (writtenAddr p off w.master) w.master .wrongState, .wrongState)
  else act

/-- A write to an RO register or a reserved offset: ignored without a refusal (R76), but recorded under R82 when the
page's block has no power. -/
def roWrite (s : State) (p : PageRef) (off : Nat) (w : RegWrite) : State × RefCode :=
  if aoServes s p w.master then (s, .ok)
  else if !isReady s || !p.exists || !pageAnswers s p then guarded s p off w {} id
  else (s, .ok)

/-! ### Lands (Table 20.3) -/

/-- THERMTRIP_N is asserted: an open-drain output powered from VSB, while the trip is latched (R320 to R322). -/
def thermtripLow (s : State) : Bool := s.ao.vsb && s.trip.isSome

/-- HOLDTEST_N is asserted: an open-drain output powered from VSB, while hold-up is measured (R622). -/
def holdtestLow (s : State) : Bool := s.ao.vsb && s.cal.measuring

/-! ### The idle step -/

/-- One AO tick passes while VSB is valid (R39; log entry 2). -/
def tickOnce (s : State) : State := if s.ao.vsb then { s with ao := { s.ao with ticks := s.ao.ticks + 1 } } else s

end Sys2Proof.Machine
end

