-- ==== Sys2Proof/Machine/Flags.lean ====
section
/-!
DEFINITION. Number formats and the flags arithmetic sets (chapter 12, R391 to R396): exact values, one rounding, overflow
by MODE, and the operations of vector lanes and of matrix sums. Values the spec does not state are free.
-/
namespace Sys2Proof.Machine
open Sys2Proof

/-! ### Formats (R381, Table 12.7) -/

/-- Exponent bits, mantissa bits and bias of a floating-point format code. -/
structure FpFmt where
  eb : Nat
  mb : Nat
  bias : Nat
  deriving DecidableEq, Repr

def fpFmt (f : Nat) : FpFmt := if f = 1 then ⟨4, 3, 7⟩ else if f = 2 then ⟨5, 2, 15⟩ else if f = 3 then ⟨8, 7, 127⟩ else ⟨8, 23, 127⟩

/-- The format is a floating-point one. -/
def isFp (f : Nat) : Bool := 1 ≤ f && f ≤ 4

/-- Width of an element in bits. -/
def fmtBits (f : Nat) : Nat := if f ≤ 2 then 8 else if f = 3 then 16 else 32

/-- Lanes of a vector register. -/
def laneCount (f : Nat) : Nat := 512 / fmtBits f

/-- A floating-point value: a finite one is (-1)^neg x m x 2^e. -/
inductive FpVal where
  | nan
  | inf (neg : Bool)
  | fin (neg : Bool) (m : Nat) (e : Int)
  deriving DecidableEq, Repr

/-- The value of bits in a format (Table 12.7). -/
def fpDecode (f v : Nat) : FpVal :=
  let F := fpFmt f
  let neg := bit v (F.eb + F.mb)
  let E := fld v F.mb F.eb
  let M := fld v 0 F.mb
  if E = 2 ^ F.eb - 1 && f = 1 && M = 7 then .nan
  else if E = 2 ^ F.eb - 1 && f ≠ 1 then (if M = 0 then .inf neg else .nan)
  else if E = 0 then .fin neg M (1 - (F.bias : Int) - F.mb)
  else .fin neg (2 ^ F.mb + M) ((E : Int) - F.bias - F.mb)

/-! ### Results and flags (Table 12.2, R395) -/

/-- The bits of a result and the flags it sets: 1 invalid, 2 overflow or saturation, 4 underflow, 8 inexact. -/
structure LaneOut where
  bits : Nat
  flags : Nat
  deriving DecidableEq, Repr

/-- How a result is rounded: rounding mode 0 nearest-even, 1 toward zero, 2 down, 3 up; OVF. -/
structure Rnd where
  mode : Nat
  ovf : Bool
  deriving DecidableEq, Repr

/-- Where a free value of an instruction comes from: operation, the run's count of free values, lane. -/
structure Src where
  op : Nat
  seed : Nat
  lane : Nat
  deriving DecidableEq, Repr

/-- m / 2^k rounded in a mode, and whether the division was inexact. -/
def shiftRound (mode : Nat) (neg : Bool) (m k : Nat) : Nat × Bool :=
  let q := m / 2 ^ k
  let r := m % 2 ^ k
  let up : Bool := match mode with
    | 0 => 2 ^ k < 2 * r || (2 ^ k = 2 * r && q % 2 = 1)
    | 1 => false
    | 2 => neg && r ≠ 0
    | _ => !neg && r ≠ 0
  (if up then q + 1 else q, r ≠ 0)

def signBit (F : FpFmt) (neg : Bool) : Nat := b2n neg * 2 ^ (F.eb + F.mb)

/-- The largest finite value of a sign. -/
def fpMax (f : Nat) (neg : Bool) : Nat :=
  let F := fpFmt f
  signBit F neg + (if f = 1 then 0x7E else (2 ^ F.eb - 1) * 2 ^ F.mb - 1)

/-- What an overflow gives with OVF = 1: NaN in E4M3, infinity elsewhere. -/
def fpOver (f : Nat) (neg : Bool) : Nat :=
  let F := fpFmt f
  signBit F neg + (if f = 1 then 0x7F else (2 ^ F.eb - 1) * 2 ^ F.mb)

/-- The exponent of the last place of a value in a format. -/
def fpQuantum (F : FpFmt) (m : Nat) (e : Int) : Int := max (e + m.log2 - F.mb) (1 - (F.bias : Int) - F.mb)

/-- A finite value rounded once to a format (R392, R395). -/
def fpRound (f : Nat) (r : Rnd) (neg : Bool) (m : Nat) (e : Int) : LaneOut :=
  let F := fpFmt f
  if m = 0 then ⟨signBit F neg, 0⟩
  else
    let q := fpQuantum F m e
    let (m1, ix) := if q ≤ e then (m * 2 ^ (e - q).toNat, false) else shiftRound r.mode neg m (q - e).toNat
    let (m2, q2) := if 2 ^ (F.mb + 1) ≤ m1 then (m1 / 2, q + 1) else (m1, q)
    let E : Nat := if 2 ^ F.mb ≤ m2 then (q2 + F.mb + F.bias).toNat else 0
    let M := m2 % 2 ^ F.mb
    let big : Bool := if f = 1 then 15 < E || (E = 15 && M = 7) else 2 ^ F.eb - 1 ≤ E
    if big then ⟨if r.ovf then fpOver f neg else fpMax f neg, 10⟩
    else
      let tiny : Bool := m2 < 2 ^ F.mb || (e + m.log2 < 1 - (F.bias : Int) && Config.tinyBefore)
      ⟨signBit F neg + E * 2 ^ F.mb + M, 8 * b2n ix + 4 * b2n (ix && tiny)⟩

/-- A NaN result; its sign and payload are free (log entry 10). -/
def nanBits (f : Nat) (x : Src) : Nat :=
  let F := fpFmt f
  let p := (Config.nanPayload x.op f x.seed x.lane).toNat
  signBit F (bit p 31) + (2 ^ F.eb - 1) * 2 ^ F.mb + (if f = 1 then 7 else max 1 (p % 2 ^ F.mb))

/-- A result and flags the spec does not state (log entry 10). -/
def freeLane (f : Nat) (x : Src) : LaneOut :=
  ⟨(Config.unstatedLane x.op f x.seed x.lane).toNat % 2 ^ fmtBits f, (Config.unstatedLane (256 + x.op) f x.seed x.lane).toNat % 16⟩

/-- A value delivered in a format: `none` is one the spec does not state. -/
def fpLane (f : Nat) (r : Rnd) (x : Src) : Option FpVal → LaneOut
  | none => freeLane f x
  | some .nan => ⟨nanBits f x, 0⟩
  | some (.inf n) => ⟨fpOver f n, 0⟩
  | some (.fin n m e) => fpRound f r n m e

/-! ### Exact arithmetic -/

/-- A finite value as a signed mantissa over 2^e0. -/
def fpScaled (neg : Bool) (m : Nat) (e e0 : Int) : Int := (if neg then -1 else 1) * (m : Int) * 2 ^ (e - e0).toNat

/-- Exponents of finite values. -/
def fpExps (l : List FpVal) : List Int := l.filterMap (fun v => match v with | .fin _ _ e => some e | _ => none)

/-- The exact sum of values: NaN if one is NaN, not stated for infinities of both signs. A zero sum is negative when every
term is, or when terms of both signs cancel while rounding down (IEEE 754). -/
def fpSum (mode : Nat) (l : List FpVal) : Option FpVal :=
  if l.any (· = .nan) then some .nan
  else if l.any (· = .inf true) && l.any (· = .inf false) then none
  else if l.any (· = .inf true) then some (.inf true)
  else if l.any (· = .inf false) then some (.inf false)
  else
    let e0 := (fpExps l).foldl min 0
    let t : Int := (l.map (fun v => match v with | .fin n m e => fpScaled n m e e0 | _ => 0)).sum
    let neg (v : FpVal) : Bool := match v with | .fin n _ _ => n | _ => false
    if t = 0 then some (.fin (l.all neg || (mode = 2 && l.any neg)) 0 0)
    else some (.fin (t < 0) t.natAbs e0)

/-- The exact product; infinity times zero is not stated. -/
def fpMul (a b : FpVal) : Option FpVal :=
  match a, b with
  | .nan, _ => some .nan
  | _, .nan => some .nan
  | .inf n, .inf k => some (.inf (n ^^ k))
  | .inf n, .fin k m _ => if m = 0 then none else some (.inf (n ^^ k))
  | .fin n m _, .inf k => if m = 0 then none else some (.inf (n ^^ k))
  | .fin n m e, .fin k p d => some (.fin (n ^^ k) (m * p) (e + d))

/-- Sum of products and further terms: NaN when an operand is, else not stated when some term is not. -/
def fpSumAll (mode : Nat) (l : List (Option FpVal)) : Option FpVal :=
  if l.any (· = some .nan) then some .nan
  else if l.any (· = none) then none
  else fpSum mode (l.filterMap id)

def fpNeg : FpVal → FpVal
  | .nan => .nan
  | .inf n => .inf (!n)
  | .fin n m e => .fin (!n) m e

/-- a < b for values that are not NaN. -/
def fpLt : FpVal → FpVal → Bool
  | .inf n, .inf k => n && !k
  | .inf n, _ => n
  | _, .inf k => !k
  | .fin n m e, .fin k p d => fpScaled n m e (min e d) < fpScaled k p d (min e d)
  | _, _ => false

/-! ### Lane operations (Table 12.4, class 5) -/

/-- Lane-wise operations of two or three operands. -/
inductive VOp where
  | add | sub | mul | fma | max | min
  deriving DecidableEq, Repr

/-- Operation numbers under which free values are drawn. -/
def VOp.num : VOp → Nat
  | .add => 0 | .sub => 1 | .mul => 2 | .fma => 3 | .max => 4 | .min => 5

/-- An integer result in INT8 or INT32: it saturates and sets the flag; INT32 with OVF = 1 has no stated result (R395). -/
def intLane (f : Nat) (r : Rnd) (x : Src) (v : Int) : LaneOut :=
  let lo : Int := if f = 0 then -128 else -2147483648
  let hi : Int := if f = 0 then 127 else 2147483647
  if lo ≤ v && v ≤ hi then ⟨twos (fmtBits f) v, 0⟩
  else if f = 5 && r.ovf then ⟨(freeLane f x).bits, 2⟩
  else ⟨twos (fmtBits f) (clampI lo hi v), 2⟩

/-- The signed value of an INT8 or INT32 lane. -/
def intOf (f v : Nat) : Int := sgn (fmtBits f) v

/-- One lane in an integer format; `d` is the destination's old lane. -/
def intOp (f : Nat) (r : Rnd) (x : Src) (op : VOp) (a b d : Nat) : LaneOut :=
  let p := intOf f a
  let q := intOf f b
  intLane f r x (match op with
    | .add => p + q | .sub => p - q | .mul => p * q | .fma => intOf f d + p * q
    | .max => if p < q then q else p | .min => if q < p then q else p)

/-- The larger or smaller of two lanes; with a NaN, and between zeros of different sign, the spec states none. -/
def fpPick (f : Nat) (x : Src) (a b : Nat) (larger : Bool) : LaneOut :=
  let p := fpDecode f a
  let q := fpDecode f b
  if p = .nan || q = .nan then freeLane f x
  else if a = b then ⟨a, 0⟩
  else if fpLt p q then ⟨if larger then b else a, 0⟩
  else if fpLt q p then ⟨if larger then a else b, 0⟩
  else ⟨if bit (freeLane f x).bits 0 then a else b, 0⟩

/-- One lane in BF16 or FP32. -/
def fpOp (f : Nat) (r : Rnd) (x : Src) (op : VOp) (a b d : Nat) : LaneOut :=
  let p := fpDecode f a
  let q := fpDecode f b
  match op with
  | .add => fpLane f r x (fpSum r.mode [p, q])
  | .sub => fpLane f r x (fpSum r.mode [p, fpNeg q])
  | .mul => fpLane f r x (fpMul p q)
  | .fma => fpLane f r x (fpSumAll r.mode [some (fpDecode f d), fpMul p q])
  | .max => fpPick f x a b true
  | .min => fpPick f x a b false

def laneOp (f : Nat) (r : Rnd) (x : Src) (op : VOp) (a b d : Nat) : LaneOut :=
  if isFp f then fpOp f r x op a b d else intOp f r x op a b d

/-! ### Conversions (R395) -/

/-- A finite value as an integer, rounded in a mode, and whether that was inexact. -/
def fpToInt (mode : Nat) (neg : Bool) (m : Nat) (e : Int) : Int × Bool :=
  let (v, ix) := if 0 ≤ e then (m * 2 ^ e.toNat, false) else shiftRound mode neg m (-e).toNat
  (if neg then -(v : Int) else v, ix)

/-- One element converted from format `f` to format `g`. -/
def convert (f g : Nat) (r : Rnd) (x : Src) (v : Nat) : LaneOut :=
  if f = g then ⟨v, 0⟩
  else if !isFp f then
    (let i := intOf f v
     if isFp g then fpRound g r (i < 0) i.natAbs 0 else intLane g r x i)
  else match fpDecode f v with
  | .nan => if isFp g then ⟨nanBits g x, 0⟩ else if g = 0 then ⟨0, 1⟩ else freeLane g x
  | .inf n =>
    if g = 1 then ⟨if r.ovf then fpOver 1 n else fpMax 1 n, 2⟩
    else if isFp g then (if r.ovf then ⟨fpOver g n, 0⟩ else freeLane g x)
    else intLane g r x (if n then -2147483649 else 2147483648)
  | .fin n m e =>
    if isFp g then fpRound g r n m e
    else
      let (i, ix) := fpToInt r.mode n m e
      let o := intLane g r x i
      ⟨o.bits, o.flags ||| (8 * b2n ix)⟩

/-! ### VEXP2, VRCP, VRSQRT (R395): within a tolerance -/

/-- The largest value of a format's grid not above m x 2^e, in units of 2^q, and whether it is exact. -/
def fpGrid (F : FpFmt) (m : Nat) (e : Int) : Nat × Int × Bool :=
  let q := fpQuantum F m e
  if q ≤ e then (m * 2 ^ (e - q).toNat, q, true) else (m / 2 ^ (q - e).toNat, q, m % 2 ^ (q - e).toNat = 0)

/-- A result within the tolerance of R395 of the value whose bits, with a last bit for what was cut off, are m x 2^e: 2
units in the last place in FP32, 1 in BF16. Which one it is, is free (log entry 11). -/
def fpNear (f : Nat) (r : Rnd) (x : Src) (neg : Bool) (m : Nat) (e : Int) : LaneOut :=
  let (g, q, ex) := fpGrid (fpFmt f) m e
  let tol : Int := if f = 4 then 2 else 1
  let k := clampI (if ex then -tol else 1 - tol) tol (Config.ulpError x.op f x.seed x.lane)
  let o := fpRound f ⟨1, r.ovf⟩ neg ((g : Int) + k).toNat q
  ⟨o.bits, o.flags ||| (if ex then 0 else 8)⟩

/-- 2^(2^-i) in units of 2^-96. -/
def exp2Root : Nat → Nat
  | 0 => 2 * 2 ^ 96
  | i + 1 => Nat.sqrt (exp2Root i * 2 ^ 96)

/-- 2^(F / 2^64) in units of 2^-96, over the `i` highest bits of the fraction. -/
def exp2Frac (F : Nat) : Nat → Nat
  | 0 => 2 ^ 96
  | i + 1 => if bit F (63 - i) then exp2Frac F i * exp2Root (i + 1) / 2 ^ 96 else exp2Frac F i

/-- 2^x. -/
def exp2Lane (f : Nat) (r : Rnd) (x : Src) (v : Nat) : LaneOut :=
  match fpDecode f v with
  | .nan => ⟨nanBits f x, 0⟩
  | .inf n => if n then ⟨0, 0⟩ else ⟨fpOver f false, 0⟩
  | .fin n m e =>
    let lim : Bool := 1024 ≤ fpScaled false m (max e 0) 0 && 0 ≤ e
    let t : Int := fpScaled n m (max (e + 64) 0) 0
    let t : Int := if e + 64 < 0 then (if n then -1 else 0) else t
    let big : Bool := lim || 1024 * 2 ^ 64 ≤ t.natAbs
    if m = 0 then fpNear f r x false 1 0
    else if big then (if n then fpNear f r x false 1 (-2000) else ⟨if r.ovf then fpOver f false else fpMax f false, 10⟩)
    else
      let i := t / 2 ^ 64
      let F := (t % 2 ^ 64).toNat
      if F = 0 && 0 ≤ e + 64 then fpNear f r x false 1 i
      else fpNear f r x false (2 * exp2Frac F 64 + 1) (i - 97)

/-- 1/x; of zero the spec states none. -/
def rcpLane (f : Nat) (r : Rnd) (x : Src) (v : Nat) : LaneOut :=
  match fpDecode f v with
  | .nan => ⟨nanBits f x, 0⟩
  | .inf n => ⟨signBit (fpFmt f) n, 0⟩
  | .fin n m e =>
    if m = 0 then freeLane f x
    else
      let k := m.log2 + 64
      fpNear f r x n (2 * (2 ^ k / m) + b2n (2 ^ k % m ≠ 0)) (-(k : Int) - e - 1)

/-- 1/sqrt(x); of zero and of negative numbers the spec states none. -/
def rsqrtLane (f : Nat) (r : Rnd) (x : Src) (v : Nat) : LaneOut :=
  match fpDecode f v with
  | .nan => ⟨nanBits f x, 0⟩
  | .inf n => if n then freeLane f x else ⟨0, 0⟩
  | .fin n m e =>
    if n || m = 0 then freeLane f x
    else
      let m := if e % 2 = 0 then m else 2 * m
      let e := if e % 2 = 0 then e else e - 1
      let k := m.log2 / 2 + 64
      let y := Nat.sqrt (2 ^ (2 * k) / m)
      fpNear f r x false (2 * y + b2n (y * y * m ≠ 2 ^ (2 * k))) (-(k : Int) - e / 2 - 1)

/-! ### Matrix sums and weights (R391, R392, R396) -/

/-- One element of an FP MMA: the accumulator word plus the products, one rounding to FP32. -/
def macFp (x : Src) (fa fw acc : Nat) (l : List (Nat × Nat)) : LaneOut :=
  fpLane 4 ⟨0, true⟩ x (fpSumAll 0 (some (fpDecode 4 acc) :: l.map (fun p => fpMul (fpDecode fa p.1) (fpDecode fw p.2))))

/-- One element of an INT8 MMA (R392). -/
def macInt (acc : Nat) (l : List (Nat × Nat)) : LaneOut :=
  let v := sgn 32 acc + (l.map (fun p => sgn 8 p.1 * sgn 8 p.2)).sum
  let c := clampI (-2147483648) 2147483647 v
  ⟨twos 32 c, if c = v then 0 else 2⟩

/-- A weight of a grouped INT4 stream: RNE(w x s) in the output format, saturating (R396). -/
def int4Weight (g : Nat) (x : Src) (nib scale : Nat) : LaneOut :=
  let w := sgn 4 nib
  let o := fpLane g ⟨0, false⟩ x (match fpDecode 3 scale with
    | .inf _ => none
    | s => fpMul (.fin (w < 0) w.natAbs 0) s)
  ⟨o.bits, o.flags &&& 2⟩

end Sys2Proof.Machine
end

