-- ==== Sys2Proof/Machine/Ledger.lean ====
section
/-!
DEFINITION. The five ledgers (chapter 04): the movements other units make, columns and invariants, epochs, snapshots,
ledger faults and the reseal.
-/
namespace Sys2Proof.Machine
open Sys2Proof

/-! ### Counting (R113); a ledger fault freezes every column (R130, R131) -/

/-- A ledger fault is active. -/
def ledgerFaulted (s : State) : Bool := s.ledger.fault.isSome

/-- The columns count: no ledger fault is active and no thermal trip holds them (R120, R130). -/
def counting (s : State) : Bool := !ledgerFaulted s && s.trip.isNone

def modTok (s : State) (f : TokLedger → TokLedger) : State :=
  if counting s then { s with ledgers := { s.ledgers with tok := f s.ledgers.tok } } else s

def modCred (s : State) (t : Nat) (f : CredRow → CredRow) : State :=
  if counting s then { s with ledgers := { s.ledgers with cred := modAt {} s.ledgers.cred t f } } else s

def modTally (s : State) (t : Nat) (f : TallyRow → TallyRow) : State :=
  if counting s then { s with ledgers := { s.ledgers with tally := modAt {} s.ledgers.tally t f } } else s

def modSlots (s : State) (f : SlotLedger → SlotLedger) : State :=
  if counting s then { s with ledgers := { s.ledgers with slots := f s.ledgers.slots } } else s

/-- A movement of command `c`'s slot, which counts unless a reseal has set the ledger to its reset state since it was fetched. -/
def modSlotOf (c : Cmd) (s : State) (f : SlotLedger → SlotLedger) : State := if c.counted then modSlots s f else s

def modReplay (s : State) (p : Nat) (f : ReplayRow → ReplayRow) : State :=
  if counting s then { s with ledgers := { s.ledgers with replay := modAt {} s.ledgers.replay p f } } else s

/-- A write-off is logged and raises WRITE_OFF (R118); ledger, row, amount, unit. -/
def logWriteOff (s : State) (ledger row amount unit : Nat) : State :=
  raise (logEvent s 0x9003 2 .ledger [ledger, row, amount, unit]) .ledger 3

/-! ### Columns and invariants (Tables 4.1 to 4.6) -/

/-- Rows of a ledger (Table 4.1). -/
def ledgerRows : Nat → Nat
  | 0 => 1 | 1 => 8 | 2 => 8 | 3 => 1 | _ => 8

/-- Columns C0 to C7 of a row (Tables 4.2 to 4.6). -/
def columns (l : Ledgers) (led row : Nat) : List Nat :=
  match led with
  | 0 => [4928, l.tok.free, l.tok.held, l.tok.transit, l.tok.withheld, l.tok.retired, l.tok.shortfall, l.tok.budget]
  | 1 => let r := look {} l.cred row
         [r.capacity, r.senderHeld, r.inFlight, r.queued, r.returning, r.writtenOff, 0, 0]
  | 2 => let r := look {} l.tally row
         [r.issued.toNat % 2 ^ 32, r.issued.toNat / 2 ^ 32, r.applied.toNat % 2 ^ 32, r.applied.toNat / 2 ^ 32,
          r.inFlight, 0, 0, 0]
  | 3 => [256, l.slots.free, l.slots.fetched, l.slots.running, l.slots.completing, l.slots.completed.toNat, 0, 0]
  | _ => let r := look {} l.replay row
         [256, r.free, r.unacked, r.sent.toNat, r.acked.toNat, r.writtenOff.toNat, 0, 0]

/-- Token invariants (Table 4.1, ledger 0). -/
def tokOk (t : TokLedger) : Bool :=
  t.free + t.held + t.transit + t.withheld + t.retired = 4928 &&
  t.withheld + t.shortfall + t.retired + t.budget = 4928

/-- Message-credit invariant (ledger 1). -/
def credOk (r : CredRow) : Bool := r.senderHeld + r.inFlight + r.queued + r.returning = r.capacity

/-- Tally invariant (ledger 2), modulo 2^64. -/
def tallyOk (r : TallyRow) : Bool := r.issued = r.applied + BitVec.ofNat 64 r.inFlight

/-- Command-slot invariant (ledger 3). -/
def slotsOk (r : SlotLedger) : Bool := r.free + r.fetched + r.running + r.completing = 256

/-- Replay invariants (ledger 4), the second modulo 2^32. -/
def replayOk (r : ReplayRow) : Bool :=
  r.free + r.unacked = 256 && r.sent - r.acked - r.writtenOff = w32 r.unacked

/-- The invariants of a row hold. -/
def rowOk (l : Ledgers) (led row : Nat) : Bool :=
  match led with
  | 0 => tokOk l.tok
  | 1 => credOk (look {} l.cred row)
  | 2 => tallyOk (look {} l.tally row)
  | 3 => slotsOk l.slots
  | _ => replayOk (look {} l.replay row)

/-- Every row of every ledger, in order. -/
def allRows : List (Nat × Nat) := (List.range 5).flatMap (fun l => (List.range (ledgerRows l)).map (fun r => (l, r)))

/-- The first row whose invariants are broken; of several found by one check, the one of the lowest ledger and row (DESIGN
CHOICE, log entry 99). -/
def firstBroken (l : Ledgers) : Option (Nat × Nat) := allRows.find? (fun p => !rowOk l p.1 p.2)

/-- Every invariant of Table 4.1 holds. -/
def ledgersOk (l : Ledgers) : Bool := allRows.all (fun p => rowOk l p.1 p.2)

/-! ### Epochs (R117, R119) -/

/-- An epoch begins: the first since VSB became valid is 1 (R119, Table 4.10). The count wraps in its 16 bits (DESIGN CHOICE,
log entry 99). -/
def beginEpoch (s : State) : State :=
  { s with ledger := { s.ledger with epoch := if s.ledger.first then 1 else (s.ledger.epoch + 1) % 0x10000,
                                     first := false, open_ := true } }

/-- The epoch under way ends. -/
def endEpoch (s : State) : State := { s with ledger := { s.ledger with open_ := false } }

/-- The package is within the operating conditions of Table 20.6, as far as it measures them: VIN at the Hearth's last
measurement, VHBM while a tile has power, and the last readings of dies and stacks, in 0.25 degrees (log entry 97). -/
def withinOperating (s : State) : Bool :=
  (s.hearth.vinMv = 0 || (1746 ≤ s.hearth.vinMv && s.hearth.vinMv ≤ 1854)) &&
  (s.ao.vhbm || (List.range 8).all (fun t => (s.tile t).st = .off)) &&
  s.therm.sensors.all (fun e => e.2.failed ||
    e.2.temp.elim true (fun v => 0 ≤ v && v ≤ (if 96 ≤ e.1 && e.1 < 112 then 380 else 440)))

/-- GUARANTEED: the conditions of R117 hold. -/
def guaranteed (s : State) : Bool :=
  s.ledger.open_ && s.ao.vsb && s.ao.vin && s.trip.isNone && !ledgerFaulted s && withinOperating s

/-! ### Ledger fault (R130) -/

/-- A command that is to leave its cores and has halted none for it: no core has yielded or is being stopped. -/
def notLeft (s : State) (k : Nat) (c : Cmd) : Bool :=
  c.st = .running && c.switch = .leaving && c.ending.isNone && !c.aborting &&
  c.cores.all (fun n => (s.core n).slot ≠ some k || (!(s.core n).stopping && (s.core n).st ≠ .stopped))

/-- During a ledger fault no switch takes place: the quantum of a command that has halted no core yet renews (R469). -/
def renewQuanta (s : State) : State :=
  { s with host := { s.host with cmds := s.host.cmds.map (fun e =>
      (e.1, e.2.map (fun c => if notLeft s e.1 c then { c with switch := .on, expired := false } else c))) } }

/-- The hub stops grants, admissions and starts, freezes the columns and logs event 0x9001 (R130). -/
def ledgerFail (s : State) (inv : Bool) (led row col : Nat) : State :=
  if ledgerFaulted s then s
  else
    let s := renewQuanta { s with ledger := { s.ledger with fault := some ⟨inv, led, row, col⟩, open_ := false } }
    raise (logEvent s 0x9001 4 .ledger [b2n inv, led, row, col]) .ledger 0

/-- LEDGER_CHECK: an uncorrectable error of ledger state, or the first broken invariant, is a ledger fault (R130). -/
def execLedgerCheck (ecc : Option (Nat × Nat × Nat)) (s : State) : Host.Outcome State Fault Refusal :=
  if !hubOn s then .next s
  else match ecc with
  | some (l, r, c) => .next (ledgerFail s false l r c)
  | none => match firstBroken s.ledgers with
    | some (l, r) => .next (ledgerFail s true l r 0xF)
    | none => .next s

/-! ### Snapshots (R122 to R129) -/

/-- Snapshot buffer `b`. -/
def snapOf (s : State) (b : Nat) : Snap := if b = 0 then s.ledger.snap0 else s.ledger.snap1

def setSnap (s : State) (b : Nat) (x : Snap) : State :=
  if b = 0 then { s with ledger := { s.ledger with snap0 := x } } else { s with ledger := { s.ledger with snap1 := x } }

/-- Every ledger at this instant, into buffer `b` (R122, R129). -/
def capture (s : State) (b : Nat) : State :=
  setSnap s b { busy := true, done := false, frozen := ledgerFaulted s, unlocked := !s.ao.aoLock, ticks := s.ao.ticks,
                epoch := s.ledger.epoch, data := s.ledgers }

/-- A write of SNAP_CTRL (Table 4.13, R122, R125). -/
def writeSnapCtrl (w : RegWrite) (s : State) : State × RefCode :=
  let b := fld w.value.toNat 4 1
  let go := w.value.getLsbD 0
  guarded s .ledger 0x4C w { outOfRange := !w.full, wrongState := go && (snapOf s b).busy }
    (fun s => if go then capture s b else s)

/-- TAKE. -/
def execTake (w : RegWrite) (s : State) : Host.Outcome State Fault Refusal := .next (writeSnapCtrl w s).1

/-- SNAPSHOT_DONE: DONE sets for the buffer (R123). -/
def execSnapshotDone (b : Fin 2) (s : State) : Host.Outcome State Fault Refusal :=
  let x := snapOf s b
  if (hubOn s || ledgerHeld s .ledger) && x.busy then .next (raise (setSnap s b { x with busy := false, done := true }) .ledger (1 + b)) else .next s

/-! ### Reseal (R133) -/

/-- The budget in force (R26) from the retired tokens and the two caps. -/
def budgetOf (s : State) : Nat := min (4928 - s.token.retire) (min s.token.thermalCap s.token.inletCap)

/-- Tokens in their reset state, all FREE but RETIRED, with the budget in force withheld from FREE (R133, R114). -/
def tokReset (retired budget : Nat) : TokLedger :=
  { free := budget, held := 0, transit := 0, withheld := 4928 - retired - budget, retired := retired, shortfall := 0,
    budget := budget }

/-- The ledgers in their reset state (R133): tokens with RETIRED carried over, rows of ledgers 1 and 2 at 0, slots and replay
entries all FREE. -/
def resealed (s : State) : Ledgers := { tok := tokReset s.token.retire (budgetOf s) }

/-- A reseal: the ledgers take their reset state, and a slot or a flit in use then is counted as FREE until it is (R133; log
entry 55). -/
def resealUnits (s : State) : State :=
  let s := { s with ledgers := resealed s }
  let s := forEach (s.host.cmds.map (·.1)) s (fun s k => s.modCmd k (fun c => { c with counted := false }))
  forEach (List.range 8) s (fun s p =>
    s.modPort p (fun x => { x with unacked := x.unacked.map (fun y => { y with counted := false }) }))

end Sys2Proof.Machine
end

