-- ==== Sys2Proof/Machine/Mem.lean ====
section
/-!
DEFINITION. Device memory (chapter 13): addresses, capacity, lines and their check codes, poison, row repair, channel
retirement.
-/
namespace Sys2Proof.Machine
open Sys2Proof

/-! ### Addresses and capacity (R408 to R410) -/

/-- The stack of a DPA. -/
def dpaStack (a : Nat) : Nat := a / 2 ^ 36
/-- The offset of a DPA in its stack. -/
def dpaOff (a : Nat) : Nat := a % 2 ^ 36
/-- The line of a DPA. -/
def lineOf (a : Nat) : Nat := a / 64 * 64

/-- CAPACITY in MiB with `r` channels retired (R410). -/
def capMib (r : Nat) : Nat := (32 - r) * 1152

/-- CAPACITY of a stack in MiB: 0 out of service (R410, R426). -/
def stackMib (x : StackSt) : Nat := if x.cond = .failed then 0 else capMib x.gone.length

/-- The offset is mapped. -/
def mapped (s : State) (a : Nat) : Bool := dpaStack a < 8 && dpaOff a < stackMib (s.stack (dpaStack a)) * 2 ^ 20

/-- Every byte of the access is mapped in one stack's space. -/
def mappedAll (s : State) (a n : Nat) : Bool := mapped s a && mapped s (a + n - 1) && dpaStack (a + n - 1) = dpaStack a

/-- The stack can be used: its tile is Kindled or Stoked and it is neither LOST nor FAILED (R420, R430). -/
def stackUp (s : State) (t : Nat) : Bool :=
  ((s.tile t).st = .kindled || (s.tile t).st = .stoked) && (s.stack t).cond = .good

/-- The channel of an offset while the channels of `gone` are retired (R409); after a retirement the placement is not
exposed, and is a free value. -/
def channelOf (t : Nat) (gone : List Nat) (o : Nat) : Nat :=
  let b := o / 256
  if gone = [] then (b % 32) ^^^ (b / 32 % 32) ^^^ (b / 1024 % 32)
  else
    let rest := (List.range 32).filter (fun c => !gone.contains c)
    rest.getD (Config.placement t gone.length b % rest.length) 0

/-- The line at offset `o` lay on a channel when it was retired, below the new CAPACITY (R425). -/
def coveredOff (t : Nat) (gone : List Nat) (o : Nat) : Bool :=
  (List.range gone.length).any (fun k => channelOf t (gone.take k) o = gone.getD k 0 && o < capMib (k + 1) * 2 ^ 20)

/-- The line is covered by a retirement of its stack. -/
def covered (s : State) (a : Nat) : Bool := coveredOff (dpaStack a) (s.stack (dpaStack a)).gone (dpaOff a)

/-! ### Lines, poison, bytes (R421, R422, R434) -/

/-- The line at DPA `a` is poisoned. -/
def poisoned (s : State) (a : Nat) : Bool :=
  look 0 s.mem.poison (lineOf a) ≠ 0 || (covered s (lineOf a) && !s.mem.cleared.contains (lineOf a))

/-- The lines an access touches. -/
def linesOf (a n : Nat) : List Nat := (List.range ((a + n + 63) / 64 - a / 64)).map (fun k => lineOf a + 64 * k)

/-- The first poisoned line of an access. -/
def firstPoison (s : State) (a n : Nat) : Option Nat := (linesOf a n).find? (poisoned s)

/-- `n` bytes of device memory. -/
def memRead (s : State) (a n : Nat) : List Byte := lookList 0 s.mem.data a n

/-- Insert an address into a rising list. -/
def insertAddr (a : Nat) : List Nat → List Nat
  | [] => [a]
  | x :: xs => if a < x then a :: x :: xs else if a = x then x :: xs else x :: insertAddr a xs

/-- A whole write of the line clears its poison (R422). -/
def clearLine (s : State) (a : Nat) : State :=
  { s with mem := { s.mem with
      poison := put 0 s.mem.poison a 0,
      cleared := if covered s a then insertAddr a s.mem.cleared else s.mem.cleared } }

/-- Bytes are written; the lines written whole lose their poison (R422, R434). -/
def memWrite (s : State) (a : Nat) (bytes : List Byte) : State :=
  let s := { s with mem := { s.mem with data := putList 0 s.mem.data a bytes } }
  forEach ((linesOf a bytes.length).filter (fun l => a ≤ l && l + 64 ≤ a + bytes.length && poisoned s l)) s clearLine

/-- Every byte of a stack reads 0 and no line is poisoned (R411). -/
def zeroStack (s : State) (t : Nat) : State :=
  let keep (a : Nat) : Bool := dpaStack a ≠ t
  { s with mem := { s.mem with data := s.mem.data.filter (fun e => keep e.1), poison := s.mem.poison.filter (fun e => keep e.1),
                               cleared := s.mem.cleared.filter keep } }

/-- The stack is initialised on its tile's first entry to Kindled after a hub start, and leaves self-refresh on every
entry (R31, R411, R429). -/
def stackEnter (s : State) (t : Nat) : State :=
  let s := if (s.stack t).init then s else zeroStack s t
  s.modStack t (fun x => { x with init := true, selfRefresh := false })

/-- Bytes whose values the spec does not give. -/
def freeBytes (s : State) (n : Nat) : List Byte × State :=
  ((List.range n).map (fun k => (Config.freeWord (s.free + k)).setWidth 8), { s with free := s.free + n })

/-! ### Lost pages (R427) -/

/-- A page that loses a line enters the list once. -/
def lostAdd (x : StackSt) (page : Nat) (removed : Bool) : StackSt :=
  if x.lostList.any (fun e => e.1 = page) then
    { x with lostList := x.lostList.map (fun e => if e.1 = page then (e.1, e.2 || removed) else e) }
  else if x.lostList.length < 1024 then { x with lostList := x.lostList ++ [(page, removed)] }
  else { x with overflow := true }

/-- Every page of a stack loses a line: those at or above `newMib` are removed (R425, R426). -/
def lostAll (x : StackSt) (oldMib newMib : Nat) : StackSt :=
  let l := x.lostList.map (fun e => (e.1, e.2 || newMib ≤ 2 * e.1))
  let more := ((List.range (oldMib / 2)).filter (fun p => !l.any (fun e => e.1 = p))).map (fun p => (p, (newMib ≤ 2 * p : Bool)))
  { x with lostList := l ++ more.take (1024 - l.length), overflow := x.overflow || 1024 - l.length < more.length }

/-- First byte of page `k` of a placed slot's region. -/
def slotPage (x : PSlot) (k : Nat) : Nat := x.tile * 2 ^ 36 + (x.base + k) * 2 ^ 21

/-- Some admitted plate uses stack `t`. -/
def plateOnTile (s : State) (t : Nat) : Bool :=
  s.tenants.any (fun e => e.2.plates.any (fun p => p.2.any (fun pl => pl.slots.any (fun x => x.tile = t))))

/-- Plates whose code page holds a line that is now poisoned keep that in mind until they are unloaded (R472). -/
def latchCode (s : State) (f : Plate → Option Nat) : State :=
  let one (p : Plate) : Plate := if p.codeBad.isSome then p else { p with codeBad := f p }
  { s with tenants := s.tenants.map (fun e => (e.1, { e.2 with plates := e.2.plates.map (fun q => (q.1, q.2.map one)) })) }

/-- The first poisoned line of a plate's code pages (R472). -/
def codePoison (s : State) (p : Plate) : Option Nat :=
  (p.slots.filterMap (fun x => firstPoison s (slotPage x 0) (2 ^ 21))).head?

/-- The line, where it lies in a plate's code pages. -/
def codeLine (a : Nat) (p : Plate) : Option Nat :=
  if p.slots.any (fun x => slotPage x 0 ≤ a && a < slotPage x 0 + 2 ^ 21) then some a else none

/-! ### Loss of contents, retirement (R425, R426, R438, R439) -/

/-- The stack's contents are lost: event 0x4004 with its cause. -/
def stackLost (s : State) (t cause : Nat) : State :=
  let s := s.modStack t (fun x => { x with cond := if x.cond = .failed then .failed else .lost })
  raise (logEvent (zeroStack s t) 0x4004 3 (.mem t) [t, cause, 0, 0]) (.mem t) 3

/-- A fifth channel: the stack is taken out of service (R426). -/
def outOfService (s : State) (t : Nat) : State :=
  let s := s.modStack t (fun x => { lostAll x (stackMib x) 0 with cond := .failed })
  let s := raise (logEvent (zeroStack s t) 0x4004 3 (.mem t) [t, 1, 0, 0]) (.mem t) 3
  logEvent s 0x4005 3 (.mem t) [t, (s.stack t).gone.length, 0, 0]

/-- A channel is retired, or the stack taken out of service (R425, R426); a retirement due during another's stall
follows it. -/
def retireChannel (s : State) (t ch cause : Nat) : State :=
  let x := s.stack t
  if x.cond = .failed || x.gone.contains ch then s
  else if x.retiring then
    (if x.retireNext.any (fun e => e.1 = ch) then s else s.setStack t { x with retireNext := x.retireNext ++ [(ch, cause)] })
  else if 4 ≤ x.gone.length then outOfService s t
  else
    let new := capMib (x.gone.length + 1)
    let s := { s with mem := { s.mem with cleared := s.mem.cleared.filter (fun a =>
      dpaStack a ≠ t || channelOf t x.gone (dpaOff a) ≠ ch) } }
    let s := s.setStack t { lostAll x (stackMib x) new with gone := x.gone ++ [ch], retiring := true }
    let s := latchCode s (codePoison s)
    raise (logEvent s 0x4003 3 (.mem t) [t, ch, cause, new]) (.mem t) 2

/-- The stall ends; a retirement that fell due in it follows. -/
def retireEnd (s : State) (t : Nat) : State :=
  let x := s.stack t
  if !x.retiring then s
  else match x.retireNext with
  | [] => s.setStack t { x with retiring := false }
  | (ch, cause) :: rest => retireChannel (s.setStack t { x with retiring := false, retireNext := rest }) t ch cause

def modChan (s : State) (t ch : Nat) (f : ChanSt → ChanSt) : State :=
  s.modStack t (fun x => { x with chans := modAt {} x.chans ch f })

/-- AO ticks within the last 24 h. -/
def lastDay (s : State) (l : List Nat) : List Nat := l.filter (fun t => withinUs s t 86400000000)

/-- A row of a stack by its channel and its bank and row, which a channel numbers by itself (Table 13.3). -/
def rowKey (ch row : Nat) : Nat := 32 * row + ch

/-- The channel of a line now. -/
def lineChannel (s : State) (a : Nat) : Nat := channelOf (dpaStack a) (s.stack (dpaStack a)).gone (dpaOff a)

/-- A line is poisoned (R421, R425, R427, R472): source 0 engine, 1 scrub, 2 BAR2, 3 repair; `row` is its row. -/
def markPoison (s : State) (a src row : Nat) : State :=
  let t := dpaStack a
  let ch := lineChannel s a
  let s := { s with mem := { s.mem with poison := put 0 s.mem.poison a (rowKey ch row + 1) } }
  let s := s.modStack t (fun x => { lostAdd x (dpaOff a / 2 ^ 21) false with uncorr := satInc x.uncorr 0xFFFF, errAddr := a })
  let s := modChan s t ch (fun c => { c with poisoned := s.ao.ticks :: lastDay s c.poisoned })
  raise (logEvent (latchCode s (codeLine a)) 0x4001 2 (.mem t) [t, dpaOff a / 64, src, 0]) (.mem t) 0

/-- Lines of channel `ch` of stack `t` that a repair, copying their row, finds to be uncorrectable (R424). -/
def repairFinds (s : State) (t ch : Nat) (l : List Nat) : List Nat :=
  l.filter (fun a => a % 64 = 0 && dpaStack a = t && mapped s a && lineChannel s a = ch)

/-- A failing row moves to a spare row, its lines being copied, or counts as unrepairable (R424). `more` are the lines that the
copying finds to be uncorrectable. -/
def rowRepair (s : State) (t ch row : Nat) (spare : Bool) (more : List Nat) : State :=
  if spare then
    let s := forEach (repairFinds s t ch more) s (fun s a => if poisoned s a then s else markPoison s a 3 row)
    let lost := (s.mem.poison.filter (fun e => dpaStack e.1 = t && e.2 = rowKey ch row + 1)).length
    let s := modChan s t ch (fun c => { c with repairs := satInc c.repairs 255 })
    let s := s.modStack t (fun x => { x with rowErrs := put [] x.rowErrs (rowKey ch row) [] })
    raise (logEvent s 0x4002 1 (.mem t) [t, ch, row, lost]) (.mem t) 1
  else if (s.stack t).badRows.contains (rowKey ch row) then s
  else
    let s := modChan s t ch (fun c => { c with unrepairable := satInc c.unrepairable 255 })
    s.modStack t (fun x => { x with badRows := x.badRows ++ [rowKey ch row] })

/-- A channel's counts are judged: eight unrepairable rows, or 16 uncorrectable lines in 24 h, retire it (R425). -/
def channelJudge (s : State) (t ch : Nat) : State :=
  let c := look {} (s.stack t).chans ch
  if 8 ≤ c.unrepairable then retireChannel s t ch 1
  else if 16 ≤ c.poisoned.length then retireChannel s t ch 0 else s

/-- A line is found to be uncorrectable: it is poisoned and its row repaired (R421, R424, R425). -/
def poisonLine (s : State) (a src row : Nat) (spare : Bool) (more : List Nat) : State :=
  let t := dpaStack a
  let ch := lineChannel s a
  channelJudge (rowRepair (markPoison s a src row) t ch row spare more) t ch

/-- What reading a line finds: a corrected error counts, and four of one row within 24 h repair it; an error that cannot
be corrected poisons the line (R421, R424, R435). -/
def eccRead (s : State) (a src : Nat) (e : EccRead) : State :=
  if poisoned s a then s
  else match e with
  | .clean => s
  | .corrected row spare more =>
    let t := dpaStack a
    let ch := lineChannel s a
    let errs := s.ao.ticks :: lastDay s (look [] (s.stack t).rowErrs (rowKey ch row))
    let s := s.modStack t (fun x => { x with corr := satInc x.corr 0xFFFF, rowErrs := put [] x.rowErrs (rowKey ch row) errs })
    if 4 ≤ errs.length then channelJudge (rowRepair s t ch row spare more) t ch else s
  | .uncorrectable row spare more => poisonLine s (lineOf a) src row spare more

/-- What a command's reads find, line by line; `reads` says which lines it reads. Reads that are no engine's, scrub's or BAR2's are
logged with source 0 (log entry 58). -/
def eccFound (s : State) (reads : Nat → Bool) (l : EccFound) : State :=
  forEach (l.filter (fun e => e.1 % 64 = 0 && mapped s e.1 && stackUp s (dpaStack e.1) && reads e.1)) s (fun s e => eccRead s e.1 0 e.2)

/-- The line is one of an access. -/
def inLines (a n l : Nat) : Bool := lineOf a ≤ l && l < a + n

end Sys2Proof.Machine
end

