-- ==== Sys2Proof/Machine/HostCmd.lean ====
section
/-!
DEFINITION. Commands and their slots as every chapter needs them: plates, the records of completed commands, the slot
ledger's moves, the queues' interrupts (chapters 14, 15).
-/
namespace Sys2Proof.Machine
open Sys2Proof

/-! ### Plates (R448, R449) -/

/-- The plate a tenant's handle names. -/
def plateOf (s : State) (n h : Nat) : Option Plate := look none (s.tenant n).plates h

/-- Logical cores of a placed slot. -/
def slotCores (x : PSlot) : List Nat := (bitsOf 64 x.mask.toNat).map (· + 64 * x.tile)

/-- Logical cores of a plate. -/
def plateCores (p : Plate) : List Nat := p.slots.flatMap slotCores

/-- The plate a command names. -/
def cmdPlate (s : State) (c : Cmd) : Option Plate := plateOf s c.tenant c.desc.handle

/-- The tally is in the plate's allocation (R453). -/
def plateTally (p : Plate) (t : Nat) : Bool := p.slots.any (fun x => x.tally ≤ t && t < x.tally + p.tallies)

/-! ### Slots in use -/

/-- The slots in use, with their commands. -/
def slotList (s : State) : List (Nat × Cmd) := s.host.cmds.filterMap (fun e => e.2.map (fun c => (e.1, c)))

/-- The queue is an administrative one. -/
def isAdm (q : Nat) : Bool := 256 ≤ q

/-- The page of a queue's registers. -/
def queuePage (q : Nat) : PageRef := if isAdm q then .hostif else .queue q

/-- Set a cause of a queue: INT_RAW of its page, or ADM_INT with its vector 58 + a (R477, Table 15.11). -/
def raiseQueue (s : State) (q i : Nat) : State :=
  if isAdm q then
    let s' := s.modQueue q (fun x => { x with admInt := x.admInt ||| BitVec.ofNat 3 (2 ^ i) })
    if (s.queue q).admInt &&& (s.queue q).admIntEn = 0 && (s'.queue q).admInt &&& (s'.queue q).admIntEn ≠ 0 then
      emit s' (.msix none (58 + (q - 256)))
    else s'
  else raise s (.queue q) i

/-! ### Records (R487, R492, R493) -/

/-- Bit of a descriptor's FLAGS. -/
def Desc.flag (d : Desc) (i : Nat) : Bool := d.flags.getLsbD i

/-- The record of a command with this outcome. -/
def mkRec (s : State) (c : Cmd) (status result detail resource handle : Nat) : CompRec :=
  { tag := c.desc.tag, status := status, dup := false, replaySafe := c.desc.flag 0, irq := c.desc.flag 1,
    resource := resource, handle := handle, opcode := c.desc.opcode, result := w32 result, detail := w32 detail,
    runUs := if c.st = .running then min (usSince s c.startAt) 0xFFFFFFFF else 0 }

/-- The tenant's drain, or the one of a host reset, has nothing left, and no descriptor is being read that was when it
started: DONE sets and event 0x5005 is logged (R462, R498, R502). -/
def drainCheck (s : State) (n : Nat) : State :=
  let t := s.tenant n
  if ((t.go && !t.done) || t.resetDrain) && !(slotList s).any (fun e => e.2.tenant = n) && !s.host.fetchDrains.any (fun e => e.1 = n) then
    raise (logEvent (s.setTenant n { t with done := true, resetDrain := false }) 0x5005 0 (.tenant n)
      [n, b2n (t.mode || t.resetDrain), t.aborted, 0]) (.tenant n) 2
  else s

/-- A drain of tenant `n` starts: a descriptor of its queues, or of an administrative queue, that is being read is reached by
it (R502). -/
def drainReads (s : State) (n : Nat) (abort : Bool) : State :=
  if s.host.fetching.any (fun q => isAdm q || q / 8 = n) then
    { s with host := { s.host with fetchDrains := (n, abort) :: s.host.fetchDrains } }
  else s

/-- The descriptor read under way is over. -/
def readOver (s : State) : State :=
  { s with host := { s.host with fetching := none, fetchDrains := [], fetchReset := false } }

/-- COMPLETING to FREE: the record has been written or discarded, and COMPLETED increments (R487, R498). -/
def freeSlot (s : State) (k : Nat) : State :=
  match s.cmd k with
  | some c =>
    let s := modSlotOf c (s.setCmd k none)
      (fun l => { l with completing := l.completing - 1, free := l.free + 1, completed := l.completed + 1 })
    drainCheck s c.tenant
  | none => s

/-- The record is ready: FETCHED or RUNNING to COMPLETING, and the command's cores are free of it (R487). Aborted commands
are counted for their tenant's drain (event 0x5005); a record to be discarded frees its slot at once (R498, R506). -/
def completeCmd (s : State) (k : Nat) (r : CompRec) : State :=
  match s.cmd k with
  | none => s
  | some c =>
    match c.st with
    | .completing => s
    | st =>
      let s := forEach c.cores s (fun s n => s.modCore n (fun x => if x.slot = some k then { x with slot := none } else x))
      let s := s.setCmd k (some { c with st := .completing, record := some r, ending := none, readyOrder := s.host.nextOrder })
      let s := { s with host := { s.host with nextOrder := s.host.nextOrder + 1 } }
      let s := if r.status = 0x22 then s.modTenant c.tenant (fun t => { t with aborted := t.aborted + 1 }) else s
      let s := modSlotOf c s (fun l => if st = .fetched then { l with fetched := l.fetched - 1, completing := l.completing + 1 }
        else { l with running := l.running - 1, completing := l.completing + 1 })
      if c.discard then freeSlot s k else s

/-- A command ends without executing (R487). -/
def completePlain (s : State) (k status result detail : Nat) : State :=
  match s.cmd k with
  | none => s
  | some c => completeCmd s k (mkRec s c status result detail 0 c.desc.handle)

/-- FETCHED to RUNNING: execution begins (R487). -/
def beginCmd (s : State) (k : Nat) : State :=
  match s.cmd k with
  | some c =>
    if c.st = .fetched then
      modSlotOf c (s.setCmd k (some { c with st := .running, startAt := s.ao.ticks }))
        (fun l => { l with fetched := l.fetched - 1, running := l.running + 1 })
    else s
  | none => s

end Sys2Proof.Machine
end

