-- ==== Sys2Proof/Machine/Cal.lean ====
section
/-!
DEFINITION. The calibration image and its fields, the record and its checks, slot selection, the background erase, the
hold-up measurement and the store (chapter 19).
-/
namespace Sys2Proof.Machine
open Sys2Proof

/-! ### CRC-32C, shared by the record (R616) and TMB frames (R585) -/

/-- One bit of the reflected CRC-32C division. -/
def crcBit (c : Word) : Word := if c.getLsbD 0 then (c >>> 1) ^^^ 0x82F63B78 else c >>> 1

/-- One byte of CRC-32C. -/
def crcByte (c : Word) (b : Byte) : Word :=
  crcBit (crcBit (crcBit (crcBit (crcBit (crcBit (crcBit (crcBit (c ^^^ b.setWidth 32))))))))

/-- CRC-32C of a list of bytes. -/
def crc32c (l : List Byte) : Word := ~~~ (l.foldl crcByte 0xFFFFFFFF)

/-! ### The image (Table 19.2) -/

/-- `o` is one of the `n` offsets from `lo`. -/
def within (o lo n : Nat) : Bool := lo ≤ o && o < lo + n

/-- Record offset `o` holds a field of Table 19.2; every other byte of the body is 0. -/
def recField (o : Nat) : Bool :=
  (within o 0x40 160 && o % 8 ≠ 7) || (within o 0x100 3424 && o % 8 < 6) || (within o 0x1000 8560 && o % 4 ≠ 1) ||
  (within o 0x3200 4896 && o % 4 ≠ 1) || (within o 0x4600 48 && o % 4 < 2) ||
  (within o 0x4640 384 && (o - 0x4640) % 48 ≠ 1 && (o - 0x4640) % 48 < 44) || within o 0x4800 64 || within o 0x4840 2 ||
  within o 0x4880 32 || within o 0x5000 0xC000

/-- Byte `o` of an image. -/
def imgByte (factory : Bool) (m : Sparse (Option Byte)) (o : Nat) : Byte :=
  (look none m o).getD (if factory && recField o then Config.factoryByte o else 0)

/-- Write byte `o` of an image; without the factory base a zero byte is not listed. -/
def imgPut (factory : Bool) (m : Sparse (Option Byte)) (o : Nat) (b : Byte) : Sparse (Option Byte) :=
  put none m o (if !factory && b = 0 then none else some b)

/-- The little-endian field of `n` bytes at record offset `o` of the image in force. -/
def calN (s : State) (o n : Nat) : Nat :=
  leNat ((List.range n).map (fun k => imgByte s.cal.factory s.cal.image (o + k)))

/-- DIRTY: the image differs from the selected slot (R621). -/
def dirty (s : State) : Bool := s.cal.present && (s.cal.selected = 3 || s.cal.image ≠ s.cal.loaded)

/-- Write the field of `n` bytes at record offset `o`: a changed calibrated field changes the image, and DIRTY_SET is
raised when DIRTY sets (R621, INT_RAW of CAL). -/
def setCalN (s : State) (o n v : Nat) : State :=
  let img := (List.range n).foldl
    (fun m k => imgPut s.cal.factory m (o + k) (BitVec.ofNat 8 (v / 2 ^ (8 * k)))) s.cal.image
  let s' := { s with cal := { s.cal with image := img } }
  if dirty s' && !dirty s then raise s' .cal 2 else s'

/-- SETPOINT and RANGE of net `n`. -/
def calSetpoint (s : State) (n : Nat) : Nat := fld (calN s (0x40 + 8 * n) 2) 0 9
def calRange (s : State) (n : Nat) : Bool := bit (calN s (0x40 + 8 * n) 2) 12
def setCalTarget (s : State) (n code : Nat) (range : Bool) : State := setCalN s (0x40 + 8 * n) 2 (code + b2n range * 4096)
def calFloor (s : State) (n : Nat) : Nat := fld (calN s (0x42 + 8 * n) 2) 0 9
def calCeil (s : State) (n : Nat) : Nat := fld (calN s (0x44 + 8 * n) 2) 0 9
def calLoadline (s : State) (n : Nat) : Nat := calN s (0x46 + 8 * n) 1
def calDutyMax (s : State) (i : Nat) : Nat := fld (calN s (0x100 + 8 * i) 2) 0 12
def calPathBase (s : State) (i : Nat) : Nat := calN s (0x102 + 8 * i) 2
def calInBase (s : State) (i : Nat) : Nat := calN s (0x104 + 8 * i) 2
/-- Trim `k` of cell `i` (0 voltage, 1 to 4 phases 0 to 3): OFS and GAIN as stored. -/
def calTrimOfs (s : State) (i k : Nat) : Nat := calN s (0x1000 + (5 * i + k) * 4) 1
def calTrimGain (s : State) (i k : Nat) : Nat := calN s (0x1002 + (5 * i + k) * 4) 2
def calSurveyOfs (s : State) (d ch : Nat) : Nat := calN s (0x3200 + (102 * d + ch) * 4) 1
def calSurveyGain (s : State) (d ch : Nat) : Nat := calN s (0x3202 + (102 * d + ch) * 4) 2
def calFeedBase (s : State) (d : Nat) : Nat := calN s (0x4600 + 4 * d) 2
def calStep (s : State) (t : Nat) : Nat := calN s (0x4640 + 48 * t) 1
/-- VF code of STEP `k`, 12 to 32, of tile `t`. -/
def calVf (s : State) (t k : Nat) : Nat := calN s (0x4642 + 48 * t + 2 * (k - 12)) 2
def calAmp (s : State) (l : Nat) : Nat := calN s (0x4800 + l) 1
def calWtok (s : State) : Nat := fld (calN s 0x4840 2) 0 10
/-- Coefficient word `a` (set x 64 + word) of engine `d`, as the hub loaded it at this start (R184). -/
def bootCoef (s : State) (d a : Nat) : Word :=
  w32 (leNat ((List.range 4).map (fun k => imgByte s.cal.factory s.cal.boot (0x5000 + 0x1000 * d + 4 * a + k))))

/-- The tray key the record holds, unmasked; `none` when it is all 0 (Table 19.2). -/
def calKey (s : State) : Option (List Byte) :=
  let raw := (List.range 32).map (fun k => imgByte s.cal.factory s.cal.image (0x4880 + k))
  if raw.all (· = 0) then none else some ((raw.zip (List.range 32)).map (fun p => p.1 ^^^ Config.keyMask p.2))

/-- Install a tray key in the image (R600). -/
def setCalKey (s : State) (k : List Byte) : State :=
  setCalN s 0x4880 32 (leNat ((k.zip (List.range 32)).map (fun p => p.1 ^^^ Config.keyMask p.2)))

/-! ### The record (R616, R617, R618) -/

/-- LENGTH of a record at stepping A1. -/
def recordLen : Nat := 0x11000

/-- Header bytes 0 to 59 of a record (Table 19.1). -/
def headerBytes (gen : Word) (bodyCrc : Word) (time : Nat) : List Byte :=
  leBytes 4 0x524C4143 ++ leBytes 2 1 ++ leBytes 2 64 ++ leBytes 4 gen.toNat ++ leBytes 4 recordLen ++
  leBytes 8 Config.serial.toNat ++ leBytes 2 0x70 ++ leBytes 1 0xA1 ++ leBytes 1 0 ++ leBytes 4 bodyCrc.toNat ++
  leBytes 6 time ++ List.replicate 22 0

/-- Body bytes 64 to LENGTH - 1. -/
def bodyBytes (factory : Bool) (m : Sparse (Option Byte)) : List Byte :=
  (List.range (recordLen - 64)).map (fun k => imgByte factory m (64 + k))

/-- A whole record. -/
def recordBytes (factory : Bool) (m : Sparse (Option Byte)) (gen : Word) (time : Nat) : List Byte :=
  let body := bodyBytes factory m
  let h := headerBytes gen (crc32c body) time
  h ++ leBytes 4 (crc32c h).toNat ++ body

/-- The commit marker (R617). -/
def markerBytes (gen hdrCrc : Word) : List Byte :=
  leBytes 4 0x4D4D4F43 ++ leBytes 4 gen.toNat ++ leBytes 4 hdrCrc.toNat ++ leBytes 4 (~~~ gen).toNat

/-- Byte `o` of a slot as the NOR gives it: a byte not listed is erased (R614). -/
def slotByte (b : SlotBytes) (o : Nat) : Byte := look 0xFF b o

/-- The little-endian number of `n` bytes at slot offset `o`. -/
def slotN (b : SlotBytes) (o n : Nat) : Nat := leNat ((List.range n).map (fun k => slotByte b (o + k)))

def slotGen (b : SlotBytes) : Word := w32 (slotN b 8 4)

/-- The header meets Table 19.1 but for the serial and the CRCs. -/
def slotHeaderOk (b : SlotBytes) : Bool :=
  slotN b 0 4 = 0x524C4143 && slotN b 4 2 = 1 && slotN b 6 2 = 64 && slotGen b ≠ 0 && slotGen b ≠ 0xFFFFFFFF &&
  slotN b 12 4 = recordLen && slotN b 24 2 = 0x70 && slotN b 26 1 = 0xA1 && slotN b 27 1 = 0 &&
  (List.range 22).all (fun k => slotByte b (38 + k) = 0)

def slotHdrCrcOk (b : SlotBytes) : Bool := slotN b 60 4 = (crc32c ((List.range 60).map (slotByte b))).toNat
def slotBodyCrcOk (b : SlotBytes) : Bool :=
  slotN b 28 4 = (crc32c ((List.range (recordLen - 64)).map (fun k => slotByte b (64 + k)))).toNat
def slotSerialOk (b : SlotBytes) : Bool := slotN b 16 8 = Config.serial.toNat
def slotMarkerOk (b : SlotBytes) : Bool :=
  (List.range 16).map (fun k => slotByte b (0x3FFF0 + k)) = markerBytes (slotGen b) (w32 (slotN b 60 4))

/-- R618. -/
def slotValid (b : SlotBytes) : Bool :=
  slotHeaderOk b && slotHdrCrcOk b && slotBodyCrcOk b && slotSerialOk b && slotMarkerOk b

/-- The header is valid and the marker fails: an interrupted store (R618). -/
def slotInterrupted (b : SlotBytes) : Bool := slotHeaderOk b && slotHdrCrcOk b && slotSerialOk b && !slotMarkerOk b

/-- Cause in event 0x8014: 0 CRC, 1 serial, 2 header (Table 19.4). -/
def slotCause (b : SlotBytes) : Nat :=
  if !slotHeaderOk b then 2 else if !slotHdrCrcOk b || !slotBodyCrcOk b then 0 else if !slotSerialOk b then 1 else 2

/-! ### Selection at a hub start (R619, R620) -/

/-- The slot selected: 0 A, 1 B, 3 none (R619). -/
def selectSlot (va vb : Bool) (ga gb : Word) : Nat :=
  if va && vb then (if (ga - gb).toNat < 2 ^ 31 then 0 else 1) else if va then 0 else if vb then 1 else 3

/-- The log of an invalid slot beside a valid one (R619). -/
def logBadSlot (s : State) (slot : Nat) (b : SlotBytes) (ok other : Bool) : State :=
  if ok || !other then s
  else if slotInterrupted b then logEvent s 0x8012 1 .cal [slot, (slotGen b).toNat, 0, 0]
  else logEvent s 0x8014 2 .cal [slot, slotCause b, 0, 0]

/-- The image a record gives: the fields of its body, erased bytes of 0xFF among them (R614, R621). -/
def imageOf (b : SlotBytes) : Sparse (Option Byte) :=
  ((List.range recordLen).filter (fun o => recField o && slotByte b o ≠ 0)).map (fun o => (o, some (slotByte b o)))

/-- The hub has read both slots and selects one; with none valid the image is the factory calibration, FACTORY and
DIRTY are set and event 0x8003 is logged (R63, R619, R620). -/
def selectCal (s : State) (a b : SlotBytes) : State :=
  let va := slotValid a
  let vb := slotValid b
  let sel := selectSlot va vb (slotGen a) (slotGen b)
  let s := logBadSlot (logBadSlot s 0 a va vb) 1 b vb va
  let img := if sel = 0 then imageOf a else if sel = 1 then imageOf b else []
  let s := { s with
    cal := { s.cal with image := img, loaded := img, boot := img, factory := sel = 3, selected := sel, validA := va, validB := vb,
                        genA := if va then slotGen a else 0, genB := if vb then slotGen b else 0, blank := false,
                        present := true },
    power := { s.power with calSlot := sel } }
  if sel = 3 then
    raise (logEvent s 0x8003 2 .cal [(Config.crcResult (slotHdrCrcOk a && slotBodyCrcOk a)).toNat,
      (Config.crcResult (slotHdrCrcOk b && slotBodyCrcOk b)).toNat, 0, 0]) .cal 2
  else s

/-! ### Erase, hold-up, store -/

/-- The target slot: the slot not selected, or slot A (R621). -/
def targetSlot (s : State) : Nat := if s.cal.selected = 0 then 1 else 0

/-- A store is running (Table 19.3). -/
def storing (s : State) : Bool := s.cal.step ≠ .idle && s.cal.step ≠ .done

/-- An event of the AO domain: to the log while the hub has power, else to AO retention memory (R53, R625). -/
def logCal (s : State) (code sev : Nat) (args : List Nat) : State :=
  if hubOn s then logEvent s code sev .cal args else retainEvent s code sev .cal args

/-- CAL_ERASE: the AO domain starts to erase the target slot (R621). -/
def execCalErase (s : State) : Host.Outcome State Fault Refusal :=
  if s.ao.vsb && s.ao.vin && hubOn s && dirty s && !s.cal.blank && !s.cal.erasing && !storing s then
    let t := targetSlot s
    .next (emit { s with cal := { s.cal with
      erasing := true,
      validA := if t = 0 then false else s.cal.validA, genA := if t = 0 then 0 else s.cal.genA,
      validB := if t = 1 then false else s.cal.validB, genB := if t = 1 then 0 else s.cal.genB } } (.norErase t))
  else .next s

/-- CAL_ERASE_DONE: the erase ends; BLANK sets when the slot reads erased (R621, R629). -/
def execCalEraseDone (blank : Bool) (s : State) : Host.Outcome State Fault Refusal :=
  if s.cal.erasing then .next { s with cal := { s.cal with erasing := false, blank := blank } } else .next s

/-- GO's conditions (R624). -/
def goAccepted (s : State) : Bool := !storing s && !s.cal.measuring && dirty s && s.cal.blank

/-- GEN of the new record (R627). -/
def nextGen (s : State) : Word :=
  if s.cal.selected = 3 then 1
  else
    let g := (if s.cal.selected = 0 then s.cal.genA else s.cal.genB) + 1
    if g = 0 || g = 0xFFFFFFFF then 1 else g

/-- A store is accepted: the image is copied and CHECK begins with a measurement (R622, R626). -/
def startStore (s : State) : State :=
  { s with cal := { s.cal with step := .check, measuring := true, startAt := s.ao.ticks, startUnlocked := !s.ao.aoLock,
                               target := targetSlot s, gen := nextGen s, copy := s.cal.image } }

/-- A measurement begins (R622). -/
def startMeasure (s : State) : State := { s with cal := { s.cal with measuring := true } }

/-- A write of STORE (Table 19.6, R624, R630). -/
def writeStore (w : RegWrite) (s : State) : State × RefCode :=
  let go := w.value.getLsbD 0
  let meas := w.value.getLsbD 1
  guarded s .cal 0x4C w { outOfRange := !w.full, wrongState := (go && !goAccepted s) || (meas && storing s) }
    (fun s => if go then startStore s else if meas then startMeasure s else s)

/-- STORE_GO. -/
def execStoreGo (w : RegWrite) (s : State) : Host.Outcome State Fault Refusal := .next (writeStore w s).1

/-- MEASURE. -/
def execMeasure (w : RegWrite) (s : State) : Host.Outcome State Fault Refusal := .next (writeStore w s).1

/-- E in mJ, rounded down, from the samples in steps of 0.25 mV (R622); `none` where the droops give no C. -/
def holdupE (vStart dropB dropL : Nat) : Option Int :=
  if dropL ≤ dropB then none
  else some ((((vStart : Int) * vStart - 134560000) * 625) / (1000000 * ((dropL : Int) - dropB)))

/-- C in 0.1 mF, to nearest (R622, worked example 19.1). -/
def holdupC (dropB dropL : Nat) : Nat := (2 * 200000 + (dropL - dropB)) / (2 * (dropL - dropB))

/-- The measurement ends and HOLDUP and HOLDUP_V take its results; event 0x8013 (R622). Where the registers cannot
hold E or C, or the droops give none, the value is free (log entry 10). -/
def finishMeasure (s : State) (vStart dropB dropL : Nat) : State :=
  let (fe, s1) := freeVal s
  let (fc, s2) := freeVal s1
  let mj := match holdupE vStart dropB dropL with
    | some e => if 0 ≤ e && e < 65536 then e.toNat else fe.toNat % 65536
    | none => fe.toNat % 65536
  let c := if dropL ≤ dropB || 65535 < holdupC dropB dropL then fc.toNat % 65536 else holdupC dropB dropL
  let mv := vStart / 4 % 65536
  let s3 := { s2 with cal := { s2.cal with measuring := false, mj := mj, c := c, vStart := mv } }
  logCal s3 0x8013 0 [mj, c, mv, 0]

/-- The store ends without a commit (R626, R631). -/
def storeFail (s : State) (result step : Nat) (blank : Bool) : State :=
  let ms := msSince s s.cal.startAt % 65536
  raise (logCal { s with cal := { s.cal with step := .idle, result := result, ms := ms, measuring := false, blank := blank } }
    0x8011 2 [result, step, s.cal.mj, 0]) .cal 1

/-- STEP code (Table 19.6). -/
def StoreStep.num : StoreStep → Nat
  | .idle => 0 | .check => 1 | .program => 2 | .verify => 3 | .mark => 4 | .done => 5

/-- The store commits: the target is the selected slot, BLANK clears, DIRTY follows the image (R626, R628). -/
def storeCommit (s : State) : State :=
  let ms := msSince s s.cal.startAt % 65536
  let t := s.cal.target
  let s := { s with cal := { s.cal with
    step := .done, result := 0, ms := ms, selected := t, loaded := s.cal.copy, blank := false,
    validA := s.cal.validA || t = 0, genA := if t = 0 then s.cal.gen else s.cal.genA,
    validB := s.cal.validB || t = 1, genB := if t = 1 then s.cal.gen else s.cal.genB } }
  let s := raise (logCal s 0x8010 0 [t, s.cal.gen.toNat, ms, s.cal.mj]) .cal 0
  if dirty s then raise s .cal 2 else s

/-- NOR address of a slot (R614). -/
def slotAddr (t : Nat) : Nat := if t = 0 then 0x03F80000 else 0x03FC0000

/-- CAL_STORE_STEP_DONE: the present step of the store ends, well or not; the header page is programmed last (Table 19.3, R626,
R631). -/
def execCalStoreStepDone (ok : Bool) (s : State) : Host.Outcome State Fault Refusal :=
  match s.cal.step with
  | .check =>
    if s.cal.measuring then .next s
    else if s.cal.mj < 216 then .next (storeFail s 0x07 1 s.cal.blank)
    else .next { s with cal := { s.cal with step := .program } }
  | .program =>
    if ok then
      let r := recordBytes s.cal.factory s.cal.copy s.cal.gen (stamp s.cal.startUnlocked s.cal.startAt)
      .next (emit (emit { s with cal := { s.cal with step := .verify } } (.nor (slotAddr s.cal.target + 256) (r.drop 256)))
        (.nor (slotAddr s.cal.target) (r.take 256)))
    else .next (storeFail s 0x20 2 false)
  | .verify => if ok then .next { s with cal := { s.cal with step := .mark } } else .next (storeFail s 0x20 3 false)
  | .mark =>
    if ok then
      let h := headerBytes s.cal.gen (crc32c (bodyBytes s.cal.factory s.cal.copy)) (stamp s.cal.startUnlocked s.cal.startAt)
      .next (storeCommit (emit s (.nor (slotAddr s.cal.target + 0x3FFF0) (markerBytes s.cal.gen (crc32c h)))))
    else .next (storeFail s 0x20 4 false)
  | _ => .next s

/-- NOR_TIMEOUT: the NOR does not complete an operation of the store in time (R631); an erase it breaks off leaves
BLANK at 0. -/
def execNorTimeout (s : State) : Host.Outcome State Fault Refusal :=
  match s.cal.step with
  | .program | .verify | .mark => .next (storeFail s 0x20 s.cal.step.num false)
  | _ => if s.cal.erasing then .next { s with cal := { s.cal with erasing := false, blank := false } } else .next s

/-- The automatic store at VIN loss; a measurement that runs is its CHECK (R624, R625, R657). -/
def autoStore (s : State) : State :=
  if s.cal.auto && dirty s then
    if s.cal.blank then (if storing s then s else startStore s)
    else
      raise (retainEvent { s with cal := { s.cal with result := 0x21, step := if storing s then s.cal.step else .idle } }
        0x8011 2 .cal [0x21, 0, s.cal.mj, 0]) .cal 1
  else s

/-! ### CAL page (Tables 19.5, 19.6) -/

/-- Block-specific registers of CAL. -/
def readCal (s : State) (off : Nat) : Word :=
  match off with
  | 0x40 => word [(0, s.cal.selected), (2, b2n s.cal.validA), (3, b2n s.cal.validB), (4, b2n (dirty s)),
      (5, b2n s.cal.blank), (6, b2n (s.cal.present && s.cal.selected = 3))]
  | 0x44 => s.cal.genA
  | 0x48 => s.cal.genB
  | 0x50 => word [(0, s.cal.step.num), (8, s.cal.result), (16, s.cal.ms)]
  | 0x54 => word [(0, s.cal.mj), (16, s.cal.c)]
  | 0x58 => word [(0, s.cal.vStart)]
  | 0x5C => word [(0, b2n s.cal.auto)]
  | _ => 0

/-- Writes of the CAL page's registers but the header's. -/
def writeCal (off : Nat) (w : RegWrite) (s : State) : State × RefCode :=
  match off with
  | 0x4C => writeStore w s
  | 0x5C => guarded s .cal off w {} (fun s =>
      { s with cal := { s.cal with auto := (w.merged (readCal s 0x5C)).getLsbD 0 } })
  | _ => roWrite s .cal off w

end Sys2Proof.Machine
end

