-- ==== Sys2Proof/Machine/Token.lean ====
section
/-!
DEFINITION. Current tokens (chapter 08): pool arithmetic, STOKE and EASE as the Hearth handles them, grants, recall and
the clamp, the budget in force, the TOKEN page.
-/
namespace Sys2Proof.Machine
open Sys2Proof

/-! ### The pool's arithmetic (R114, R115, R257) -/

/-- Eased tokens are credited: to WITHHELD until SHORTFALL is 0, then to FREE; a retirement not yet taken is then taken
from WITHHELD (R114, R115). `want` is RETIRED as R289 sets it. -/
def tokCredit (want n : Nat) (t : TokLedger) : TokLedger :=
  let a := min n t.shortfall
  let x := min (want - t.retired) (t.withheld + a)
  { t with shortfall := t.shortfall - a, withheld := t.withheld + a - x, free := t.free + (n - a), retired := t.retired + x }

/-- RETIRED goes to `want`: a rise is taken from FREE, then from WITHHELD (R115); a fall returns to WITHHELD (R257). -/
def tokRetire (want : Nat) (t : TokLedger) : TokLedger :=
  if t.retired ≤ want then
    let a := min (want - t.retired) t.free
    let b := min (want - t.retired - a) t.withheld
    { t with free := t.free - a, withheld := t.withheld - b, retired := t.retired + a + b }
  else { t with retired := want, withheld := t.withheld + (t.retired - want) }

/-- WITHHELD and SHORTFALL are set against the budget in force: a fall moves FREE to WITHHELD and counts the remainder
as SHORTFALL (R114); a rise reduces SHORTFALL and then moves WITHHELD to FREE (R257). -/
def tokBudget (budget : Nat) (t : TokLedger) : TokLedger :=
  let want := 4928 - t.retired - budget
  let have_ := t.withheld + t.shortfall
  if have_ ≤ want then
    let a := min (want - have_) t.free
    { t with free := t.free - a, withheld := t.withheld + a, shortfall := t.shortfall + (want - have_ - a), budget := budget }
  else
    let a := min (have_ - want) t.shortfall
    let b := have_ - want - a
    { t with shortfall := t.shortfall - a, withheld := t.withheld - b, free := t.free + b, budget := budget }

/-- FREE to TRANSIT at a commit (R251). -/
def tokCommit (n : Nat) (t : TokLedger) : TokLedger := { t with free := t.free - n, transit := t.transit + n }
/-- TRANSIT to HELD when a grant is applied (R251). -/
def tokApply (n : Nat) (t : TokLedger) : TokLedger := { t with transit := t.transit - n, held := t.held + n }
/-- HELD to TRANSIT at an EASE (R248). -/
def tokEase (n : Nat) (t : TokLedger) : TokLedger := { t with held := t.held - n, transit := t.transit + n }
/-- Eased tokens reach the pool (R248, R114). -/
def tokReturn (want n : Nat) (t : TokLedger) : TokLedger := tokCredit want n { t with transit := t.transit - n }
/-- Tokens leave HELD for the pool at once: base tokens of a tile that leaves Stoked, a lost core's (R36, R118). -/
def tokGive (want n : Nat) (t : TokLedger) : TokLedger := tokCredit want n { t with held := t.held - n }
/-- Base tokens are charged from FREE (R36). -/
def tokCharge (n : Nat) (t : TokLedger) : TokLedger := { t with free := t.free - n, held := t.held + n }

/-! ### Cores and their tokens -/

/-- Cores that hold tokens: the Stoked cores (R245). -/
def stokedCores (s : State) : List Nat := (s.cores.filter (fun e => 0 < e.2.tok.held)).map (·.1)

/-- Stoked cores of tile `t`. -/
def tileCores (s : State) (t : Nat) : List Nat := (stokedCores s).filter (fun c => c / 64 = t)

/-- Holding plus committed tokens of a core. -/
def coreTotal (s : State) (c : Nat) : Nat := (s.core c).tok.held + (s.core c).tok.committed

def modTokOf (s : State) (c : Nat) (f : CoreTok → CoreTok) : State := s.modCore c (fun x => { x with tok := f x.tok })

/-- Recall target of a core: the lower of its two (R292). -/
def recallTarget (k : CoreTok) : Option Nat :=
  match k.recallG, k.recallT with
  | some a, some b => some (min a b)
  | some a, none => some a
  | none, b => b

/-- What the issue cap may rise to below `h`: no more than the target of an EASE that waits (R265). -/
def easeLimit (k : CoreTok) (h : Nat) : Nat := (k.easing.map (·.target)).foldl min h

/-- The issue cap in force: a clamp holds it at 1 (R259, R132). -/
def effCap (s : State) (k : CoreTok) : Nat := if k.clamped || s.token.clampAll then min k.cap 1 else k.cap

/-! ### Notices (R199, R251, R253, R269) -/

/-- The issue cap of core `c` LEAD from now: as the Hearth has planned it, a clamped core at 1 (R253). -/
def plannedCap (s : State) (c : Nat) : Nat :=
  let k := (s.core c).tok
  if k.clamped || s.token.clampAll then 1 else max k.cap (look 0 s.token.plan c)

/-- T of R253: the planned issue caps of the tile's Stoked cores. -/
def planT (s : State) (t : Nat) : Nat := ((tileCores s t).map (plannedCap s)).sum

/-- What a notice for net `n` carries of T (R253). -/
def noticeShare (n T : Nat) : Nat := if n % 2 = 0 then T - T / 8 else T / 8

/-- The planned issue cap rises by 2 towards what the core will hold; an EASE that waits limits it (R246, R265). -/
def planRise (s : State) (c : Nat) : State :=
  let k := (s.core c).tok
  let h := k.held + k.committed
  let lim := easeLimit k h
  if k.clamped || s.token.clampAll then s
  else { s with token := { s.token with plan := put 0 s.token.plan c (max k.cap (min lim (plannedCap s c + 2))) } }

/-- An EASE, a clamp or a stop lowers the planned issue cap at once (R246). -/
def planFall (s : State) (c h : Nat) : State :=
  { s with token := { s.token with plan := put 0 s.token.plan c (min (look 0 s.token.plan c) h) } }

/-- A notice for net `n` of die `t` cannot be delivered: event 0x1054, once until the die answers (R269). -/
def undeliverable (s : State) (t n : Nat) : State :=
  if s.token.undelivered.contains t then s
  else logEvent { s with token := { s.token with undelivered := t :: s.token.undelivered } } 0x1054 3 .token [t, n, 0, 0]

/-- A notice goes to net `n` when its value has changed: at once for a fall, else at most once in a frame of the engine of
die `n / 2` (R253). -/
def noticeNet (s : State) (n : Nat) (fall : Bool) : State :=
  let v := noticeShare n (planT s (n / 2))
  if look 0 s.token.notified n = v || (!fall && s.token.noticed.contains n) then s
  else if s.arb.unreachable.contains (n / 2) then undeliverable s (n / 2) n
  else { s with token := { s.token with
    notices := s.token.notices ++ [(n, v)], notified := put 0 s.token.notified n v,
    noticed := if s.token.noticed.contains n then s.token.noticed else n :: s.token.noticed } }

/-- Notices for the two nets of tile `t`. -/
def noticeTile (s : State) (t : Nat) (fall : Bool) : State := noticeNet (noticeNet s (2 * t) fall) (2 * t + 1) fall

/-- A frame of the engine of tile `t`, 100 ns: planned caps that began to rise before the last frame rise by 2, and the
notices that waited for the frame go (R246, R253). -/
def noticeFrame (s : State) (t : Nat) : State :=
  let s := forEach (tileCores s t) s (fun s c => if s.token.planNew.contains c then s else planRise s c)
  noticeTile { s with token := { s.token with
    planNew := s.token.planNew.filter (fun c => c / 64 ≠ t), noticed := s.token.noticed.filter (fun n => n / 2 ≠ t) } } t false

/-- The tenant whose command runs on a core (R249, R457). -/
def tenantOf (s : State) (c : Nat) : Option Nat :=
  match (s.core c).slot with
  | some k => (s.cmd k).map (·.tenant)
  | none => none

/-- Holdings plus committed tokens over all the tenant's commands (R460). -/
def tenantTokens (s : State) (n : Nat) : Nat :=
  (((stokedCores s).filter (fun c => tenantOf s c = some n)).map (coreTotal s)).sum

/-- Holdings plus committed tokens of a tile (R291). -/
def tileTotal (s : State) (t : Nat) : Nat := ((tileCores s t).map (coreTotal s)).sum

/-! ### Clamps and recalls (R258 to R261, R292) -/

/-- Lift a core's clamp (event 0x1052). -/
def liftClamp (s : State) (c : Nat) : State :=
  if (s.core c).tok.clamped then
    logEvent (modTokOf s c (fun k => { k with clamped := false })) 0x1052 0 .token [c, (s.core c).tok.held, 0, 0]
  else s

/-- Recalls a core has met are over, and its clamp with them (R259). -/
def meetRecall (s : State) (c : Nat) : State :=
  let k := (s.core c).tok
  match recallTarget k with
  | none => s
  | some r =>
    if k.held + k.committed ≤ r then
      liftClamp (modTokOf s c (fun k => { k with recallG := none, recallT := none, seen := false })) c
    else s

/-- The budget's recalls are withdrawn and every clamp not due to a tile's recall is lifted (R260). -/
def withdrawGlobal (s : State) : State :=
  let s := forEach (stokedCores s) s (fun s c =>
    if (s.core c).tok.recallG.isSome then
      let s := modTokOf s c (fun k => { k with recallG := none, seen := k.seen && k.recallT.isSome })
      if (s.core c).tok.recallT.isNone then liftClamp s c else s
    else s)
  { s with token := { s.token with level := 0 } }

/-- A tile's recalls are withdrawn (R260, R292). -/
def withdrawTile (s : State) (t : Nat) : State :=
  forEach (tileCores s t) s (fun s c =>
    if (s.core c).tok.recallT.isSome then
      let s := modTokOf s c (fun k => { k with recallT := none, seen := k.seen && k.recallG.isSome })
      if (s.core c).tok.recallG.isNone then liftClamp s c else s
    else s)

/-- excess(l) of R258 over some cores. -/
def excessOver (s : State) (cs : List Nat) (l : Nat) : Nat := (cs.map (fun c => coreTotal s c - l)).sum

/-- The recall level of R258: from 7 down to 1, the first whose excess covers the shortfall. -/
def recallLevel (s : State) (cs : List Nat) (short : Nat) : Nat → Nat
  | 0 => 1
  | l + 1 => if l = 0 then 1 else if excessOver s cs (l + 1) < short then recallLevel s cs short l else l + 1

/-- Set a recall target; a core that has received an earlier recall, neither met nor withdrawn, goes on showing one (R258, R397). -/
def setRecall (s : State) (c l : Nat) (tile : Bool) : State :=
  modTokOf s c (fun k => if tile then { k with recallT := some l } else { k with recallG := some l })

/-- The Hearth recalls for SHORTFALL (R258), to level 1 when the budget is below the base tokens (R261). `cause`: 0
thermal, 1 inlet, 2 retirement. -/
def recallGlobal (s : State) (cause : Nat) : State :=
  let cs := stokedCores s
  let sf := s.ledgers.tok.shortfall
  if sf = 0 || ledgerFaulted s then s
  else
    let low := s.token.inForce < cs.length
    let s := if low && !s.token.belowBase then
        raise (logEvent { s with token := { s.token with belowBase := true } } 0x1053 3 .token
          [s.token.inForce, cs.length, cause, 0]) .token 3
      else s
    let l := if low then 1 else recallLevel s cs sf 7
    let hit := cs.filter (fun c => l < coreTotal s c)
    let s := forEach hit s (fun s c => setRecall s c l false)
    let s := { s with token := { s.token with level := l } }
    raise (logEvent s 0x1050 1 .token [sf, l, hit.length, cause]) .token 1

/-- The Hearth recalls within tile `t` while it holds more than its cap, and withdraws the recall when it does not
(R292). -/
def tileRecall (s : State) (t : Nat) : State :=
  let cs := tileCores s t
  let ex := tileTotal s t - (s.tile t).cap
  if ex = 0 || ledgerFaulted s then (if ex = 0 then withdrawTile s t else s)
  else
    let l := recallLevel s cs ex 7
    let hit := cs.filter (fun c => l < coreTotal s c)
    let s := forEach hit s (fun s c => setRecall s c l true)
    raise (logEvent s 0x1050 1 .token [ex, l, hit.length, 2]) .token 1

/-- After a fall of a tile's holdings: its recall ends once the excess is 0. -/
def tileCheck (s : State) (t : Nat) : State := if tileTotal s t ≤ (s.tile t).cap then withdrawTile s t else s

/-! ### The queue of requests (R247 to R250) -/

/-- Why a request is set aside: quota (R249, R460), tile cap (R291), unreachable die (R269). -/
def asideDie (s : State) (r : TokReq) : Bool := s.arb.unreachable.contains (r.core / 64)
def asideFor (s : State) (r : TokReq) : Bool :=
  let need := r.target - coreTotal s r.core
  (match tenantOf s r.core with
   | some n => (s.tenant n).tokQuota < tenantTokens s n + need
   | none => false) ||
  (s.tile (r.core / 64)).cap < tileTotal s (r.core / 64) + need || asideDie s r

/-- A request joins those set aside; of a tile whose die does not answer, its notice cannot be delivered (R269). -/
def setAside (s : State) (r : TokReq) : State :=
  let s' := { s with token := { s.token with aside := s.token.aside ++ [r] } }
  if asideDie s r then undeliverable s' (r.core / 64) (2 * (r.core / 64)) else s'

/-- The order of rejoining: increasing core number (R250). -/
def insertReq (r : TokReq) : List TokReq → List TokReq
  | [] => [r]
  | x :: xs => if r.core ≤ x.core then r :: x :: xs else x :: insertReq r xs

/-- Every request set aside is judged again; those for which no condition holds rejoin the queue at its tail, in
increasing core number (R250). A command in whose course holdings fall calls this once, after all the falls. -/
def rejudge (s : State) : State :=
  let sorted := s.token.aside.foldr insertReq []
  forEach sorted { s with token := { s.token with aside := [] } } (fun s r =>
    if r.target ≤ coreTotal s r.core then s
    else if asideFor s r then { s with token := { s.token with aside := s.token.aside ++ [r] } }
    else { s with token := { s.token with queue := s.token.queue ++ [r] } })

/-- The core's request wherever it waits. -/
def requestOf (s : State) (c : Nat) : Option TokReq :=
  (s.token.sent ++ s.token.queue ++ s.token.aside).find? (fun r => r.core = c)

/-- Withdraw the core's request (R264, R265). -/
def withdrawReq (s : State) (c : Nat) : State :=
  let keep := fun (r : TokReq) => r.core ≠ c
  { s with token := { s.token with sent := s.token.sent.filter keep, queue := s.token.queue.filter keep,
                                   aside := s.token.aside.filter keep } }

/-- Replace the target of the core's request, which keeps its place (R264). -/
def retarget (s : State) (c h : Nat) : State :=
  let f := fun (r : TokReq) => if r.core = c then { r with target := h } else r
  { s with token := { s.token with sent := s.token.sent.map f, queue := s.token.queue.map f, aside := s.token.aside.map f } }

/-- STOKE to a target holding `h` (R247, R264). -/
def stokeTo (s : State) (c h : Nat) : State :=
  match requestOf s c with
  | some _ => if h ≤ coreTotal s c then withdrawReq s c else retarget s c h
  | none =>
    if h ≤ coreTotal s c then s
    else { s with token := { s.token with sent := s.token.sent ++ [⟨c, h, s.ao.ticks⟩] } }

/-- Issue cap and holding fall to `h` at once, and the Hearth announces the fall; the surplus enters TRANSIT (R248, R253),
but stays counted as HELD during a ledger fault (R131). Requests set aside are judged by the caller (R250). -/
def easeNow (s : State) (c h : Nat) : State :=
  let k := (s.core c).tok
  let s := if h < k.held then
      let s := noticeTile (planFall (modTokOf s c (fun k => { k with held := h, cap := min k.cap h })) c h) (c / 64) true
      if ledgerFaulted s then s
      else modTok { s with token := { s.token with returns := s.token.returns ++ [(c, k.held - h)] } } (tokEase (k.held - h))
    else s
  tileCheck (meetRecall s c) (c / 64)

/-- EASE to `h` (R248, R265): it withdraws a queued request, and waits for the grants in TRANSIT, those numbered so far, while the
core issues no more than `h`. -/
def easeTo (s : State) (c h : Nat) : State :=
  let s := withdrawReq s c
  let k := (s.core c).tok
  if 0 < k.committed then
    let s := modTokOf s c (fun k => { k with easing := k.easing ++ [⟨h, s.token.grantSeq⟩], cap := min k.cap h })
    noticeTile (planFall s c h) (c / 64) true
  else easeNow s c h

/-- An EASE that waited takes effect: no grant of core `c` that was in TRANSIT at it remains (R265). -/
def easeDue (s : State) (c : Nat) (e : Easing) : Bool := s.token.grants.all (fun g => g.core ≠ c || e.before ≤ g.seq)

/-- The EASEs of core `c` that are due take effect in their order (R265). -/
def settleEasing (s : State) (c : Nat) : State :=
  let l := (s.core c).tok.easing
  let keep := l.filter (fun e => !easeDue s c e)
  forEach (l.filter (easeDue s c)) (modTokOf s c (fun k => { k with easing := keep })) (fun s e => easeNow s c e.target)

/-- A program stopped: the core is eased to its base token and its clamp lifted (R254, R259). -/
def easeStopped (s : State) (c : Nat) : State :=
  if (s.core c).tok.held = 0 then s else liftClamp (easeTo s c 1) c

/-- STOKE_REQUEST: a request reaches the Hearth and is queued or set aside (R249, R291, R269). -/
def execStokeRequest (c : Nat) (s : State) : Host.Outcome State Fault Refusal :=
  match s.token.sent.find? (fun r => r.core = c) with
  | none => .next s
  | some r =>
    let s := { s with token := { s.token with sent := s.token.sent.filter (fun x => x.core ≠ c) } }
    .next (if asideFor s r then setAside s r else { s with token := { s.token with queue := s.token.queue ++ [r] } })

/-- Set aside every queued request of tile `t`. -/
def asideTile (s : State) (t : Nat) : State :=
  let q := s.token.queue.filter (fun r => r.core / 64 = t)
  forEach q { s with token := { s.token with queue := s.token.queue.filter (fun r => r.core / 64 ≠ t) } } setAside

/-- Commit the head request's tokens: FREE to TRANSIT, and the first step of the issue cap is announced (R251, R253). -/
def commitGrant (s : State) (r : TokReq) (need : Nat) : State :=
  let s := { s with token := { s.token with
    grants := s.token.grants ++ [⟨r.core, need, s.token.lead, s.token.grantSeq, false, 0, r.at_⟩],
    grantSeq := s.token.grantSeq + 1 } }
  let s := planRise (modTokOf s r.core (fun k => { k with committed := k.committed + need })) r.core
  let s := { s with token := { s.token with planNew := r.core :: s.token.planNew.filter (· ≠ r.core) } }
  modTok (noticeTile s (r.core / 64) false) (tokCommit need)

/-- GRANT_COMMIT: the Hearth serves the head of the queue: it waits for FREE, is set aside, or is committed (R249,
R251, R269); during a ledger fault it waits (R131). -/
def execGrantCommit (s : State) : Host.Outcome State Fault Refusal :=
  match s.token.queue with
  | [] => .next s
  | r :: rest =>
    let need := r.target - coreTotal s r.core
    let pop := { s with token := { s.token with queue := rest } }
    if !counting s then .next s
    else if need = 0 then .next pop
    else if asideDie s r then .next (asideTile s (r.core / 64))
    else if asideFor s r then .next (setAside pop r)
    else if s.ledgers.tok.free < need then .next s
    else .next (commitGrant pop r need)

/-- Change the first grant of core `c` that satisfies `p`. -/
def modGrant (s : State) (c : Nat) (p : Grant → Bool) (f : Grant → Grant) : State :=
  match s.token.grants.find? (fun g => g.core = c && p g) with
  | none => s
  | some g => { s with token := { s.token with
      grants := s.token.grants.map (fun x => if x.seq = g.seq then f x else x) } }

/-- GRANT_RELEASE: LEAD after the commit the grant is released to the core; a ledger fault stops it (R251, R130). -/
def execGrantRelease (c : Nat) (s : State) : Host.Outcome State Fault Refusal :=
  if !counting s then .next s
  else .next (modGrant s c (fun g => !g.released) (fun g => { g with released := true, sends := 1 }))

/-- Units of 10 ns since tick `t`. -/
def tenNsSince (s : State) (t : Nat) : Nat := (s.ao.ticks - t) * 100000000 / tickHz

/-- GRANT_APPLY: the grant is applied once: TRANSIT to HELD, the issue cap rises by 2, and an EASE that waited takes
effect (R246, R251, R265, R270). -/
def execGrantApply (c : Nat) (s : State) : Host.Outcome State Fault Refusal :=
  match s.token.grants.find? (fun g => g.core = c && g.released) with
  | none => .next s
  | some g =>
    let s := { s with token := { s.token with
      grants := s.token.grants.filter (fun x => x.seq ≠ g.seq),
      maxLat := max s.token.maxLat (min 0xFFFF (tenNsSince s g.stokeAt)) } }
    let s := modTokOf s c (fun k =>
      let h := k.held + g.n
      let lim := easeLimit k h
      { k with held := h, committed := k.committed - g.n, lastSeq := some g.seq,
               cap := if k.clamped then k.cap else max k.cap (min lim (k.cap + 2)) })
    let s := modTok s (tokApply g.n)
    .next (if (s.core c).tok.easing = [] then s else rejudge (settleEasing s c))

/-- ISSUE_CAP_STEP: the issue cap rises by 2 tokens until it equals the holding (R246). -/
def execIssueCapStep (c : Nat) (s : State) : Host.Outcome State Fault Refusal :=
  let k := (s.core c).tok
  let lim := easeLimit k k.held
  if k.clamped || lim ≤ k.cap then .next s
  else .next (modTokOf s c (fun k => { k with cap := min lim (k.cap + 2) }))

/-- The credit of tokens that reached the pool: recalls end when SHORTFALL is 0 (R114, R260). -/
def afterCredit (s : State) (sf : Nat) : State := if 0 < sf && s.ledgers.tok.shortfall = 0 then withdrawGlobal s else s

/-- TOKEN_RETURN: eased tokens of a core reach the pool (R248, R114). -/
def execTokenReturn (c : Nat) (s : State) : Host.Outcome State Fault Refusal :=
  match s.token.returns.find? (fun r => r.1 = c) with
  | none => .next s
  | some r =>
    let sf := s.ledgers.tok.shortfall
    if !counting s then .next s
    else .next (afterCredit (modTok { s with token := { s.token with returns := s.token.returns.erase r } }
      (tokReturn s.token.retire r.2)) sf)

/-- RECALL_RECEIVED: the recall reaches the core (R258, R397). -/
def execRecallReceived (c : Nat) (s : State) : Host.Outcome State Fault Refusal :=
  if (recallTarget (s.core c).tok).isSome then .next (modTokOf s c (fun k => { k with seen := true })) else .next s

/-- RECALL_TIMEOUT: a recalled core that has not eased is clamped to 1 token (R259). -/
def execRecallTimeout (c : Nat) (s : State) : Host.Outcome State Fault Refusal :=
  let k := (s.core c).tok
  match recallTarget k with
  | some r =>
    if k.seen && !k.clamped && r < k.held then
      let s := noticeTile (planFall (modTokOf s c (fun k => { k with clamped := true, cap := min k.cap 1 })) c 1) (c / 64) true
      let s := { s with token := { s.token with clamps := satInc s.token.clamps 0xFFFF } }
      .next (raise (logEvent s 0x1051 2 .token [c, k.held, r, 0]) .token 2)
    else .next s
  | none => .next s

/-! ### Base tokens (R36), lost cores (R118) -/

/-- Every core of tile `t` is charged its base token, which is announced (R36, R253). -/
def chargeBase (s : State) (t : Nat) : State :=
  modTok (noticeTile (forEach ((List.range 64).map (· + 64 * t)) s (fun s c =>
    s.modCore c (fun x => { x with tok := { ({} : CoreTok) with held := 1, cap := 1, atStop := x.tok.atStop } }))) t false) (tokCharge 64)

/-- Take everything a core holds or has committed out of the core; what it was. -/
def dropTokens (s : State) (c : Nat) : State × Nat × Nat :=
  let k := (s.core c).tok
  let s := withdrawReq s c
  let s := { s with token := { s.token with grants := s.token.grants.filter (fun g => g.core ≠ c),
                                            plan := put 0 s.token.plan c 0, planNew := s.token.planNew.filter (· ≠ c) } }
  (modTokOf s c (fun k => { ({} : CoreTok) with atStop := k.atStop }), k.held, k.committed)

/-- Tokens held and committed return to the pool at once (R36, R118). -/
def givePool (s : State) (held transit : Nat) : State :=
  let sf := s.ledgers.tok.shortfall
  afterCredit (modTok s (fun t => tokReturn s.token.retire transit (tokGive s.token.retire held t))) sf

/-- A core's tokens return to the pool and its recalls end. -/
def returnAll (s : State) (c : Nat) : State :=
  let s := liftClamp s c
  let (s, h, m) := dropTokens s c
  givePool s h m

/-- The budget in force covers the base tokens of the Stoked cores again, as after a tile has left Stoked (R261). -/
def baseCovered (s : State) : State :=
  if s.token.belowBase && (stokedCores s).length ≤ s.token.inForce then { s with token := { s.token with belowBase := false } } else s

/-- Every core of tile `t` returns what it holds, and the Hearth announces it (R36, R253, R261). -/
def releaseBase (s : State) (t : Nat) : State := baseCovered (noticeTile (forEach (tileCores s t) s returnAll) t true)

/-! ### The budget in force (R26, R255 to R257) -/

/-- During a ledger fault every core's issue is clamped, and the fall announced (R132, R253). -/
def clampCores (s : State) : State :=
  forEach (List.range 8) { s with token := { s.token with clampAll := true } } (fun s t => noticeTile s t true)

/-- The budget in force takes the value of R26; a change logs event 0x1056 and raises BUDGET_CHANGED (R257). -/
def budgetMoved (s : State) : State :=
  let new := budgetOf s
  let old := s.token.inForce
  if new = old then s
  else raise (logEvent { s with token := { s.token with inForce := new } } 0x1056 0 .token
    [old, new, s.token.thermalCap, s.token.inletCap]) .token 0

/-- The budget in force follows the caps and RETIRED: event 0x1056, WITHHELD and SHORTFALL, recall (R114, R128, R257);
during a ledger fault a fall clamps every core (R132). -/
def budgetUpdate (s : State) (cause : Nat) : State :=
  let new := budgetOf s
  let old := s.token.inForce
  let sf := s.ledgers.tok.shortfall
  let s := budgetMoved s
  if !counting s then (if new < old && ledgerFaulted s then clampCores s else s)
  else
    let s := modTok s (fun t => tokBudget new (tokRetire s.token.retire t))
    let s := baseCovered s
    if sf < s.ledgers.tok.shortfall then recallGlobal s cause
    else if s.ledgers.tok.shortfall = 0 && 0 < sf then withdrawGlobal s else s

/-- The thermal cap changes (R313). -/
def setThermalCap (s : State) (cap : Nat) : State :=
  budgetUpdate { s with token := { s.token with thermalCap := cap } } 0

/-- RETIRED changes (R289); during a ledger fault it waits for the reseal (R299). -/
def setRetired (s : State) (n : Nat) : State :=
  if ledgerFaulted s then s else budgetUpdate { s with token := { s.token with retire := n } } 2

/-- IOUT of a net in 0.1 A (Table 5.17), from I_net in Q15.16. -/
def ioutOf (iQ : Int) : Nat := (divNear (iQ * 10) 65536).toNat % 65536

/-- UNTOK: ceil(I_16-19 / 0.25 A), with the sum in 0.1 A (R255). -/
def untokOf (s : State) : Nat := (2 * ([16, 17, 18, 19].map (fun n => ioutOf (s.net n).iQ)).sum + 4) / 5

/-- The inlet cap of R255; a negative result is 0. -/
def inletCapOf (watts vhbm01W vsbMw wtok untok : Nat) : Nat :=
  ((1000 * (watts : Int) - 100 * vhbm01W - vsbMw) / (wtok : Int) - untok).toNat

/-- The Hearth derives the inlet cap: a fall at once, a rise only by 32 tokens or more (R255, R256). A calibration whose
W_TOK is 0 leaves the formula without a result: the cap is a free value. DESIGN CHOICE; safe. Log entry 10. -/
def inletUpdate (s : State) : State :=
  let u := untokOf s
  let (w, s) := if calWtok s = 0 then freeVal s else (0, s)
  let cap := if calWtok s = 0 then w.toNat % 8192 else inletCapOf s.hearth.watts s.hearth.vhbmP s.hearth.vsbMw (calWtok s) u
  let s := { s with token := { s.token with untok := u % 512, lastCap := if s.hearth.watts = 0 then s.token.lastCap else cap } }
  let new := if s.hearth.watts = 0 then 4928
    else if cap < s.token.inletCap || s.token.inletCap + 32 ≤ cap then cap else s.token.inletCap
  if new = s.token.inletCap then s else budgetUpdate { s with token := { s.token with inletCap := new } } 1

/-! ### Reseal (R133) -/

/-- The ledgers are reset, the fault clears, a new epoch begins, retirements held pending are added, which may move the budget in
force, and grants resume (R132, R133, R257, R299). `phasesOut` gives RETIRED afresh. -/
def resealNow (retired : Nat) (s : State) : State :=
  let s := { s with token := { s.token with retire := retired, clampAll := false, returns := [], grants := [] } }
  let s := resealUnits s
  let s := beginEpoch { s with ledger := { s.ledger with fault := none }, token := { s.token with level := 0, belowBase := false } }
  budgetMoved (logEvent s 0x9002 1 .ledger [s.ledger.epoch, 0, 0, 0])

/-! ### TOKEN page (Tables 8.4 to 8.15) -/

/-- Cores under recall. -/
def recalledCount (s : State) : Nat := ((stokedCores s).filter (fun c => (recallTarget (s.core c).tok).isSome)).length

def readToken (s : State) (off : Nat) : Word :=
  let k := (s.core s.token.coreSel).tok
  let t := s.ledgers.tok
  match off with
  | 0x40 => word [(0, s.token.inForce), (16, t.retired)]
  | 0x44 => word [(0, s.token.thermalCap), (16, s.token.inletCap % 8192)]
  | 0x48 => word [(0, t.free), (16, t.withheld)]
  | 0x4C => word [(0, t.held), (16, t.transit)]
  | 0x50 => word [(0, t.shortfall), (13, s.token.level), (16, recalledCount s)]
  | 0x54 => word [(0, s.token.lead)]
  | 0x58 => word [(0, calWtok s)]
  | 0x5C => word [(0, s.token.lastCap % 8192), (16, s.token.untok)]
  | 0x60 => word [(0, s.token.queue.length % 1024), (10, s.token.aside.length % 1024)]
  | 0x64 => word [(0, s.token.coreSel)]
  | 0x68 => word [(0, k.held), (4, effCap s k), (8, ((s.token.queue ++ s.token.aside).find? (fun r => r.core = s.token.coreSel)).elim 0 (·.target)),
      (12, (recallTarget k).getD 0), (16, b2n k.clamped)]
  | 0x6C => word [(0, s.token.clamps), (16, s.token.maxLat)]
  | _ => 0

def writeToken (off : Nat) (w : RegWrite) (s : State) : State × RefCode :=
  match off with
  | 0x54 =>
    let v := fld (w.merged (readToken s off)).toNat 0 10
    guarded s .token off w { outOfRange := v < 100 || 1000 < v } (fun s => { s with token := { s.token with lead := v } })
  | 0x58 =>
    let v := fld (w.merged (readToken s off)).toNat 0 10
    guarded s .token off w { outOfRange := v < 100 || 500 < v } (fun s => setCalN s 0x4840 2 v)
  | 0x64 =>
    let v := fld (w.merged (readToken s off)).toNat 0 9
    guarded s .token off w {} (fun s => { s with token := { s.token with coreSel := v } })
  | _ => roWrite s .token off w

end Sys2Proof.Machine
end

