-- ==== Sys2Proof/Machine/Net.lean ====
section
/-!
DEFINITION. Nets and cells (chapter 05): set-points, slews, range changes, enabling and disabling, manual duty, and the
NET and CELL pages.
-/
namespace Sys2Proof.Machine
open Sys2Proof

/-! ### The reference (R141, R146, R151) -/

/-- SETPOINT of a net in microvolts (R138). -/
def targetUv (s : State) (n : Nat) : Nat := calSetpoint s n * 5000

/-- The slewed set-point at this tick, in microvolts (R141, R151). -/
def vsetNow (s : State) (n : Nat) : Nat :=
  let x := s.net n
  match x.slew with
  | none => x.vsetUv
  | some sl =>
    let d := sl.rate * (s.ao.ticks - sl.at_) * 1000000000 / tickHz
    if sl.fromUv ≤ targetUv s n then min (targetUv s n) (sl.fromUv + d) else max (targetUv s n) (sl.fromUv - d)

/-- The droop of the load line in microvolts: min(LOADLINE x I_net, 20 mV) (R146). -/
def droopUv (s : State) (n : Nat) : Int := min ((calLoadline s n : Int) * (s.net n).iQ / 65536) 20000

/-- V_ref in microvolts (R146). -/
def vrefUv (s : State) (n : Nat) : Int := (vsetNow s n : Int) - droopUv s n

/-- The reference moves towards SETPOINT at the rate in SLEW, from where it stands (R141, R165). The rate is the one SLEW holds when
the slew starts or is retargeted: a write of SLEW in between does not change it (DESIGN CHOICE, log entry 46). -/
def startSlew (s : State) (n : Nat) : State :=
  s.modNet n (fun x => { x with vsetUv := vsetNow s n, slew := some ⟨vsetNow s n, s.ao.ticks, x.rate⟩ })

/-! ### Cells in service, capacity (R137, R274, R277, R282) -/

/-- Phases in service of a cell: none while isolated or while its net is disabled by a fault. -/
def phasesIn (s : State) (i : Nat) : Nat :=
  let c := s.cell i
  if c.isolated || (s.net (cellNet i)).dead then 0 else popCount 4 c.phases.toNat

/-- Phases in service of a cell as far as the Hearth has heard (R297, R300). -/
def heardIn (s : State) (i : Nat) : Nat :=
  if (s.net (cellNet i)).dead then 0
  else match s.hearth.late.find? (fun f => f.cell = i) with
  | some f => f.known
  | none => phasesIn s i

/-- Continuous rating of the phases in service of a net, in mA (Table 5.18), as far as the Hearth has heard. -/
def capacityMa (s : State) (n : Nat) : Nat := 720 * ((netCells n).map (heardIn s)).sum

/-- Rating of a net with every phase in service, in mA (Table 5.1). -/
def ratingMa (n : Nat) : Nat := 2880 * (netCells n).length

/-- Cells in service of a net: those not isolated. A cell that a range change is reconfiguring, for at most 2 us, counts among them in
the SHARE_WT sum, CAPACITY and MEAS (DESIGN CHOICE, log entry 92). -/
def cellsIn (s : State) (n : Nat) : List Nat :=
  if (s.net n).dead then [] else (netCells n).filter (fun i => !(s.cell i).isolated)

/-! ### Enabling and disabling (R150, R151, R155, R168, R169) -/

/-- The Hearth enables a net: discharge paths off, cells in the net's range, V_set from the output that the loop ADCs measured last,
ramping at 1 mV/us to SETPOINT (R151, R168, R217, R284). -/
def netEnable (s : State) (n : Nat) : State :=
  let rg := calRange s n
  let s := forEach (netCells n) s (fun s i => s.modCell i (fun c => { c with rF := calPathBase s i }))
  let s := forEach (cellsIn s n) s (fun s i => s.modCell i (fun c =>
    { c with discharge := false, range := rg, preset := true, suspect := false }))
  s.modNet n (fun x => { x with st := .rising, roll := none, shared := true, vsetUv := x.voutMv * 1000,
                                slew := some ⟨x.voutMv * 1000, s.ao.ticks, 1⟩ })

/-- The cells of a net hold both switches off and turn on their discharge paths (R150, R155). -/
def netCellsOff (s : State) (n : Nat) : State :=
  forEach ((netCells n).filter (fun i => !(s.cell i).isolated)) s (fun s i => s.modCell i (fun c => { c with discharge := true }))

/-- The Hearth disables a net: FALLING. Its cells stop at the next frame boundary, or at once where the die's loop-engine clock has
stopped; a cell caught in mid-reconfiguration has stopped already, and is in its new range (R155, R168). -/
def netDisable (s : State) (n : Nat) : State :=
  match (s.net n).st with
  | .off | .falling => s
  | _ =>
    let s := match (s.net n).roll with
      | some r => (match r.cur with | some i => s.modCell i (fun c => { c with range := r.range, discharge := !c.isolated }) | none => s)
      | none => s
    let s := if (s.loopE (netDie n)).clk then s else netCellsOff s n
    let v := vsetNow s n
    s.modNet n (fun x => { x with st := .falling, roll := none, slew := none, vsetUv := v })

/-- A slew or a roll stops where it stands, since the net's tile leaves Kindled or Stoked for Off (R168). -/
def netHalt (s : State) (n : Nat) : State :=
  match (s.net n).st with
  | .on | .rolling =>
    let v := vsetNow s n
    s.modNet n (fun x => { x with slew := none, vsetUv := v, roll := x.roll.map (fun r => { r with halted := true }) })
  | _ => s

/-- The output of a disabled net is below 100 mV: OFF (R155). -/
def netOff (s : State) (n : Nat) : State := (netCellsOff s n).modNet n (fun x => { x with st := .off, slew := none, vsetUv := 0 })

/-- The enable ramp reaches SETPOINT: ON (R151). -/
def netOn (s : State) (n : Nat) : State :=
  s.modNet n (fun x => { x with st := .on, slew := none, vsetUv := targetUv s n })

/-! ### Range changes (R142 to R145, R166, R172) -/

/-- The next cell of a range change, skipping isolated ones; the last one ends the roll with ROLL_DONE and event 0x1021
(R143, R166). -/
def rollNext (s : State) (n : Nat) : List Nat → Nat → Nat → Bool → State
  | [], ch, sk, rg =>
    raise (logEvent (s.modNet n (fun x => { x with st := .on, roll := none })) 0x1021 0 (.net n) [n, b2n rg, ch, sk]) (.net n) 1
  | i :: rest, ch, sk, rg =>
    if (s.cell i).isolated then rollNext s n rest ch (sk + 1) rg
    else s.modNet n (fun x => { x with st := .rolling, roll := some { range := rg, slewing := false, todo := rest, cur := some i, changed := ch, skipped := sk } })

/-- A range change begins: first the slew to the written set-point, if one is needed (R143). -/
def startRoll (s : State) (n : Nat) (rg : Bool) : State :=
  if vsetNow s n = targetUv s n then
    rollNext (s.modNet n (fun x => { x with vsetUv := targetUv s n, slew := none })) n (netCells n) 0 0 rg
  else
    let s := startSlew s n
    s.modNet n (fun x => { x with st := .rolling, roll := some { range := rg, slewing := true, todo := netCells n, cur := none, changed := 0, skipped := 0 } })

/-- The cell being changed resumes in the new range, its duty preset, and the next begins (R143). -/
def cellResumed (s : State) (n i : Nat) (r : Roll) : State :=
  rollNext (s.modCell i (fun c => { c with range := r.range, preset := true })) n r.todo (r.changed + 1) r.skipped r.range

/-! ### TARGET (R138 to R145, R154, R338) -/

/-- The code is legal in the range (Table 5.2). -/
def codeIn (code : Nat) (range : Bool) : Bool := if range then 140 ≤ code && code ≤ 210 else 90 ≤ code && code ≤ 160

/-- A set-point in the overlap of the ranges (Table 5.2). -/
def inOverlap (code : Nat) : Bool := 140 ≤ code && code ≤ 160

/-- The state accepts a TARGET write to net `n` (R55, R154). -/
def targetState (s : State) (n : Nat) : Bool :=
  if n < 16 then
    match (s.tile (n / 2)).st with
    | .kindled | .stoked => true
    | .rising => (s.net n).st = .off
    | _ => false
  else true

/-- VF of the tile's present STEP; while a change runs, of the higher of the two (R338; log entry 28). -/
def stepVf (s : State) (t : Nat) : Nat :=
  match (s.tile t).changing with
  | some (old, _) => max (calVf s t old) (calVf s t (calStep s t))
  | none => calVf s t (calStep s t)

/-- A write of TARGET (Table 5.12). -/
def writeTarget (n : Nat) (w : RegWrite) (s : State) : State × RefCode :=
  let old := word [(0, calSetpoint s n), (12, b2n (calRange s n))]
  let v := w.merged old
  let code := fld v.toNat 0 9
  let rg := v.getLsbD 12
  let x := s.net n
  guarded s (.net n) 0x40 w
    { outOfRange := !codeIn code rg || code < calFloor s n || calCeil s n < code,
      wrongState := !targetState s n || x.st = .rolling ||
        (rg ≠ calRange s n && !(inOverlap code && inOverlap (calSetpoint s n))) ||
        (n < 16 && n % 2 = 0 && code < stepVf s (n / 2)) }
    (fun s =>
      let s' := if x.slew.isSome then startSlew s n else s
      let s' := setCalTarget s' n code rg
      if x.st = .on then
        (if rg ≠ calRange s n then startRoll s' n rg
         else if code ≠ calSetpoint s n then startSlew s' n else s')
      else s')

/-- TARGET_WRITE. -/
def execTargetWrite (n : Nat) (w : RegWrite) (s : State) : Host.Outcome State Fault Refusal := .next (writeTarget n w s).1

/-- SLEW_DONE: the reference reaches SETPOINT and AT_TARGET is raised; a range change goes on with its first cell
(R141, R143). -/
def execSlewDone (n : Nat) (s : State) : Host.Outcome State Fault Refusal :=
  let x := s.net n
  if x.slew.isNone || x.st = .rising then .next s
  else
    let s := raise (s.modNet n (fun x => { x with slew := none, vsetUv := targetUv s n })) (.net n) 0
    match x.roll with
    | some r => .next (if r.slewing then rollNext s n r.todo 0 0 r.range else s)
    | none => .next s

/-- CELL_ROLL_RESUME: the cell resumes in the new range (R143). -/
def execCellRollResume (i : Nat) (s : State) : Host.Outcome State Fault Refusal :=
  match (s.net (cellNet i)).roll with
  | some r => if r.cur = some i && !r.halted then .next (cellResumed s (cellNet i) i r) else .next s
  | none => .next s

/-- A sensed Q11.20 voltage in mV, to nearest. -/
def mvOf (q : Int) : Int := divNear (q * 1000) 1048576
/-- A sensed Q15.16 current in mA, to nearest. -/
def maOf (q : Int) : Int := divNear (q * 1000) 65536
/-- Microvolts in Q11.20. -/
def q20OfUv (uv : Int) : Int := divNear (uv * 1048576) 1000000

/-- A frame of an ON or ROLLING net outside V_ref ± 15 mV: one more frame of the excursion and its extreme so far; any other
frame ends it (R171). `v` is the output and `ref` V_ref, in Q11.20. -/
def bandWatch (x : NetSt) (v ref : Int) : NetSt :=
  if (x.st = .on || x.st = .rolling) && q20OfUv 15000 < (v - ref).natAbs then
    let far := x.bandFrames = 0 || ((x.bandMv : Int) - mvOf ref).natAbs < (mvOf v - mvOf ref).natAbs
    { x with bandFrames := x.bandFrames + 1, bandMv := if far then (mvOf v).toNat else x.bandMv }
  else { x with bandFrames := 0, bandMv := 0, bandTold := false }

/-- AO ticks of a number of 100 ns frames. -/
def frameTicks (n : Nat) : Nat := n * tickHz / 10000000

/-- OUT_OF_BAND: an excursion of an ON or ROLLING net that has lasted more than 10 us, 100 frames, is reported once
(R171). -/
def execOutOfBand (n : Nat) (s : State) : Host.Outcome State Fault Refusal :=
  let x := s.net n
  if (x.st = .on || x.st = .rolling) && 100 < x.bandFrames && !x.bandTold then
    .next (raise (logEvent (s.setNet n { x with bandTold := true }) 0x1022 2 (.net n)
      [n, (vrefUv s n / 1000).toNat, x.bandMv, frameTicks x.bandFrames]) (.net n) 2)
  else .next s

/-! ### NET page (Tables 5.11 to 5.18) -/


def readNet (s : State) (n off : Nat) : Word :=
  let x := s.net n
  match off with
  | 0x40 => word [(0, calSetpoint s n), (12, b2n (calRange s n))]
  | 0x44 => word [(0, if x.st = .off then 0 else vsetNow s n / 5000),
      (12, b2n (match cellsIn s n with | i :: _ => (s.cell i).range | [] => false)), (16, b2n x.slew.isSome)]
  | 0x48 => word [(0, calFloor s n), (16, calCeil s n)]
  | 0x4C => word [(0, x.rate)]
  | 0x50 => word [(0, calLoadline s n)]
  | 0x54 => word [(0, x.voutMv % 65536), (16, ioutOf x.iQ)]
  | 0x58 => word [(0, capacityMa s n), (20, (cellsIn s n).length)]
  | _ => 0

/-- LOADLINE may not be raised above its calibrated value, the one the hub loaded (R147). -/
def loadedLoadline (s : State) (n : Nat) : Nat := (imgByte s.cal.factory s.cal.boot (0x46 + 8 * n)).toNat

def writeNet (n off : Nat) (w : RegWrite) (s : State) : State × RefCode :=
  match off with
  | 0x40 => writeTarget n w s
  | 0x4C =>
    let v := fld (w.merged (readNet s n off)).toNat 0 4
    guarded s (.net n) off w { outOfRange := v = 0 || 10 < v } (fun s => s.modNet n (fun x => { x with rate := v }))
  | 0x50 =>
    let v := fld (w.merged (readNet s n off)).toNat 0 8
    guarded s (.net n) off w { outOfRange := loadedLoadline s n < v } (fun s => setCalN s (0x46 + 8 * n) 1 v)
  | _ => roWrite s (.net n) off w

/-! ### CELL page (Tables 5.19 to 5.25): mode, weight, duty -/

/-- A write of CELL_CTRL (Table 5.20, R149, R161, R167). -/
def writeCellCtrl (i : Nat) (w : RegWrite) (s : State) : State × RefCode :=
  let c := s.cell i
  let v := w.merged (word [(0, b2n c.manual), (4, c.shareWt)])
  let mode := v.getLsbD 0
  let wt := fld v.toNat 4 4
  guarded s (.cell i) 0x40 w
    { outOfRange := wt = 0,
      wrongState := mode && !(cellNet i < 16 && (s.tile (cellDie i)).st = .kindled) }
    (fun s =>
      let s := s.modCell i (fun c => { c with shareWt := wt })
      if mode = c.manual then s
      else
        let s := s.modCell i (fun c =>
          if mode then { c with manual := true, dutyReg := c.shadow, lateDuty := none } else { c with manual := false, transfer := true })
        raise (logEvent s 0x1023 1 (.cell i) [i, b2n mode, c.shadow.toNat, w.master.num]) (.cell i) 0)

/-- MODE_WRITE. -/
def execModeWrite (i : Nat) (w : RegWrite) (s : State) : Host.Outcome State Fault Refusal := .next (writeCellCtrl i w s).1

/-- SHARE_WT_WRITE. -/
def execShareWtWrite (i : Nat) (w : RegWrite) (s : State) : Host.Outcome State Fault Refusal := .next (writeCellCtrl i w s).1

/-- A write of DUTY (Table 5.21, R158, R159, R162); `late` says that it ends too late for the next reload. -/
def writeDuty (i : Nat) (late : Bool) (w : RegWrite) (s : State) : State × RefCode :=
  let v := fld (w.merged ((s.cell i).dutyReg.setWidth 32)).toNat 0 12
  guarded s (.cell i) 0x44 w { outOfRange := calDutyMax s i < v, wrongState := !(s.cell i).manual }
    (fun s => s.modCell i (fun c =>
      if late then { c with dutyReg := BitVec.ofNat 12 v, lateDuty := some (BitVec.ofNat 12 v) }
      else { c with dutyReg := BitVec.ofNat 12 v, shadow := BitVec.ofNat 12 v, shadowHost := true, lateDuty := none }))

/-- DUTY_WRITE. -/
def execDutyWrite (i : Nat) (late : Bool) (w : RegWrite) (s : State) : Host.Outcome State Fault Refusal :=
  .next (writeDuty i late w s).1

/-- The cell is switching: its net runs, or is disabled and its frame boundary has not come; it is not isolated, and it is not being
reconfigured (R150, R143, R155, R277). -/
def switching (s : State) (i : Nat) : Bool :=
  let x := s.net (cellNet i)
  i < numCells && !(s.cell i).isolated &&
  (x.st = .on || x.st = .rising || x.st = .rolling || (x.st = .falling && !(s.cell i).discharge)) &&
  (match x.roll with | some r => r.cur ≠ some i | none => true)

/-- DUTY_RELOAD: the cell loads the whole shadow into its phases; a write that came too late follows at the next reload
(R157, R159, R160). -/
def execDutyReload (i : Nat) (s : State) : Host.Outcome State Fault Refusal :=
  if switching s i then
    .next (s.modCell i (fun c =>
      let c := { c with applied := c.shadow, appliedHost := c.shadowHost, reloads := (c.reloads + 1) % 256 }
      match c.lateDuty with
      | some v => { c with shadow := v, shadowHost := true, lateDuty := none }
      | none => c))
  else .next s

/-- Step count of the last second (R287). -/
def lastSteps (s : State) (i : Nat) : Nat := ((s.cell i).stepTicks.filter (fun t => withinUs s t 1000000)).length

def readCell (s : State) (i off : Nat) : Word :=
  let c := s.cell i
  match off with
  | 0x40 => word [(0, b2n c.manual), (4, c.shareWt)]
  | 0x44 => c.dutyReg.setWidth 32
  | 0x48 => word [(0, c.applied.toNat), (16, b2n c.appliedHost), (24, c.reloads)]
  | 0x4C => word [(0, calDutyMax s i)]
  | 0x50 => word [(0, if phasesIn s i = 0 then 0 else c.phases.toNat), (4, b2n c.isolated), (5, b2n c.discharge), (6, b2n c.range)]
  | 0x54 => word [(0, twos 16 (mvOf c.vQ))]
  | 0x58 => word [(0, twos 16 (maOf c.i0Q)), (16, twos 16 (maOf c.i1Q))]
  | 0x5C => word [(0, twos 16 (maOf c.i2Q)), (16, twos 16 (maOf c.i3Q))]
  | 0x60 => word [(0, min c.rF 0xFFFF), (16, calPathBase s i)]
  | 0x64 => word [(0, min c.rIn 0xFFFF), (16, calInBase s i)]
  | 0x68 => word [(0, c.isoCause), (4, c.phCause.toNat), (16, b2n c.suspect), (17, b2n c.permanent)]
  | 0x6C => word [(0, c.steps), (16, min (lastSteps s i) 0xFFFF)]
  | _ => 0

end Sys2Proof.Machine
end

