-- ==== Sys2Proof/Machine/Loop.lean ====
section
/-!
DEFINITION. Loop engines (chapter 06): the control law in its fixed-point formats, coefficient and schedule memory, the
schedule's checks, injection, capture settings, and the LOOP page. The frame itself is in LoopFrame.lean.
-/
namespace Sys2Proof.Machine
open Sys2Proof

/-! ### Fixed-point arithmetic (R178 to R181) -/

/-- A result stored in 32 bits, saturated (R180). -/
def sat32 (v : Int) : Int := clampI (-2147483648) 2147483647 v

/-- The 48-bit accumulator, saturating at each term (R180). -/
def acc48 (l : List Int) : Int := l.foldl (fun a t => clampI (-140737488355328) 140737488355327 (a + t)) 0

/-- A product of a quantity and a mantissa with its shift: rounded and shifted right arithmetically (R180). -/
def mulShift (x m : Int) (sh : Nat) : Int := if sh = 0 then x * m else (x * m + 2 ^ (sh - 1)) / 2 ^ sh

/-- A product with a coefficient (R179). -/
def term (c : Int × Nat) (x : Int) : Int := mulShift x c.1 c.2

/-! ### Memories (R182 to R188) -/

/-- Table 6.6: the schedule entry `k` loaded at bring-up on die `d`. -/
def schedBoot (d k : Nat) : Word :=
  let e (setL setH ext dec phase : Nat) : Word :=
    word [(0, k), (6, setL), (10, setH), (14, ext), (15, dec), (17, phase), (31, 1)]
  if d < 8 then
    (if k < 8 then e 0 1 1 0 0 else if k < 40 then e 2 3 1 2 ((k - 8) % 4) else if k < 48 then e 4 5 0 0 0 else 0)
  else if k < dieCount d then e 0 1 1 0 0 else 0

/-- Word `a` of coefficient bank `b` of engine `d`. -/
def coefWord (s : State) (d b a : Nat) : Word :=
  (look none (if b = 0 then (s.loopE d).coef0 else (s.loopE d).coef1) a).getD (bootCoef s d a)

/-- Entry `k` of schedule bank `b` of engine `d`. -/
def schedWord (s : State) (d b k : Nat) : Word :=
  (look none (if b = 0 then (s.loopE d).sched0 else (s.loopE d).sched1) k).getD (schedBoot d k)

/-- A coefficient of set `m` in bank `b`: mantissa and shift (R179, Table 6.3). -/
def coefOf (s : State) (d b m k : Nat) : Int × Nat :=
  ((coefWord s d b (64 * m + k)).toInt, fld (coefWord s d b (64 * m + 36 + k / 4)).toNat (8 * (k % 4)) 5)

/-- A schedule entry (Table 6.4). -/
structure SchedEntry where
  cell : Nat
  setL : Nat
  setH : Nat
  ext : Bool
  dec : Nat
  phase : Nat
  deriving DecidableEq, Repr

def entryOf (w : Word) : SchedEntry :=
  let v := w.toNat
  ⟨fld v 0 6, fld v 6 4, fld v 10 4, bit v 14, fld v 15 2, fld v 17 3⟩

/-- The entries of a bank from entry `k`, up to the first whose VALID bit is 0 (R185). -/
def entriesFrom (s : State) (d b k : Nat) : Nat → List SchedEntry
  | 0 => []
  | n + 1 => if (schedWord s d b k).getLsbD 31 then entryOf (schedWord s d b k) :: entriesFrom s d b (k + 1) n else []

def entries (s : State) (d b : Nat) : List SchedEntry := entriesFrom s d b 0 64

/-- The frame is one of the entry's extended frames (Table 6.4). -/
def extFrame (e : SchedEntry) (frame : Nat) : Bool := e.ext && frame % 2 ^ e.dec = e.phase

/-- Slots an entry costs in a frame (R186). -/
def entryCost (e : SchedEntry) (frame : Nat) : Nat := if extFrame e frame then 5 else 4

/-- Slot total of a schedule in a frame (R186). -/
def slotTotal (es : List SchedEntry) (frame : Nat) : Nat := (es.map (fun e => entryCost e frame)).sum

/-- Highest slot total over the eight frames of the cycle. -/
def slotsMax (es : List SchedEntry) : Nat := ((List.range 8).map (slotTotal es)).foldl max 0

/-- The checks of Table 6.5 that refuse with OUT_OF_RANGE. -/
def schedShapeOk (d : Nat) (es : List SchedEntry) : Bool :=
  es.all (fun e => e.cell < dieCount d) && (es.map (·.cell)).Nodup &&
  (List.range (dieCount d)).all (fun c => es.any (fun e => e.cell = c)) &&
  es.all (fun e => !e.ext || e.phase < 2 ^ e.dec) &&
  (8 ≤ d || es.any (fun e => e.cell < 40 && e.ext && e.dec = 0))

/-! ### The control law (Table 6.1) -/

/-- What one evaluation takes from outside the cell, in the formats of Table 6.2. -/
structure LawIn where
  uPrev : Int
  vin : Int
  vref : Int
  vm : Int
  im : Int
  inet : Int
  sc : Int
  iann : Int
  dmax : Int
  ext : Bool
  extFrame : Bool
  injRef : Int
  injDuty : Int
  preset : Bool
  transfer : Bool
  deriving DecidableEq, Repr

/-- What one evaluation leaves. -/
structure LawOut where
  x1 : Int
  x2 : Int
  x3 : Int
  x4 : Int
  z : Int
  ush : Int
  uext : Int
  u : Int
  clamped : Bool
  d : Nat
  deriving DecidableEq, Repr

/-- Row `r` of step 2: A·x + B·p. -/
def lawPredict (cf : Nat → Int × Nat) (r : Nat) (x1 x2 x3 x4 p : Int) : Int :=
  sat32 (acc48 [term (cf (4 * r)) x1, term (cf (4 * r + 1)) x2, term (cf (4 * r + 2)) x3, term (cf (4 * r + 3)) x4,
    term (cf (16 + r)) p])

/-- Row `r` of step 4: the correction by L. -/
def lawCorrect (cf : Nat → Int × Nat) (r : Nat) (x ei ev : Int) : Int :=
  sat32 (acc48 [x, term (cf (20 + 2 * r)) ei, term (cf (21 + 2 * r)) ev])

/-- K_R·V_ref − ΣKj·x̂j + u_ext with the rest of step 7 (`z0` is z′, or 0 for the transfer of R198). -/
def lawSum (cf : Nat → Int × Nat) (z0 vref x1 x2 x3 x4 uext : Int) : Int :=
  sat32 (acc48 [z0, term (cf 32) vref, -(term (cf 28) x1), -(term (cf 29) x2), -(term (cf 30) x3), -(term (cf 31) x4), uext])

/-- Evaluation of one cell in a frame: steps 1 to 9 of Table 6.1, with the preset of R196, the transfer of R198 and the
injection of R201. -/
def evalLaw (cf : Nat → Int × Nat) (c : CellSt) (i : LawIn) : LawOut :=
  let p := sat32 (mulShift i.uPrev i.vin 24)
  let y1 := lawPredict cf 0 c.x1 c.x2 c.x3 c.x4 p
  let y2 := lawPredict cf 1 c.x1 c.x2 c.x3 c.x4 p
  let y3 := lawPredict cf 2 c.x1 c.x2 c.x3 c.x4 p
  let y4 := lawPredict cf 3 c.x1 c.x2 c.x3 c.x4 p
  let ei := sat32 (i.im - y1)
  let ev := sat32 (i.vm - y2)
  let x1 := if i.preset then 0 else lawCorrect cf 0 y1 ei ev
  let x2 := if i.preset then i.vm else lawCorrect cf 1 y2 ei ev
  let x3 := if i.preset then 0 else lawCorrect cf 2 y3 ei ev
  let x4 := if i.preset then 0 else lawCorrect cf 3 y4 ei ev
  let vref := sat32 (i.vref + i.injRef)
  let ush := if i.preset then 0
    else if i.ext && i.extFrame then sat32 (term (cf 34) (sat32 (mulShift i.inet i.sc 30 - i.im))) else c.ush
  let uext := if i.preset || !i.ext then 0
    else sat32 (acc48 [ush, term (cf 35) (max 0 (sat32 (mulShift i.iann i.sc 30 - x3)))])
  let um := if i.preset then
      (if i.vin = 0 then i.dmax else min (divNear (i.vm * 16777216) i.vin.toNat) i.dmax)
    else i.uPrev
  let z' := if i.preset || i.transfer then sat32 (um - lawSum cf 0 vref x1 x2 x3 x4 uext)
    else sat32 (acc48 [c.z, term (cf 33) (sat32 (vref - i.vm))])
  let u' := sat32 (lawSum cf z' vref x1 x2 x3 x4 uext + i.injDuty)
  let u := min (max u' 0) i.dmax
  { x1 := x1, x2 := x2, x3 := x3, x4 := x4, z := sat32 (z' - (u' - u)), ush := ush, uext := uext, u := u,
    clamped := u ≠ u', d := ((u + 2048) / 4096).toNat }

/-- Share fraction s_c in Q1.30 (R177, R277), rounded to nearest; 0 for an isolated cell, and for a net with no cell in service (DESIGN
CHOICE, log entry 100). -/
def shareQ (s : State) (i : Nat) : Int :=
  let tot := ((cellsIn s (cellNet i)).map (fun j => (s.cell j).shareWt)).sum
  if (s.cell i).isolated || tot = 0 then 0 else divNear (((s.cell i).shareWt : Int) * 1073741824) tot

/-! ### Injection (R201 to R203) -/

/-- v of R201: the present table entry, or +1 or -1. -/
def injV (j : InjSt) : Int := if j.src then (if j.prbs.getLsbD 30 then 1 else -1) else (look 0 j.table j.ptr).toInt

/-- The injection value and whether it was limited (R201, R202). -/
def injValue (j : InjSt) : Int × Bool :=
  let v := injV j * 2 ^ j.scale
  let lim : Int := if j.point then 1048576 else 26214
  (clampI (-lim) lim v, v < -lim || lim < v)

/-- The table pointer or the sequence advances every 2^RATE frames (R201). -/
def injAdvance (j : InjSt) : InjSt :=
  let n := j.count + 1
  if n % 2 ^ j.rate = 0 then
    { j with count := 0, ptr := if j.src then j.ptr else (j.ptr + 1) % 2 ^ j.tlen, prbs := if j.src then prbsStep j.prbs else j.prbs }
  else { j with count := n }

/-! ### LOOP page (Tables 6.10 to 6.25) -/

/-- CAP_CTRL and INJ_CTRL as they read (Tables 6.22, 6.21). -/
def capCtrlWord (c : CapSt) : Word := word [(1, b2n c.wide), (2, c.trig), (8, c.cell), (16, c.cdec), (20, c.length)]
def injCtrlWord (j : InjSt) : Word :=
  word [(0, b2n j.run), (1, b2n j.point), (2, b2n j.src), (8, j.cell), (16, j.scale), (20, j.tlen), (24, j.rate)]

def readLoop (s : State) (d off : Nat) : Word :=
  let x := s.loopE d
  let i := dieFirst d + x.cellSel
  let c := s.cell i
  let q (v : Int) : Word := BitVec.ofInt 32 v
  match off with
  | 0x40 => x.frame
  | 0x44 => word [(0, x.coefAct), (1, x.schedAct)]
  | 0x48 => word [(0, slotsMax (entries s d x.schedAct)), (8, (entries s d x.schedAct).length)]
  | 0x4C => word [(0, x.coefAddr), (12, b2n x.coefRead)]
  | 0x50 => coefWord s d (if x.coefRead then x.coefAct else 1 - x.coefAct) x.coefAddr
  | 0x54 => word [(0, x.schedAddr), (12, b2n x.schedRead)]
  | 0x58 => schedWord s d (if x.schedRead then x.schedAct else 1 - x.schedAct) x.schedAddr
  | 0x5C => word [(0, x.cellSel)]
  | 0x60 => q c.x1
  | 0x64 => q c.x2
  | 0x68 => q c.x3
  | 0x6C => q c.x4
  | 0x70 => q c.z
  | 0x74 => q c.uext
  | 0x78 => if (s.net (cellNet i)).shared then q (shareQ s i) else 0
  | 0x7C => word [(0, c.overruns)]
  | 0x80 => word [(0, x.annLo % 65536), (16, x.annHi % 65536)]
  | 0x84 => word [(0, x.vinMv)]
  | 0x88 => injCtrlWord x.inj
  | 0x8C => capCtrlWord x.cap
  | 0x90 => word [(0, b2n x.cap.busy), (1, b2n x.cap.done), (2, x.cap.records)]
  | 0x94 => word [(0, x.inj.addr)]
  | 0x98 => (look 0 x.inj.table x.inj.addr).setWidth 32
  | 0x9C => word [(0, x.cap.addr)]
  | 0xA0 => look 0 x.cap.buf x.cap.addr
  | 0xA4 => word [(0, x.overrunTotal)]
  | _ => 0

/-- A write of COEF_DATA: the inactive bank's word, and COEF_ADDR advances; the calibrated field's change is kept in the
image (R183, Table 6.15, R621). -/
def writeCoefData (d : Nat) (w : RegWrite) (s : State) : State × RefCode :=
  let x := s.loopE d
  let v := w.merged (readLoop s d 0x50)
  guarded s (.loop d) 0x50 w { wrongState := x.coefRead } (fun s =>
    setCalN (s.modLoop d (fun x =>
      let x' := { x with coefAddr := (x.coefAddr + 1) % 1024 }
      if x.coefAct = 1 then { x' with coef0 := put none x.coef0 x.coefAddr (some v) }
      else { x' with coef1 := put none x.coef1 x.coefAddr (some v) })) (0x5000 + 0x1000 * d + 4 * x.coefAddr) 4 v.toNat)

/-- COEF_DATA_WRITE. -/
def execCoefDataWrite (d : Nat) (w : RegWrite) (s : State) : Host.Outcome State Fault Refusal := .next (writeCoefData d w s).1

/-- A write of SCHED_DATA: the inactive bank's entry, its reserved bits [30:20] kept 0, and SCHED_ADDR advances (R76, R185, Tables 6.4
and 6.15). -/
def writeSchedData (d : Nat) (w : RegWrite) (s : State) : State × RefCode :=
  let x := s.loopE d
  let v := w.merged (readLoop s d 0x58) &&& 0x800FFFFF
  guarded s (.loop d) 0x58 w { wrongState := x.schedRead } (fun s => s.modLoop d (fun x =>
    let x' := { x with schedAddr := (x.schedAddr + 1) % 64 }
    if x.schedAct = 1 then { x' with sched0 := put none x.sched0 x.schedAddr (some v) }
    else { x' with sched1 := put none x.sched1 x.schedAddr (some v) }))

/-- SCHED_DATA_WRITE. -/
def execSchedDataWrite (d : Nat) (w : RegWrite) (s : State) : Host.Outcome State Fault Refusal := .next (writeSchedData d w s).1

/-- A write of BANKS: swaps wait for the first frame start at least 5 ns later (R183, R187, R205). Two writes before one frame start
ask for one exchange, which names the last writer (DESIGN CHOICE, log entry 100). -/
def writeBanks (d : Nat) (w : RegWrite) (s : State) : State × RefCode :=
  let x := s.loopE d
  let v := w.ones
  let co := v.getLsbD 8
  let sc := v.getLsbD 9
  let es := entries s d (1 - x.schedAct)
  guarded s (.loop d) 0x44 w
    { outOfRange := sc && !schedShapeOk d es,
      wrongState := sc && (dieNets d).any (fun n => (s.net n).st = .rolling),
      noResource := sc && 208 < slotsMax es }
    (fun s => if !co && !sc then s else s.modLoop d (fun x =>
      { x with swap := some (match x.swap with
          | some r => { coef := r.coef || co, sched := r.sched || sc, writer := w.master.num, wait := r.wait && w.late }
          | none => { coef := co, sched := sc, writer := w.master.num, wait := w.late }) }))

/-- COEF_SWAP. -/
def execCoefSwap (d : Nat) (w : RegWrite) (s : State) : Host.Outcome State Fault Refusal := .next (writeBanks d w s).1

/-- SCHED_SWAP. -/
def execSchedSwap (d : Nat) (w : RegWrite) (s : State) : Host.Outcome State Fault Refusal := .next (writeBanks d w s).1

/-- A write of INJ_CTRL (Table 6.21, R203). -/
def writeInjCtrl (d : Nat) (w : RegWrite) (s : State) : State × RefCode :=
  let v := (w.merged (injCtrlWord (s.loopE d).inj)).toNat
  let run := bit v 0
  let cell := fld v 8 6
  let tlen := fld v 20 4
  guarded s (.loop d) 0x88 w
    { outOfRange := tlen < 4 || 10 < tlen || dieCount d ≤ cell,
      wrongState := run && !(d < 8 && ((s.tile d).st = .kindled || (s.tile d).st = .stoked)) }
    (fun s => s.modLoop d (fun x =>
      let fresh := run && !x.inj.run
      { x with inj := { x.inj with run := run, point := bit v 1, src := bit v 2, cell := cell, scale := fld v 16 4, tlen := tlen,
                                   rate := fld v 24 3, ptr := if fresh then 0 else x.inj.ptr % 2 ^ tlen,
                                   count := if fresh then 0 else x.inj.count, started := fresh || (x.inj.started && run) } }))

/-- INJ_CTRL_WRITE. -/
def execInjCtrlWrite (d : Nat) (w : RegWrite) (s : State) : Host.Outcome State Fault Refusal := .next (writeInjCtrl d w s).1

/-- A write of INJ_DATA (R203, Tables 6.24, 6.25). -/
def writeInjData (d : Nat) (w : RegWrite) (s : State) : State × RefCode :=
  let v := w.merged (readLoop s d 0x98)
  guarded s (.loop d) 0x98 w { wrongState := (s.loopE d).inj.run } (fun s => s.modLoop d (fun x =>
    { x with inj := { x.inj with table := put 0 x.inj.table x.inj.addr (v.setWidth 16), addr := (x.inj.addr + 1) % 1024 } }))

/-- INJ_DATA_WRITE. -/
def execInjDataWrite (d : Nat) (w : RegWrite) (s : State) : Host.Outcome State Fault Refusal := .next (writeInjData d w s).1

/-- A write of CAP_CTRL: START arms a capture (R204, Table 6.22). -/
def writeCapCtrl (d : Nat) (w : RegWrite) (s : State) : State × RefCode :=
  let v := (w.merged (capCtrlWord (s.loopE d).cap)).toNat
  let go := w.ones.getLsbD 0
  let wide := bit v 1
  let len := fld v 20 9
  guarded s (.loop d) 0x8C w
    { outOfRange := len = 0 || (if wide then 85 < len else 256 < len) || dieCount d ≤ fld v 8 6,
      wrongState := go && (s.loopE d).cap.busy }
    (fun s => s.modLoop d (fun x =>
      let c := { x.cap with wide := wide, trig := fld v 2 2, cell := fld v 8 6, cdec := fld v 16 3, length := len }
      { x with cap := if go then { c with busy := true, triggered := false, done := false, records := 0, frames := 0 } else c,
               inj := if go then { x.inj with started := false } else x.inj }))

/-- CAP_START. -/
def execCapStart (d : Nat) (w : RegWrite) (s : State) : Host.Outcome State Fault Refusal := .next (writeCapCtrl d w s).1

def writeLoop (d off : Nat) (w : RegWrite) (s : State) : State × RefCode :=
  let p := PageRef.loop d
  let v := (w.merged (readLoop s d off)).toNat
  match off with
  | 0x44 => writeBanks d w s
  | 0x4C => guarded s p off w {} (fun s => s.modLoop d (fun x => { x with coefAddr := fld v 0 10, coefRead := bit v 12 }))
  | 0x50 => writeCoefData d w s
  | 0x54 => guarded s p off w {} (fun s => s.modLoop d (fun x => { x with schedAddr := fld v 0 6, schedRead := bit v 12 }))
  | 0x58 => writeSchedData d w s
  | 0x5C => guarded s p off w { outOfRange := dieCount d ≤ fld v 0 6 } (fun s => s.modLoop d (fun x => { x with cellSel := fld v 0 6 }))
  | 0x88 => writeInjCtrl d w s
  | 0x8C => writeCapCtrl d w s
  | 0x94 => guarded s p off w {} (fun s => s.modLoop d (fun x => { x with inj := { x.inj with addr := fld v 0 10 } }))
  | 0x98 => writeInjData d w s
  | 0x9C => guarded s p off w {} (fun s => s.modLoop d (fun x => { x with cap := { x.cap with addr := fld v 0 10 } }))
  | _ => roWrite s p off w

/-- Reading a data register advances its address register (Tables 6.14, 6.24). -/
def loopReadEffect (s : State) (d off : Nat) : State :=
  match off with
  | 0x50 => s.modLoop d (fun x => { x with coefAddr := (x.coefAddr + 1) % 1024 })
  | 0x58 => s.modLoop d (fun x => { x with schedAddr := (x.schedAddr + 1) % 64 })
  | 0x98 => s.modLoop d (fun x => { x with inj := { x.inj with addr := (x.inj.addr + 1) % 1024 } })
  | 0xA0 => s.modLoop d (fun x => { x with cap := { x.cap with addr := (x.cap.addr + 1) % 1024 } })
  | _ => s

/-- STOKE_NOTICE: the oldest notice for net `n` reaches the engine of its die, to be taken at the next frame start; of two,
the later is used (R199, R253). A die without power takes none. -/
def execStokeNotice (n : Nat) (s : State) : Host.Outcome State Fault Refusal :=
  match s.token.notices.find? (fun r => r.1 = n) with
  | none => .next s
  | some r =>
    let s := { s with token := { s.token with notices := s.token.notices.erase r } }
    if 16 ≤ n || !dieOn s (n / 2) then .next s
    else .next (s.modLoop (n / 2) (fun x => if n % 2 = 0 then { x with noteLo := some r.2 } else { x with noteHi := some r.2 }))

end Sys2Proof.Machine
end

