-- ==== Sys2Proof/Machine/Grid.lean ====
section
/-!
DEFINITION. The core grid (chapter 11): receive queues and credits, tallies, core states and control, lost cores and
spares, tile clocks, and the GRID, TALLY and CORECTL pages.
-/
namespace Sys2Proof.Machine
open Sys2Proof

/-! ### Cores and what they belong to -/

/-- Size of the local store and of instruction memory (R334, R378). -/
def lsSize : Nat := 0x180000
def imemSize : Nat := 0x10000

/-- `n` bytes of a core's local store. -/
def lsRead (x : CoreSt) (a n : Nat) : List Byte := lookList 0 x.ls a n
/-- Bytes written to a core's local store. -/
def lsWrite (x : CoreSt) (a : Nat) (b : List Byte) : CoreSt := { x with ls := putList 0 x.ls a b }

/-- The command in the core's slot. -/
def coreCmd (s : State) (n : Nat) : Option Cmd :=
  match (s.core n).slot with
  | some k => s.cmd k
  | none => none

/-- The cores of the core's own command; a core started by hand has only itself (R347, R386). -/
def ownCores (s : State) (n : Nat) : List Nat :=
  match coreCmd s n with
  | some c => c.cores
  | none => [n]

/-- The tally is the core's own: of its command's plate (R386, R453); a core started by hand has no plate to bound it
(log entry 26). -/
def ownTally (s : State) (n t : Nat) : Bool :=
  match coreCmd s n with
  | some c => (match cmdPlate s c with | some p => plateTally p t | none => false)
  | none => t < 4096

/-- The core is in some partition's active definition (R444). -/
def inPartition (s : State) (n : Nat) : Bool :=
  s.parts.any (fun e => (look 0 e.2.active.cores (n / 64)).getLsbD (n % 64))

/-- The spare that serves a logical core. -/
def servedBy (s : State) (n : Nat) : Option Nat :=
  let t := s.tile (n / 64)
  if t.spare0 = some (n % 64) then some 0 else if t.spare1 = some (n % 64) then some 1 else none

/-! ### Credits and queues (R348 to R350, Table 4.3) -/

/-- Key of the credits `sender` holds for queue `q` of core `rcv`. -/
def credKey (sender rcv q : Nat) : Nat := (sender * 512 + rcv) * 8 + q

def heldCred (s : State) (sender rcv q : Nat) : Nat := look 0 s.grid.credits (credKey sender rcv q)
def setCred (s : State) (sender rcv q n : Nat) : State :=
  { s with grid := { s.grid with credits := put 0 s.grid.credits (credKey sender rcv q) n } }

/-- The queue as configured; depth 0 is unconfigured. -/
def emptyQueue : RQueue := ⟨0, 0, 0, 0, 0⟩
def queueOf (x : CoreSt) (q : Nat) : RQueue := look emptyQueue x.queues q
def modQueueOf (s : State) (n q : Nat) (f : RQueue → RQueue) : State :=
  s.modCore n (fun x => { x with queues := modAt emptyQueue x.queues q f })

/-- Credits for queue `q` of core `rcv` in every sender's hands. -/
def heldTotal (s : State) (rcv q : Nat) : Nat :=
  ((s.grid.credits.filter (fun e => e.1 % 4096 = rcv * 8 + q)).map (·.2)).sum
/-- Messages on their way to the queue. -/
def flightTotal (s : State) (rcv q : Nat) : Nat := (s.grid.msgs.filter (fun m => m.dst = rcv && m.q = q)).length

/-- The tenant a packet of core `n` names: its command's; 0 for a core started by hand (Table 11.1; DESIGN CHOICE, log entry 101). -/
def packetTenant (s : State) (n : Nat) : Nat := (tenantOf s n).getD 0

/-- Issue the credit grants of queue `q` of core `rcv`, one for each pair of sender and credits (R348). -/
def sendGrants (s : State) (rcv q : Nat) (l : List (Nat × Nat)) : State :=
  { s with grid := { s.grid with grants := s.grid.grants ++ l.map (fun p => ⟨rcv, q, p.1, p.2, true, s.grid.nextId, packetTenant s rcv⟩),
                                 nextId := s.grid.nextId + 1 } }

/-- The 16 header bytes of a packet (Table 11.1): destination, queue, kind, source, tenant, valid bytes less 1, credits, tag. -/
def packetHeader (dst q kind src tenant len credits tag : Nat) : List Byte :=
  leBytes 2 (dst + q * 512 + kind * 4096) ++ leBytes 2 (src + tenant * 512) ++ leBytes 1 (len - 1) ++ leBytes 1 credits ++
  leBytes 2 tag ++ List.replicate 8 0

/-- Header of a message: kind 0 (R345). -/
def msgHeader (m : Msg) : List Byte := packetHeader m.dst m.q 0 m.src m.tenant m.len 0 m.tag.toNat
/-- Header of a credit grant, kind 1, or return, kind 2: from the receiver's core to the sender's (R345, R348, R349). -/
def creditHeader (p : CredPkt) (ret : Bool) : List Byte := packetHeader p.sender p.q (if ret then 2 else 1) p.rcv p.tenant 1 p.n 0

/-- The 8-byte metadata word of a queue entry, from the message's header (R346). -/
def metaOf (h : List Byte) : Nat := fld (leNat (h.drop 2)) 0 9 + fld (leNat (h.drop 4)) 0 6 * 512 + fld (leNat (h.drop 6)) 0 16 * 65536

/-- No packet issued before `id` is still on its way from core `a` to core `b` (R343). -/
def pathClear (s : State) (a b id : Nat) : Bool :=
  s.grid.msgs.all (fun m => m.src ≠ a || m.dst ≠ b || id ≤ m.id) &&
  (s.grid.grants ++ s.grid.returns).all (fun p => p.rcv ≠ a || p.sender ≠ b || id ≤ p.id)

/-- The queue leaves the ledger in one step with every credit of it, wherever it stands; credits still travelling are
discarded at arrival (R350, R360, R370). `off` messages are written off (R118). -/
def dropQueue (s : State) (rcv q off : Nat) : State :=
  let x := queueOf (s.core rcv) q
  let held := heldTotal s rcv q
  let infl := flightTotal s rcv q
  let s := modCred s (rcv / 64) (fun r =>
    { r with capacity := r.capacity - x.depth, senderHeld := r.senderHeld - held, inFlight := r.inFlight - infl,
             queued := r.queued - x.count, returning := r.returning - (x.depth - held - infl - x.count),
             writtenOff := r.writtenOff + off })
  let kill := fun (p : CredPkt) => if p.rcv = rcv && p.q = q then { p with live := false } else p
  let s := { s with grid := { s.grid with
    credits := s.grid.credits.filter (fun e => e.1 % 4096 ≠ rcv * 8 + q),
    msgs := s.grid.msgs.filter (fun m => !(m.dst = rcv && m.q = q)),
    grants := s.grid.grants.map kill, returns := s.grid.returns.map kill } }
  modQueueOf s rcv q (fun _ => emptyQueue)

/-- The queues a core has configured. -/
def ownQueues (s : State) (n : Nat) : List Nat := (s.core n).queues.map (·.1)

/-- Some core of the list has a configured queue. -/
def anyQueue (s : State) (cs : List Nat) : Bool := cs.any (fun n => (s.core n).queues ≠ [])

/-- No message or credit grant for the queues of these cores is in flight (R350). -/
def quiet (s : State) (cs : List Nat) : Bool :=
  !s.grid.msgs.any (fun m => cs.contains m.dst) && !s.grid.grants.any (fun p => p.live && cs.contains p.rcv)

/-- Release every queue of these cores (R350). -/
def releaseQueues (s : State) (cs : List Nat) : State :=
  forEach cs s (fun s n => forEach (ownQueues s n) s (fun s q => dropQueue s n q 0))

/-- MESSAGE_DELIVERED: the oldest message from one core to another is written to its queue, once no earlier packet is on its way
between them; its credit goes from IN_FLIGHT to QUEUED (R343, R346, R349). -/
def execMessageDelivered (src dst : Nat) (s : State) : Host.Outcome State Fault Refusal :=
  match s.grid.msgs.find? (fun m => m.src = src && m.dst = dst) with
  | none => .next s
  | some m =>
    if !pathClear s src dst m.id then .next s else
    let x := queueOf (s.core dst) m.q
    let slot := (x.head + x.count) % x.depth
    let s := { s with grid := { s.grid with msgs := s.grid.msgs.erase m } }
    let md := metaOf (msgHeader m)
    let s := s.modCore dst (fun c =>
      lsWrite (lsWrite c (x.base + 64 * slot) (leBytes 64 m.data.toNat)) (x.meta_ + 8 * slot) (leBytes 8 md))
    let s := modQueueOf s dst m.q (fun x => { x with count := x.count + 1 })
    .next (modCred s (dst / 64) (fun r => { r with inFlight := r.inFlight - 1, queued := r.queued + 1 }))

/-- Credits reach their sender; those for a lost sender stay in RETURNING (R348, R349, Table 4.7). -/
def creditArrives (s : State) (p : CredPkt) : State :=
  if !p.live || (s.core p.sender).st = .lost then s
  else
    modCred (setCred s p.sender p.rcv p.q (heldCred s p.sender p.rcv p.q + p.n)) (p.rcv / 64)
      (fun r => { r with returning := r.returning - p.n, senderHeld := r.senderHeld + p.n })

/-- CREDIT_GRANT_ARRIVAL, in the order of issue (R343, R348). -/
def execCreditGrantArrival (rcv q sender : Nat) (s : State) : Host.Outcome State Fault Refusal :=
  match s.grid.grants.find? (fun p => p.rcv = rcv && p.q = q && p.sender = sender) with
  | none => .next s
  | some p =>
    if !pathClear s rcv sender p.id then .next s
    else .next (creditArrives { s with grid := { s.grid with grants := s.grid.grants.erase p } } p)

/-- CREDIT_RETURN_ARRIVAL, in the order of issue: it is discarded when the command has ended (R343, R349, R370). -/
def execCreditReturnArrival (rcv q sender : Nat) (s : State) : Host.Outcome State Fault Refusal :=
  match s.grid.returns.find? (fun p => p.rcv = rcv && p.q = q && p.sender = sender) with
  | none => .next s
  | some p =>
    if !pathClear s rcv sender p.id then .next s
    else .next (creditArrives { s with grid := { s.grid with returns := s.grid.returns.erase p } } p)

/-! ### Tallies (R351 to R355) -/

def tallyVal (s : State) (t : Nat) : Word := look 0 s.grid.tallies t
def setTally (s : State) (t : Nat) (v : Word) : State := { s with grid := { s.grid with tallies := put 0 s.grid.tallies t v } }

/-- The threshold is reached (R351). -/
def reached (v θ : Word) : Bool := (v - θ).toNat < 2 ^ 31

/-- Cores with a wait registered on the tally. -/
def waiters (s : State) (t : Nat) : List Nat := (s.cores.filter (fun e => e.2.wait.any (fun w => w.1 = t))).map (·.1)

/-- Wake every core whose threshold on the tally is reached: its registered wait ends (R353). -/
def wakeWaiters (s : State) (t : Nat) : State :=
  forEach (waiters s t) s (fun s n =>
    match (s.core n).wait with
    | some w => if w.1 = t && reached (tallyVal s t) w.2 then s.modCore n (fun x => { x with wait := none }) else s
    | none => s)

/-- The engine has writes to make that were issued before id `id`. -/
def engWrites (id : Nat) (e : EngineSt) : Bool := (e.run = .running || e.run = .paused) && e.mode = 2 && e.id < id

/-- Nothing that a core issued before id `id` is still on its way: messages in flight, and engine writes (R352). -/
def landed (s : State) (n id : Nat) : Bool :=
  !s.grid.msgs.any (fun m => m.src = n && m.id < id) && !(s.core n).engines.any (fun e => engWrites id e.2)

/-- Core `n` is switched out with the command in slot `k`, and an engine saved with it has such writes to make (R352, R456). -/
def savedWrites (s : State) (k n id : Nat) : Bool :=
  (s.cmd k).any (fun c => c.saved.any (fun v => v.core = n && v.st.engines.any (fun e => engWrites id e.2)))

/-- An add may be applied: what its core issued before it has landed, and no earlier add of the core to the same tile is on its way
(R343, R352). -/
def addReady (s : State) (a : TallyAdd) : Bool :=
  landed s a.core a.id && !a.own.any (fun k => savedWrites s k a.core a.id) &&
  s.grid.adds.all (fun b => b.core ≠ a.core || b.tally / 512 ≠ a.tally / 512 || a.id ≤ b.id)

/-- TALLY_ADD_APPLY (R343, R352, R353, R354). -/
def execTallyAddApply (c tally : Nat) (s : State) : Host.Outcome State Fault Refusal :=
  match s.grid.adds.find? (fun a => a.core = c && a.tally = tally) with
  | none => .next s
  | some a =>
    if !addReady s a then .next s
    else
      let t := tally / 512
      let v := (tallyVal s tally).toNat + a.amount
      let s := { s with grid := { s.grid with adds := s.grid.adds.erase a } }
      let s := modTally (setTally s tally (w32 v)) t (fun r =>
        { r with applied := r.applied + BitVec.ofNat 64 a.amount, inFlight := r.inFlight - a.amount })
      let s := if v < 2 ^ 32 then s
        else raise (logEvent (s.modTile t (fun x => { x with wraps := satInc x.wraps 0xFFFF })) 0x3004 1 (.tally t)
          [tally, a.amount, c, 0]) (.tally t) 0
      .next (wakeWaiters s tally)

/-- A write of VALUE in the TALLY page (R355). -/
def writeTallyValue (t : Nat) (w : RegWrite) (s : State) : State × RefCode :=
  let k := 512 * t + (s.tile t).tallySel
  guarded s (.tally t) 0x44 w { wrongState := waiters s k ≠ [] } (fun s => setTally s k (w.merged (tallyVal s k)))

/-- TALLY_VALUE_WRITE. -/
def execTallyValueWrite (t : Nat) (w : RegWrite) (s : State) : Host.Outcome State Fault Refusal :=
  .next (writeTallyValue t w s).1

def readTally (s : State) (t off : Nat) : Word :=
  let k := 512 * t + (s.tile t).tallySel
  match off with
  | 0x40 => word [(0, (s.tile t).tallySel)]
  | 0x44 => tallyVal s k
  | 0x48 => word [(0, (waiters s k).length)]
  | 0x4C => word [(0, (s.tile t).wraps)]
  | _ => 0

def writeTally (t off : Nat) (w : RegWrite) (s : State) : State × RefCode :=
  match off with
  | 0x40 =>
    let v := fld (w.merged (readTally s t off)).toNat 0 9
    guarded s (.tally t) off w {} (fun s => s.modTile t (fun x => { x with tallySel := v }))
  | 0x44 => writeTallyValue t w s
  | _ => roWrite s (.tally t) off w

/-! ### Halting cores, ending commands (R254, R350, R357, R359, R360, R362, R399, R402, R494) -/

/-- A running engine pauses at a STOP (R399). -/
def pauseEngines (x : CoreSt) : CoreSt :=
  { x with engines := x.engines.map (fun e => (e.1, if e.2.run = .running then { e.2 with run := .paused } else e.2)) }

/-- The engines of a FAULTED core stop and their outputs are emptied; what one that has faulted reports stays (R402, R419). -/
def stopEngines (x : CoreSt) : CoreSt :=
  { x with engines := x.engines.map (fun e => (e.1, { e.2 with tiles := [], run := if e.2.run = .faulted then .faulted else .idle })) }

/-- A core's program stops: its stall and wait end, the core is eased (R254). A stopped core keeps its engines paused, a faulted one
what they report; otherwise they are emptied (R399, R402). -/
def haltCore (s : State) (n : Nat) (st : CoreState) : State :=
  let s := s.modCore n (fun x =>
    let x := { x with st := st, stall := none, wait := none, stopping := false,
                      tok := { x.tok with atStop := x.tok.held } }
    match st with
    | .stopped => pauseEngines x
    | .faulted => stopEngines x
    | _ => { x with engines := [] })
  easeStopped s n

/-- A command ends with this outcome: its other cores are stopped under R254, its queues released under R350, and then
its record is ready (R362, R494). -/
def endCmd (s : State) (k status result detail : Nat) : State :=
  match s.cmd k with
  | none => s
  | some c =>
    match c.st with
    | .completing => s
    | .fetched => completePlain s k status result detail
    | .running =>
      if c.ending.isSome then s
      else
        let r := mkRec s c status result detail 0 c.desc.handle
        let s := forEach c.cores s (fun s n =>
          if (s.core n).slot = some k && ((s.core n).st = .running || (s.core n).st = .stopped) then haltCore s n .idle else s)
        if anyQueue s (c.cores.filter (fun n => (s.core n).slot = some k)) then
          s.modCmd k (fun c => { c with ending := some r })
        else completeCmd s k r

/-- A poisoned line ends the command: event 0x5007 and UNIT_LOST (R471, R472). -/
def poisonEnd (s : State) (k : Nat) (c : Cmd) (a : Nat) : State :=
  endCmd (logEvent s 0x5007 3 (.tenant c.tenant) [c.tenant, c.desc.handle, a % 2 ^ 32, a / 2 ^ 32]) k 0x20 0xFFFFFFFF 0xFF

/-- The commands that run, or are switched out, with a plate whose code page holds a poisoned line, and the line. -/
def codeBadRuns (s : State) : List (Nat × Cmd × Nat) :=
  (slotList s).filterMap (fun e =>
    if e.2.st = .running && e.2.ending.isNone && e.2.desc.opcode = 3 then
      ((cmdPlate s e.2).bind (·.codeBad)).map (fun a => (e.1, e.2, a))
    else none)

/-- Every such command completes with UNIT_LOST (R472). -/
def codeEnd (s : State) : State :=
  let l := codeBadRuns s
  if l = [] then s else rejudge (forEach l s (fun s e => poisonEnd s e.1 e.2.1 e.2.2))

/-- The cores of a command that still hold its queues. -/
def cmdQueueCores (s : State) (k : Nat) (c : Cmd) : List Nat := c.cores.filter (fun n => (s.core n).slot = some k)

/-- QUEUE_RELEASE: once nothing of an ended command is in flight, its queues and credits leave the ledger in one step
and its record is ready (R350). From 256 on, the operand names a core whose program was started by hand. -/
def execQueueRelease (k : Nat) (s : State) : Host.Outcome State Fault Refusal :=
  if k < 256 then
    match s.cmd k with
    | some c =>
      (match c.ending with
       | some r =>
         let cs := cmdQueueCores s k c
         if quiet s cs then .next (rejudge (completeCmd (releaseQueues s cs) k r)) else .next s
       | none => .next s)
    | none => .next s
  else
    let n := k - 256
    let x := s.core n
    if x.slot = none && (x.st = .idle || x.st = .faulted || x.st = .lost) && quiet s [n] then .next (releaseQueues s [n]) else .next s

/-- A program raises an exception: the core is FAULTED, eased, event 0x3002; its command ends with CORE_FAULT (R359,
R390, R402, R494). -/
def faultCore (s : State) (n cause : Nat) : State :=
  let pc := (s.core n).pc
  let s := haltCore (s.modCore n (fun x => { x with exc := cause, excPc := pc })) n .faulted
  let s := raise (logEvent s 0x3002 2 (.corectl n) [n, cause, pc, 0]) (.corectl n) 1
  rejudge (match (s.core n).slot with
    | some k => endCmd s k 0x23 n (cause + pc * 65536)
    | none => s)

/-- Credits held by a lost core go to RETURNING (Table 4.7). -/
def orphanCredits (s : State) (n : Nat) : State :=
  let mine := s.grid.credits.filter (fun e => e.1 / 4096 = n)
  let s := forEach mine s (fun s e => modCred s (e.1 % 4096 / 8 / 64) (fun r =>
    { r with senderHeld := r.senderHeld - e.2, returning := r.returning + e.2 }))
  { s with grid := { s.grid with credits := s.grid.credits.filter (fun e => e.1 / 4096 ≠ n) } }

/-- The core's queues are being released under R350: its command has ended, or a program started by hand has. -/
def releasing (s : State) (n : Nat) : Bool :=
  match coreCmd s n with
  | some c => c.ending.isSome
  | none => (s.core n).st = .idle || (s.core n).st = .faulted

/-- A lost core's queues leave the ledger; messages queued in them or on their way are written off, with one event 0x9003 for each
queue that held any (R118, R360; DESIGN CHOICE, log entry 99). -/
def writeOffQueues (s : State) (n : Nat) : State :=
  forEach (ownQueues s n) s (fun s q =>
    let off := (queueOf (s.core n) q).count + flightTotal s n q
    let s := dropQueue s n q off
    if off = 0 then s else logWriteOff s 1 (n / 64) off n)

/-- A spare physical core is lost. -/
def loseSpare (s : State) (t k : Nat) : State :=
  s.modTile t (fun x => if k = 0 then { x with spare0 := none, spare0Lost := true } else { x with spare1 := none, spare1Lost := true })

/-- The log and causes of a core's loss. -/
def logLost (s : State) (page t cause slot phys : Nat) : State :=
  raise (raise (logEvent s 0x3001 3 (.corectl page) [page, cause, slot, phys]) (.corectl page) 2) (.grid t) 0

/-- A logical core is declared lost (R360, R362, R364, Table 11.4); a release of its queues under way goes on (R368). -/
def loseCore (s : State) (n cause : Nat) : State :=
  if (s.core n).st = .lost then s
  else
    let t := n / 64
    let phys := match servedBy s n with | some k => 512 + 2 * t + k | none => n
    let s := match servedBy s n with | some k => loseSpare s t k | none => s
    let slot := (s.core n).slot
    let rel := releasing s n
    let s := s.modCore n (fun x => { x with st := .lost, lostCause := cause, stall := none, wait := none, stopping := false, engines := [] })
    let s := baseCovered (noticeTile (returnAll s n) t true)
    let s := orphanCredits (if rel then s else writeOffQueues s n) n
    let s := logLost s n t cause (slot.getD 0xFFFF) phys
    match slot with
    | some k => endCmd s k 0x20 n cause
    | none => s

/-- The core of a CORECTL page is declared lost; an unmapped spare is only counted lost (R333, R335). -/
def declareLost (s : State) (k cause : Nat) : State :=
  if k < 512 then loseCore s k cause
  else
    let t := (k - 512) / 2
    let j := (k - 512) % 2
    let x := s.tile t
    match (if j = 0 then x.spare0 else x.spare1) with
    | some c => loseCore s (64 * t + c) cause
    | none =>
      if (if j = 0 then x.spare0Lost else x.spare1Lost) then s
      else logLost (loseSpare s t j) k t cause 0xFFFF k

/-- The tile of a CORECTL page has power, and cores that can answer. -/
def coreUp (s : State) (k : Nat) : Bool :=
  k < 528 && tileUp s (corePage k).1

/-- HEARTBEAT_TIMEOUT (R371). -/
def execHeartbeatTimeout (c : Nat) (s : State) : Host.Outcome State Fault Refusal :=
  if coreUp s c then .next (rejudge (declareLost s c 2)) else .next s

/-- CORE_ECC_ERROR (R372, R405, R406). -/
def execCoreEccError (c : Nat) (uncorrectable : Bool) (s : State) : Host.Outcome State Fault Refusal :=
  if !coreUp s c then .next s
  else if uncorrectable then .next (rejudge (declareLost s c 1))
  else .next (s.modCore c (fun x => { x with corr := satInc x.corr 0xFFFF }))

/-- GRANT_RESEND: a grant not applied is sent again; after the fourth send the core is reported lost (R270). -/
def execGrantResend (c : Nat) (s : State) : Host.Outcome State Fault Refusal :=
  match s.token.grants.find? (fun g => g.core = c && g.released) with
  | none => .next s
  | some g =>
    if g.sends < 4 then .next (modGrant s c (fun x => x.seq = g.seq) (fun x => { x with sends := x.sends + 1 }))
    else .next (rejudge (loseCore (logEvent s 0x1055 3 .token [c, g.n, g.sends, 0]) c 0))

/-- A spare is mapped into each LOST logical core of the mask, in rising order (R363, R443); a core mapped in while its
tile is Stoked is charged its base token when one is free (log entry 27). -/
def mapSpare (s : State) (n : Nat) : State :=
  let t := n / 64
  let x := s.tile t
  let k := if x.spare0 = none && !x.spare0Lost then some 0 else if x.spare1 = none && !x.spare1Lost then some 1 else none
  match k with
  | none => s
  | some k =>
    let s := s.modTile t (fun x => if k = 0 then { x with spare0 := some (n % 64) } else { x with spare1 := some (n % 64) })
    let s := s.setCore n {}
    let s := if x.st = .stoked && counting s && 0 < s.ledgers.tok.free then
        modTok (s.modCore n (fun c => { c with tok := { held := 1, cap := 1 } })) (tokCharge 1)
      else s
    raise (logEvent s 0x3003 1 (.grid t) [t, n % 64, k, 0]) (.grid t) 1

/-- A core without power: its registers of CORECTL stay, a lost core stays LOST, everything else is gone (R369). -/
def coreDown (x : CoreSt) : CoreSt :=
  { ({} : CoreSt) with st := if x.st = .lost then .lost else .idle, lostCause := x.lostCause, startPc := x.startPc, arg := x.arg,
                       corr := x.corr, regSel := x.regSel, lsAddr := x.lsAddr, queueSel := x.queueSel }

/-- Cores of tile `t` with something to hold, spares' pages among them. -/
def tileCoreKeys (s : State) (t : Nat) : List Nat :=
  (s.cores.map (·.1)).filter (fun n => n / 64 = t || (512 ≤ n && (n - 512) / 2 = t))

/-- Tile `t` loses power: its cores' state, its tallies and the traffic to its cores are gone, and its ledger rows read
0 (R116, R374), unless a ledger fault has frozen them (R130; DESIGN CHOICE, log entry 99). Lost cores stay lost (R363, R369). -/
def tileReset (s : State) (t : Nat) : State :=
  let mine (n : Nat) : Bool := n / 64 = t
  let s := forEach (tileCoreKeys s t) s (fun s n => s.modCore n coreDown)
  let s := { s with grid := { s.grid with
    msgs := s.grid.msgs.filter (fun m => !mine m.dst),
    grants := s.grid.grants.filter (fun p => !mine p.rcv), returns := s.grid.returns.filter (fun p => !mine p.rcv),
    credits := s.grid.credits.filter (fun e => !mine (e.1 % 4096 / 8)),
    adds := s.grid.adds.filter (fun a => a.tally / 512 ≠ t), tallies := s.grid.tallies.filter (fun e => e.1 / 512 ≠ t) } }
  modTally (modCred s t (fun _ => {})) t (fun _ => {})

/-! ### Tile clock (R336 to R339, R367) -/

/-- A write of CLOCK (Table 11.7). The register shows the new STEP at once; CHANGING shows the change. -/
def writeClock (t : Nat) (w : RegWrite) (s : State) : State × RefCode :=
  let old := calStep s t
  let v := fld (w.merged (word [(0, old)])).toNat 0 6
  let vf := calVf s t v
  guarded s (.grid t) 0x40 w
    { outOfRange := v < 12 || 32 < v,
      wrongState := (s.tile t).changing.isSome ||
        (old < v && (calSetpoint s (2 * t) < vf || vsetNow s (2 * t) / 5000 < vf)) }
    (fun s => if v = old then s
      else (setCalN s (0x4640 + 48 * t) 1 v).modTile t (fun x => { x with changing := some (old, w.master.num) }))

/-- STEP_WRITE. -/
def execStepWrite (t : Nat) (w : RegWrite) (s : State) : Host.Outcome State Fault Refusal := .next (writeClock t w s).1

/-- CLOCK_CHANGE_DONE (R339). -/
def execClockChangeDone (t : Nat) (s : State) : Host.Outcome State Fault Refusal :=
  match (s.tile t).changing with
  | none => .next s
  | some (old, who) =>
    let s := s.modTile t (fun x => { x with changing := none })
    .next (raise (logEvent s 0x3005 0 (.grid t) [t, 50 * old, 50 * calStep s t, who]) (.grid t) 2)

/-! ### CORECTL (R333, R356 to R358, R377, Tables 11.13 to 11.18) -/

/-- The core waits on a tally or for a credit (R387). -/
def isWaiting (x : CoreSt) : Bool :=
  match x.stall with
  | some (.send _) => true
  | some (.twait _) => true
  | _ => false

/-- STATE of a CORECTL page while its tile has power (Table 11.2). -/
def coreCode (s : State) (k : Nat) : Nat :=
  if k < 512 then
    match (s.core k).st with
    | .idle => 0x2
    | .running => if isWaiting (s.core k) then 0x7 else 0x6
    | .stopped => 0x8 | .faulted => 0x9 | .lost => 0xA
  else
    let x := s.tile ((k - 512) / 2)
    if (k - 512) % 2 = 0 then (if x.spare0Lost then 0xA else if x.spare0.isSome then 0xC else 0xB)
    else (if x.spare1Lost then 0xA else if x.spare1.isSome then 0xC else 0xB)

/-- A fresh architectural state (R376): everything 0 but s1; memories and page registers stay. -/
def freshCore (x : CoreSt) (pc : Nat) (s1 : Word) (slot : Option Nat) : CoreSt :=
  { x with st := .running, pc := pc, s := put 0 [] 1 s1, a := [], v := [], acc := [], fpflags := 0, mode := 0, loops := [], cycles := 0,
           queues := [], engines := [], stall := none, stopping := false, slot := slot, yielded := false, ended := false,
           wait := none }

/-- START by hand; what an earlier program left of its queues is released first. -/
def startHand (s : State) (n : Nat) : State :=
  let s := releaseQueues s [n]
  s.modCore n (fun x => freshCore x x.startPc x.arg none)

/-- STOP is accepted: the core is to halt at an instruction boundary (R357). -/
def stopCore (s : State) (n : Nat) : State := s.modCore n (fun x => { x with stopping := true })

/-- A stopped core goes on: STOKE to its holding at the stop, engines continue (R357, R399). -/
def resumeCore (s : State) (n : Nat) : State :=
  let s := s.modCore n (fun x => { x with st := .running, engines := x.engines.map (fun e =>
    (e.1, if e.2.run = .paused then { e.2 with run := .running } else e.2)) })
  stokeTo s n (s.core n).tok.atStop

/-- A write of OP (Tables 11.3, 11.14). -/
def writeOp (k : Nat) (w : RegWrite) (s : State) : State × RefCode :=
  let code := fld w.value.toNat 0 2
  let x := s.core k
  let stoked : Bool := (s.tile (corePage k).1).st = .stoked
  guarded s (.corectl k) 0x40 w
    { outOfRange := !w.full || code = 0,
      wrongState := 512 ≤ k ||
        (code = 1 && !((x.st = .idle || x.st = .stopped || x.st = .faulted) && stoked && !inPartition s k)) ||
        (code = 2 && x.st ≠ .running) || (code = 3 && !(x.st = .stopped && stoked)),
      ledgerFault := code = 1 && ledgerFaulted s }
    (fun s => if code = 1 then startHand s k else if code = 2 then stopCore s k else resumeCore s k)

/-- START. -/
def execStart (k : Nat) (w : RegWrite) (s : State) : Host.Outcome State Fault Refusal := .next (writeOp k w s).1
/-- STOP. -/
def execStop (k : Nat) (w : RegWrite) (s : State) : Host.Outcome State Fault Refusal := .next (writeOp k w s).1
/-- RESUME. -/
def execResume (k : Nat) (w : RegWrite) (s : State) : Host.Outcome State Fault Refusal := .next (writeOp k w s).1

/-- Every core of a command has halted. -/
def allHalted (s : State) (k : Nat) (c : Cmd) : Bool :=
  c.cores.all (fun n => (s.core n).slot ≠ some k || (s.core n).st ≠ .running)

/-- After a core of an aborted command halts: once all have, it ends with ABORTED, or with SUCCESS when every one had
executed END (R462). -/
def abortCheck (s : State) (k : Nat) : State :=
  match s.cmd k with
  | some c =>
    if c.aborting && c.switch = .on && c.st = .running && allHalted s k c then
      endCmd s k (if c.cores.all (fun n => (s.core n).ended) then 0x00 else 0x22) 0 0
    else s
  | none => s

/-- CORE_HALT: a core told to stop halts at an instruction boundary; a stalled instruction is abandoned (R357, R399). -/
def execCoreHalt (c : Nat) (s : State) : Host.Outcome State Fault Refusal :=
  let x := s.core c
  if x.stopping && x.st = .running then
    let s := raise (haltCore s c .stopped) (.corectl c) 0
    .next (rejudge (match x.slot with
      | some k => abortCheck s k
      | none => s))
  else .next s

/-- Status of a stream engine (R419). -/
def engStatus (e : EngineSt) : Word :=
  let st := match e.run with | .idle => 0 | .running => 1 | .paused => 2 | .faulted => 3
  word [(0, st), (4, e.cause), (8, e.tiles.length), (16, min (e.outer - e.j) 0xFFFF)]

/-- TOK (Table 12.2). -/
def tokCsr (s : State) (n : Nat) : Word :=
  let k := (s.core n).tok
  let r := if k.seen then recallTarget k else none
  word [(0, k.held), (4, effCap s k), (8, (requestOf s n).elim 0 (·.target)), (12, r.getD 0), (16, b2n r.isSome), (17, b2n k.clamped)]

/-- Level `j` of the loop stack, counted from the outermost. -/
def loopLevel (x : CoreSt) (j : Nat) : Option LoopLevel := x.loops.reverse[j]?

/-- CYCLE of a core: clock cycles since START. Those that pass between two looks at it, while the core runs, are a free number (log
entry 84). -/
def cycleNow (s : State) (n : Nat) : DWord :=
  let x := s.core n
  if x.st = .running then x.cycles + (Config.freeWord s.free ++ Config.freeWord (s.free + 1)) else x.cycles

/-- Control register `r` as a core reads it (Table 12.2). -/
def csrValue (s : State) (n r : Nat) : Word :=
  let x := s.core n
  match r with
  | 0 => w32 x.pc
  | 1 => word [(0, n), (9, (tenantOf s n).getD 0)]
  | 2 => (cycleNow s n).setWidth 32
  | 3 => (cycleNow s n >>> 32).setWidth 32
  | 4 => tokCsr s n
  | 5 => x.fpflags.setWidth 32
  | 6 => x.mode.setWidth 32
  | 8 => w32 ((loopLevel x 0).elim 0 (·.count))
  | 9 => w32 ((loopLevel x 1).elim 0 (·.count))
  | 10 => w32 ((loopLevel x 2).elim 0 (·.count))
  | 11 => w32 ((loopLevel x 3).elim 0 (·.count))
  | 12 => w32 ((loopLevel x 0).elim 0 (·.last))
  | 13 => w32 ((loopLevel x 1).elim 0 (·.last))
  | 14 => w32 ((loopLevel x 2).elim 0 (·.last))
  | 15 => w32 ((loopLevel x 3).elim 0 (·.last))
  | 16 => w32 x.loops.length
  | 20 => engStatus (look {} x.engines 0)
  | 21 => engStatus (look {} x.engines 1)
  | 22 => engStatus (look {} x.engines 2)
  | 23 => engStatus (look {} x.engines 3)
  | _ => 0

/-- A look at CYCLE brings the count up to the present. -/
def csrFree (s : State) (n r : Nat) : State :=
  if r = 2 || r = 3 then { (s.modCore n (fun x => { x with cycles := cycleNow s n })) with free := s.free + 2 } else s

/-- Scalar register `r`; s0 reads 0 (Table 12.1). -/
def sreg (x : CoreSt) (r : Nat) : Word := if r = 0 then 0 else look 0 x.s r
/-- Write a scalar register; writes to s0 are discarded. -/
def setS (x : CoreSt) (r : Nat) (v : Word) : CoreSt := if r = 0 then x else { x with s := put 0 x.s r v }
def areg (x : CoreSt) (r : Nat) : DWord := look 0 x.a r
def setA (x : CoreSt) (r : Nat) (v : DWord) : CoreSt := { x with a := put 0 x.a r v }
def vreg (x : CoreSt) (r : Nat) : Vec := look 0 x.v r
def setV (x : CoreSt) (r : Nat) (v : Vec) : CoreSt := { x with v := put 0 x.v r v }
/-- Word of an accumulator: row `i`, column `j` of acc `m`. -/
def accWord (x : CoreSt) (m i j : Nat) : Word := look 0 x.acc (1024 * m + 32 * i + j)
def setAcc (x : CoreSt) (m i j : Nat) (v : Word) : CoreSt := { x with acc := put 0 x.acc (1024 * m + 32 * i + j) v }

/-- The core's registers can be inspected (R358). -/
def inspectable (s : State) (k : Nat) : Bool := (s.core k).st = .stopped || (s.core k).st = .faulted

/-- Architectural word `i` (R377). -/
def archWord (s : State) (n i : Nat) : Word :=
  let x := s.core n
  if i < 32 then sreg x i
  else if i < 64 then w32 ((areg x ((i - 32) / 2)).toNat / 2 ^ (32 * (i % 2)))
  else if i < 576 then w32 ((vreg x ((i - 64) / 16)).toNat / 2 ^ (32 * ((i - 64) % 16)))
  else if i < 640 then csrValue s n (i - 576)
  else if 1024 ≤ i && i < 3072 then look 0 x.acc (i - 1024)
  else 0

/-- Replace word `k` of a wide value. -/
def putWord (v k : Nat) (w : Word) : Nat := v - fld v (32 * k) 32 * 2 ^ (32 * k) + w.toNat * 2 ^ (32 * k)

/-- Write architectural word `i` (R357, R377). -/
def setArch (x : CoreSt) (i : Nat) (v : Word) : CoreSt :=
  if i < 32 then setS x i v
  else if i < 64 then setA x ((i - 32) / 2) (BitVec.ofNat 64 (putWord (areg x ((i - 32) / 2)).toNat (i % 2) v))
  else if i < 576 then setV x ((i - 64) / 16) (BitVec.ofNat 512 (putWord (vreg x ((i - 64) / 16)).toNat ((i - 64) % 16) v))
  else if i = 581 then { x with fpflags := v.setWidth 4 }
  else if i = 582 then { x with mode := v.setWidth 3 }
  else if 1024 ≤ i && i < 3072 then { x with acc := put 0 x.acc (i - 1024) v }
  else x

/-- REG_SEL names an architectural word (R377). -/
def archIndex (i : Nat) : Bool := i < 640 || (1024 ≤ i && i < 3072)

/-- A write of REG_DATA (R357, R377): read-only control registers refuse it. -/
def writeRegData (k : Nat) (w : RegWrite) (s : State) : State × RefCode :=
  let i := (s.core k).regSel
  guarded s (.corectl k) 0x58 w
    { outOfRange := 576 ≤ i && i < 640 && i ≠ 581 && i ≠ 582, wrongState := !inspectable s k }
    (fun s => s.modCore k (fun x => setArch x i (w.merged (archWord s k i))))

/-- REG_DATA_WRITE. -/
def execRegDataWrite (k : Nat) (w : RegWrite) (s : State) : Host.Outcome State Fault Refusal := .next (writeRegData k w s).1

/-- The local-store word LS_ADDR names. -/
def lsWord (x : CoreSt) (a : Nat) : Word := w32 (leNat (lsRead x a 4))

/-- LS_ADDR after an access of LS_DATA; past the last word it wraps to 0 (log entry 29). -/
def lsNext (a : Nat) : Nat := (a + 4) % lsSize

/-- A write of LS_DATA (R357, Table 11.16). -/
def writeLsData (k : Nat) (w : RegWrite) (s : State) : State × RefCode :=
  guarded s (.corectl k) 0x60 w { wrongState := !inspectable s k } (fun s => s.modCore k (fun x =>
    { lsWrite x x.lsAddr (leBytes 4 (w.merged (lsWord x x.lsAddr)).toNat) with lsAddr := lsNext x.lsAddr }))

/-- LS_DATA_WRITE. -/
def execLsDataWrite (k : Nat) (w : RegWrite) (s : State) : Host.Outcome State Fault Refusal := .next (writeLsData k w s).1

def readCore (s : State) (k off : Nat) : Word :=
  let x := s.core k
  let ok := inspectable s k
  let q := queueOf x x.queueSel
  match off with
  | 0x44 => word [(0, x.startPc)]
  | 0x48 => x.arg
  | 0x4C => if ok then word [(0, x.pc)] else 0
  | 0x50 => word [(0, x.exc), (16, x.excPc)]
  | 0x54 => word [(0, x.regSel), (31, b2n ok)]
  | 0x58 => if ok then archWord s k x.regSel else 0
  | 0x5C => word [(0, x.lsAddr), (31, b2n ok)]
  | 0x60 => if ok then lsWord x x.lsAddr else 0
  | 0x64 => word [(0, x.queueSel)]
  | 0x68 => word [(0, q.depth), (9, q.count), (18, q.base / 128)]
  | 0x6C => word [(0, x.corr)]
  | _ => 0

/-- Reading LS_DATA advances LS_ADDR; reading CYCLE brings its count up to the present. -/
def coreReadEffect (s : State) (k off : Nat) : State :=
  match off with
  | 0x60 => s.modCore k (fun x => { x with lsAddr := lsNext x.lsAddr })
  | 0x58 => if inspectable s k then csrFree s k ((s.core k).regSel - 576) else s
  | _ => s

def writeCore (k off : Nat) (w : RegWrite) (s : State) : State × RefCode :=
  let p := PageRef.corectl k
  let v := w.merged (readCore s k off)
  match off with
  | 0x40 => writeOp k w s
  | 0x44 => guarded s p off w { outOfRange := fld v.toNat 0 16 % 8 ≠ 0 } (fun s => s.modCore k (fun x => { x with startPc := fld v.toNat 0 16 }))
  | 0x48 => guarded s p off w {} (fun s => s.modCore k (fun x => { x with arg := v }))
  | 0x54 => guarded s p off w { outOfRange := !archIndex (fld v.toNat 0 12) } (fun s => s.modCore k (fun x => { x with regSel := fld v.toNat 0 12 }))
  | 0x58 => writeRegData k w s
  | 0x5C => guarded s p off w { outOfRange := fld v.toNat 0 21 % 4 ≠ 0 || lsSize ≤ fld v.toNat 0 21 } (fun s => s.modCore k (fun x => { x with lsAddr := fld v.toNat 0 21 }))
  | 0x60 => writeLsData k w s
  | 0x64 => guarded s p off w {} (fun s => s.modCore k (fun x => { x with queueSel := fld v.toNat 0 3 }))
  | _ => roWrite s p off w

/-! ### GRID page (Tables 11.6 to 11.12) -/

/-- The logical cores of tile `t`, from core `b`, as a mask. -/
def coreMask (t b : Nat) (f : Nat → Bool) : Word :=
  word ((List.range 32).map (fun k => (k, b2n (f (64 * t + b + k)))))

def readGrid (s : State) (t off : Nat) : Word :=
  let x := s.tile t
  let pend := fun n => decide (intPending s (.corectl n) ≠ 0)
  let lost := fun n => decide ((s.core n).st = .lost)
  match off with
  | 0x40 => word [(0, calStep s t), (8, b2n x.changing.isSome)]
  | 0x44 => word [(0, x.vfSel)]
  | 0x48 => word [(0, calVf s t x.vfSel % 512)]
  | 0x4C => coreMask t 0 lost
  | 0x50 => coreMask t 32 lost
  | 0x54 => word [(0, x.spare0.getD 0), (6, b2n x.spare0.isSome), (7, b2n x.spare0Lost),
      (8, x.spare1.getD 0), (14, b2n x.spare1.isSome), (15, b2n x.spare1Lost)]
  | 0x58 => word [(0, b2n (intPending s (.grid t) ≠ 0)), (1, b2n (intPending s (.tally t) ≠ 0)), (2, b2n (intPending s (.mem t) ≠ 0)),
      (3, b2n ((List.range 64).any (fun k => pend (64 * t + k)))), (4, b2n (pend (512 + 2 * t))), (5, b2n (pend (513 + 2 * t)))]
  | 0x5C => coreMask t 0 pend
  | 0x60 => coreMask t 32 pend
  | 0x64 => word [(0, x.meshRetries), (16, x.bridgeRetries)]
  | _ => 0

def writeGrid (t off : Nat) (w : RegWrite) (s : State) : State × RefCode :=
  match off with
  | 0x40 => writeClock t w s
  | 0x44 =>
    let v := fld (w.merged (readGrid s t off)).toNat 0 6
    guarded s (.grid t) off w { outOfRange := v < 12 || 32 < v } (fun s => s.modTile t (fun x => { x with vfSel := v }))
  | _ => roWrite s (.grid t) off w

end Sys2Proof.Machine
end

