-- ==== Sys2Proof/Machine/Operands.lean ====
section
/-!
DEFINITION. What every core instruction shares (chapter 12): which fields a form uses (R379, R380), its operands and
addresses, the loop stack and the PC (R383 to R385), exceptions in their order (R390), stalls (R387).
-/
namespace Sys2Proof.Machine
open Sys2Proof

/-! ### Fields (R379, R380) -/

/-- The fields a form uses: below what number D, A and B must lie (1: unused, so 0), and whether I, X and IMM are used. -/
structure Uses where
  d : Nat := 1
  a : Nat := 1
  b : Nat := 1
  i : Bool := false
  x : Bool := false
  imm : Bool := false
  deriving DecidableEq, Repr

/-- Every field is in range, and every unused one is 0. -/
def usesOk (u : Uses) (f : Fields) : Bool :=
  f.d.toNat < u.d && f.a.toNat < u.a && f.b.toNat < u.b && (u.i || !f.i) && (u.x || f.x = 0) && (u.imm || f.imm = 0)

/-- D, A and operand: sB with I = 0, IMM with I = 1 (R382). -/
def usesOp (f : Fields) (d a : Nat) : Uses := { d := d, a := a, b := if f.i then 1 else 32, i := true, imm := f.i }

/-- Target holding h: IMM with I = 1, sA with I = 0. -/
def usesH (f : Fields) (x : Bool) : Uses := { a := if f.i then 1 else 32, i := true, imm := f.i, x := x }

/-! ### Operands -/

/-- The operand of R382. -/
def operand (x : CoreSt) (f : Fields) : Word := if f.i then f.imm else sreg x f.b.toNat

/-- Source A as a scalar. -/
def srcA (x : CoreSt) (f : Fields) : Word := sreg x f.a.toNat
/-- Source B as a scalar. -/
def srcB (x : CoreSt) (f : Fields) : Word := sreg x f.b.toNat

/-- Address register `r` plus IMM as an offset, modulo 2^64. -/
def addrOf (x : CoreSt) (r : BitVec 5) (f : Fields) : Nat := (areg x r.toNat + f.imm.signExtend 64).toNat

/-- An access of `n` bytes at a local-store address breaks R378. -/
def lsBad (a n align : Nat) : Bool := a % align ≠ 0 || lsSize < a + n

/-- Format codes of X: [2:0] and [5:3]. -/
def fmtLo (f : Fields) : Nat := f.x.toNat % 8
def fmtHi (f : Fields) : Nat := f.x.toNat / 8

/-! ### PC and loops (R383 to R385) -/

/-- The highest PC. -/
def pcMax : Nat := 0xFFF8

/-- PC and loop stack after the instruction at `a` completes without a taken branch (R384). -/
def fallThrough (a : Nat) : List LoopLevel → Nat × List LoopLevel
  | [] => (a + 8, [])
  | l :: r => if l.last ≠ a then (a + 8, l :: r) else if 1 < l.count then (l.start, { l with count := l.count - 1 } :: r) else fallThrough a r

/-- A taken branch pops each level, from the innermost, whose body excludes the target (R385). -/
def popLoops (t : Nat) : List LoopLevel → List LoopLevel
  | [] => []
  | l :: r => if l.start ≤ t && t ≤ l.last then l :: r else popLoops t r

/-- The instruction runs past 0xFFF8 (R383). -/
def pcOver (x : CoreSt) : Bool := pcMax < (fallThrough x.pc x.loops).1

/-- The core goes on to the next instruction. -/
def pcNext (x : CoreSt) : CoreSt :=
  let r := fallThrough x.pc x.loops
  { x with pc := r.1, loops := r.2 }

/-- The core takes a branch. -/
def pcTake (x : CoreSt) (t : Nat) : CoreSt := { x with pc := t, loops := popLoops t x.loops }

/-- The target of a branch: PC + 8 x IMM. -/
def branchTo (x : CoreSt) (f : Fields) : Int := (x.pc : Int) + 8 * f.imm.toInt

/-- A target that is no instruction address (R383). -/
def targetBad (t : Int) : Bool := t < 0 || (pcMax : Int) < t || t % 8 ≠ 0

/-! ### Running an instruction (R387, R389, R390) -/

/-- The core executes: its tile is Stoked, it runs, and no instruction of it is stalled. -/
def coreGo (s : State) (c : Nat) : Bool :=
  c < 512 && (s.tile (c / 64)).st = .stoked && (s.core c).st = .running && (s.core c).stall = none

/-- The lowest cause that is met (R390). -/
def lowest (l : List (Nat × Bool)) : Option Nat := ((l.filter (·.2)).map (·.1)).min?

/-- The word at the core's PC in its instruction memory (R379). -/
def fetchWord (x : CoreSt) : DWord := BitVec.ofNat 64 (leNat (lookList 0 x.imem x.pc 8))

/-- An instruction is judged, and has its effect or raises its exception; a word that Table 12.4 does not list is ILLEGAL (R380,
R406). -/
def settle (c : Nat) (causes : List (Nat × Bool)) (eff : State → State) (s : State) : State :=
  match lowest ((1, (coreInstr c (fetchWord (s.core c))).isNone) :: causes) with
  | some k => faultCore s c k
  | none => eff s

/-- An instruction that goes on to the next one: its fields, its own causes, PC_RANGE of R383, its effect. -/
def runInstr (c : Nat) (u : Uses) (f : Fields) (causes : CoreSt → List (Nat × Bool)) (eff : State → State) (s : State) :
    Host.Outcome State Fault Refusal :=
  if !coreGo s c then .next s
  else .next (settle c ((1, !usesOk u f) :: (5, pcOver (s.core c)) :: causes (s.core c))
    (fun s => (eff s).modCore c pcNext) s)

/-- An instruction whose effect is on its core alone. -/
def runCore (c : Nat) (u : Uses) (f : Fields) (causes : CoreSt → List (Nat × Bool)) (eff : CoreSt → CoreSt) (s : State) :
    Host.Outcome State Fault Refusal :=
  runInstr c u f causes (fun s => s.modCore c eff) s

/-- An instruction that stalls its core without effect until `ready` (R387). -/
def runStall (c : Nat) (u : Uses) (f : Fields) (causes : CoreSt → List (Nat × Bool)) (st : Stall) (ready : State → Bool)
    (eff : State → State) (s : State) : Host.Outcome State Fault Refusal :=
  if !coreGo s c then .next s
  else .next (settle c ((1, !usesOk u f) :: (5, pcOver (s.core c)) :: causes (s.core c))
    (fun s => if ready s then (eff s).modCore c pcNext else s.modCore c (fun x => { x with stall := some st })) s)

/-- No causes of its own. -/
def noCause (_ : CoreSt) : List (Nat × Bool) := []

end Sys2Proof.Machine
end

