-- ==== Sys2Proof/Machine/IsaScalar.lean ====
section
/-!
DEFINITION. Scalar, local-store and control instructions (Table 12.4, classes 0, 1 and 2).
-/
namespace Sys2Proof.Machine
open Sys2Proof

/-! ### Class 0: scalar -/

/-- sD := sA op operand. -/
def scalarOp (op : Word → Word → Word) (c : Nat) (f : Fields) (s : State) : Host.Outcome State Fault Refusal :=
  runCore c (usesOp f 32 32) f noCause (fun x => setS x f.d.toNat (op (srcA x f) (operand x f))) s

/-- The amount of a shift: the operand's [4:0]. -/
def shamt (w : Word) : Nat := w.toNat % 32

/-- ADD. -/
def execAdd (c : Nat) (f : Fields) (s : State) : Host.Outcome State Fault Refusal := scalarOp (· + ·) c f s
/-- SUB. -/
def execSub (c : Nat) (f : Fields) (s : State) : Host.Outcome State Fault Refusal := scalarOp (· - ·) c f s
/-- AND. -/
def execAnd (c : Nat) (f : Fields) (s : State) : Host.Outcome State Fault Refusal := scalarOp (· &&& ·) c f s
/-- OR. -/
def execOr (c : Nat) (f : Fields) (s : State) : Host.Outcome State Fault Refusal := scalarOp (· ||| ·) c f s
/-- XOR. -/
def execXor (c : Nat) (f : Fields) (s : State) : Host.Outcome State Fault Refusal := scalarOp (· ^^^ ·) c f s
/-- SHL. -/
def execShl (c : Nat) (f : Fields) (s : State) : Host.Outcome State Fault Refusal := scalarOp (fun a b => a <<< shamt b) c f s
/-- SHR. -/
def execShr (c : Nat) (f : Fields) (s : State) : Host.Outcome State Fault Refusal := scalarOp (fun a b => a >>> shamt b) c f s
/-- SRA. -/
def execSra (c : Nat) (f : Fields) (s : State) : Host.Outcome State Fault Refusal :=
  scalarOp (fun a b => a.sshiftRight (shamt b)) c f s
/-- MUL: the low 32 bits. -/
def execMul (c : Nat) (f : Fields) (s : State) : Host.Outcome State Fault Refusal := scalarOp (· * ·) c f s
/-- MULH: the signed high 32 bits. -/
def execMulh (c : Nat) (f : Fields) (s : State) : Host.Outcome State Fault Refusal :=
  scalarOp (fun a b => BitVec.ofInt 32 (a.toInt * b.toInt / 2 ^ 32)) c f s
/-- SLT: signed. -/
def execSlt (c : Nat) (f : Fields) (s : State) : Host.Outcome State Fault Refusal := scalarOp (fun a b => w32 (b2n (a.slt b))) c f s
/-- SLTU: unsigned. -/
def execSltu (c : Nat) (f : Fields) (s : State) : Host.Outcome State Fault Refusal := scalarOp (fun a b => w32 (b2n (a.ult b))) c f s
/-- MIN: signed. -/
def execMin (c : Nat) (f : Fields) (s : State) : Host.Outcome State Fault Refusal := scalarOp (fun a b => if b.slt a then b else a) c f s
/-- MAX: signed. -/
def execMax (c : Nat) (f : Fields) (s : State) : Host.Outcome State Fault Refusal := scalarOp (fun a b => if a.slt b then b else a) c f s

/-- AADD: aD := aA + sign-extended operand. -/
def execAadd (c : Nat) (f : Fields) (s : State) : Host.Outcome State Fault Refusal :=
  runCore c (usesOp f 16 16) f noCause (fun x => setA x f.d.toNat (areg x f.a.toNat + (operand x f).signExtend 64)) s

/-- AMOV: aD := sA + sB x 2^32. -/
def execAmov (c : Nat) (f : Fields) (s : State) : Host.Outcome State Fault Refusal :=
  runCore c { d := 16, a := 32, b := 32 } f noCause
    (fun x => setA x f.d.toNat (BitVec.ofNat 64 ((srcA x f).toNat + (srcB x f).toNat * 2 ^ 32))) s

/-- ARD: sD := word X[0] of aA. -/
def execArd (c : Nat) (f : Fields) (s : State) : Host.Outcome State Fault Refusal :=
  runCore c { d := 32, a := 16, x := true } f noCause
    (fun x => setS x f.d.toNat (w32 ((areg x f.a.toNat).toNat / 2 ^ (32 * (f.x.toNat % 2))))) s

/-! ### Class 1: local store, control registers -/

/-- LD: sD := word at aA + IMM. -/
def execLd (c : Nat) (f : Fields) (s : State) : Host.Outcome State Fault Refusal :=
  runCore c { d := 32, a := 16, imm := true } f (fun x => [(6, lsBad (addrOf x f.a f) 4 4)])
    (fun x => setS x f.d.toNat (w32 (leNat (lsRead x (addrOf x f.a f) 4)))) s

/-- ST: word at aA + IMM := sB. -/
def execSt (c : Nat) (f : Fields) (s : State) : Host.Outcome State Fault Refusal :=
  runCore c { a := 16, b := 32, imm := true } f (fun x => [(6, lsBad (addrOf x f.a f) 4 4)])
    (fun x => lsWrite x (addrOf x f.a f) (leBytes 4 (srcB x f).toNat)) s

/-- LDA: aD := double word at aA + IMM. -/
def execLda (c : Nat) (f : Fields) (s : State) : Host.Outcome State Fault Refusal :=
  runCore c { d := 16, a := 16, imm := true } f (fun x => [(6, lsBad (addrOf x f.a f) 8 8)])
    (fun x => setA x f.d.toNat (BitVec.ofNat 64 (leNat (lsRead x (addrOf x f.a f) 8)))) s

/-- STA: double word at aA + IMM := aB. -/
def execSta (c : Nat) (f : Fields) (s : State) : Host.Outcome State Fault Refusal :=
  runCore c { a := 16, b := 16, imm := true } f (fun x => [(6, lsBad (addrOf x f.a f) 8 8)])
    (fun x => lsWrite x (addrOf x f.a f) (leBytes 8 (areg x f.b.toNat).toNat)) s

/-- The control register an instruction names: IMM[7:0]. -/
def csrNum (f : Fields) : Nat := f.imm.toNat % 256

/-- CSRR: sD := control register; a reserved one reads 0 (Table 12.2). -/
def execCsrr (c : Nat) (f : Fields) (s : State) : Host.Outcome State Fault Refusal :=
  runInstr c { d := 32, imm := true } f noCause
    (fun s => (csrFree s c (csrNum f)).modCore c (fun x => setS x f.d.toNat (csrValue s c (csrNum f)))) s

/-- CSRW: FPFLAGS or MODE := sA; any other register is ILLEGAL (Tables 12.2, 12.5). `sets` are the flags that an instruction sets in
the same cycle: one that is set stays set (R404). -/
def execCsrw (c : Nat) (f : Fields) (sets : BitVec 4) (s : State) : Host.Outcome State Fault Refusal :=
  runCore c { a := 32, imm := true } f (fun _ => [(1, csrNum f ≠ 5 && csrNum f ≠ 6)])
    (fun x => if csrNum f = 5 then { x with fpflags := (srcA x f).setWidth 4 ||| (x.fpflags &&& sets) } else { x with mode := (srcA x f).setWidth 3 }) s

/-! ### Class 2: control -/

/-- A branch: with the condition met, PC := PC + 8 x IMM. A target outside instruction memory raises PC_RANGE whether or not
the branch is taken (R383). -/
def branch (cond : Word → Word → Bool) (c : Nat) (f : Fields) (s : State) : Host.Outcome State Fault Refusal :=
  if !coreGo s c then .next s
  else
    let x := s.core c
    let take := cond (srcA x f) (srcB x f)
    .next (settle c [(1, !usesOk { a := 32, b := 32, imm := true } f), (5, targetBad (branchTo x f) || (!take && pcOver x))]
      (fun s => s.modCore c (fun x => if take then pcTake x (branchTo x f).toNat else pcNext x)) s)

/-- BEQ. -/
def execBeq (c : Nat) (f : Fields) (s : State) : Host.Outcome State Fault Refusal := branch (fun a b => a = b) c f s
/-- BNE. -/
def execBne (c : Nat) (f : Fields) (s : State) : Host.Outcome State Fault Refusal := branch (fun a b => a ≠ b) c f s
/-- BLT: signed. -/
def execBlt (c : Nat) (f : Fields) (s : State) : Host.Outcome State Fault Refusal := branch (fun a b => a.slt b) c f s
/-- BGE: signed. -/
def execBge (c : Nat) (f : Fields) (s : State) : Host.Outcome State Fault Refusal := branch (fun a b => !a.slt b) c f s
/-- BLTU. -/
def execBltu (c : Nat) (f : Fields) (s : State) : Host.Outcome State Fault Refusal := branch (fun a b => a.ult b) c f s
/-- BGEU. -/
def execBgeu (c : Nat) (f : Fields) (s : State) : Host.Outcome State Fault Refusal := branch (fun a b => !a.ult b) c f s

/-- A jump to a target, with what it writes first. -/
def jump (c : Nat) (u : Uses) (f : Fields) (dest : CoreSt → Int) (pre : CoreSt → CoreSt) (s : State) :
    Host.Outcome State Fault Refusal :=
  if !coreGo s c then .next s
  else .next (settle c [(1, !usesOk u f), (5, targetBad (dest (s.core c)))]
    (fun s => s.modCore c (fun x => pcTake (pre x) (dest x).toNat)) s)

/-- J. -/
def execJ (c : Nat) (f : Fields) (s : State) : Host.Outcome State Fault Refusal :=
  jump c { imm := true } f (fun x => branchTo x f) id s

/-- JAL: sD := PC + 8 first. -/
def execJal (c : Nat) (f : Fields) (s : State) : Host.Outcome State Fault Refusal :=
  jump c { d := 32, imm := true } f (fun x => branchTo x f) (fun x => setS x f.d.toNat (w32 (x.pc + 8))) s

/-- JR: PC := sA. -/
def execJr (c : Nat) (f : Fields) (s : State) : Host.Outcome State Fault Refusal :=
  jump c { a := 32 } f (fun x => ((srcA x f).toNat : Int)) id s

/-- Instructions in a LOOP's body, and its count (R384). -/
def loopBody (f : Fields) : Nat := f.imm.toNat / 65536
def loopCount (x : CoreSt) (f : Fields) : Nat := if f.i then f.imm.toNat % 65536 else (srcA x f).toNat

/-- R384 is broken: no body, a body past the enclosing body's end, or a fifth level. -/
def loopBroken (x : CoreSt) (f : Fields) : Bool :=
  loopBody f = 0 || (x.loops.head?.any (fun l => l.last < x.pc + 8 * loopBody f)) || (0 < loopCount x f && 4 ≤ x.loops.length)

/-- LOOP: pushes a level; a count of 0 skips the body, as if its last instruction had completed (R384). -/
def execLoop (c : Nat) (f : Fields) (s : State) : Host.Outcome State Fault Refusal :=
  if !coreGo s c then .next s
  else
    let x := s.core c
    let n := loopCount x f
    let last := x.pc + 8 * loopBody f
    let skip := fallThrough last x.loops
    .next (settle c
      [(1, !usesOk { a := if f.i then 1 else 32, i := true, imm := true } f), (4, loopBroken x f),
       (5, pcMax < last || (n = 0 && pcMax < skip.1))]
      (fun s => s.modCore c (fun x =>
        if n = 0 then { x with pc := skip.1, loops := skip.2 }
        else { x with pc := x.pc + 8, loops := ⟨n, x.pc + 8, last⟩ :: x.loops })) s)

/-- NOP. -/
def execNop (c : Nat) (f : Fields) (s : State) : Host.Outcome State Fault Refusal := runCore c {} f noCause id s

end Sys2Proof.Machine
end

