-- ==== Sys2Proof/Machine/IsaMatrix.lean ====
section
/-!
DEFINITION. Stream engines (chapter 13, R415 to R420) with their instructions, and matrix instructions (Table 12.4, classes
3 and 4).
-/
namespace Sys2Proof.Machine
open Sys2Proof

/-! ### Stream descriptors (Table 13.2, R415 to R418) -/

def engOf (x : CoreSt) (e : Nat) : EngineSt := look {} x.engines e
def setEng (x : CoreSt) (e : Nat) (g : EngineSt) : CoreSt := { x with engines := put {} x.engines e g }

/-- The engine is busy: running or paused (R387). -/
def engBusy (g : EngineSt) : Bool := g.run = .running || g.run = .paused

/-- Bytes of a unit: a whole weight tile, or a line (R415, R416). -/
def unitBytes (g : EngineSt) : Nat := if g.mode ≠ 0 then 64 else if g.inFmt = 6 then 512 else if g.inFmt = 3 then 2048 else 1024

/-- The engine a descriptor describes, not yet judged; other fields keep what the engine holds. -/
def parseDesc (g : EngineSt) (b : List Byte) : EngineSt :=
  let n (o k : Nat) : Nat := leNat ((b.drop o).take k)
  { g with run := .idle, loaded := true, cause := 0, base := n 0 8, sbase := n 8 8, ostride := n 16 8, sstride := n 24 8,
           lsaddr := n 32 4, lstride := n 36 4, mode := n 40 1 % 4, inFmt := n 40 1 / 16 % 8, outFmt := n 41 1 % 8,
           inner := n 44 2, outer := n 46 2, j := 0, i := 0 }

/-- Bits of CTRL and bytes 48 to 63 that must be 0. -/
def descReserved (b : List Byte) : Bool :=
  leNat ((b.drop 40).take 4) &&& (0xFFFFFFFF - 0x773) = 0 && (b.drop 48).all (· = 0)

/-- Formats of MODE 0 (R416). -/
def streamFmts (i o : Nat) : Bool := (i ≤ 3 && o = i) || (i = 6 && (o = 1 || o = 3))

/-- The local-store addresses of a descriptor end within the local store (R418). -/
def descLs (g : EngineSt) : Bool := g.mode = 0 || g.lsaddr + (g.outer - 1) * g.lstride + 64 * g.inner ≤ lsSize

/-- The rules of R415, R416 and Table 13.2. -/
def descOk (g : EngineSt) (b : List Byte) : Bool :=
  descReserved b && g.mode ≤ 2 && g.base < 2 ^ 39 && g.base % 64 = 0 && g.sbase % 16 = 0 && g.ostride % 64 = 0 && g.ostride < 2 ^ 39 &&
  g.sstride % 16 = 0 && g.sstride < 2 ^ 39 && g.lsaddr % 64 = 0 && g.lstride % 64 = 0 && 1 ≤ g.inner && 1 ≤ g.outer &&
  (g.inFmt = 6 || (g.sbase = 0 && g.sstride = 0)) &&
  (if g.mode = 0 then streamFmts g.inFmt g.outFmt && g.lsaddr = 0 && g.lstride = 0 else g.inFmt = 0 && g.outFmt = 0) && descLs g

/-- `n` bytes from `a` lie in the memory a core may touch: the pages of its command's partition (R453); a core started by
hand has no partition to bound it (log entry 26). -/
def coreMem (s : State) (c a n : Nat) : Bool :=
  match coreCmd s c with
  | none => mappedAll s a n
  | some k =>
    match cmdPlate s k with
    | none => false
    | some p =>
      let d := (s.part p.part).active
      let t := dpaStack a
      let lo := look 0 d.memBase t * 2 ^ 21
      t < 8 && lo ≤ dpaOff a && dpaOff a + n ≤ lo + look 0 d.memPages t * 2 ^ 21

/-- Every byte a descriptor touches is in that memory. -/
def descInside (s : State) (c : Nat) (g : EngineSt) : Bool :=
  (List.range g.outer).all (fun j =>
    coreMem s c (g.base + j * g.ostride) (g.inner * unitBytes g) &&
    (g.inFmt ≠ 6 || coreMem s c (g.sbase + j * g.sstride) (16 * g.inner)))

/-! ### Class 3: stream instructions -/

/-- What a fault of an engine raises: MEM_LOST for lost data, STREAM for the rest (R390, R420). -/
def engLost (g : EngineSt) : Bool := g.run = .faulted && g.cause = 3
def engBad (g : EngineSt) : Bool := g.run = .faulted && g.cause ≠ 3

/-- The engine after SCFG: loaded, or faulted with its cause (R418, R419). -/
def loadEng (s : State) (c e a : Nat) : EngineSt :=
  let x := s.core c
  let b := lsRead x a 64
  let g := parseDesc (engOf x e) b
  if !descOk g b then { g with run := .faulted, loaded := false, cause := 1 }
  else if !descInside s c g then { g with run := .faulted, loaded := false, cause := 2 }
  else g

/-- SCFG: stalls while the engine is busy; a bad descriptor is raised by the next SWAIT or MMA naming the engine (R390). An engine that
has faulted for STREAM raises it (Table 12.4, log entry 81). -/
def scfg (c : Nat) (f : Fields) (s : State) : Host.Outcome State Fault Refusal :=
  runStall c { d := 4, a := 16, imm := true } f (fun x => [(6, lsBad (addrOf x f.a f) 64 64), (0xA, engBad (engOf x f.d.toNat))]) (.scfg f)
    (fun s => !engBusy (engOf (s.core c) f.d.toNat))
    (fun s => s.modCore c (fun x => setEng x f.d.toNat (loadEng s c f.d.toNat (addrOf x f.a f)))) s

/-- SCFG. -/
def execScfg (c : Nat) (f : Fields) (s : State) : Host.Outcome State Fault Refusal := scfg c f s

/-- SGO: starts a loaded engine from its first unit. Without a descriptor, or while it is busy, it raises STREAM; an engine
that has faulted stays so (R390). -/
def execSgo (c : Nat) (f : Fields) (s : State) : Host.Outcome State Fault Refusal :=
  runInstr c { d := 4 } f
    (fun x => let g := engOf x f.d.toNat
      [(0xA, engBusy g || (g.run ≠ .faulted && !g.loaded))])
    (fun s =>
      let g := engOf (s.core c) f.d.toNat
      if g.run = .faulted then s
      else { (s.modCore c (fun x => setEng x f.d.toNat { g with run := .running, i := 0, j := 0, id := s.grid.nextId })) with
             grid := { s.grid with nextId := s.grid.nextId + 1 } }) s

/-- Engines in a mask. -/
def engMask (x : CoreSt) (m : Nat) : List EngineSt := (bitsOf 4 m).map (engOf x)

/-- SWAIT: stalls until the engines in IMM[3:0] are idle. -/
def swait (c : Nat) (f : Fields) (s : State) : Host.Outcome State Fault Refusal :=
  let m := f.imm.toNat % 16
  runStall c { imm := true } f (fun x => [(0xA, (engMask x m).any engBad), (0xB, (engMask x m).any engLost)]) (.swait f)
    (fun s => !(engMask (s.core c) m).any engBusy) id s

/-- SWAIT. -/
def execSwait (c : Nat) (f : Fields) (s : State) : Host.Outcome State Fault Refusal := swait c f s

/-- SSTAT: sD := status of engine A (R419). -/
def execSstat (c : Nat) (f : Fields) (s : State) : Host.Outcome State Fault Refusal :=
  runCore c { d := 32, a := 4 } f noCause (fun x => setS x f.d.toNat (engStatus (engOf x f.a.toNat))) s

/-- SSTOP: the engine's descriptor is abandoned and its output emptied. -/
def execSstop (c : Nat) (f : Fields) (s : State) : Host.Outcome State Fault Refusal :=
  runCore c { d := 4 } f noCause (fun x => setEng x f.d.toNat {}) s

/-! ### Transfers (R415 to R420, R434) -/

/-- An element of a tile as read: little-endian, of the format's width. -/
def elemAt (f : Nat) (b : List Byte) (p : Nat) : Nat :=
  let w := fmtBits f / 8
  leNat ((b.drop (w * p)).take w)

/-- The weights of a tile in the engine's output format, and whether one saturated (R396, R416). -/
def expandTile (g : EngineSt) (seed : Nat) (b sc : List Byte) : List (BitVec 16) × Bool :=
  if g.inFmt = 6 then
    let o := (List.range 1024).map (fun p =>
      let nib := fld (b.getD (p / 2) 0).toNat (4 * (p % 2)) 4
      int4Weight g.outFmt ⟨20, seed, p⟩ nib (elemAt 3 sc (p / 128)))
    (o.map (fun x => BitVec.ofNat 16 x.bits), o.any (fun x => x.flags ≠ 0))
  else ((List.range 1024).map (fun p => BitVec.ofNat 16 (elemAt g.inFmt b p)), false)

/-- The engine moves on to its next unit; after the last it is idle. -/
def nextUnit (g : EngineSt) : EngineSt :=
  if g.i + 1 < g.inner then { g with i := g.i + 1 }
  else if g.j + 1 < g.outer then { g with i := 0, j := g.j + 1 }
  else { g with i := 0, j := g.outer, run := .idle }

/-- DPA of the present unit, of its scales, and its local-store address (R415). -/
def unitAddr (g : EngineSt) : Nat := g.base + g.j * g.ostride + g.i * unitBytes g
def scaleAddr (g : EngineSt) : Nat := g.sbase + g.j * g.sstride + 16 * g.i
def unitLs (g : EngineSt) : Nat := g.lsaddr + g.j * g.lstride + 64 * g.i

/-- The engine faults with a cause (R419). -/
def engFault (s : State) (c e cause : Nat) : State :=
  s.modCore c (fun x => setEng x e { (engOf x e) with run := .faulted, cause := cause })

/-- STREAM_ENGINE_TRANSFER: one unit of a running engine; `ecc` is what the reads of its lines, and of its scales' line, find. -/
def execStreamEngineTransfer (c e : Nat) (ecc : EccFound) (s : State) : Host.Outcome State Fault Refusal :=
  let g := engOf (s.core c) e
  let a := unitAddr g
  let n := unitBytes g
  let scales : Bool := g.mode = 0 && g.inFmt = 6
  let b := scaleAddr g
  if 4 ≤ e || 512 ≤ c || g.run ≠ .running || (g.mode = 0 && 8 ≤ g.tiles.length) then .next s
  else if !stackUp s (dpaStack a) || (scales && !stackUp s (dpaStack b)) then .next (engFault s c e 4)
  else if (s.stack (dpaStack a)).retiring || (scales && (s.stack (dpaStack b)).retiring) then .next s
  else if !mappedAll s a n || (scales && !mappedAll s b 16) then .next (engFault s c e 3)
  else if g.mode = 2 then
    .next ((memWrite s a (lsRead (s.core c) (unitLs g) 64)).modCore c (fun x => setEng x e (nextUnit g)))
  else
    let s := codeEnd (eccFound s (fun l => inLines a n l || (scales && inLines b 16 l)) ecc)
    if (engOf (s.core c) e).run ≠ .running then .next s
    else if (firstPoison s a n).isSome || (scales && (firstPoison s b 16).isSome) then .next (engFault s c e 3)
    else if g.mode = 1 then .next (s.modCore c (fun x => setEng (lsWrite x (unitLs g) (memRead s a 64)) e (nextUnit g)))
    else
      let t := expandTile g s.free (memRead s a n) (memRead s b 16)
      .next { (s.modCore c (fun x =>
        let x := if t.2 then { x with fpflags := x.fpflags ||| 2 } else x
        setEng x e { (nextUnit g) with tiles := g.tiles ++ [t.1] })) with free := s.free + b2n scales }

/-! ### Class 4: matrix -/

/-- The accepted format pairs (R391). -/
def mmaPair (a w : Nat) : Bool := (a = 0 && w = 0) || ((a = 1 || a = 2) && (w = 1 || w = 2)) || (a = 3 && w = 3)

/-- The result of one element of an MMA. -/
def mmaElem (zero : Bool) (seed fa fw : Nat) (A : List Nat) (W : List (BitVec 16)) (old : Nat → Word) (p : Nat) : LaneOut :=
  let ps := (List.range 32).map (fun k => (A.getD (p / 32 * 32 + k) 0, (W.getD (p % 32 * 32 + k) 0).toNat))
  let acc := if zero then 0 else (old p).toNat
  if fa = 0 then macInt acc ps else macFp ⟨10, seed, p⟩ fa fw acc ps

/-- Flags of a list of results. -/
def flagsOf (l : List LaneOut) : Nat := l.foldl (fun a o => a ||| o.flags) 0

/-- FPFLAGS are sticky (Table 12.2). -/
def addFlags (x : CoreSt) (n : Nat) : CoreSt := { x with fpflags := x.fpflags ||| BitVec.ofNat 4 n }

/-- Write every word of an accumulator. -/
def setAccAll (x : CoreSt) (m : Nat) (l : List Word) : CoreSt := { x with acc := putList 0 x.acc (1024 * m) l }

/-- The accumulator after an MMA, the tile taken from the engine, and the flags (R391, R392). -/
def mmaEffect (zero : Bool) (seed : Nat) (f : Fields) (x : CoreSt) : CoreSt :=
  let m := f.d.toNat
  let g := engOf x f.b.toNat
  let bytes := lsRead x (addrOf x f.a f) (1024 * (fmtBits (fmtLo f) / 8))
  let A := (List.range 1024).map (elemAt (fmtLo f) bytes)
  let o := (List.range 1024).map (mmaElem zero seed (fmtLo f) (fmtHi f) A (g.tiles.headD []) (fun p => look 0 x.acc (1024 * m + p)))
  let x := setEng x f.b.toNat { g with tiles := g.tiles.tail }
  addFlags (setAccAll x m (o.map (fun r => w32 r.bits))) (flagsOf o)

/-- MMA and MMAZ. -/
def mma (zero : Bool) (c : Nat) (f : Fields) (s : State) : Host.Outcome State Fault Refusal :=
  runStall c { d := 2, a := 16, b := 4, x := true, imm := true } f
    (fun x =>
      let g := engOf x f.b.toNat
      [(2, !mmaPair (fmtLo f) (fmtHi f)), (6, lsBad (addrOf x f.a f) (1024 * (fmtBits (fmtLo f) / 8)) 64),
       (0xA, engBad g || (!engLost g && (fmtHi f ≠ g.outFmt || (g.tiles = [] && g.run = .idle)))), (0xB, engLost g)])
    (.mma zero f) (fun s => (engOf (s.core c) f.b.toNat).tiles ≠ [])
    (fun s => { (s.modCore c (mmaEffect zero s.free f)) with free := s.free + 1 }) s

/-- MMA. -/
def execMma (c : Nat) (f : Fields) (s : State) : Host.Outcome State Fault Refusal := mma false c f s
/-- MMAZ. -/
def execMmaz (c : Nat) (f : Fields) (s : State) : Host.Outcome State Fault Refusal := mma true c f s

/-- ACCZ: accD := 0. -/
def execAccz (c : Nat) (f : Fields) (s : State) : Host.Outcome State Fault Refusal :=
  runCore c { d := 2 } f noCause (fun x => { x with acc := x.acc.filter (fun e => e.1 / 1024 ≠ f.d.toNat) }) s

/-- First word of half h of row r: r = IMM[4:0], h = IMM[5]. -/
def accHalf (m : Nat) (f : Fields) : Nat := 1024 * m + 32 * (f.imm.toNat % 32) + 16 * (f.imm.toNat / 32 % 2)

/-- A number from its elements of `w` bits, the first least significant. -/
def joinLanes (w : Nat) : List Nat → Nat
  | [] => 0
  | v :: r => v % 2 ^ w + 2 ^ w * joinLanes w r

/-- ACCRD: vD := half a row of accA. -/
def execAccrd (c : Nat) (f : Fields) (s : State) : Host.Outcome State Fault Refusal :=
  runCore c { d := 32, a := 2, imm := true } f noCause
    (fun x => setV x f.d.toNat (BitVec.ofNat 512 (joinLanes 32 ((lookList 0 x.acc (accHalf f.a.toNat f) 16).map (·.toNat))))) s

/-- ACCWR: half a row of accA := vB. -/
def execAccwr (c : Nat) (f : Fields) (s : State) : Host.Outcome State Fault Refusal :=
  runCore c { a := 2, b := 32, imm := true } f noCause
    (fun x =>
      let l := (List.range 16).map (fun k => w32 (fld (vreg x f.b.toNat).toNat (32 * k) 32))
      { x with acc := putList 0 x.acc (accHalf f.a.toNat f) l }) s

/-- How the words of an accumulator are read for a format (Table 12.1). -/
def accFmt (g : Nat) : Nat := if isFp g then 4 else 5

/-- The elements ACCST stores: nearest-even whatever MODE holds, OVF by MODE[2] (R395). -/
def accOut (x : CoreSt) (seed m g : Nat) : List LaneOut :=
  (List.range 1024).map (fun p => convert (accFmt g) g ⟨0, x.mode.getLsbD 2⟩ ⟨11, seed, p⟩ (look 0 x.acc (1024 * m + p)).toNat)

/-- ACCST: accA, converted to format X[5:3], at aD + IMM. -/
def execAccst (c : Nat) (f : Fields) (s : State) : Host.Outcome State Fault Refusal :=
  let g := fmtHi f
  runInstr c { d := 16, a := 2, x := true, imm := true } f
    (fun x => [(2, 5 < g), (6, lsBad (addrOf x f.d f) (1024 * (fmtBits g / 8)) 64)])
    (fun s => { (s.modCore c (fun x =>
      let o := accOut x s.free f.a.toNat g
      addFlags (lsWrite x (addrOf x f.d f) (o.flatMap (fun r => leBytes (fmtBits g / 8) r.bits))) (flagsOf o))) with free := s.free + 1 }) s

/-- ACCLD: accD := 4 KiB at aA + IMM. -/
def execAccld (c : Nat) (f : Fields) (s : State) : Host.Outcome State Fault Refusal :=
  runCore c { d := 2, a := 16, imm := true } f (fun x => [(6, lsBad (addrOf x f.a f) 4096 1)])
    (fun x => setAccAll x f.d.toNat ((List.range 1024).map (fun p => w32 (leNat (lsRead x (addrOf x f.a f + 4 * p) 4))))) s

end Sys2Proof.Machine
end

