-- ==== Sys2Proof/Machine/IsaVector.lean ====
section
/-!
DEFINITION. Vector instructions (Table 12.4, class 5). A result or flag the spec does not state is free (log entry 10).
-/
namespace Sys2Proof.Machine
open Sys2Proof

/-- Lane `k` of a vector in a format, as bits. -/
def laneAt (f : Nat) (v : Vec) (k : Nat) : Nat := fld v.toNat (fmtBits f * k) (fmtBits f)

/-- A vector from its lanes. -/
def ofLanes (f : Nat) (l : List Nat) : Vec := BitVec.ofNat 512 (joinLanes (fmtBits f) l)

/-- MODE as a rounding (Table 12.2). -/
def rndOf (x : CoreSt) : Rnd := ⟨x.mode.toNat % 4, x.mode.getLsbD 2⟩

/-- Formats of vector arithmetic: INT8, BF16, FP32, INT32. -/
def vFmt (f : Nat) : Bool := f = 0 || f = 3 || f = 4 || f = 5

/-- vD becomes lanes with their flags. -/
def setLanes (x : CoreSt) (d f : Nat) (o : List LaneOut) : CoreSt := addFlags (setV x d (ofLanes f (o.map (·.bits)))) (flagsOf o)

/-- An instruction that may draw free values. -/
def runFree (c : Nat) (u : Uses) (f : Fields) (causes : CoreSt → List (Nat × Bool)) (eff : Nat → CoreSt → CoreSt) (s : State) :
    Host.Outcome State Fault Refusal :=
  runInstr c u f causes (fun s => { (s.modCore c (eff s.free)) with free := s.free + 1 }) s

/-- Lane-wise operations of two vectors; VFMA adds to vD. -/
def vectorOp (op : VOp) (c : Nat) (f : Fields) (s : State) : Host.Outcome State Fault Refusal :=
  let g := fmtLo f
  runFree c { d := 32, a := 32, b := 32, x := true } f (fun _ => [(2, !vFmt g)])
    (fun seed x => setLanes x f.d.toNat g ((List.range (laneCount g)).map (fun k =>
      laneOp g (rndOf x) ⟨op.num, seed, k⟩ op (laneAt g (vreg x f.a.toNat) k) (laneAt g (vreg x f.b.toNat) k) (laneAt g (vreg x f.d.toNat) k)))) s

/-- VADD. -/
def execVadd (c : Nat) (f : Fields) (s : State) : Host.Outcome State Fault Refusal := vectorOp .add c f s
/-- VSUB. -/
def execVsub (c : Nat) (f : Fields) (s : State) : Host.Outcome State Fault Refusal := vectorOp .sub c f s
/-- VMUL. -/
def execVmul (c : Nat) (f : Fields) (s : State) : Host.Outcome State Fault Refusal := vectorOp .mul c f s
/-- VFMA: vD += vA x vB. -/
def execVfma (c : Nat) (f : Fields) (s : State) : Host.Outcome State Fault Refusal := vectorOp .fma c f s
/-- VMAX. -/
def execVmax (c : Nat) (f : Fields) (s : State) : Host.Outcome State Fault Refusal := vectorOp .max c f s
/-- VMIN. -/
def execVmin (c : Nat) (f : Fields) (s : State) : Host.Outcome State Fault Refusal := vectorOp .min c f s

/-- A function of each lane, in BF16 or FP32. -/
def vectorFn (n : Nat) (fn : Nat → Rnd → Src → Nat → LaneOut) (c : Nat) (f : Fields) (s : State) : Host.Outcome State Fault Refusal :=
  let g := fmtLo f
  runFree c { d := 32, a := 32, x := true } f (fun _ => [(2, g ≠ 3 && g ≠ 4)])
    (fun seed x => setLanes x f.d.toNat g ((List.range (laneCount g)).map (fun k =>
      fn g (rndOf x) ⟨n, seed, k⟩ (laneAt g (vreg x f.a.toNat) k)))) s

/-- VEXP2. -/
def execVexp2 (c : Nat) (f : Fields) (s : State) : Host.Outcome State Fault Refusal := vectorFn 6 exp2Lane c f s
/-- VRCP. -/
def execVrcp (c : Nat) (f : Fields) (s : State) : Host.Outcome State Fault Refusal := vectorFn 7 rcpLane c f s
/-- VRSQRT. -/
def execVrsqrt (c : Nat) (f : Fields) (s : State) : Host.Outcome State Fault Refusal := vectorFn 8 rsqrtLane c f s

/-- VCVT: as many lanes as both formats have, packed from lane 0; what the other lanes of vD then hold is free. -/
def execVcvt (c : Nat) (f : Fields) (s : State) : Host.Outcome State Fault Refusal :=
  let g := fmtLo f
  let h := fmtHi f
  let n := min (laneCount g) (laneCount h)
  runFree c { d := 32, a := 32, x := true } f (fun _ => [(2, 5 < g || 5 < h)])
    (fun seed x =>
      let o := (List.range n).map (fun k => convert g h (rndOf x) ⟨9, seed, k⟩ (laneAt g (vreg x f.a.toNat) k))
      let rest := (List.range (laneCount h - n)).map (fun k => (freeLane h ⟨9, seed, n + k⟩).bits)
      addFlags (setV x f.d.toNat (ofLanes h (o.map (·.bits) ++ rest))) (flagsOf o)) s

/-- The sum of a vector's lanes: exact, then one rounding. -/
def sumLanes (g : Nat) (r : Rnd) (x : Src) (l : List Nat) : LaneOut :=
  if isFp g then fpLane g r x (fpSum r.mode (l.map (fpDecode g))) else intLane g r x ((l.map (intOf g)).sum)

/-- The maximum of a vector's lanes. -/
def maxLanes (g : Nat) (x : Src) : List Nat → LaneOut
  | [] => ⟨0, 0⟩
  | v :: r =>
    let o (i a b : Nat) : Nat := if isFp g then (fpPick g ⟨x.op, x.seed, i⟩ a b true).bits else if intOf g a < intOf g b then b else a
    ⟨(r.foldl (fun p w => (p.1 + 1, o p.1 p.2 w)) (0, v)).2, if isFp g && (v :: r).any (fun w => fpDecode g w = .nan) then (freeLane g x).flags else 0⟩

/-- Lane 0 of vD is a value, the other lanes 0. -/
def setLane0 (x : CoreSt) (d : Nat) (o : LaneOut) : CoreSt := addFlags (setV x d (BitVec.ofNat 512 o.bits)) o.flags

/-- VRSUM. -/
def execVrsum (c : Nat) (f : Fields) (s : State) : Host.Outcome State Fault Refusal :=
  let g := fmtLo f
  runFree c { d := 32, a := 32, x := true } f (fun _ => [(2, !vFmt g)])
    (fun seed x => setLane0 x f.d.toNat (sumLanes g (rndOf x) ⟨12, seed, 0⟩ ((List.range (laneCount g)).map (laneAt g (vreg x f.a.toNat))))) s

/-- VRMAX. -/
def execVrmax (c : Nat) (f : Fields) (s : State) : Host.Outcome State Fault Refusal :=
  let g := fmtLo f
  runFree c { d := 32, a := 32, x := true } f (fun _ => [(2, !vFmt g)])
    (fun seed x => setLane0 x f.d.toNat (maxLanes g ⟨13, seed, 0⟩ ((List.range (laneCount g)).map (laneAt g (vreg x f.a.toNat))))) s

/-- VBCAST: every lane of vD := low bits of sA. -/
def execVbcast (c : Nat) (f : Fields) (s : State) : Host.Outcome State Fault Refusal :=
  let g := fmtLo f
  runCore c { d := 32, a := 32, x := true } f (fun _ => [(2, 5 < g)])
    (fun x => setV x f.d.toNat (ofLanes g (List.replicate (laneCount g) (srcA x f).toNat))) s

/-- VMOVS: sD := lane IMM[5:0] of vA, sign-extended in INT8, else zero-extended; a lane the format has not is ILLEGAL. -/
def execVmovs (c : Nat) (f : Fields) (s : State) : Host.Outcome State Fault Refusal :=
  let g := fmtLo f
  let k := f.imm.toNat % 64
  runCore c { d := 32, a := 32, x := true, imm := true } f (fun _ => [(2, 5 < g), (1, g ≤ 5 && laneCount g ≤ k)])
    (fun x =>
      let v := laneAt g (vreg x f.a.toNat) k
      setS x f.d.toNat (if g = 0 then BitVec.ofInt 32 (sgn 8 v) else w32 v)) s

/-- VLD: vD := 64 bytes at aA + IMM. -/
def execVld (c : Nat) (f : Fields) (s : State) : Host.Outcome State Fault Refusal :=
  runCore c { d := 32, a := 16, imm := true } f (fun x => [(6, lsBad (addrOf x f.a f) 64 1)])
    (fun x => setV x f.d.toNat (BitVec.ofNat 512 (leNat (lsRead x (addrOf x f.a f) 64)))) s

/-- VST: 64 bytes at aA + IMM := vB. -/
def execVst (c : Nat) (f : Fields) (s : State) : Host.Outcome State Fault Refusal :=
  runCore c { a := 16, b := 32, imm := true } f (fun x => [(6, lsBad (addrOf x f.a f) 64 1)])
    (fun x => lsWrite x (addrOf x f.a f) (leBytes 64 (vreg x f.b.toNat).toNat)) s

end Sys2Proof.Machine
end

