-- ==== Sys2Proof/Machine/IsaSystem.lean ====
section
/-!
DEFINITION. Message, tally, power and system instructions (Table 12.4, classes 6 to 9), and the completion of a stalled
instruction (R387).
-/
namespace Sys2Proof.Machine
open Sys2Proof

/-! ### Class 6: messages (R345 to R349, R386, Table 12.6) -/

/-- Word `k` of a descriptor in the local store. -/
def descWord (x : CoreSt) (a k : Nat) : Nat := leNat (lsRead x (a + 4 * k) 4)

/-- A queue descriptor as read: depth, payload ring, metadata ring, number of pairs, pairs of sender and credits. -/
structure QDesc where
  depth : Nat
  base : Nat
  meta_ : Nat
  n : Nat
  pairs : List (Nat × Nat)
  deriving DecidableEq, Repr

def readQDesc (x : CoreSt) (a : Nat) : QDesc :=
  let n := fld (descWord x a 3) 0 5
  { depth := fld (descWord x a 0) 0 9, base := descWord x a 1, meta_ := descWord x a 2, n := n,
    pairs := (List.range n).map (fun k => let w := descWord x a (4 + k); (fld w 0 9, fld w 16 9)) }

/-- A ring is misaligned or leaves the local store. -/
def ringBad (q : QDesc) : Bool :=
  q.base % 128 ≠ 0 || lsSize < q.base + 64 * q.depth || q.meta_ % 8 ≠ 0 || lsSize < q.meta_ + 8 * q.depth

/-- The two rings overlap. -/
def ringsMeet (q : QDesc) : Bool := q.base < q.meta_ + 8 * q.depth && q.meta_ < q.base + 64 * q.depth

/-- The checks of Table 12.6 that raise QUEUE. -/
def qDescBad (q : QDesc) : Bool :=
  q.depth = 0 || 256 < q.depth || ringsMeet q || q.n = 0 || 16 < q.n || (q.pairs.map (·.2)).sum ≠ q.depth || !(q.pairs.map (·.1)).Nodup

/-- A queue is configured: its depth enters CAPACITY and one credit grant goes out for each pair (R348). -/
def configQueue (s : State) (c q : Nat) (d : QDesc) : State :=
  let s := modQueueOf s c q (fun _ => ⟨d.depth, d.base, d.meta_, 0, 0⟩)
  let s := modCred s (c / 64) (fun r => { r with capacity := r.capacity + d.depth, returning := r.returning + d.depth })
  sendGrants s c q d.pairs

/-- QCFG. -/
def execQcfg (c : Nat) (f : Fields) (s : State) : Host.Outcome State Fault Refusal :=
  let own := ownCores s c
  runInstr c { d := 8, a := 16, imm := true } f
    (fun x =>
      let a := addrOf x f.a f
      let q := readQDesc x a
      let out := lsBad a 16 4
      [(6, out || (1 ≤ q.n && q.n ≤ 16 && lsSize < a + 16 + 4 * q.n) || ringBad q),
       (7, !out && q.pairs.any (fun p => !own.contains p.1)),
       (9, !out && ((queueOf x f.d.toNat).depth ≠ 0 || qDescBad q))])
    (fun s => configQueue s c f.d.toNat (readQDesc (s.core c) (addrOf (s.core c) f.a f))) s

/-- A message is sent: a credit is consumed and the message is on the mesh (R345, R349). -/
def sendMsg (s : State) (c dst q : Nat) (f : Fields) : State :=
  let m : Msg := ⟨c, dst, q, fld f.imm.toNat 16 6 + 1, BitVec.ofNat 16 (f.imm.toNat % 65536), vreg (s.core c) f.b.toNat, s.grid.nextId, packetTenant s c⟩
  let s := setCred s c dst q (heldCred s c dst q - 1)
  let s := { s with grid := { s.grid with msgs := s.grid.msgs ++ [m], nextId := s.grid.nextId + 1 } }
  modCred s (dst / 64) (fun r => { r with senderHeld := r.senderHeld - 1, inFlight := r.inFlight + 1 })

/-- SEND: waits for a credit; outside the command it raises SCOPE, to an unconfigured queue QUEUE (R347, R386). -/
def sendOp (c : Nat) (f : Fields) (s : State) : Host.Outcome State Fault Refusal :=
  let dst := (srcA (s.core c) f).toNat
  let q := f.x.toNat % 8
  let own := ownCores s c
  runStall c { a := 32, b := 32, x := true, imm := true } f
    (fun _ => [(7, !own.contains dst), (9, own.contains dst && (queueOf (s.core dst) q).depth = 0)]) (.send f)
    (fun s => 0 < heldCred s c dst q) (fun s => sendMsg s c dst q f) s

/-- SEND. -/
def execSend (c : Nat) (f : Fields) (s : State) : Host.Outcome State Fault Refusal := sendOp c f s

/-- The head entry of a queue is consumed: payload to vD, metadata to sB, its credit returns to the source (R346, R349). -/
def takeHead (s : State) (c q : Nat) (f : Fields) : State :=
  let x := s.core c
  let k := queueOf x q
  let data := leNat (lsRead x (k.base + 64 * k.head) 64)
  let md := leNat (lsRead x (k.meta_ + 8 * k.head) 4)
  let s := s.modCore c (fun x => setS (setV x f.d.toNat (BitVec.ofNat 512 data)) f.b.toNat (w32 md))
  let s := modQueueOf s c q (fun k => { k with head := (k.head + 1) % k.depth, count := k.count - 1 })
  let p : CredPkt := ⟨c, q, fld md 0 9, 1, true, s.grid.nextId, packetTenant s c⟩
  let s := { s with grid := { s.grid with returns := s.grid.returns ++ [p], nextId := s.grid.nextId + 1 } }
  modCred s (c / 64) (fun r => { r with queued := r.queued - 1, returning := r.returning + 1 })

/-- RECV: stalls while the queue is empty. -/
def recvOp (c : Nat) (f : Fields) (s : State) : Host.Outcome State Fault Refusal :=
  let q := f.x.toNat % 8
  runStall c { d := 32, b := 32, x := true } f (fun x => [(9, (queueOf x q).depth = 0)]) (.recv f)
    (fun s => 0 < (queueOf (s.core c) q).count) (fun s => takeHead s c q f) s

/-- RECV. -/
def execRecv (c : Nat) (f : Fields) (s : State) : Host.Outcome State Fault Refusal := recvOp c f s

/-- QCNT: sD := occupied entries. -/
def execQcnt (c : Nat) (f : Fields) (s : State) : Host.Outcome State Fault Refusal :=
  runCore c { d := 32, x := true } f (fun x => [(9, (queueOf x (f.x.toNat % 8)).depth = 0)])
    (fun x => setS x f.d.toNat (w32 (queueOf x (f.x.toNat % 8)).count)) s

/-! ### Class 7: tallies (R351 to R354, R386) -/

/-- The tally an instruction names: sA + IMM[11:0]. -/
def tallyOf (x : CoreSt) (f : Fields) : Nat := ((srcA x f).toNat + f.imm.toNat % 4096) % 2 ^ 32

/-- The amount of a TADD. -/
def tallyAmount (x : CoreSt) (f : Fields) : Nat := if f.i then f.imm.toNat / 65536 else (srcB x f).toNat % 65536

/-- A tally add is issued: ISSUED and IN_FLIGHT count at once, the value when it is applied (R352). An add to a tally of a
tile that is Off is discarded (R374). -/
def issueAdd (s : State) (c t n : Nat) : State :=
  let ti := t / 512
  if (s.tile ti).st = .off then s
  else
    let s := { s with grid := { s.grid with adds := s.grid.adds ++ [⟨c, t, n, s.grid.nextId, (s.core c).slot⟩], nextId := s.grid.nextId + 1 } }
    modTally s ti (fun r => { r with issued := r.issued + BitVec.ofNat 64 n, inFlight := r.inFlight + n })

/-- TADD. -/
def execTadd (c : Nat) (f : Fields) (s : State) : Host.Outcome State Fault Refusal :=
  let t := tallyOf (s.core c) f
  let n := tallyAmount (s.core c) f
  runInstr c { a := 32, b := if f.i then 1 else 32, i := true, imm := true } f
    (fun _ => [(8, !ownTally s c t || n = 0)]) (fun s => issueAdd s c t n) s

/-- TWAIT: registers a wait unless the threshold is already reached (R351, R353). -/
def twaitOp (c : Nat) (f : Fields) (s : State) : Host.Outcome State Fault Refusal :=
  let t := tallyOf (s.core c) f
  let th := srcB (s.core c) f
  if !coreGo s c then .next s
  else .next (settle c [(1, !usesOk { a := 32, b := 32, imm := true } f), (5, pcOver (s.core c)), (8, !ownTally s c t)]
    (fun s =>
      if reached (tallyVal s t) th then s.modCore c pcNext
      else s.modCore c (fun x => { x with stall := some (.twait f), wait := some (t, th) })) s)

/-- TWAIT. -/
def execTwait (c : Nat) (f : Fields) (s : State) : Host.Outcome State Fault Refusal := twaitOp c f s

/-- TRD: sD := value of a tally. -/
def execTrd (c : Nat) (f : Fields) (s : State) : Host.Outcome State Fault Refusal :=
  let t := tallyOf (s.core c) f
  runInstr c { d := 32, a := 32, imm := true } f (fun _ => [(8, !ownTally s c t)])
    (fun s => s.modCore c (fun x => setS x f.d.toNat (tallyVal s t))) s

/-! ### Class 8: power (R247, R248, R397) -/

/-- The target holding h. -/
def targetOf (x : CoreSt) (f : Fields) : Nat := (if f.i then f.imm else srcA x f).toNat % 16

/-- TOKEN: a target outside 1 to 8. -/
def targetHBad (x : CoreSt) (f : Fields) : Bool := targetOf x f = 0 || 8 < targetOf x f

/-- STOKE. -/
def execStoke (c : Nat) (f : Fields) (s : State) : Host.Outcome State Fault Refusal :=
  runInstr c (usesH f false) f (fun x => [(3, targetHBad x f)]) (fun s => stokeTo s c (targetOf (s.core c) f)) s

/-- EASE.R's effect: an EASE to the recall target; none when no recall is pending (R397). -/
def easeRecall (s : State) (c : Nat) : State :=
  let k := (s.core c).tok
  match recallTarget k with
  | some h => if k.seen then easeTo s c h else s
  | none => s

/-- EASE, and EASE.R where X[0] is 1: then h is the recall target, whatever the fields that name h hold (R248, R397). -/
def easeOp (c : Nat) (f : Fields) (s : State) : Host.Outcome State Fault Refusal :=
  let toRecall := f.x.getLsbD 0
  runInstr c (usesH f true) f (fun x => [(3, !toRecall && targetHBad x f)])
    (fun s => rejudge (if toRecall then easeRecall s c else easeTo s c (targetOf (s.core c) f))) s

/-- EASE. -/
def execEase (c : Nat) (f : Fields) (s : State) : Host.Outcome State Fault Refusal := easeOp c f s

/-- EASE.R. -/
def execEaseR (c : Nat) (f : Fields) (s : State) : Host.Outcome State Fault Refusal := easeOp c f s

/-- No queued request and no grant in transit. -/
def grantQuiet (s : State) (c : Nat) : Bool := (requestOf s c).isNone && (s.core c).tok.committed = 0

/-- GRANTW. -/
def grantwOp (c : Nat) (f : Fields) (s : State) : Host.Outcome State Fault Refusal :=
  runStall c {} f noCause (.grantw f) (fun s => grantQuiet s c) id s

/-- GRANTW. -/
def execGrantw (c : Nat) (f : Fields) (s : State) : Host.Outcome State Fault Refusal := grantwOp c f s

/-! ### Class 9: system -/

/-- The core's command must give up its cores (R456). -/
def quantumOver (s : State) (c : Nat) : Bool := (coreCmd s c).any (fun k => k.expired)

/-- YIELD: a pending recall is met first; then an expired quantum ends, with the PC on the next instruction (R398, R401,
R456). -/
def execYield (c : Nat) (f : Fields) (s : State) : Host.Outcome State Fault Refusal :=
  if !coreGo s c then .next s
  else .next (settle c [(1, !usesOk {} f), (5, pcOver (s.core c))] (fun s =>
    let s := (easeRecall s c).modCore c pcNext
    rejudge (if quantumOver s c && !ledgerFaulted s then (haltCore s c .stopped).modCore c (fun x => { x with yielded := true }) else s)) s)

/-- The core has ended its program; a command whose cores have all ended completes with SUCCESS (R494). -/
def endCore (s : State) (c : Nat) : State :=
  let slot := (s.core c).slot
  let s := (haltCore s c .idle).modCore c (fun x => { x with ended := true })
  match slot with
  | none => s
  | some k =>
    match s.cmd k with
    | none => s
    | some m => if m.cores.all (fun n => (s.core n).ended) then endCmd s k 0x00 0 0 else abortCheck s k

/-- END. -/
def execEnd_ (c : Nat) (f : Fields) (s : State) : Host.Outcome State Fault Refusal :=
  if !coreGo s c then .next s else .next (settle c [(1, !usesOk {} f)] (fun s => rejudge (endCore s c)) s)

/-- TRAP: raises TRAP. -/
def execTrap (c : Nat) (f : Fields) (s : State) : Host.Outcome State Fault Refusal :=
  if !coreGo s c then .next s else .next (settle c [(1, !usesOk {} f), (0xC, true)] id s)

/-- Every SEND of the core has been written to its queue and every engine write has reached memory. -/
def allLanded (s : State) (c : Nat) : Bool := landed s c s.grid.nextId

/-- FENCE. -/
def fenceOp (c : Nat) (f : Fields) (s : State) : Host.Outcome State Fault Refusal :=
  runStall c {} f noCause (.fence f) (fun s => allLanded s c) id s

/-- FENCE. -/
def execFence (c : Nat) (f : Fields) (s : State) : Host.Outcome State Fault Refusal := fenceOp c f s

/-! ### Completion of a stalled instruction (R387, R353) -/

/-- The stalled instruction of a core is tried again; a TWAIT completes once its registered wait is over. -/
def execStalledInstructionComplete (c : Nat) (s : State) : Host.Outcome State Fault Refusal :=
  let x := s.core c
  let s' := s.modCore c (fun x => { x with stall := none })
  if x.st ≠ .running then .next s
  else match x.stall with
  | none => .next s
  | some (.send f) => sendOp c f s'
  | some (.recv f) => recvOp c f s'
  | some (.twait _) => if x.wait.isNone then .next (s'.modCore c pcNext) else .next s
  | some (.swait f) => swait c f s'
  | some (.grantw f) => grantwOp c f s'
  | some (.fence f) => fenceOp c f s'
  | some (.scfg f) => scfg c f s'
  | some (.mma z f) => mma z c f s'

end Sys2Proof.Machine
end

