-- ==== Sys2Proof/Machine/Jtag.lean ====
section
/-!
DEFINITION. The test access port (R651, R652).
-/
namespace Sys2Proof.Machine
open Sys2Proof

/-- The package is Banked or Boot failed (Table 2.1). -/
def testAllowed (s : State) : Bool := s.ao.vsb && s.trip.isNone && (s.power.stage = .banked || s.power.stage = .failed)

/-- The TAP serves instructions from 2 ms after VSB has become valid (Table 2.6). -/
def tapServes (s : State) : Bool := s.ao.vsb && 2 ≤ msSince s 0

/-- A test instruction that drives the lands: executed in Banked or Boot failed, else BYPASS in its place (R652). -/
def tapLoad (n : Nat) (s : State) : State :=
  if tapServes s then { s with ao := { s.ao with tap := if testAllowed s then n else 5 } } else s

/-- EXTEST. -/
def execExtest (s : State) : Host.Outcome State Fault Refusal := .next (tapLoad 1 s)
/-- EXTEST_PULSE. -/
def execExtestPulse (s : State) : Host.Outcome State Fault Refusal := .next (tapLoad 2 s)
/-- EXTEST_TRAIN. -/
def execExtestTrain (s : State) : Host.Outcome State Fault Refusal := .next (tapLoad 3 s)
/-- CLAMP. -/
def execClamp (s : State) : Host.Outcome State Fault Refusal := .next (tapLoad 4 s)

/-- The IDCODE word (R651). -/
def idcodeWord : Word := word [(28, 0xA), (12, 0x0070), (1, Config.manufacturer.toNat), (0, 1)]

/-- IDCODE: the TAP shifts it out (R651). -/
def execIdcode (s : State) : Host.Outcome State Fault Refusal :=
  if tapServes s then .next (emit { s with ao := { s.ao with tap := 0 } } (.tdo idcodeWord)) else .next s

end Sys2Proof.Machine
end

