-- ==== Sys2Proof/Machine/Link.lean ====
section
/-!
DEFINITION. What lanes and ports share (chapters 16, 17): control words, lane phases, flits in the replay buffer,
management flits, and how a port trains, reforms, goes down and returns to service.
-/
namespace Sys2Proof.Machine
open Sys2Proof

/-! ### Lanes and their ports -/

/-- Lanes of a port's mode: 8 copper, 4 optical (R509). -/
def modeLanes (s : State) (p : Nat) : Nat := if (s.port p).optical then 4 else 8
/-- Port and lane number of lane `i`. -/
def lanePort (i : Nat) : Nat := i / 8
/-- The lanes of a port's mode. -/
def portLanes (s : State) (p : Nat) : List Nat := (List.range (modeLanes s p)).map (· + 8 * p)
/-- The lanes in a mask. -/
def maskLanes (p : Nat) (m : BitVec 8) : List Nat := (bitsOf 8 m.toNat).map (· + 8 * p)

/-! ### Control words (Table 16.4) -/

/-- One bit of CRC-16, polynomial 0x1021 (R521). -/
def crc16Bit (c : BitVec 16) (b : Bool) : BitVec 16 := if (c.getLsbD 15) ^^ b then (c <<< 1) ^^^ 0x1021 else c <<< 1

/-- CRC-16 over bits 47 to 0 of a control word, bit 0 first. -/
def crc16 (v : Nat) : BitVec 16 := (List.range 48).foldl (fun c k => crc16Bit c (bit v k)) 0xFFFF

/-- A control word: phase code, message, payload, sequence number. -/
def ctrlWord (phase msg payload seq : Nat) : DWord :=
  let v := phase % 16 + (msg % 16) * 16 + (payload % 2 ^ 32) * 256 + (seq % 256) * 2 ^ 40
  BitVec.ofNat 64 (v + (crc16 v).toNat * 2 ^ 48)

def cwPhase (w : DWord) : Nat := fld w.toNat 0 4
def cwMsg (w : DWord) : Nat := fld w.toNat 4 4
def cwPay (w : DWord) : Nat := fld w.toNat 8 32
def cwSeq (w : DWord) : Nat := fld w.toNat 40 8
def cwOk (w : DWord) : Bool := (crc16 (w.toNat % 2 ^ 48)).toNat = fld w.toNat 48 16

/-- A lane changes its message, with the next sequence number; every training block from here on carries it (R521, R522). -/
def sendWord (s : State) (i msg payload : Nat) : State :=
  let x := s.lane i
  let q := (x.sendSeq.toNat + 1) % 256
  emit (s.setLane i { x with sendSeq := BitVec.ofNat 8 q, msg := msg, msgPay := payload }) (.control i (ctrlWord x.phase msg payload q))

/-- A received word is acted on only when its CRC passes and its sequence number is new; it is then remembered (R522). -/
def takeWord (s : State) (i msg : Nat) (w : DWord) : Option State :=
  if cwOk w && cwMsg w = msg && (s.lane i).lastSeq ≠ some (BitVec.ofNat 8 (cwSeq w)) then
    some (s.modLane i (fun x => { x with lastSeq := some (BitVec.ofNat 8 (cwSeq w)) }))
  else none

/-! ### Phases (Table 16.5) -/

/-- What a lane forgets when an attempt at training begins (R523, R524). -/
def freshTraining (x : LaneSt) : LaneSt :=
  { x with ownDone := false, farReady := false, presetPassed := false, seedRx := none, seedSent := false, equalDraws := 0,
           wakeAt := none, wakeRetried := false, waker := false, impSeen := false, degraded := false, lowSince := none, log2nUsed := x.log2n }

/-- A lane without power (R511). -/
def laneOff (s : State) (i : Nat) : State :=
  s.modLane i (fun x => { freshTraining x with phase := 0, synth := false, lastSeq := none, msg := 0, msgPay := 0 })

/-- A lane is powered and trains from phase 1 (R523, R563). -/
def laneStart (s : State) (i : Nat) : State :=
  s.modLane i (fun x => { freshTraining x with phase := 1, synth := false, attempts := 0, dropped := false, lastSeq := none, msg := 0, msgPay := 0 })

/-- Training restarts from phase 2 while the synthesiser stays locked (R524, R537). -/
def laneDetect (s : State) (i : Nat) : State :=
  s.modLane i (fun x => { freshTraining x with phase := if x.synth then 2 else 1 })

/-- Payload of ROLE: draw, mode, LOG2N. -/
def rolePayload (s : State) (i : Nat) : Nat :=
  (s.lane i).draw.toNat + b2n (s.port (lanePort i)).optical * 2 ^ 16 + (s.lane i).log2nUsed * 2 ^ 17

/-- Phase 3: a fresh random draw is sent in ROLE (R523). -/
def sendRole (s : State) (i : Nat) : State :=
  let (v, s) := freeVal s
  let s := s.modLane i (fun x => { x with draw := v.setWidth 16 })
  sendWord s i 1 (rolePayload s i)

/-- Training goes on from phase 3 (R544, R540, and from DETECT). -/
def laneRole (s : State) (i : Nat) : State :=
  sendRole (s.modLane i (fun x => { freshTraining x with phase := 3, detectAt := s.ao.ticks })) i

/-- The lane sends a seed, which is not 0; data start follows, from which superblock periods count (R515, R516, Table
16.4). -/
def sendSeed (s : State) (i : Nat) : State :=
  if (s.lane i).phase = 9 && !(s.lane i).seedSent then
    let (v, s) := freeVal s
    let seed := if v.setWidth 31 = 0#31 then 1#31 else v.setWidth 31
    sendWord (s.modLane i (fun x => { x with seedTx := seed, seedSent := true, count := 0 })) i 4 seed.toNat
  else s

/-- Every lane that is not dropped has passed PRESET: they send SEED together (R563). -/
def seedCheck (s : State) (p : Nat) : State :=
  let ls := (portLanes s p).filter (fun i => !(s.lane i).dropped)
  if ls.all (fun i => (s.lane i).presetPassed) then forEach ls s sendSeed else s

/-! ### Flits (R549, R550, R554, R557) -/

/-- Credits of VC `vc` not yet used: advertised and freed less sent (R550). -/
def vcCredit (x : PortSt) (vc : Nat) : Bool :=
  vc = 3 || (look 0 x.sentVc vc + 2 ^ 14 - look 0 x.freedFar vc) % 2 ^ 14 < look 0 x.farBufs vc

/-- The port sends flits now. -/
def sending (x : PortSt) : Bool :=
  !x.replayHeld && (x.st = .up || x.st = .identify || x.st = .quarantine || x.st = .draining || x.st = .drained)

/-- The oldest flit not yet sent goes out when its VC has a credit; at most `n` of them. -/
def pump (s : State) (p : Nat) : Nat → State
  | 0 => s
  | n + 1 =>
    let x := s.port p
    match x.unacked[x.unacked.length - x.unsent]? with
    | none => s
    | some f =>
      if x.unsent = 0 || !sending x || !vcCredit x f.vc.toNat then s
      else pump (emit (s.setPort p { x with unsent := x.unsent - 1, sentVc := modAt 0 x.sentVc f.vc.toNat (· + 1) })
        (.flit p f.seq.toNat)) p n

/-- A sequenced flit enters the replay buffer (R557). -/
def pushFlit (s : State) (p : Nat) (vc : BitVec 2) (body : List Byte) : State :=
  let x := s.port p
  let s := s.setPort p { x with unacked := x.unacked ++ [{ seq := x.nextTx, vc := vc, body := body }], nextTx := x.nextTx + 1, unsent := x.unsent + 1 }
  let s := modReplay s p (fun r => { r with free := r.free - 1, unacked := r.unacked + 1, sent := r.sent + 1 })
  pump s p 256

/-- The port sends a management flit on VC3: TYPE and the body bytes after it (Table 17.3). With a full replay buffer it
goes unsequenced (log entry 31). -/
def sendMgmt (s : State) (p type : Nat) (body : List Byte) : State :=
  let s := emit s (.mgmt p type body)
  if (s.port p).unacked.length < 256 then pushFlit s p 3 (BitVec.ofNat 8 type :: body) else s

/-- Every sent flit goes out again, in order (R554). -/
def resendAll (s : State) (p : Nat) : State :=
  let x := s.port p
  forEach (x.unacked.take (x.unacked.length - x.unsent)) s (fun s f => emit s (.flit p f.seq.toNat))

/-- Unacknowledged flits that `f` names are written off (R118, Table 4.7). -/
def writeOffFlits (s : State) (p : Nat) (f : TxFlit → Bool) : State :=
  let x := s.port p
  let n := (x.unacked.filter (fun y => f y && y.counted)).length
  if x.unacked.all (fun y => !f y) then s
  else
    let s := s.setPort p { x with unacked := x.unacked.filter (fun y => !f y),
                                  unsent := ((x.unacked.drop (x.unacked.length - x.unsent)).filter (fun y => !f y)).length }
    let s := modReplay s p (fun r => { r with free := r.free + n, unacked := r.unacked - n, writtenOff := r.writtenOff + w32 n })
    if n = 0 then s else logWriteOff s 4 p n p

/-! ### Identity (R558, R559, Table 17.4) -/

/-- Bytes 4 to 67 of an identity record. -/
def identBytes (r : IdentRec) : List Byte :=
  leBytes 4 r.magic.toNat ++ leBytes 2 r.part.toNat ++ [r.stepping, r.kind] ++ leBytes 8 r.serial.toNat ++
  leBytes 2 r.pkg.toNat ++ [r.port, r.modeLanes] ++ leBytes 2 r.laneMask.toNat ++ [0, 0] ++
  leBytes 2 r.bufs0.toNat ++ leBytes 2 r.bufs1.toNat ++ leBytes 2 r.bufs2.toNat ++ leBytes 2 r.bufs3.toNat ++
  leBytes 2 r.expectPkg.toNat ++ [r.expectPort] ++ List.replicate 29 0

/-- The port's own record. -/
def ownIdent (s : State) (p : Nat) : IdentRec :=
  let x := s.port p
  { magic := 0x4B4E494C, part := 0x0070, stepping := 0xA1, kind := 0, serial := Config.serial, pkg := s.links.localPkg,
    port := BitVec.ofNat 8 p, modeLanes := BitVec.ofNat 8 (b2n x.optical + 16 * popCount 8 x.mask.toNat),
    laneMask := x.mask.setWidth 16, bufs0 := Config.rxBuffers 0, bufs1 := Config.rxBuffers 1, bufs2 := Config.rxBuffers 2,
    bufs3 := Config.rxBuffers 3, expectPkg := x.expectPkg, expectPort := BitVec.ofNat 8 x.expectPort }

/-- The port enters IDENTIFY and sends its record; after a down, SEQ, ACK and the credit counts restart at 0 (R558,
R564). -/
def enterIdentify (s : State) (p : Nat) (restart : Bool) : State :=
  let s := s.modPort p (fun x =>
    let x := { x with st := .identify, far := none, sentMatch := false, gotMatch := false, replayHeld := false }
    if restart then { x with nextTx := 0, ack := 0, rxNext := 0, nak := false, lastNak := none, resends := 0, sentVc := [],
                             freedFar := [], usedVc := [], freedVc := [], farBufs := [], sentDrained := false, gotDrained := false,
                             farDraining := false, sleepSent := false, bertAsked := false }
    else x)
  sendMgmt s p 1 (List.replicate 3 0 ++ identBytes (ownIdent s p))

/-- A port in training whose lanes have all reached data, failed or been dropped goes on to IDENTIFY (R558). -/
def trainedCheck (s : State) (p : Nat) : State :=
  let ls := portLanes s p
  let up := ls.filter (fun i => (s.lane i).phase = 10)
  if (s.port p).st = .training && up ≠ [] && ls.all (fun i => (s.lane i).phase = 10 || (s.lane i).phase = 15 || (s.lane i).dropped) then
    enterIdentify (s.modPort p (fun x => { x with mask := BitVec.ofNat 8 ((up.map (fun i => 2 ^ (i % 8))).sum) })) p true
  else s

/-! ### Superblock counts (R516, R529, R541) -/

/-- The superblock `k` is quiet (R529). -/
def quietSb (log2n k : Nat) : Bool := k % 2 ^ log2n ≤ 1

/-- A named superblock that is quiet moves to the next one that is not (R541). -/
def notQuiet (log2n k : Nat) : Nat := if quietSb log2n k then k / 2 ^ log2n * 2 ^ log2n + 2 else k

/-- A free number of superblock periods passes for every lane of the port in data, asleep or waking (R516, R548; log
entry 63). -/
def portTime (s : State) (p : Nat) : State :=
  let (v, s) := freeVal s
  forEach ((List.range 8).map (· + 8 * p)) s (fun s i =>
    if 9 ≤ (s.lane i).phase && (s.lane i).phase ≤ 12 then s.modLane i (fun x => { x with count := x.count + v }) else s)

/-- The superblock periods of the port's lanes reach a named count. -/
def countTo (s : State) (p : Nat) (k : Word) : State :=
  forEach (maskLanes p (s.port p).mask) s (fun s i => s.modLane i (fun x => { x with count := k }))

/-- The superblock count of a port: that of the first lane in service. -/
def portCount (s : State) (p : Nat) : Word := ((maskLanes p (s.port p).mask).head?.map (fun i => (s.lane i).count)).getD 0

/-! ### Wake (R535, R567) -/

/-- A lane begins to wake (R535), with the superblock it names when it is the waking end. -/
def laneWake (s : State) (i : Nat) (named : Option Nat) : State :=
  if (s.lane i).phase ≠ 11 then s
  else
    let s := emit (s.modLane i (fun x => { x with phase := 12, waker := named.isSome, wakeAt := named, wakeRetried := false, impSeen := false }))
      (.preamble i)
    match named with
    | some k => sendWord s i 5 k
    | none => s

/-- The first superblock that starts at least 400 ns after a request made in superblock `n`: the third after it or, but for a
request in the first quarter of `n`, the fourth, of which the model leaves the choice free; a quiet one moves on (R535, R541). -/
def wakeName (log2n : Nat) (n v : Word) : Nat := notQuiet log2n ((n.toNat + 3 + v.toNat % 2) % 2 ^ 32) % 65536

/-- A flit to send wakes every lane of a sleeping port together (R567). -/
def portWake (s : State) (p : Nat) : State :=
  let s := portTime s p
  let (v, s) := freeVal s
  forEach (maskLanes p (s.port p).mask) s (fun s i => laneWake s i (some (wakeName (s.lane i).log2nUsed (s.lane i).count v)))

/-! ### Drain (R570, R574) -/

/-- DRAINED is sent once UNACKED is 0, and the port is DRAINED when it has both sent and received it (R570). -/
def drainStep (s : State) (p : Nat) : State :=
  let x := s.port p
  if (x.st = .draining || (x.st = .up && x.farDraining)) && !x.sentDrained && x.unacked = [] then
    sendMgmt (s.modPort p (fun x => { x with sentDrained := true })) p 9 []
  else s

def drainedCheck (s : State) (p : Nat) : State :=
  let x := s.port p
  if x.sentDrained && x.gotDrained && (x.st = .draining || x.st = .up) then
    raise (logEvent (s.modPort p (fun x => { x with st := .drained })) 0x6016 0 (.port p) [p, 0, 0, 0]) (.port p) 5
  else s

/-- The port is in DRAINING and says so (R570). -/
def startDrain (s : State) (p : Nat) : State :=
  let s := s.modPort p (fun x => { x with st := .draining, drainDue := false })
  drainedCheck (drainStep (sendMgmt s p 8 []) p) p

/-! ### Going down (R566, R576, R577) -/

/-- Every lane of the port loses power. -/
def lanesOff (s : State) (p : Nat) : State := forEach ((List.range 8).map (· + 8 * p)) s laneOff

/-- The port leaves service without power: write-offs and OFF (R281, R316, R373, R564). -/
def portOff (s : State) (p : Nat) : State :=
  let s := writeOffFlits s p (fun _ => true)
  lanesOff (s.modPort p (fun x => { x with st := .off, enable := false, mask := 0, reformOwn := none, reformFar := none, far := none,
                                           closing := false, drainDue := false, replayHeld := false })) p

/-- The port powers its lanes and trains them; one that the plan does not list has no powered lane (R25, R511). -/
def portTrain (s : State) (p : Nat) : State :=
  if !(s.port p).valid then portOff s p
  else
    let s := s.modPort p (fun x => { x with st := .training, mask := 0, reformOwn := none, reformFar := none, replayHeld := false,
                                            far := none, bertAsked := false })
    forEach (portLanes s p) (lanesOff s p) laneStart

/-- The port goes down: write-offs, event 0x6012, DOWN, and training anew, FAILED after 3 downs within 1 s, or OFF when
ENABLE = 0 has been written (R564, R566, R576, R577, Table 17.6). -/
def portDown (s : State) (p cause : Nat) : State :=
  let n := (s.port p).unacked.length
  let s := writeOffFlits s p (fun _ => true)
  let s := raise (logEvent s 0x6012 3 (.port p) [p, cause, n, 0]) (.port p) 1
  let downs := s.ao.ticks :: (s.port p).downs.filter (fun t => withinUs s t 1000000)
  let s := s.modPort p (fun x => { x with downs := downs })
  if (s.port p).closing then portOff s p
  else if 3 ≤ downs.length then
    lanesOff (s.modPort p (fun x => { x with st := .failed, mask := 0, reformOwn := none, reformFar := none, far := none })) p
  else portTrain s p

/-! ### Reforming (R565, R566, R572) -/

/-- Both masks are known: the port goes on with their intersection (R565). -/
def reformDone (s : State) (p : Nat) : State :=
  let x := s.port p
  match x.reformOwn, x.reformFar with
  | some a, some b =>
    let m := a &&& b
    let s := forEach ((portLanes s p).filter (fun i => !m.getLsbD (i % 8))) s (fun s i =>
      (laneOff s i).modLane i (fun y => { y with dropped := true }))
    let s := s.modPort p (fun x => { x with mask := m, reformOwn := none, reformFar := none, replayHeld := false })
    if popCount 8 m.toNat < max 1 x.lanesMin then portDown s p 3
    else
      let s := raise (logEvent (s.modPort p (fun x => { x with st := .up })) 0x6013 2 (.port p)
        [p, x.reformOld.toNat, m.toNat, 0]) (.port p) 3
      let s := pump (resendAll s p) p 256
      if (s.port p).drainDue then startDrain s p else s
  | _, _ => s

/-- The port proposes the lanes left to it (R565). -/
def startReform (s : State) (p : Nat) (old left : BitVec 8) : State :=
  let s := s.modPort p (fun x => { x with st := .reforming, mask := left, reformOwn := some left, replayHeld := true,
                                          reformOld := if x.st = .reforming then x.reformOld else old })
  let s := sendMgmt s p 3 ([0] ++ leBytes 2 left.toNat)
  reformDone s p

/-- A lane leaves service (R565, R566, R577): it stays unpowered until the port next trains. A port in training only
looks whether its other lanes are ready. -/
def laneLeaves (s : State) (i : Nat) : State :=
  let p := lanePort i
  let x := s.port p
  if x.st = .training then trainedCheck s p
  else if !x.mask.getLsbD (i % 8) then s
  else
    let left := x.mask &&& ~~~ BitVec.ofNat 8 (2 ^ (i % 8))
    let s := (laneOff s i).modLane i (fun y => { y with dropped := true })
    if left = 0 then portDown s p 0
    else if popCount 8 left.toNat < x.lanesMin then portDown s p 3
    else if x.st = .up || x.st = .reforming then startReform s p x.mask left
    else if x.st = .asleep then startReform (portWake s p) p x.mask left
    else s.modPort p (fun x => { x with mask := left })

/-! ### Service, drain, sleep -/

/-- Ask the far end for a PRBS31 test (R568); the superblock named is free. -/
def askBert (s : State) (p : Nat) : State :=
  let (v, s) := freeVal s
  sendMgmt (s.modPort p (fun x => { x with bertAsked := true })) p 6 ([0, 0, 0] ++ leBytes 4 v.toNat ++ leBytes 4 (s.port p).bertMs)

/-- Back in service: what waited goes on (R565, R567, R569, R574). -/
def portServes (s : State) (p : Nat) : State :=
  let s := s.modPort p (fun x => { x with st := .up })
  if (s.port p).drainDue then startDrain s p else pump s p 256

/-- The port enters service (R559): event 0x6010, and a test when the plan asks for one at installation (R568). -/
def portUp (s : State) (p : Nat) : State :=
  let x := s.port p
  let far := x.far.getD (ownIdent s p)
  let s := raise (logEvent (s.modPort p (fun x => { x with st := .up })) 0x6010 0 (.port p)
    [p, popCount 8 x.mask.toNat, far.pkg.toNat, far.port.toNat]) (.port p) 0
  let s := if x.install then askBert (s.modPort p (fun x => { x with bertInstall := true })) p else s
  if (s.port p).drainDue then startDrain s p else s

/-- The port enters QUARANTINE with a cause of Table 17.5 (R559, R560, R569). -/
def quarantine (s : State) (p cause : Nat) : State :=
  let x := s.port p
  let s := writeOffFlits s p (fun f => f.vc ≠ 3)
  let s := s.modPort p (fun x => { x with st := .quarantine, qCause := cause })
  let s := raise (logEvent s 0x6011 2 (.port p) [p, cause, x.far.elim 0 (·.pkg.toNat), x.far.elim 0 (fun r => r.serial.toNat % 2 ^ 32)]) (.port p) 2
  if cause ≤ 5 then raise s (.wiring p) 0 else s

/-- Every lane in service sleeps at the named superblock (R534, R567). -/
def portSleep (s : State) (p : Nat) (k : Word) : State :=
  forEach (maskLanes p (s.port p).mask) ((countTo s p k).modPort p (fun x => { x with st := .asleep, sleepSent := false }))
    (fun s i => s.modLane i (fun x => if x.phase = 10 then { x with phase := 11, sleepAt := s.ao.ticks } else x))

/-- A sleeping port whose lanes all carry data again is UP (R567). -/
def awakeCheck (s : State) (p : Nat) : State :=
  if (s.port p).st = .asleep && (maskLanes p (s.port p).mask).all (fun i => (s.lane i).phase = 10) then portServes s p else s

/-- A request to drain (R570, R574): at once for an UP port; once it is UP for one asleep, in a test, in training,
reforming or in QUARANTINE, which RECHECK alone or going down ends (R560); none for a port that is OFF or FAILED. -/
def drainPort (s : State) (p : Nat) : State :=
  match (s.port p).st with
  | .off | .failed | .draining | .drained => s
  | .up => startDrain s p
  | .asleep => portWake (s.modPort p (fun x => { x with drainDue := true })) p
  | _ => s.modPort p (fun x => { x with drainDue := true })

end Sys2Proof.Machine
end

