-- ==== Sys2Proof/Machine/Phy.lean ====
section
/-!
DEFINITION. What a transmitter puts on the wire and a receiver takes from it: PAM4 symbols, PRBS31, blocks, the RS(544,514)
code, superblocks, training blocks, transmit shaping and the echo canceller of a lane (chapter 16), flits and codewords of a
port (chapter 17), and frames on the TMB (chapter 18). A bit is a Bool, a symbol one of -3, -1, 1, 3.
-/
namespace Sys2Proof.Machine
open Sys2Proof

/-! ### Bits and symbols (R512) -/

/-- The low `n` bits of a number, bit 0 first. -/
def bitsUp (n v : Nat) : List Bool := (List.range n).map v.testBit

/-- The number whose bits, bit 0 first, these are. -/
def bitsNum : List Bool → Nat
  | [] => 0
  | b :: bs => b2n b + 2 * bitsNum bs

/-- The level of a bit pair, the first bit the most significant (R512). -/
def level : Bool → Bool → Int
  | false, false => -3
  | false, true => -1
  | true, true => 1
  | true, false => 3

/-- Bits, pair by pair, as symbols. -/
def symbolsOf : List Bool → List Int
  | a :: b :: l => level a b :: symbolsOf l
  | _ => []

/-- The bit pair of the level nearest to a sample: a receiver's slicer. -/
def sliced (x : Int) : Bool × Bool := (decide (0 ≤ x), decide (-2 ≤ x && x < 2))

/-- A bit sent as an outer level: +3 for 1, -3 for 0 (R513, R521, R533, R581). -/
def outer (b : Bool) : Int := if b then 3 else -3

/-! ### PRBS31 and the guard word (R513, R515, R533) -/

/-- The register after `n` steps. -/
def prbs31At (x : BitVec 31) : Nat → BitVec 31
  | 0 => x
  | n + 1 => prbs31At (prbsStep x) n

/-- `n` bits of the sequence, from stage 31. -/
def prbs31Bits (x : BitVec 31) : Nat → List Bool
  | 0 => []
  | n + 1 => x.getLsbD 30 :: prbs31Bits (prbsStep x) n

/-- The guard word G (R513). -/
def guardWord : List Int := (prbs31Bits (BitVec.allOnes 31) 32).map outer

/-- A block: data symbols, then G (R513). -/
def blockOf (data : List Int) : List Int := data ++ guardWord

/-- The wake preamble: 16 repetitions of P, then -P (R533). -/
def wakeSymbols : List Int :=
  let p := (prbs31Bits (BitVec.allOnes 31) 128).map outer
  (List.replicate 16 p).flatten ++ p.map (fun x => -x)

/-- The correlator after one more reading, in thousandths: readings of 0.6 or more in a row, armed, fired (R533). -/
def wakeStep (c : Nat × Bool × Bool) (r : Int) : Nat × Bool × Bool :=
  let run := if 600 ≤ r then c.1 + 1 else 0
  (run, c.2.1 || decide (4 ≤ run), c.2.2 || (c.2.1 && decide (r ≤ -600)))

/-- The correlator fires on a sequence of normalised correlations with P: four repetitions arm it, and the marker fires it
(R533). -/
def wakeFound (corr : List Int) : Bool := (corr.foldl wakeStep (0, false, false)).2.2

/-! ### RS(544,514) (R514; the code of IEEE 802.3 clause 91, log entry 103) -/

/-- An element of GF(2^10), of polynomial x^10 + x^3 + 1. -/
abbrev Sym := BitVec 10

/-- Times alpha. -/
def gfTwice (a : Sym) : Sym := (a <<< 1) ^^^ (if a.getLsbD 9 then 9#10 else 0#10)

/-- The product of two elements. -/
def gfMul (a b : Sym) : Sym := (List.range 10).foldr (fun k r => gfTwice r ^^^ (if b.getLsbD k then a else 0#10)) 0#10

/-- Powers of alpha. -/
def gfPow : Nat → Sym
  | 0 => 1#10
  | n + 1 => gfTwice (gfPow n)

/-- A polynomial, highest power first, times x + r. -/
def timesRoot (p : List Sym) (r : Sym) : List Sym := List.zipWith (· ^^^ ·) (p ++ [0#10]) (0#10 :: p.map (gfMul r))

/-- The generator polynomial: roots alpha^0 to alpha^29. -/
def rsGen : List Sym := (List.range 30).foldl (fun p j => timesRoot p (gfPow j)) [1#10]

/-- One symbol enters the encoder's remainder. -/
def rsStep (reg : List Sym) (d : Sym) : List Sym :=
  let f := d ^^^ reg.headD 0#10
  List.zipWith (· ^^^ ·) (reg.tail ++ [0#10]) (rsGen.tail.map (gfMul f))

/-- A codeword: the 514 message symbols, then 30 parity symbols. -/
def rsWord (m : List Sym) : List Sym := m ++ m.foldl rsStep (List.replicate 30 0#10)

/-- The value of a polynomial, highest power first. -/
def gfEval (p : List Sym) (x : Sym) : Sym := p.foldl (fun a c => gfMul a x ^^^ c) 0#10

/-- A received word is a codeword: every root of the generator is a root of it. -/
def rsOk (w : List Sym) : Bool := w.length = 544 && (List.range 30).all (fun j => gfEval w (gfPow j) = 0#10)

/-- The decoder's verdict (R514, R524): a word corrects to a codeword that differs from it in at most 15 symbols. -/
def rsCorrects (w c : List Sym) : Bool := rsOk c && w.length = 544 && decide ((List.zipWith (fun a b => b2n (a ≠ b)) w c).sum ≤ 15)

/-- Ten bits as a symbol, the most significant first. -/
def symOf (l : List Bool) : Sym := BitVec.ofNat 10 (bitsNum l.reverse)
/-- A symbol as ten bits, the most significant first. -/
def symBits (a : Sym) : List Bool := (bitsUp 10 a.toNat).reverse

/-- The 514 message symbols of 5140 bits. -/
def messageOf (bits : List Bool) : List Sym := (List.range 514).map (fun k => symOf ((bits.drop (10 * k)).take 10))

/-! ### Superblocks (R513 to R515, R529) -/

/-- The 16 320 bits of a superblock, before scrambling: symbol position s belongs to codeword s mod 3 (R514). -/
def superBits (words : List (List Sym)) : List Bool :=
  (List.range 1632).flatMap (fun s => symBits ((words.getD (s % 3) []).getD (s / 3) 0#10))

/-- The scrambler's bits for superblock `k` after data start (R515). -/
def scrambler (seed : BitVec 31) (k : Nat) : List Bool := prbs31Bits (prbs31At seed (16320 * k)) 16320

/-- The symbols of superblock `k` of a lane: three codewords, scrambled, in 17 blocks; none in a quiet one (R513 to R515,
R529). -/
def superblock (x : LaneSt) (k : Nat) (messages : List (List Bool)) : List Int :=
  if quietSb x.log2nUsed k then []
  else
    let bits := List.zipWith (· ^^ ·) (superBits (messages.map (fun m => rsWord (messageOf m)))) (scrambler x.seedTx k)
    let syms := symbolsOf bits
    (List.range 17).flatMap (fun b => blockOf ((syms.drop (480 * b)).take 480))

/-- A superblock of VERIFY carries zeros (Table 16.5). -/
def verifyBlock (x : LaneSt) (k : Nat) : List Int := superblock x k (List.replicate 3 (List.replicate 5140 false))

/-! ### Training blocks (R521, R522) -/

/-- The control word a lane sends in every block until its message changes (R522). -/
def laneWord (x : LaneSt) : DWord := ctrlWord x.phase x.msg x.msgPay x.sendSeq.toNat

/-- Training block `n` of a lane, counted from the start of phase 3: 416 known symbols, the control word a bit a symbol, and the
guard word (R513, R521). -/
def trainingBlock (x : LaneSt) (n : Nat) : List Int :=
  blockOf ((prbs31Bits (prbs31At (BitVec.allOnes 31) (416 * n)) 416).map outer ++ (bitsUp 64 (laneWord x).toNat).map outer)

/-- The control word a receiver reads from the data symbols of a training block. -/
def wordOfBlock (data : List Int) : DWord := BitVec.ofNat 64 (bitsNum (((data.drop 416).take 64).map (fun x => decide (0 < x))))

/-! ### Transmit shaping (R517) -/

/-- The coefficients pre2, pre1, main, post1, post2 of a preset, in 1/32 of the peak swing (Table 16.2). -/
def presetTaps : List (List Int) :=
  [[0, 0, 32, 0, 0], [0, -2, 30, 0, 0], [0, 0, 28, -4, 0], [0, -2, 26, -4, 0], [0, -4, 24, -4, 0], [-1, -3, 24, -4, 0],
   [0, -2, 24, -6, 0], [-1, -4, 22, -4, -1]]

/-- The 5-tap FIR at symbol `n` of a stream. -/
def firAt (taps : List Int) (x : Int → Int) (n : Int) : Int :=
  taps.getD 0 0 * x (n + 2) + taps.getD 1 0 * x (n + 1) + taps.getD 2 0 * x n + taps.getD 3 0 * x (n - 1) + taps.getD 4 0 * x (n - 2)

/-- Peak differential swing in mV (R517). -/
def swingMv (amp : Nat) : Nat := 50 * (amp + 5)

/-- What lane `i` drives at symbol `n` of the stream `x`, in 1/192 mV: level +3 at full strength is half the peak swing. -/
def laneDrive (s : State) (i : Nat) (x : Int → Int) (n : Int) : Int :=
  firAt (presetTaps.getD (s.lane i).preset.toNat []) x n * (swingMv (calAmp s i) : Int)

/-! ### Echo canceller (R526) -/

/-- Tap `j` of the canceller, Q1.14 (Table 16.11). -/
def ecTap (x : LaneSt) (j : Nat) : Int := ((look 0 x.ecTaps j).setWidth 16).toInt

/-- Delay of the window of tap `j`, in symbols. -/
def ecDelay (x : LaneSt) (j : Nat) : Nat := fld (look 0 x.ecTaps j).toNat 16 12

/-- The estimate of the transmitter's echo at symbol `n` of the stream it sent, Q1.14: 128 taps in four windows of 32. -/
def echoAt (x : LaneSt) (tx : Int → Int) (n : Int) : Int :=
  ((List.range 128).map (fun j => ecTap x j * tx (n - (ecDelay x j : Int) - ((j % 32 : Nat) : Int)))).sum

/-- A received sample, Q1.14, less the echo: what the equaliser's transform takes. In optical split mode nothing is
subtracted. -/
def echoFree (x : LaneSt) (optical : Bool) (tx : Int → Int) (n sample : Int) : Int := if optical then sample else sample - echoAt x tx n

/-- Sign-error LMS: what a tap moves by for an error's sign and a transmitted level, in units of 2^-16 of a Q1.14 tap's
unit 2^14, that is a quarter of its least bit (R526). -/
def lmsMove (err level : Int) : Int := (if 0 < err then 1 else if err < 0 then -1 else 0) * level

/-- Adapted taps: the values move, the windows stay where training placed them (R526). -/
def adaptedTaps (old new : Sparse Word) : Sparse Word :=
  (List.range 128).foldl (fun m j => put 0 m j ((look 0 old j &&& 0x0FFF0000) ||| (look 0 new j &&& 0xFFFF))) []

/-! ### Equaliser (R527) -/

/-- A complex number as a pair of integers. -/
abbrev Cx := Int × Int

def cxMul (a b : Cx) : Cx := (a.1 * b.1 - a.2 * b.2, a.1 * b.2 + a.2 * b.1)

/-- The tap that training sets for a bin, Q3.12: conj(H) / (|H|^2 + sigma^2), of a response H in units of 2^-12 and a noise power
in units of 2^-24, each part to nearest (R527; log entry 103). -/
def trainedTap (h : Cx) (noise : Nat) : Cx :=
  let d := h.1 * h.1 + h.2 * h.2 + (noise : Int)
  if d ≤ 0 then (0, 0) else (divNear (h.1 * 16777216) d.toNat, divNear (-h.2 * 16777216) d.toNat)

/-- W_k of a lane: bins 257 to 511 hold the conjugates of bins 255 down to 1 (R527). -/
def fdeTap (x : LaneSt) (k : Nat) : Cx :=
  let w := look 0 x.fdeTaps (if k ≤ 256 then k else 512 - k)
  let im := (w.extractLsb' 16 16).toInt
  ((w.setWidth 16).toInt, if k ≤ 256 then im else -im)

/-- Bin `k` of a window's transform after the equaliser, in Q3.12 of the bin's unit (R527). -/
def equalised (x : LaneSt) (k : Nat) (y : Cx) : Cx := cxMul (fdeTap x k) y

/-! ### Flits and codewords (R547, R548, Table 17.1) -/

/-- The 320 bytes of a flit: its SEQ, VC, NULL, LEN, CREDIT and body, and the CRC over them (Table 17.1). -/
def flitBytes (seq : BitVec 16) (vc : BitVec 2) (null : Bool) (cvc : Nat) (credit : Nat) (body : List Byte) : List Byte :=
  let l := leBytes 2 seq.toNat ++ leBytes 1 (vc.toNat + 4 * b2n null) ++ [0] ++ leBytes 2 body.length ++
    leBytes 2 (cvc % 4 + 4 * (credit % 2 ^ 14)) ++ leBytes 4 0 ++ (body ++ List.replicate 304 0).take 304
  l ++ leBytes 4 (crc32c l).toNat

/-- What a port sends as its `n`-th flit: one of its replay buffer, or a NULL flit; each reports the freed count of one VC, which
the VCs take in rotation (R549, R550). -/
def slotFlit (x : PortSt) (n : Nat) (f : Option TxFlit) : List Byte :=
  let cvc := n % 4
  match f with
  | some f => flitBytes f.seq f.vc false cvc (look 0 x.freedVc cvc) f.body
  | none => flitBytes x.nextTx 3 true cvc (look 0 x.freedVc cvc) []

/-- A flit as its bytes give it, from a codeword that decoded or did not. -/
def flitOf (b : List Byte) (decoded : Bool) : Flit :=
  let n (o k : Nat) : Nat := leNat ((b.drop o).take k)
  { seq := BitVec.ofNat 16 (n 0 2), vc := BitVec.ofNat 2 (n 2 1), null := bit (n 2 1) 2, len := n 4 2, cvc := BitVec.ofNat 2 (n 6 2),
    credit := BitVec.ofNat 14 (n 6 2 / 4), body := (b.drop 12).take 304, crcOk := (crc32c (b.take 316)).toNat = n 316 4,
    decoded := decoded }

/-- A byte's bits, least significant first (R547). -/
def byteBits (b : Byte) : List Bool := bitsUp 8 b.toNat

/-- The 5140 message bits of a codeword: ACK, NAK and 0, then two slots (R547). -/
def codewordBits (ack : BitVec 16) (nak : Bool) (a b : List Byte) : List Bool :=
  bitsUp 20 (ack.toNat + 2 ^ 16 * b2n nak) ++ a.flatMap byteBits ++ b.flatMap byteBits

/-- The codeword a port sends with these two slots. -/
def portCodeword (x : PortSt) (a b : List Byte) : List Bool := codewordBits x.ack x.nak a b

/-- ACK and NAK of a received codeword. -/
def codewordField (m : List Bool) : BitVec 16 × Bool := (BitVec.ofNat 16 (bitsNum (m.take 16)), (m.drop 16).headD false)

/-- The bytes of slot `j` of a received codeword. -/
def codewordSlot (m : List Bool) (j : Nat) : List Byte :=
  (List.range 320).map (fun k => BitVec.ofNat 8 (bitsNum ((m.drop (20 + 2560 * j + 8 * k)).take 8)))

/-- Place of slot `slot` of codeword `c` on the `j`-th of `m` lanes among a superblock's slots (R548). -/
def slotIndex (c slot m j : Nat) : Nat := (2 * c + slot) * m + j

/-! ### The TMB wire (R580 to R583) -/

/-- The 64 chips of the preamble, chip 0 first (R581). -/
def tmbPreamble : List Int := (bitsUp 64 0x9F3A64D10B7CE258).map outer

/-- The four symbols of a byte: bits [1:0] first, the higher-numbered bit the first of its pair (R580). -/
def byteSymbols (b : Byte) : List Int :=
  (List.range 4).map (fun k => level (b.getLsbD (2 * k + 1)) (b.getLsbD (2 * k)))

/-- A frame on the bus (R580, R581). -/
def tmbSymbols (frame : List Byte) : List Int := tmbPreamble ++ frame.flatMap byteSymbols

/-- Correlation of 64 received chips with the preamble. -/
def correlation (chips : List Int) : Int := (List.zipWith (· * ·) chips tmbPreamble).sum

/-- Correlation energy C of the preamble, as a number. -/
def chipEnergy (chips : List Int) : Nat := (correlation chips ^ 2).toNat

/-- A preamble is found: the normalised correlation is at least 0.5, that is r > 0 and 4 r^2 at least the product of the two
energies (R582). -/
def preambleFound (chips : List Int) : Bool :=
  chips.length = 64 && decide (0 < correlation chips) &&
  decide ((chips.map (fun x => x ^ 2)).sum * (tmbPreamble.map (fun x => x ^ 2)).sum ≤ 4 * correlation chips ^ 2)

/-- Energy `c` is at least 6 dB above `old`: their ratio is at least 10^0.6 (R583). -/
def stronger (c old : Nat) : Bool := 10 ^ 6 * old ^ 10 ≤ c ^ 10

end Sys2Proof.Machine
end

