-- ==== Sys2Proof/Machine/Lane.lean ====
section
/-!
DEFINITION. Scale-out link signalling (chapter 16): training, data, impulses, sleep and wake of a lane, and the LANE page.
-/
namespace Sys2Proof.Machine
open Sys2Proof

/-! ### Training (R523 to R525, R543) -/

/-- A training attempt fails: event 0x6002, TRAIN_FAIL; training restarts from phase 2, or the lane is FAILED after three
in a row, or at once when its synthesiser did not lock (R543). -/
def trainFail (s : State) (i cause : Nat) (abort : Bool) : State :=
  let x := s.lane i
  let n := x.attempts + 1
  let s := if abort then sendWord s i 6 cause else s
  let s := s.modLane i (fun x => { x with attempts := min n 255, cause := cause })
  let s := raise (logEvent s 0x6002 2 (.lane i) [i, cause, x.phase, n]) (.lane i) 2
  if 3 ≤ n || cause = 1 then laneLeaves (s.modLane i (fun x => { freshTraining x with phase := 15 })) i
  else laneDetect s i

/-- The lane is in a training phase with control words (3 to 9). -/
def inTraining (x : LaneSt) : Bool := 3 ≤ x.phase && x.phase ≤ 9

/-- The next phase; optical lanes skip ECHO_F (Table 16.5). -/
def nextPhase (optical : Bool) (ph : Nat) : Nat := if ph = 5 && optical then 7 else ph + 1

/-- An end that has finished its own work and holds READY goes on to the next phase; past PRESET, SEED waits for the
port's other lanes (R523, R563). -/
def laneAdvance (s : State) (i : Nat) : State :=
  let x := s.lane i
  if x.ownDone && x.farReady && 3 ≤ x.phase && x.phase ≤ 8 then
    let ph := nextPhase (s.port (lanePort i)).optical x.phase
    let s := s.modLane i (fun x => { x with phase := ph, ownDone := false, farReady := false, presetPassed := x.presetPassed || ph = 9 })
    if ph = 9 then seedCheck s (lanePort i) else s
  else s

/-- The end's own work in its phase is done: it sends READY (R523). -/
def laneWorkDone (s : State) (i : Nat) : State :=
  laneAdvance (sendWord (s.modLane i (fun x => { x with ownDone := true })) i 2 0) i

/-- SYNTH_LOCK: phase 1 ends (R523). -/
def execSynthLock (i : Nat) (s : State) : Host.Outcome State Fault Refusal :=
  if (s.lane i).phase = 1 then .next (s.modLane i (fun x => { x with phase := 2, synth := true })) else .next s

/-- SYNTH_LOCK_TIMEOUT: FAILED at once (R42, R543). -/
def execSynthLockTimeout (i : Nat) (s : State) : Host.Outcome State Fault Refusal :=
  if (s.lane i).phase = 1 then .next (trainFail s i 1 false) else .next s

/-- DETECT_PREAMBLE_SEND (R523). -/
def execDetectPreambleSend (i : Nat) (s : State) : Host.Outcome State Fault Refusal :=
  if (s.lane i).phase = 2 then .next (emit s (.preamble i)) else .next s

/-- PREAMBLE_DETECTED: the correlator's readings, and where it fires the far end is found, or a sleeping lane answers a wake as end
B (R523, R533, R535, R538). -/
def execPreambleDetected (i : Nat) (corr : List Int) (s : State) : Host.Outcome State Fault Refusal :=
  if !wakeFound corr then .next s
  else if (s.lane i).phase = 2 then .next (laneRole s i)
  else if (s.lane i).phase = 11 then .next (laneWake s i none)
  else .next s

/-- ROLE: a mode or LOG2N that differs fails training; the higher draw is master; equal draws are drawn again, at most
eight times (R523, R525, R530). -/
def execRole (i : Nat) (w : DWord) (s : State) : Host.Outcome State Fault Refusal :=
  if (s.lane i).phase ≠ 3 then .next s
  else match takeWord s i 1 w with
  | none => .next s
  | some s =>
    let x := s.lane i
    let draw := fld (cwPay w) 0 16
    if bit (cwPay w) 16 ≠ (s.port (lanePort i)).optical || fld (cwPay w) 17 5 ≠ x.log2nUsed then .next (trainFail s i 3 true)
    else if draw = x.draw.toNat then
      (if 8 ≤ x.equalDraws + 1 then .next (trainFail s i 2 true)
       else .next (sendRole (s.modLane i (fun x => { x with equalDraws := x.equalDraws + 1 })) i))
    else if x.ownDone then .next s
    else .next (laneWorkDone (s.modLane i (fun x => { x with follower := decide (x.draw.toNat < draw) })) i)

/-- READY for the phase the lane is in (R523). -/
def execReady (i : Nat) (w : DWord) (s : State) : Host.Outcome State Fault Refusal :=
  if !inTraining (s.lane i) || cwPhase w ≠ (s.lane i).phase then .next s
  else match takeWord s i 2 w with
  | none => .next s
  | some s => .next (laneAdvance (s.modLane i (fun x => { x with farReady := true })) i)

/-- What the work of a phase leaves in the lane (Table 16.5, R519, R520, R526, R527). -/
def laneResult (x : LaneSt) (optical : Bool) (m : LaneMeas) : LaneSt :=
  let ec := fun (x : LaneSt) => { x with ecTaps := m.ecTaps }
  let fde := fun (x : LaneSt) => { x with fdeTaps := m.fdeTaps }
  match x.phase with
  | 4 => { x with fofs := m.fofs, trim := if x.follower then m.fofs else 0 }
  | 5 => if optical || x.follower then fde x else ec x
  | 6 => if x.follower then ec x else fde x
  | 7 => { (if optical then fde x else ec (fde x)) with oneWay := m.oneWay % 65536 }
  | _ => x

/-- TRAINING_PHASE_DONE: the end has finished its work in phases 4 to 8, with what it measured; steering outside ±250 ppm
and, on copper, a one-way delay above 35 ns fail training (R519, R520, R523). -/
def execTrainingPhaseDone (i : Nat) (m : LaneMeas) (s : State) : Host.Outcome State Fault Refusal :=
  let x := s.lane i
  let optical := (s.port (lanePort i)).optical
  if x.phase = 3 then .next (laneAdvance s i)
  else if x.phase < 4 || 8 < x.phase then .next s
  else if x.ownDone then .next (laneAdvance s i)
  else if x.phase = 4 && x.follower && (m.fofs < -25000 || 25000 < m.fofs) then .next (trainFail s i 4 true)
  else if x.phase = 7 && !optical && 350 < m.oneWay then .next (trainFail s i 5 true)
  else
    let s := s.setLane i (laneResult x optical m)
    let s := if x.phase = 8 then sendWord s i 3 m.bestPreset.toNat else s
    .next (laneWorkDone s i)

/-- PRESET_REQ: the transmitter applies the preset asked for, or the one forced (R523, Table 16.11). -/
def execPresetReq (i : Nat) (w : DWord) (s : State) : Host.Outcome State Fault Refusal :=
  if (s.lane i).phase ≠ 8 then .next s
  else match takeWord s i 3 w with
  | none => .next s
  | some s => .next (s.modLane i (fun x => { x with preset := if x.force then x.presetForce else BitVec.ofNat 3 (cwPay w) }))

/-- SEED: the far end's scrambler seed; data starts at the next superblock boundary (R515, R523). -/
def execSeed (i : Nat) (w : DWord) (s : State) : Host.Outcome State Fault Refusal :=
  if (s.lane i).phase ≠ 9 || fld (cwPay w) 0 31 = 0 then .next s
  else match takeWord s i 4 w with
  | none => .next s
  | some s => .next (s.modLane i (fun x => { x with seedRx := some (BitVec.ofNat 31 (cwPay w)) }))

/-- The later of two superblock counts, modulo 2^16 (R539). -/
def laterBlock (a b : Nat) : Nat := if (a + 65536 - b) % 65536 < 32768 then a else b

/-- WAKE: it names the superblock at which data resumes; of two, the later counts (R535, R539). -/
def execWake (i : Nat) (w : DWord) (s : State) : Host.Outcome State Fault Refusal :=
  if (s.lane i).phase ≠ 12 then .next s
  else match takeWord s i 5 w with
  | none => .next s
  | some s => .next (s.modLane i (fun x =>
      let k := cwPay w % 65536
      { x with wakeAt := some (match x.wakeAt with | some a => laterBlock a k | none => k) }))

/-- ABORT received in training, or by an end whose own VERIFY has passed: it leaves data and restarts from phase 2 (R524,
R537). -/
def execAbort (i : Nat) (w : DWord) (s : State) : Host.Outcome State Fault Refusal :=
  if !inTraining (s.lane i) && (s.lane i).phase ≠ 10 then .next s
  else match takeWord s i 6 w with
  | none => .next s
  | some t => .next (if (s.lane i).phase = 10 then laneLeaves (trainFail (raise t (.lane i) 1) i 9 false) i else trainFail t i 9 false)

/-- PHASE_BOUND_EXPIRE (R523). -/
def execPhaseBoundExpire (i : Nat) (s : State) : Host.Outcome State Fault Refusal :=
  if inTraining (s.lane i) then .next (trainFail s i 6 true) else .next s

/-- VERIFY_END: VERIFY is judged on SNR and decoding; the lane goes UP or aborts (R524). -/
def execVerifyEnd (i uncorrectable snr : Nat) (s : State) : Host.Outcome State Fault Refusal :=
  let x := s.lane i
  if x.phase ≠ 9 || !x.seedSent || x.seedRx.isNone then .next s
  else
    let s := s.modLane i (fun x => { x with snr := snr % 4096 })
    if snr < 207 then .next (trainFail s i 7 true)
    else if uncorrectable ≠ 0 then .next (trainFail s i 8 true)
    else
      let us := min (usSince s x.detectAt) 0xFFFF
      let s := s.modLane i (fun x => { x with phase := 10, attempts := 0, lastUs := us })
      let s := raise (logEvent s 0x6001 0 (.lane i) [i, snr, us, x.preset.toNat]) (.lane i) 0
      .next (trainedCheck s (lanePort i))

/-- A lane in data that leaves it: DOWN, and the port goes on without it (R544, R565). -/
def laneFalls (s : State) (i : Nat) : State := laneLeaves (raise s (.lane i) 1) i

/-- A write of LANE_CTRL (Table 16.11, R537). -/
def writeLaneCtrl (i : Nat) (w : RegWrite) (s : State) : State × RefCode :=
  let x := s.lane i
  let v := (w.merged (word [(1, b2n x.holdAdapt), (8, x.presetForce.toNat), (11, b2n x.force)])).toNat
  let go := w.ones.getLsbD 0
  guarded s (.lane i) 0x40 w { wrongState := go && x.phase = 0 } (fun s =>
    let s := s.modLane i (fun x => { x with holdAdapt := bit v 1, presetForce := BitVec.ofNat 3 (fld v 8 3), force := bit v 11 })
    if go then
      let s := laneDetect (s.modLane i (fun x => { x with attempts := 0 })) i
      if x.phase = 10 || x.phase = 11 || x.phase = 12 then laneFalls s i else s
    else s)

/-- RETRAIN. -/
def execRetrain (i : Nat) (w : RegWrite) (s : State) : Host.Outcome State Fault Refusal := .next (writeLaneCtrl i w s).1

/-! ### Data (R519, R528 to R532, R536, R544, R545) -/

/-- A lane that loses alignment or frequency goes down and trains from phase 3 (R544). -/
def alignmentLost (s : State) (i cause : Nat) : State :=
  let s := portTime s (lanePort i)
  let s := logEvent s 0x6005 2 (.lane i) [i, cause, (s.lane i).count.toNat, 0]
  laneFalls (laneRole s i) i

/-- The follower goes on steering in training, from FREQ to VERIFY, by the offset it measures (R519, Table 16.5). -/
def steerTraining (s : State) (i : Nat) (ofs : Int) : State :=
  let x := s.lane i
  if !x.follower then s.setLane i { x with fofs := ofs }
  else if x.holdAdapt || 0 < x.runBlocks then s
  else
    let t := x.trim + ofs
    if t < -25000 || 25000 < t then trainFail s i 4 true else s.setLane i { x with fofs := ofs, trim := t }

/-- STEERING_UPDATE: in data the follower's steering moves by at most 0.1 ppm towards the measured offset (R519, R531, R544). -/
def execSteeringUpdate (i : Nat) (ofs : Int) (s : State) : Host.Outcome State Fault Refusal :=
  let x := s.lane i
  if 4 ≤ x.phase && x.phase ≤ 9 then .next (steerTraining s i ofs)
  else if x.phase ≠ 10 then .next s
  else if !x.follower then .next (s.setLane i { x with fofs := ofs })
  else if x.holdAdapt || 0 < x.runBlocks then .next s
  else
    let t := x.trim + clampI (-10) 10 ofs
    if t < -25000 || 25000 < t then .next (alignmentLost s i 4)
    else .next (s.setLane i { x with fofs := ofs, trim := t })

/-- Saturating sum of 32 bits. -/
def sat32Add (a b : Nat) : Nat := min (a + b) 0xFFFFFFFF

/-- The taps as adaptation leaves them, unless it is frozen (R526, R527, R531). -/
def adapted (x : LaneSt) (t : Adapted) : LaneSt :=
  if x.holdAdapt || 0 < x.runBlocks then x else { x with ecTaps := adaptedTaps x.ecTaps t.ecTaps, fdeTaps := t.fdeTaps }

/-- Since when SNR has stayed below 18.7 dB (R545). -/
def lowFrom (x : LaneSt) (now snr : Nat) : Option Nat := if snr < 187 then some (x.lowSince.getD now) else none

/-- SNR_UPDATE: SNR, the decoder's counts since the last update, and the taps as data has adapted them (R526 to R528, Table
16.11). -/
def execSnrUpdate (i snr corrected uncorrectable : Nat) (taps : Option Adapted) (s : State) : Host.Outcome State Fault Refusal :=
  if (s.lane i).phase = 10 then .next (s.modLane i (fun x => { taps.elim x (adapted x) with
    snr := snr % 4096, lowSince := lowFrom x s.ao.ticks (snr % 4096), fecCorr := sat32Add x.fecCorr corrected, fecUncorr := sat32Add x.fecUncorr uncorrectable }))
  else .next s

/-- SNR has stayed below 18.7 dB for 10 ms (R545). -/
def snrLow (s : State) (x : LaneSt) : Bool := x.lowSince.any (fun t => !withinUs s t 10000)

/-- LANE_DEGRADED: SNR has stayed below 18.7 dB for 10 ms (R545); the port may drop the lane (R565). -/
def execLaneDegraded (i : Nat) (s : State) : Host.Outcome State Fault Refusal :=
  let x := s.lane i
  if x.phase ≠ 10 || !snrLow s x then .next s
  else
    let s := raise (s.setLane i { x with degraded := true }) (.lane i) 4
    let s := logLimited s (0x60040000 + i) 1000000 0x6004 2 (.lane i) [i, x.snr, x.qsnr, 0]
    .next (if (s.port (lanePort i)).dropDegraded && (s.port (lanePort i)).st = .up then laneLeaves s i else s)

/-- QUIET_WINDOW: the noise floor is measured, unless an impulse voids the measurement (R529, R536). -/
def execQuietWindow (i : Nat) (qsnr : Option Nat) (s : State) : Host.Outcome State Fault Refusal :=
  let x := s.lane i
  match qsnr with
  | some q => if x.phase = 9 || x.phase = 10 then .next (s.setLane i { x with qsnr := q % 4096, windows := (x.windows + 1) % 65536 }) else .next s
  | none => .next s

/-- A block is an impulse block: its mean squared slicer error exceeds the running mean by IMP_DB decibels (R531). -/
def impulse (x : LaneSt) (err mean : Nat) : Bool := 10 ^ x.impDb * mean ^ 10 < err ^ 10

/-- IMPULSE_BLOCK: a block with its error and the running mean; a marked one counts, and adaptation is frozen while the run lasts
(R531, R532). -/
def execImpulseBlock (i err mean : Nat) (s : State) : Host.Outcome State Fault Refusal :=
  let x := s.lane i
  if impulse x err mean && (inTraining x || x.phase = 10 || x.phase = 12) then
    .next (s.setLane i { x with impBlocks := satInc x.impBlocks 0xFFFF, runBlocks := x.runBlocks + 1, impSeen := x.impSeen || x.phase = 12 })
  else .next s

/-- IMPULSE_RUN_END: a gap of more than IMP_HOLD unmarked blocks ends a run (R532). -/
def execImpulseRunEnd (i uncorrectable gap : Nat) (s : State) : Host.Outcome State Fault Refusal :=
  let x := s.lane i
  if x.runBlocks = 0 || gap ≤ x.impHold then .next s
  else
    let s := raise (s.setLane i { x with runs := satInc x.runs 0xFFFF, runBlocks := 0 }) (.lane i) 3
    .next (logLimited s (0x60030000 + i) 1000 0x6003 1 (.lane i) [i, x.runBlocks, uncorrectable, 0])

/-- ALIGNMENT_LOST: 64 superblocks with every codeword uncorrectable, or steering about to leave ±250 ppm (R544). -/
def execAlignmentLost (i : Nat) (frequency : Bool) (s : State) : Host.Outcome State Fault Refusal :=
  if (s.lane i).phase = 10 then .next (alignmentLost s i (if frequency then 4 else 0)) else .next s

/-! ### Sleep and wake (R533 to R541) -/

/-- WAKE_FALSE_DETECT: no WAKE within 200 ns; the lane sleeps again (R535). -/
def execWakeFalseDetect (i : Nat) (s : State) : Host.Outcome State Fault Refusal :=
  let x := s.lane i
  if x.phase = 12 && !x.waker && x.wakeAt.isNone then .next (s.setLane i { x with phase := 11, falses := satInc x.falses 0xFFFF })
  else .next s

/-- The next superblock count whose low 16 bits are `k` (R516, Table 16.4). -/
def countReached (n : Word) (k : Nat) : Word := n + w32 ((k + 65536 - n.toNat % 65536) % 65536)

/-- WAKE_DATA_RESUME: data resumes at the named superblock, or the wake is tried once more with a superblock named anew, and then the
lane trains from phase 3 (R535, R540). -/
def execWakeDataResume (i : Nat) (seen : Bool) (s : State) : Host.Outcome State Fault Refusal :=
  let x := s.lane i
  if x.phase ≠ 12 || x.wakeAt.isNone then .next s
  else if seen && !x.impSeen then
    .next (awakeCheck (s.setLane i { x with phase := 10, wakes := satInc x.wakes 0xFFFF, count := countReached x.count (x.wakeAt.getD 0) })
      (lanePort i))
  else if !x.wakeRetried then
    let s := portTime s (lanePort i)
    let (v, s) := freeVal s
    let x := s.lane i
    let k := wakeName x.log2nUsed x.count v
    let s := emit (s.setLane i { x with wakeRetried := true, impSeen := false, waker := true, wakeAt := some k }) (.preamble i)
    .next (sendWord s i 5 k)
  else
    let s := raise (logEvent s 0x6006 1 (.lane i) [i, if x.impSeen then 0 else 1, 2, 0]) (.lane i) 5
    .next (laneFalls (laneRole s i) i)

/-! ### LANE page (Tables 16.10, 16.11) -/

/-- STATE of a LANE page. -/
def laneCode (x : LaneSt) : Nat :=
  if x.phase = 0 then 0 else if x.phase = 10 then 2 else if x.phase = 15 then 5 else if x.phase ≤ 9 then 6 else 7

def readLane (s : State) (i off : Nat) : Word :=
  let x := s.lane i
  match off with
  | 0x40 => word [(1, b2n x.holdAdapt), (8, x.presetForce.toNat), (11, b2n x.force)]
  | 0x44 => word [(0, x.phase), (4, b2n x.follower), (5, b2n (s.port (lanePort i)).optical), (8, x.preset.toNat), (16, x.attempts)]
  | 0x48 => word [(0, twos 16 x.fofs), (16, twos 16 x.trim)]
  | 0x4C => word [(0, x.snr), (16, x.qsnr)]
  | 0x50 => word [(0, x.oneWay)]
  | 0x54 => word [(0, x.log2n), (16, x.windows)]
  | 0x58 => word [(0, x.impDb), (16, x.impHold)]
  | 0x5C => word [(0, x.impBlocks), (16, x.runs)]
  | 0x60 => w32 x.fecCorr
  | 0x64 => w32 x.fecUncorr
  | 0x68 => word [(0, x.ecSel)]
  | 0x6C => look 0 x.ecTaps x.ecSel &&& 0x0FFFFFFF
  | 0x70 => word [(0, x.fdeSel)]
  | 0x74 => look 0 x.fdeTaps x.fdeSel
  | 0x78 => word [(0, x.lastUs), (16, x.cause)]
  | 0x7C => word [(0, x.wakes), (16, x.falses)]
  | 0x80 => word [(0, calAmp s i % 16)]
  | _ => 0

def writeLane (i off : Nat) (w : RegWrite) (s : State) : State × RefCode :=
  let p := PageRef.lane i
  let v := (w.merged (readLane s i off)).toNat
  match off with
  | 0x40 => writeLaneCtrl i w s
  | 0x54 => guarded s p off w { outOfRange := fld v 0 5 < 14 || 26 < fld v 0 5 } (fun s => s.modLane i (fun x => { x with log2n := fld v 0 5 }))
  | 0x58 => guarded s p off w { outOfRange := fld v 0 5 < 6 || 24 < fld v 0 5 || fld v 16 10 = 0 }
      (fun s => s.modLane i (fun x => { x with impDb := fld v 0 5, impHold := fld v 16 10 }))
  | 0x68 => guarded s p off w {} (fun s => s.modLane i (fun x => { x with ecSel := fld v 0 7 }))
  | 0x70 => guarded s p off w { outOfRange := 256 < fld v 0 9 } (fun s => s.modLane i (fun x => { x with fdeSel := fld v 0 9 }))
  | 0x80 => guarded s p off w { outOfRange := (s.port (lanePort i)).optical && 7 < fld v 0 4 } (fun s => setCalN s (0x4800 + i) 1 (fld v 0 4))
  | _ => roWrite s p off w

end Sys2Proof.Machine
end

