-- ==== Sys2Proof/Machine/Port.lean ====
section
/-!
DEFINITION. The link layer (chapter 17): flits, replay, identity, lane loss, sleep, PRBS31 tests, drain, and the PORT and
WIRING pages.
-/
namespace Sys2Proof.Machine
open Sys2Proof

/-! ### Flits and replay (R549 to R557) -/

/-- FLIT_SUBMIT: the endpoint gives the port a sequenced flit (R557); a sleeping port wakes (R567). -/
def execFlitSubmit (p : Nat) (vc : BitVec 2) (body : List Byte) (s : State) : Host.Outcome State Fault Refusal :=
  let x := s.port p
  if vc = 3 || 304 < body.length || x.closing || x.farDraining || 256 ≤ x.unacked.length then .next s
  else match x.st with
  | .up | .reforming | .testing => .next (pushFlit (s.setPort p { x with sleepSent := false }) p vc body)
  | .asleep => .next (portWake (pushFlit s p vc body) p)
  | _ => .next s

/-- The port is trained and receives flits. -/
def receiving (x : PortSt) : Bool :=
  match x.st with
  | .identify | .quarantine | .up | .reforming | .draining | .drained => true
  | _ => false

/-- The flit is accepted in sequence (R552); a full VC is a protocol error (R551). Management flits are consumed at once;
traffic goes to the endpoint. -/
def acceptFlit (s : State) (p : Nat) (f : Flit) : State :=
  let x := s.port p
  let vc := f.vc.toNat
  if (Config.rxBuffers vc).toNat ≤ look 0 x.usedVc vc then portDown s p 2
  else
    let x := { x with ack := f.seq, rxNext := f.seq + 1, nak := false, sleepSent := false }
    if f.vc = 3 then s.setPort p { x with freedVc := put 0 x.freedVc vc ((look 0 x.freedVc vc + 1) % 2 ^ 14) }
    else
      let s := s.setPort p { x with usedVc := modAt 0 x.usedVc vc (· + 1) }
      if x.st = .identify || x.st = .quarantine then s else emit s (.deliver p vc (f.body.take f.len))

/-- FLIT_RECEIVED (R550 to R553, R576). -/
def execFlitReceived (p : Nat) (f : Flit) (s : State) : Host.Outcome State Fault Refusal :=
  let x := s.port p
  if !receiving x then .next s
  else if !f.crcOk || !f.decoded then .next (s.setPort p { x with nak := true })
  else
    let s := s.setPort p { x with freedFar := put 0 x.freedFar f.cvc.toNat f.credit.toNat }
    let d := (f.seq - x.rxNext).toNat
    if 256 < d && d < 32768 then .next (portDown s p 2)
    else if f.null then .next (pump s p 256)
    else if d = 0 then .next (pump (acceptFlit s p f) p 256)
    else if d ≤ 256 then .next (pump (s.modPort p (fun x => { x with nak := true })) p 256)
    else .next (pump s p 256)

/-- Position of the flit with this SEQ among those sent, counted from 1; 0 when there is none. -/
def ackPos (k : BitVec 16) : List TxFlit → Nat
  | [] => 0
  | f :: fs => if f.seq = k then 1 else (match ackPos k fs with | 0 => 0 | n + 1 => n + 2)

/-- Every replay entry up to ACK is freed (R554). -/
def takeAck (s : State) (p : Nat) (k : BitVec 16) : State :=
  let x := s.port p
  let n := ackPos k (x.unacked.take (x.unacked.length - x.unsent))
  if n = 0 then s
  else
    let s := s.setPort p { x with unacked := x.unacked.drop n, resends := 0 }
    let m := ((x.unacked.take n).filter (·.counted)).length
    let s := modReplay s p (fun r => { r with free := r.free + m, unacked := r.unacked - m, acked := r.acked + w32 m })
    drainedCheck (drainStep s p) p

/-- ACK_RECEIVED (R554). -/
def execAckReceived (p : Nat) (k : BitVec 16) (s : State) : Host.Outcome State Fault Refusal := .next (takeAck s p k)

/-- The sender resends every unacknowledged flit; the sixteenth time without progress the port goes down (R554, R555,
R576). -/
def startReplay (s : State) (p : Nat) (timeout : Bool) : State :=
  let x := s.port p
  let s := s.setPort p { x with resends := x.resends + 1, replays := satInc x.replays 0xFFFF,
                                timeouts := if timeout then satInc x.timeouts 0xFFFF else x.timeouts }
  if 16 ≤ x.resends + 1 then portDown s p 1 else pump (resendAll s p) p 256

/-- NAK_RECEIVED: a NAK whose ACK differs from that of the last one acted on starts a replay (R554, R571). -/
def execNakReceived (p : Nat) (k : BitVec 16) (s : State) : Host.Outcome State Fault Refusal :=
  let s := takeAck s p k
  let x := s.port p
  if x.lastNak = some k || x.unacked.length ≤ x.unsent || !sending x then .next s
  else .next (startReplay (s.setPort p { x with lastNak := some k }) p false)

/-- REPLAY_TIMEOUT (R555); suspended in a test (R568). -/
def execReplayTimeout (p : Nat) (s : State) : Host.Outcome State Fault Refusal :=
  let x := s.port p
  if x.unacked.length ≤ x.unsent || !sending x then .next s else .next (startReplay s p true)

/-- RECEIVE_BUFFER_FREE: the endpoint takes a flit (R550). -/
def execReceiveBufferFree (p : Nat) (vc : BitVec 2) (s : State) : Host.Outcome State Fault Refusal :=
  let x := s.port p
  let v := vc.toNat
  if look 0 x.usedVc v = 0 then .next s
  else .next (s.setPort p { x with usedVc := modAt 0 x.usedVc v (· - 1), freedVc := put 0 x.freedVc v ((look 0 x.freedVc v + 1) % 2 ^ 14) })

/-! ### Identity (R558 to R560) -/

/-- The first mismatch of Table 17.5 in a far record. -/
def identCause (x : PortSt) (r : IdentRec) : Nat :=
  if r.pkg ≠ x.expectPkg then 1
  else if r.port.toNat ≠ x.expectPort then 2
  else if x.expectSerial ≠ 0 && x.expectSerial ≠ r.serial then 3
  else if popCount 8 x.mask.toNat < x.lanesMin then 4
  else 0

/-- IDENTITY: the far record is checked against the plan and VERDICT is sent (R559). -/
def execIdentity (p : Nat) (r : IdentRec) (s : State) : Host.Outcome State Fault Refusal :=
  let x := s.port p
  if x.st ≠ .identify || r.magic ≠ 0x4B4E494C then .next s
  else
    let c := identCause x r
    let s := s.setPort p { x with
      far := some r, sentMatch := c = 0,
      farBufs := put 0 (put 0 (put 0 (put 0 [] 0 r.bufs0.toNat) 1 r.bufs1.toNat) 2 r.bufs2.toNat) 3 r.bufs3.toNat }
    let s := sendMgmt s p 2 [BitVec.ofNat 8 (b2n (c = 0)), BitVec.ofNat 8 c]
    if c ≠ 0 then .next (quarantine s p c) else if x.gotMatch then .next (portUp s p) else .next s

/-- VERDICT: the port enters UP or QUARANTINE (R559). -/
def execVerdict (p : Nat) (isMatch : Bool) (_cause : Nat) (s : State) : Host.Outcome State Fault Refusal :=
  let x := s.port p
  if x.st ≠ .identify then .next s
  else if !isMatch then .next (quarantine s p 5)
  else
    let s := s.setPort p { x with gotMatch := true }
    if x.sentMatch then .next (portUp s p) else .next s

/-- IDENTIFY_TIMEOUT (R559). -/
def execIdentifyTimeout (p : Nat) (s : State) : Host.Outcome State Fault Refusal :=
  let x := s.port p
  if x.st = .identify && x.far.isNone then .next (quarantine s p 7) else .next s

/-! ### Lane loss and sleep (R565, R567, R573) -/

/-- REFORM: the far end's proposal (R565). -/
def execReform (p : Nat) (mask : BitVec 16) (s : State) : Host.Outcome State Fault Refusal :=
  let x := s.port p
  let told := s.setPort p { x with reformFar := some (mask.setWidth 8) }
  match x.st with
  | .up => .next (startReform told p x.mask x.mask)
  | .reforming => .next (reformDone told p)
  | _ => .next s

/-- SLEEP_REQ: an idle end answers and sleeps; one that has itself asked, or has flits, does not (R567, R573). -/
def execSleepReq (p : Nat) (count : Word) (s : State) : Host.Outcome State Fault Refusal :=
  let x := s.port p
  if x.st ≠ .up then .next s
  else if x.sleepSent then .next (s.setPort p { x with sleepSent := false })
  else if x.unacked = [] then .next (portSleep (emit s (.mgmt p 5 ([0, 0, 0] ++ leBytes 4 count.toNat))) p count)
  else .next s

/-- SLEEP_ACK: both ends sleep at the named superblock (R567). -/
def execSleepAck (p : Nat) (count : Word) (s : State) : Host.Outcome State Fault Refusal :=
  let x := s.port p
  if x.st = .up && x.sleepSent then .next (portSleep s p count) else .next s

/-- IDLE_EXPIRE: an idle port sends SLEEP_REQ, naming a superblock at least 1 us ahead, which is seven of them; how many
more the model leaves free (R567). -/
def execIdleExpire (p : Nat) (s : State) : Host.Outcome State Fault Refusal :=
  let x := s.port p
  if x.st = .up && x.idleUs ≠ 0 && x.unacked = [] then
    let s := portTime s p
    let (v, s) := freeVal s
    let k := (portCount s p).toNat + 7 + v.toNat % 2 ^ 31
    .next (emit (s.setPort p { x with sleepSent := true }) (.mgmt p 4 ([0, 0, 0] ++ leBytes 4 (k % 2 ^ 32))))
  else .next s

/-! ### PRBS31 tests (R568, R569) -/

/-- A write of PORT_CTRL (Table 17.9; R94, R560, R568, R570, R574). -/
def writePortCtrl (p : Nat) (w : RegWrite) (s : State) : State × RefCode :=
  let v := w.value
  let st := (s.port p).st
  guarded s (.port p) 0x40 w
    { exempt := v.getLsbD 0 && !v.getLsbD 1 && !v.getLsbD 2,
      outOfRange := !w.full,
      wrongState := (v.getLsbD 1 && st ≠ .quarantine) || (v.getLsbD 2 && st ≠ .up) }
    (fun s =>
      let s := if v.getLsbD 2 then askBert s p else s
      let s := if v.getLsbD 1 then enterIdentify s p false else s
      if v.getLsbD 0 then drainPort s p else s)

/-- BERT_GO. -/
def execBertGo (p : Nat) (w : RegWrite) (s : State) : Host.Outcome State Fault Refusal := .next (writePortCtrl p w s).1

/-- BERT_HOURS_EXPIRE: a test while the port is UP (R568). -/
def execBertHoursExpire (p : Nat) (s : State) : Host.Outcome State Fault Refusal :=
  if (s.port p).st = .up && (s.port p).bertHours ≠ 0 then .next (askBert s p) else .next s

/-- BERT_REQ: the far end's request is answered and the test starts at the named superblock (R568). -/
def execBertReq (p : Nat) (count ms : Word) (s : State) : Host.Outcome State Fault Refusal :=
  if (s.port p).st = .up then
    let s := sendMgmt s p 7 ([0, 0, 0] ++ leBytes 4 count.toNat ++ leBytes 4 ms.toNat)
    .next ((countTo s p count).modPort p (fun x => { x with st := .testing, bertAsked := false }))
  else .next s

/-- BERT_ACK: the test starts at the named superblock (R568). -/
def execBertAck (p : Nat) (count _ms : Word) (s : State) : Host.Outcome State Fault Refusal :=
  let x := s.port p
  if x.st = .up && x.bertAsked then .next ((countTo s p count).setPort p { x with st := .testing, bertAsked := false }) else .next s

/-- The lane of a mask with the most errors, the lowest of several. -/
def worstLane (ls : List Nat) (errs : Nat → Nat) : Nat :=
  ls.foldl (fun a l => if errs a < errs l then l else a) (ls.getD 0 0)

/-- BERT_END: every lane is judged against 10^-BER_EXP; lanes that fail are dropped; with too few left the port is
quarantined with cause 6 (R569). -/
def execBertEnd (p bits : Nat) (errors : List Nat) (s : State) : Host.Outcome State Fault Refusal :=
  let x := s.port p
  if x.st ≠ .testing then .next s
  else
    let ls := bitsOf 8 x.mask.toNat
    let errs := fun l => errors.getD l 0
    let bad := ls.filter (fun l => bits < errs l * 10 ^ x.berExp)
    let ok := decide (bad = [])
    let worst := worstLane ls errs
    let s := s.setPort p { x with
      st := .up, bertPass := ok, bertInstall := false,
      install := x.install && !(ok && x.bertInstall),
      bertErrs := (List.range 8).foldl (fun m l => put 0 m l (errs l)) [] }
    let s := raise (logEvent s 0x6015 1 (.port p) [p, b2n ok, worst, errs worst]) (.port p) 4
    let left := ls.filter (fun l => !bad.contains l)
    if ok then .next (portServes s p)
    else
      let m := BitVec.ofNat 8 ((left.map (fun l => 2 ^ l)).sum)
      let s := forEach bad s (fun s l => (laneOff s (8 * p + l)).modLane (8 * p + l) (fun y => { y with dropped := true }))
      if left.length < max 1 x.lanesMin then .next (quarantine (s.modPort p (fun x => { x with mask := m })) p 6)
      else .next (startReform s p x.mask m)

/-! ### Enable, drain, recheck (R560, R563, R564, R570) -/

/-- Training is refused while zone 8 or 9 is at SHUTDOWN (R318, R563). -/
def zonesAllowLinks (s : State) : Bool := look 0 s.therm.levels 8 < 3 && look 0 s.therm.levels 9 < 3

/-- PAGE_CTRL of a PORT page: FREEZE and ENABLE (R72, R563, R564). -/
def writePortEnable (p : Nat) (freeze : Bool → State → State) (w : RegWrite) (s : State) : State × RefCode :=
  let x := s.port p
  let v := w.merged (word [(0, b2n x.enable), (1, b2n (s.hdr (.port p)).freeze)])
  let on := v.getLsbD 0
  let fresh := on && (!x.enable || x.st = .failed)
  guarded s (.port p) 0x08 w { wrongState := fresh && !(x.valid && zonesAllowLinks s) } (fun s =>
    let s := freeze (v.getLsbD 1) s
    if fresh then
      let s := if x.closing then portOff s p else s
      portTrain (s.modPort p (fun x => { x with enable := true, closing := false, downs := [] })) p
    else if !on && x.enable then s.modPort p (fun x => { x with enable := false, closing := true })
    else s)

/-- SEED_HOLD_EXPIRE: 10 ms after the first lane passed PRESET, the others are dropped and the rest send SEED (R563). -/
def execSeedHoldExpire (p : Nat) (s : State) : Host.Outcome State Fault Refusal :=
  let ls := portLanes s p
  if (s.port p).st = .training && ls.any (fun i => (s.lane i).presetPassed) then
    let s := forEach (ls.filter (fun i => !(s.lane i).presetPassed)) s (fun s i =>
      (laneOff s i).modLane i (fun y => { y with dropped := true }))
    .next (trainedCheck (seedCheck s p) p)
  else .next s

/-- PORT_DISABLE_DONE: UNACKED is 0 or 10 us have passed; the rest is written off and the lanes lose power (R564). -/
def execPortDisableDone (p : Nat) (s : State) : Host.Outcome State Fault Refusal :=
  if (s.port p).closing then .next (portOff s p) else .next s

/-- PORT_DRAIN. -/
def execPortDrain (p : Nat) (w : RegWrite) (s : State) : Host.Outcome State Fault Refusal := .next (writePortCtrl p w s).1

/-- DRAIN_NOTICE: this end stops giving its port new flits and sends DRAINED once UNACKED is 0 (R570). -/
def execDrainNotice (p : Nat) (s : State) : Host.Outcome State Fault Refusal :=
  let x := s.port p
  if x.st = .up || x.st = .draining then .next (drainedCheck (drainStep (s.setPort p { x with farDraining := true }) p) p) else .next s

/-- DRAINED: the port is DRAINED once it has also sent one (R570). -/
def execDrained (p : Nat) (s : State) : Host.Outcome State Fault Refusal :=
  let x := s.port p
  if x.st = .up || x.st = .draining then .next (drainedCheck (s.setPort p { x with gotDrained := true }) p) else .next s

/-- RECHECK. -/
def execRecheck (p : Nat) (w : RegWrite) (s : State) : Host.Outcome State Fault Refusal := .next (writePortCtrl p w s).1

/-! ### PORT page (Tables 17.6, 17.8, 17.9) -/

/-- STATE of a PORT page. -/
def portCode (x : PortSt) : Nat :=
  match x.st with
  | .off => 0x0 | .training => 0x6 | .identify => 0x7 | .quarantine => 0x8 | .up => 0x2 | .reforming => 0xD
  | .asleep => 0x9 | .testing => 0xA | .draining => 0xB | .drained => 0xC | .failed => 0x5

/-- The selected word of the far record. -/
def farWord (x : PortSt) : Word :=
  match x.far with
  | none => 0
  | some r => w32 (leNat ((identBytes r).drop (4 * x.farSel) |>.take 4))

/-- INT_PENDING of the port's lanes, as a mask. -/
def lanePend (s : State) (p : Nat) : Nat := ((List.range 8).map (fun l => if intPending s (.lane (8 * p + l)) ≠ 0 then 2 ^ l else 0)).sum

def readPort (s : State) (p off : Nat) : Word :=
  let x := s.port p
  match off with
  | 0x44 => word [(0, x.mask.toNat), (8, x.qCause)]
  | 0x48 => word [(0, x.idleUs)]
  | 0x4C => word [(0, x.nextTx.toNat), (16, x.ack.toNat)]
  | 0x50 => word [(0, x.replays), (16, x.timeouts)]
  | 0x54 => word [(0, x.bertMs), (16, x.berExp), (24, x.bertHours)]
  | 0x58 => word [(0, x.bertLane), (3, b2n x.bertPass), (4, min (look 0 x.bertErrs x.bertLane) 0xFFFFFFF)]
  | 0x5C => word [(0, x.farSel)]
  | 0x60 => farWord x
  | 0x64 => word [(0, b2n (intPending s (.port p) ≠ 0)), (1, lanePend s p), (9, b2n (intPending s (.wiring p) ≠ 0))]
  | _ => 0

def writePort (p off : Nat) (w : RegWrite) (s : State) : State × RefCode :=
  let v := (w.merged (readPort s p off)).toNat
  match off with
  | 0x40 => writePortCtrl p w s
  | 0x48 => guarded s (.port p) off w {} (fun s => s.modPort p (fun x => { x with idleUs := fld v 0 16 }))
  | 0x54 => guarded s (.port p) off w { outOfRange := fld v 0 16 = 0 || fld v 16 4 < 6 }
      (fun s => s.modPort p (fun x => { x with bertMs := fld v 0 16, berExp := fld v 16 4, bertHours := fld v 24 8 }))
  | 0x58 => guarded s (.port p) off w {} (fun s => s.modPort p (fun x => { x with bertLane := fld v 0 3 }))
  | 0x5C => guarded s (.port p) off w {} (fun s => s.modPort p (fun x => { x with farSel := fld v 0 4 }))
  | _ => roWrite s (.port p) off w

/-! ### WIRING page (R561, Table 17.10) -/

def readWiring (s : State) (p off : Nat) : Word :=
  let x := s.port p
  match off with
  | 0x40 => word [(0, s.links.localPkg.toNat)]
  | 0x44 => word [(0, b2n x.valid), (1, b2n x.optical), (2, b2n x.install), (3, b2n x.dropDegraded), (4, x.lanesMin), (8, x.expectPort)]
  | 0x48 => word [(0, x.expectPkg.toNat)]
  | 0x4C => w32 (x.expectSerial.toNat)
  | 0x50 => w32 (x.expectSerial.toNat / 2 ^ 32)
  | _ => 0

def writeWiring (p off : Nat) (w : RegWrite) (s : State) : State × RefCode :=
  let pg := PageRef.wiring p
  let v := (w.merged (readWiring s p off)).toNat
  let busy := !((s.port p).st = .off || (s.port p).st = .quarantine)
  match off with
  | 0x40 => guarded s pg off w { wrongState := (List.range 8).any (fun q => (s.port q).st ≠ .off) }
      (fun s => { s with links := { s.links with localPkg := BitVec.ofNat 16 v } })
  | 0x44 =>
    guarded s pg off w
      { outOfRange := fld v 4 4 = 0 || (if bit v 1 then 4 else 8) < fld v 4 4, wrongState := busy }
      (fun s =>
        let s := if bit v 0 then s else portOff s p
        s.modPort p (fun x => { x with valid := bit v 0, optical := bit v 1, install := bit v 2, dropDegraded := bit v 3,
                                       lanesMin := fld v 4 4, expectPort := fld v 8 3 }))
  | 0x48 => guarded s pg off w { wrongState := busy } (fun s => s.modPort p (fun x => { x with expectPkg := BitVec.ofNat 16 v }))
  | 0x4C => guarded s pg off w { wrongState := busy } (fun s => s.modPort p (fun x =>
      { x with expectSerial := BitVec.ofNat 64 (v + x.expectSerial.toNat / 2 ^ 32 * 2 ^ 32) }))
  | 0x50 => guarded s pg off w { wrongState := busy } (fun s => s.modPort p (fun x =>
      { x with expectSerial := BitVec.ofNat 64 (x.expectSerial.toNat % 2 ^ 32 + v * 2 ^ 32) }))
  | _ => roWrite s pg off w

end Sys2Proof.Machine
end

