-- ==== Sys2Proof/Machine/Survey.lean ====
section
/-!
DEFINITION. Survey ADCs and trims (chapter 07), and the SURVEY page.
-/
namespace Sys2Proof.Machine
open Sys2Proof

/-- The die has this survey channel (Table 7.2). -/
def surveyCh (d ch : Nat) : Bool :=
  ch < dieCount d || (48 ≤ ch && ch < 48 + dieCount d) || (96 ≤ ch && ch < 100) || (d = 11 && (ch = 100 || ch = 101))

/-- ZERO and LSB in microvolts of a channel (R223, Table 7.2). -/
def surveyZero (ch : Nat) : Int := if ch = 97 then 2048 else 0
def surveyLsb (ch : Nat) : Int := if ch = 97 then 100 else if ch = 100 then 1000 else 500

/-- OFS and GAIN in force of the trim at record offset `o` on die `d`: calibrated or written, but what a late write replaced acts
once more (R236, R238). -/
def trimInForce (s : State) (d o : Nat) : Int × Int :=
  match look none (s.survey d).oldTrims o with
  | some v => (sgn 8 (fld v.toNat 0 8), fld v.toNat 16 16)
  | none => (sgn 8 (calN s o 1), calN s (o + 2) 2)

/-- What late writes of loop ADC trims (or of survey trims) replaced has acted: a frame, or a conversion, is over (R238). -/
def trimsSettle (s : State) (d : Nat) (survey : Bool) : State :=
  if (s.survey d).oldTrims = [] then s
  else s.modSurvey d (fun x => { x with oldTrims := x.oldTrims.filter (fun e => (0x3200 ≤ e.1 : Bool) ≠ survey) })

/-- Record offset of a survey channel's trim (Table 19.2). -/
def surveyTrimAt (d ch : Nat) : Nat := 0x3200 + (102 * d + ch) * 4

/-- Record offset of the trim of loop ADC `k` of cell `i`: 0 voltage, 1 to 4 phases 0 to 3 (Table 19.2). -/
def loopTrimAt (i k : Nat) : Nat := 0x1000 + (5 * i + k) * 4

/-- VALUE of a code (R223). -/
def surveyUv (s : State) (d ch code : Nat) : Int :=
  let t := trimInForce s d (surveyTrimAt d ch)
  divNear (((code : Int) - surveyZero ch - t.1) * t.2 * surveyLsb ch) 16384

/-! ### Urgent requests (R228 to R230, R232, R242) -/

/-- An urgent request is dropped and counted; event 0x1041 at most once in any 1 ms. -/
def urgentDrop (s : State) (d : Nat) (r : UrgReq) : State :=
  let s := s.modSurvey d (fun x => { x with urgDropped := satInc x.urgDropped 0xFFFF })
  logLimited (raise s (.survey d) 3) (0x1041 * 65536 + d) 1000 0x1041 1 (.survey d)
    [d, r.ch, (s.survey d).urgDropped, if r.hearth then 2 else r.who]

/-- An urgent request starts, waits, preempts or is dropped; whether it was taken. -/
def urgentReq (s : State) (d : Nat) (r : UrgReq) : State × Bool :=
  let x := s.survey d
  if x.failed || !dieOn s d then (urgentDrop s d r, false)
  else match x.urg, x.running with
  | some _, _ => if x.urgWait.isNone then (s.setSurvey d { x with urgWait := some r }, true) else (urgentDrop s d r, false)
  | none, none => (s.setSurvey d { x with urg := some r }, true)
  | none, some c =>
    if x.preempt then
      (s.setSurvey d { x with urg := some r, running := none, redo := some c.ch, urgPreempted := satInc x.urgPreempted 0xFFFF }, true)
    else (urgentDrop s d r, false)

/-- The Hearth asks for a channel (R228). -/
def hearthUrgent (s : State) (d ch : Nat) : State × Bool := urgentReq s d ⟨ch, true, 0⟩

/-- A write of URGENT (Table 7.9, R222, R242). -/
def writeUrgent (d : Nat) (w : RegWrite) (s : State) : State × RefCode :=
  let ch := fld w.value.toNat 0 7
  let go := w.value.getLsbD 8
  guarded s (.survey d) 0x50 w { outOfRange := !w.full || !surveyCh d ch, wrongState := (s.survey d).failed }
    (fun s => if go then (urgentReq s d ⟨ch, false, w.master.num⟩).1 else s)

/-- The Hearth's own request, for a channel that the die has. -/
def hearthAsks (s : State) (d ch : Nat) : State := if hubOn s && surveyCh d ch then (hearthUrgent s d ch).1 else s

/-- URGENT: by a write, or by the Hearth; of two in the same cycle the Hearth's is taken first (R232). -/
def execUrgent (d : Nat) (r : UrgentBy) (s : State) : Host.Outcome State Fault Refusal :=
  match r with
  | .write w => .next (writeUrgent d w s).1
  | .hearth ch => .next (hearthAsks s d ch)
  | .both ch w => .next (writeUrgent d w (hearthAsks s d ch)).1

/-! ### Conversions (R222 to R234, R240, R242) -/

/-- SURVEY_PERIOD: a periodic conversion starts, or is deferred during an urgent conversion or a reconversion (R224,
R231). -/
def execSurveyPeriod (d : Nat) (s : State) : Host.Outcome State Fault Refusal :=
  let x := s.survey d
  if !dieOn s d || x.failed || !x.cont then .next s
  else match x.urg, x.running with
  | some _, _ => .next (s.setSurvey d { x with deferred := true })
  | none, some c => .next (if c.reconv then s.setSurvey d { x with deferred := true } else s)
  | none, none => .next (s.setSurvey d { x with running := some ⟨x.channel, false⟩ })

/-- SV_CTRL as it reads (Table 7.5). -/
def svCtrlWord (x : SurveySt) : Word := word [(0, x.channel), (8, b2n x.cont), (10, b2n x.preempt), (16, x.period)]

/-- A write of SV_CTRL: settings, and START (R222, R225, R242). -/
def writeSvCtrl (d : Nat) (w : RegWrite) (s : State) : State × RefCode :=
  let x := s.survey d
  let v := (w.merged (svCtrlWord x)).toNat
  let go := w.ones.getLsbD 9
  guarded s (.survey d) 0x40 w
    { outOfRange := !surveyCh d (fld v 0 7) || fld v 16 8 = 0,
      wrongState := go && (bit v 8 || x.running.isSome || x.urg.isSome || x.failed) }
    (fun s => s.modSurvey d (fun x =>
      let x := { x with channel := fld v 0 7, cont := bit v 8, preempt := bit v 10, period := fld v 16 8 }
      if go then { x with running := some ⟨x.channel, false⟩ } else x))

/-- SURVEY_START. -/
def execSurveyStart (d : Nat) (w : RegWrite) (s : State) : Host.Outcome State Fault Refusal := .next (writeSvCtrl d w s).1

/-- Die feed low: three conversions of channel 96 in a row below 1700 mV; one event an episode (Table 9.1, R273, R283). -/
def dieFeed (s : State) (d : Nat) (uv : Int) : State :=
  let x := s.survey d
  if uv < 1700000 then
    let at_ := if x.lowRun = 0 then s.ao.ticks else x.lowAt
    let s := s.setSurvey d { x with v96Uv := uv, lowRun := min 3 (x.lowRun + 1), lowAt := at_, lowLogged := x.lowLogged || 2 ≤ x.lowRun }
    if 2 ≤ x.lowRun && !x.lowLogged then logEvent s 0x1063 1 .hearth [d, (uv / 1000).toNat, usSince s at_, 0] else s
  else s.setSurvey d { x with v96Uv := uv, lowRun := 0, lowLogged := false }

/-- The cell of die `d` whose confirmation waits for channel `ch` first. -/
def pathCell (s : State) (d ch : Nat) : Option Nat :=
  (dieCells d).find? (fun i => (s.cell i).pathWant.head? = some ch)

/-- A result the Hearth asked for goes to the cell being confirmed, and the next channel is requested (R285). -/
def pathTake (s : State) (d ch : Nat) (uv : Int) : State :=
  match pathCell s d ch with
  | none => s
  | some i =>
    let c := s.cell i
    let s := s.setCell i { c with pathWant := c.pathWant.tail, pathGot := put 0 c.pathGot ch uv }
    match c.pathWant.tail with
    | [] => s
    | next :: _ => (hearthUrgent s d next).1

/-- After a conversion: a waiting urgent request has started already; else the aborted channel is converted again, or a
deferred periodic conversion starts, after a reconversion if there is one (R229 to R231). -/
def surveyNext (s : State) (d : Nat) : State :=
  s.modSurvey d (fun x =>
    match x.urg, x.running with
    | none, none =>
      (match x.redo with
       | some ch => { x with running := some ⟨ch, true⟩, redo := none }
       | none => if x.deferred then { x with running := some ⟨x.channel, false⟩, deferred := false } else x)
    | _, _ => x)

/-- A result's flags: OVR, SETTLE, RECONV, SRC. -/
def resFlagBits (ovr settle reconv src : Bool) : Nat := b2n ovr + 2 * b2n settle + 4 * b2n reconv + 8 * b2n src

/-- An overrange: the channel's bit, OVR_C and event 0x1040 at most once a channel in any 1 ms (R233). -/
def overrange (s : State) (d ch code : Nat) (urgent : Bool) : State :=
  let s := raise (s.modSurvey d (fun x => { x with ovr := x.ovr ||| BitVec.ofNat 128 (2 ^ ch) })) (.survey d) 2
  logLimited s (0x1040 * 65536 + d * 128 + ch) 1000 0x1040 1 (.survey d) [d, ch, code, b2n (!urgent)]

/-- SURVEY_CONVERSION_DONE (R223, R226, R233, R234). -/
def execSurveyConversionDone (d : Nat) (code : BitVec 12) (ovr : Bool) (s : State) : Host.Outcome State Fault Refusal :=
  let x := s.survey d
  if !dieOn s d then .next s
  else
    let code := if ovr then (if code.toNat < 2048 then 0 else 0xFFF) else code.toNat
    let settle := decide (0 < x.settle)
    let left := if ovr then 2 else x.settle - 1
    match x.urg, x.running with
    | some r, _ =>
      let uv := surveyUv s d r.ch code
      let s := s.setSurvey d { x with
        urg := x.urgWait, urgWait := none, settle := left, urgCode := BitVec.ofNat 12 code, urgCh := r.ch,
        urgFlags := resFlagBits ovr settle false r.hearth, urgSeq := (x.urgSeq + 1) % 256, urgUv := uv }
      let s := raise (if ovr then overrange s d r.ch code true else s) (.survey d) 1
      let s := if r.ch = 96 then dieFeed s d uv else s
      .next (trimsSettle (surveyNext (if r.hearth then pathTake s d r.ch uv else s) d) d true)
    | none, some c =>
      let uv := surveyUv s d c.ch code
      let s := s.setSurvey d { x with
        running := none, settle := left, resCode := BitVec.ofNat 12 code, resCh := c.ch,
        resFlags := resFlagBits ovr settle c.reconv false, resSeq := (x.resSeq + 1) % 256, resUv := uv }
      let s := raise (if ovr then overrange s d c.ch code false else s) (.survey d) 0
      let s := if c.ch = 96 then dieFeed s d uv else s
      .next (trimsSettle (surveyNext s d) d true)
    | none, none => .next s

/-- SURVEY_TIMEOUT: the ADC fails; a waiting urgent request is dropped (R242). -/
def execSurveyTimeout (d : Nat) (s : State) : Host.Outcome State Fault Refusal :=
  let x := s.survey d
  let fail (ch : Nat) : State :=
    let s := s.setSurvey d { x with failed := true, running := none, urg := none, urgWait := none, redo := none, deferred := false }
    let s := logEvent s 0x1044 3 (.survey d) [d, ch, 0, 0]
    match x.urgWait with
    | some r => urgentDrop s d r
    | none => s
  if !dieOn s d then .next s
  else match x.urg, x.running with
  | some r, _ => .next (fail r.ch)
  | none, some c => .next (fail c.ch)
  | none, none => .next s

/-- The die loses power: a conversion under way gives no result, and a failure ends (R240, R242). -/
def surveyOff (s : State) (d : Nat) : State :=
  s.modSurvey d (fun x => { x with running := none, urg := none, urgWait := none, redo := none, deferred := false, failed := false })

/-! ### Trims (R235 to R237, R621) -/

/-- TRIM_SEL's fields: index, phase, kind. -/
def trimKind (v : Nat) : Nat := fld v 12 2

/-- TRIM_SEL names a trim the die has (Table 7.12, R222). -/
def trimSelOk (d v : Nat) : Bool :=
  if trimKind v = 0 then surveyCh d (fld v 0 7) else if trimKind v = 3 then false else fld v 0 7 < dieCount d

/-- Record offset of the selected trim (Table 19.2). -/
def trimAt (d v : Nat) : Nat :=
  if trimKind v = 0 then surveyTrimAt d (fld v 0 7)
  else loopTrimAt (dieFirst d + fld v 0 7) (if trimKind v = 1 then 0 else 1 + fld v 8 2)

/-- TRIM_DATA as it reads. -/
def trimWord (s : State) (d : Nat) : Word :=
  let o := trimAt d (s.survey d).trimSel.toNat
  word [(0, calN s o 1), (16, calN s (o + 2) 2)]

/-- A write of TRIM_DATA: in force at the next frame start or conversion end, or at the one after it for a write that coincides
with it (R236 to R238). -/
def writeTrimData (d : Nat) (w : RegWrite) (s : State) : State × RefCode :=
  let old := trimWord s d
  let v := (w.merged old).toNat
  let o := trimAt d (s.survey d).trimSel.toNat
  guarded s (.survey d) 0x74 w { outOfRange := fld v 16 16 < 0x3000 || 0x5000 < fld v 16 16 }
    (fun s =>
      let s := if w.late && (look none (s.survey d).oldTrims o).isNone then
          s.modSurvey d (fun x => { x with oldTrims := put none x.oldTrims o (some old) })
        else s
      setCalN (setCalN s o 1 (fld v 0 8)) (o + 2) 2 (fld v 16 16))

/-- TRIM_DATA_WRITE. -/
def execTrimDataWrite (d : Nat) (w : RegWrite) (s : State) : Host.Outcome State Fault Refusal := .next (writeTrimData d w s).1

/-! ### SURVEY page (Tables 7.4 to 7.14) -/

def readSurvey (s : State) (d off : Nat) : Word :=
  let x := s.survey d
  match off with
  | 0x40 => svCtrlWord x
  | 0x44 => word [(0, b2n x.running.isSome), (1, b2n x.urg.isSome), (2, b2n x.urgWait.isSome), (3, x.settle)]
  | 0x48 => word [(0, x.resCode.toNat), (12, x.resCh), (20, x.resFlags), (24, x.resSeq)]
  | 0x4C => BitVec.ofInt 32 x.resUv
  | 0x54 => word [(0, x.urgCode.toNat), (12, x.urgCh), (20, x.urgFlags), (24, x.urgSeq)]
  | 0x58 => BitVec.ofInt 32 x.urgUv
  | 0x5C => word [(0, x.urgDropped), (16, x.urgPreempted)]
  | 0x60 => w32 x.ovr.toNat
  | 0x64 => w32 (x.ovr.toNat / 2 ^ 32)
  | 0x68 => w32 (x.ovr.toNat / 2 ^ 64)
  | 0x6C => w32 (x.ovr.toNat / 2 ^ 96)
  | 0x70 => x.trimSel
  | 0x74 => trimWord s d
  | 0x78 => w32 (x.clampCount + x.clampLast)
  | 0x7C => w32 (x.staleCount + x.staleLast)
  | _ => 0

/-- A write of 1s to OVRk clears its flags. -/
def clearOvr (d k : Nat) (w : RegWrite) (s : State) : State :=
  s.modSurvey d (fun x => { x with ovr := x.ovr &&& ~~~ BitVec.ofNat 128 (w.ones.toNat * 2 ^ (32 * k)) })

def writeSurvey (d off : Nat) (w : RegWrite) (s : State) : State × RefCode :=
  let p := PageRef.survey d
  match off with
  | 0x40 => writeSvCtrl d w s
  | 0x50 => writeUrgent d w s
  | 0x60 => guarded s p off w {} (clearOvr d 0 w)
  | 0x64 => guarded s p off w {} (clearOvr d 1 w)
  | 0x68 => guarded s p off w {} (clearOvr d 2 w)
  | 0x6C => guarded s p off w {} (clearOvr d 3 w)
  | 0x70 =>
    let v := (w.merged (s.survey d).trimSel).toNat
    guarded s p off w { outOfRange := !trimSelOk d v }
      (fun s => s.modSurvey d (fun x => { x with trimSel := word [(0, fld v 0 7), (8, fld v 8 2), (12, fld v 12 2)] }))
  | 0x74 => writeTrimData d w s
  | _ => roWrite s p off w

end Sys2Proof.Machine
end

