-- ==== Sys2Proof/Machine/PowerOps.lean ====
section
/-!
DEFINITION. Power states (chapter 02): the hub's start and its loss, tiles on their way up and down, the steps of Table 2.3
with their preconditions, requests, and a tile taken Off by force.
-/
namespace Sys2Proof.Machine
open Sys2Proof

/-! ### Reports (Tables 2.8, 3.18 to 3.21) -/

/-- Codes of all eight tiles (Table 3.19). -/
def tileCodes (s : State) : List Nat := (List.range 8).map (tileCode s)

/-- STATE_CHANGED is raised when PKG_STATE STATE or a field of TILE_STATE differs from what it was (INT_RAW of BOOT). -/
def noted (old s : State) : State :=
  if hubOn s && (pkgCode old ≠ pkgCode s || tileCodes old ≠ tileCodes s) then raise s .boot 1 else s

/-- The requester of the running transition; 2 for the device itself. -/
def whoMoves (s : State) : Nat := (s.power.trans.map (·.req.requester)).getD 2

/-- A tile settles in a state: event 0x1010 with its old and new code. -/
def tileSettle (s : State) (t : Nat) (st : TileState) : State :=
  let old := (s.tile t).settled
  let s := s.modTile t (fun x => { x with st := st })
  let new := tileCode s t
  if old = new then s
  else logEvent (s.modTile t (fun x => { x with settled := new })) 0x1010 0 .boot [old, new, 2 ^ t, whoMoves s]

/-- PWR_RESULT; REQ_DONE when the outcome becomes done or refused (Table 3.21). -/
def setResult (s : State) (outcome code who reached : Nat) : State :=
  let s := { s with power := { s.power with outcome := outcome, code := code, requester := who % 4, reached := BitVec.ofNat 8 reached } }
  if hubOn s && (outcome = 0 || outcome = 3) then raise s .boot 2 else s

/-! ### Hub start and hub loss (R12, R32, R53, R58, R119, R320) -/

/-- The pages of the always-on domain (R51). -/
def aoPage (p : PageRef) : Bool :=
  match p with
  | .ident | .therm | .cal | .tmb => true
  | _ => false

/-- The host becomes absent when the link leaves L0 or PERST_N is asserted, and present again in L0 without it (R91). -/
def absence (s : State) : State :=
  if s.ao.l0 && !s.ao.perst then { s with ao := { s.ao with absentSince := none, hostAbsent := false } }
  else { s with ao := { s.ao with absentSince := some (s.ao.absentSince.getD s.ao.ticks) } }

/-- The PCIe link enters or leaves L0: LINK_CHANGED and event 0x5015 (R91, R499). -/
def linkSet (s : State) (l0 : Bool) (rate width : Nat) : State :=
  let s := absence { s with ao := { s.ao with l0 := l0, rate := if l0 then rate else 0, width := if l0 then width else 0 } }
  raise (logEvent s 0x5015 1 .hostif [s.ao.rate, s.ao.width, b2n l0, 0]) .hostif 0

/-- Everything but the AO domain has lost power: only what the AO domain holds remains (R58). PWR_RESULT, read by the
TMB's STATUS, is part of it. -/
def hubLost (s : State) (stage : BootStage) : State :=
  absence { pending := s.pending, trip := s.trip, ao := { s.ao with l0 := false, rate := 0, width := 0 },
            power := { stage := stage, outcome := s.power.outcome, code := s.power.code, requester := s.power.requester,
                       reached := s.power.reached, bringupMs := s.power.bringupMs },
            hdrs := s.hdrs.filter (fun e => (pageAt e.1).any (fun q => aoPage q.1)),
            frozen := s.frozen.filter (fun e => (pageAt e.1).any (fun q => aoPage q.1)),
            ledger := { epoch := s.ledger.epoch, first := s.ledger.first },
            tmb := s.tmb, cal := s.cal, out := s.out, free := s.free }

/-- The newest 64 records go to AO retention memory (R53). -/
def keepRecords (s : State) : State :=
  { s with ao := { s.ao with retention := (s.events.log.take 64).reverse } }

/-- The hub leaves Banked or Boot failed: every block takes its reset values, owners their defaults, a new epoch begins and
retention memory is cleared; the hub PLL is starting; the TAP no longer drives the lands (R12, R41, R53, R83, R119, R227, R652). The registers of CAL and TMB, which
the always-on domain holds, keep their values; their headers do not (DESIGN CHOICE, log entry 100). -/
def hubStart (s : State) : State :=
  let s' := hubLost s .pll
  beginEpoch { s' with ao := { s'.ao with retention := [], wakeTick := s.ao.ticks, cold := s.ledger.first, tap := if s.ao.tap = 0 then 0 else 5 }, hdrs := [], frozen := [],
                       power := { stage := .pll, trans := s.power.trans, pending := s.power.pending, wakeFrom := if s.power.stage = .failed then 0xE else 1 } }

/-- The AO domain leaves Banked by itself: VIN is valid, no hold policy, no trip (R44, R59). -/
def autoWake (s : State) : State :=
  if s.ao.vsb && s.ao.vin && !s.ao.hold && s.trip.isNone && s.power.stage = .banked then hubStart s else s

/-! ### Tiles going down (R30, R36, R153, R155, R429) -/

/-- A block loses power: LOCK of its pages clears (R83, R90). -/
def clearLocks (s : State) (d : Nat) : State :=
  { s with hdrs := s.hdrs.filterMap (fun e =>
      match pageAt e.1 with
      | some (p, _) => if p.die = d && e.2.lock then (let h := { e.2 with lock := false }; if h = {} then none else some (e.1, h)) else some e
      | none => some e) }

/-- The sensors of a die or stack stop delivering with its power: their readings are gone (R303, R304). -/
def sensorsOff (s : State) (d : Nat) : State :=
  let own : List Nat := if d < 8 then (List.range 12).map (· + 12 * d) ++ [96 + 2 * d, 97 + 2 * d] else (List.range 4).map (· + (112 + 4 * (d - 8)))
  { s with therm := { s.therm with sensors := own.foldl (fun m k => modAt {} m k (fun (x : SensorSt) => { x with temp := none, differs := 0 })) s.therm.sensors } }

/-- Both nets of a falling tile are OFF: the tile is Off, its loop engine and PLL stop, and its cores' state is gone
(Table 2.4, R116). -/
def tileAtOff (s : State) (t : Nat) : State :=
  let s := (tileReset s t).modTile t (fun x => { x with kindle := .idle, forced := false, pll := false, phy := false, changing := none, stretchAt := none })
  let s := surveyOff (s.modLoop t (fun x => { x with clk := false })) t
  clearLocks (tileSettle (sensorsOff s t) t .off) t

/-- The next thing a falling tile waits for: VCORE, then VSRAM, below 100 mV (R153). -/
def tileFallStep (s : State) (t : Nat) : State :=
  if (s.tile t).st ≠ .falling then s
  else
    let c := (s.net (2 * t)).st
    let m := (s.net (2 * t + 1)).st
    if c ≠ .off then netDisable s (2 * t)
    else if m ≠ .off then netDisable s (2 * t + 1)
    else tileAtOff s t

/-- The stack of a tile in use enters self-refresh before its tile reaches Off (R429). -/
def stackRest (s : State) (t : Nat) : State := if tileUp s t then s.modStack t (fun x => { x with selfRefresh := true }) else s

/-- The tile starts to fall: slews and rolls of its nets stop, its stack enters self-refresh when it was in use, and its nets go off in
order (R153, R168, R429). -/
def tileFall (s : State) (t : Nat) : State :=
  let s := netHalt (netHalt (stackRest s t) (2 * t)) (2 * t + 1)
  tileFallStep (s.modTile t (fun x => { x with st := .falling, kindle := .idle, phy := false })) t

/-- A tile's transition fails: event 0x1013 (failed step: 0 net, 1 PLL, 2 HBM PHY) and the tile returns to Off (R64). -/
def tileFail (s : State) (t step : Nat) : State :=
  tileFall (logEvent s 0x1013 3 (.grid t) [t, step, 0, 0]) t

/-- Commands that run on a core of tile `t`. -/
def tileCmds (s : State) (t : Nat) : List Nat :=
  ((slotList s).filter (fun e => e.2.st = .running && e.2.cores.any (fun n => n / 64 = t))).map (·.1)

/-- How a tile is taken Off by force: a managed shutdown of a zone with its tile mask (R315), or the loss of a net, link or
VHBM (R281, R373, R658). -/
inductive ForceOff where
  | thermal (zone mask : Nat)
  | lost (cause : Nat)
  deriving DecidableEq, Repr

/-- The cores of a tile taken Off: stopped, their commands completing with THERMAL_STOP, or all lost, its spares among them (R281,
R315, R333, R373). -/
def forceCores (s : State) (t : Nat) : ForceOff → State
  | .thermal zone mask =>
    let s := forEach (tileCmds s t) s (fun s k => endCmd s k 0x21 mask zone)
    forEach ((List.range 64).map (· + 64 * t)) s (fun s n => if (s.core n).st = .running then haltCore s n .idle else s)
  | .lost cause =>
    let s := forEach ((List.range 64).map (· + 64 * t)) s (fun s n => loseCore s n cause)
    declareLost (declareLost s (512 + 2 * t) cause) (513 + 2 * t) cause

/-- Tile `t` goes to Off without the preconditions of R33; a transition that runs stops with its step (R298, R325). Its
cores return their tokens (R36). With its net, or VHBM, its stack loses its contents (R438, R658); otherwise the stack enters
self-refresh (R315, R429). Cores can be lost while the tile is on its way to Off already. -/
def forceOff (s : State) (t : Nat) (how : ForceOff) : State :=
  if (s.tile t).st = .off then s
  else
    let net := how = .lost 4
    let late := (s.tile t).forced
    let s := if net then stackLost s t 0 else if late then s else stackRest s t
    let s := if late && !(match how with | .lost _ => true | _ => false) then s else forceCores s t how
    if late then s
    else
      let s := releaseBase s t
      let s := { s with power := { s.power with trans := s.power.trans.map (fun (tr : Trans) => { tr with stop := true, failed := tr.failed ||| 2 ^ t }) } }
      tileFall (s.modTile t (fun x => { x with forced := true, st := .falling })) t

/-- The tile's later requests for Kindled are refused until the hub next starts (R281, R373). -/
def barTile (s : State) (t : Nat) : State := s.modTile t (fun x => { x with barred := true })

/-! ### Steps of Table 2.3 and their preconditions (R33, R37, R61, R163, R281, R318) -/

/-- A zone that bars raising tile `t` is at SHUTDOWN (R318). -/
def zoneShut (s : State) (t : Nat) : Bool := [t, 8, 9].any (fun z => 3 ≤ look 0 s.therm.levels z)

/-- Some cell of tile `t` is in manual mode (R163). -/
def manualOn (s : State) (t : Nat) : Bool := (dieCells t).any (fun i => (s.cell i).manual)

/-- A program runs on some core of tile `t`, or a core there holds more than its base token; during a ledger fault its own
holding alone counts, since a grant on its way stays where it is (R33, R130, R132). -/
def tileBusy (s : State) (t : Nat) : Bool :=
  (List.range 64).any (fun k =>
    (s.core (64 * t + k)).st = .running ||
    1 < (if ledgerFaulted s then (s.core (64 * t + k)).tok.held else coreTotal s (64 * t + k))) || tileCmds s t ≠ []

/-- The refusal of a step's precondition, or OK (Table 2.3, in the order of R77). -/
def stepCheck (s : State) : PStep → RefCode
  | .wake => if s.trip.isSome then .tripped else if s.ao.vin then .ok else .wrongState
  | .kindle m =>
    if s.trip.isSome then .tripped
    else if !s.ao.vhbm || s.power.calSlot = 3 || (bitsOf 8 m.toNat).any (fun t => (s.tile t).barred || zoneShut s t) then .wrongState
    else .ok
  | .stoke t =>
    if zoneShut s t || manualOn s t then .wrongState
    else if ledgerFaulted s then .ledgerFault
    else if s.ledgers.tok.free < 64 then .budget else .ok
  | .unstoke t => if tileBusy s t then .wrongState else .ok
  | .off m => if (bitsOf 8 m.toNat).any (plateOnTile s) then .wrongState else .ok
  | .bank => if (List.range 8).all (fun t => (s.tile t).st = .off) && !storing s then .ok else .wrongState

/-- The tiles of a mask in one state. -/
def tilesIn (s : State) (m : Nat) (st : TileState) : List Nat := (bitsOf 8 m).filter (fun t => (s.tile t).st = st)

def maskOf (l : List Nat) : BitVec 8 := BitVec.ofNat 8 ((l.map (fun t => 2 ^ t)).sum)

/-- The next single step towards a request's target, if there is one (R34, R35, R37). -/
def nextStep (s : State) (r : PwrReq) (failed : Nat) : Option PStep :=
  if !isReady s then (if r.target = 0 || r.target = 1 then none else some .wake)
  else
    let m := if r.target = 0 || r.target = 3 || r.target = 4 then r.tiles.toNat &&& (255 - failed % 256) else 255 - failed % 256
    let off := tilesIn s m .off
    let kin := tilesIn s m .kindled
    let sto := tilesIn s m .stoked
    if r.target = 4 then
      (if off ≠ [] then some (.kindle (maskOf off)) else kin.head?.map .stoke)
    else if r.target = 3 then
      (if off ≠ [] then some (.kindle (maskOf off)) else sto.head?.map .unstoke)
    else match sto with
    | t :: _ => some (.unstoke t)
    | [] => if kin ≠ [] then some (.off (maskOf kin)) else if r.target = 1 then some .bank else none

/-- A step begins. A tile whose stack is retiring a channel starts to fall when that ends (R436). -/
def beginStep (s : State) : PStep → State
  | .wake => hubStart s
  | .kindle m =>
    let ts := bitsOf 8 m.toNat
    signalRise s (forEach ts s (fun s t => s.modTile t (fun x => { x with st := .rising, kindle := .loopClk })))
      (4 :: ts.map (10 + ·))
  | .stoke t => (chargeBase s t).modTile t (fun x => { x with st := .rising })
  | .unstoke t => s.modTile t (fun x => { x with st := .falling })
  | .off m => forEach ((bitsOf 8 m.toNat).filter (fun t => !(s.stack t).retiring)) s tileFall
  | .bank => s

/-- Tiles of a request that are at its target (REACHED). -/
def reachedMask (s : State) (r : PwrReq) : Nat :=
  let st : TileState := if r.target = 0 then .off else if r.target = 3 then .kindled else .stoked
  if r.target = 0 || r.target = 3 || r.target = 4 then ((tilesIn s r.tiles.toNat st).map (fun t => 2 ^ t)).sum else 0

/-- A request starts, is found done, or is refused by its first step's precondition. -/
def startReq (s : State) (r : PwrReq) : State :=
  match nextStep s r 0 with
  | none => setResult s 0 0 r.requester (reachedMask s r)
  | some p =>
    match stepCheck s p with
    | .ok =>
      let s := { s with power := { s.power with trans := some { req := r, cur := p } } }
      setResult (beginStep s p) 1 0 r.requester 0
    | c => setResult s 3 c.num r.requester (reachedMask s r)

/-- What becomes of a request when the hub has lost its power: one that asks for Banked is done, and any other is refused, since
the precondition of its next step fails (R33, R57 to R59). -/
def settleLost (s : State) (r : PwrReq) (c : RefCode) : State :=
  if s.trip.isNone && nextStep s r 0 = none then setResult s 0 0 r.requester (reachedMask s r) else setResult s 3 c.num r.requester 0

/-- A transition is cut off by VIN loss or a trip: the pending request is evaluated, or the running one reported (R57 to R59). -/
def cutRequest (old s : State) (c : RefCode) : State :=
  match old.power.pending, old.power.trans with
  | some r, _ => settleLost s r c
  | none, some tr => settleLost s tr.req c
  | none, none => s

/-- Boot fails: the records go to retention and the hub powers down; a pending request is evaluated as in Banked (R57, R62,
R170). -/
def bootFailed (s : State) : State :=
  let s' := keepRecords s
  let p := s.power
  let f := hubLost s' .failed
  let f := { f with power := { f.power with copy := p.copy, failA := p.failA, failB := p.failB } }
  match p.pending, p.trans with
  | some r, _ => startReq f r
  | none, some tr => setResult f 3 (RefCode.num .wrongState) tr.req.requester 0
  | none, none => f

/-- VIN is lost, or net 19 with it: the package is Banked at once, and event 0x1011 is in retention memory (R58). -/
def bankAtOnce (s : State) : State :=
  let s' := hubLost s .banked
  cutRequest s (retainEvent s' 0x1011 3 .boot [pkgCode s, liveMask s, 0, 0]) .wrongState

/-- The running transition ends; the pending request is then evaluated (R57). -/
def finishTrans (s : State) (outcome code : Nat) : State :=
  match s.power.trans with
  | none => s
  | some tr =>
    let s := { s with power := { s.power with trans := none } }
    match s.power.pending with
    | some r => startReq { s with power := { s.power with pending := none } } r
    | none => setResult s outcome code tr.req.requester (reachedMask s tr.req)

/-- The present step is done: the next one is checked and begun, or the transition ends (R37, R298). -/
def advance (s : State) : State :=
  match s.power.trans with
  | none => s
  | some tr =>
    if tr.stop then finishTrans s 0 0
    else match nextStep s tr.req tr.failed with
    | none => finishTrans s 0 0
    | some p =>
      match stepCheck s p with
      | .ok => beginStep { s with power := { s.power with trans := some { tr with cur := p } } } p
      | c => finishTrans s 3 c.num

/-- A request is accepted: it runs, or it becomes the pending request and replaces an earlier one (R57). -/
def acceptReq (s : State) (r : PwrReq) : State :=
  let busy : Bool := s.power.trans.isSome || (s.power.stage ≠ .ready && s.power.stage ≠ .banked && s.power.stage ≠ .failed) ||
    anyTile s .falling || anyTile s .rising
  if busy then
    let s := match s.power.pending with
      | some o => logEvent s 0x1012 1 .boot [o.target, r.target, o.requester, r.requester]
      | none => s
    setResult { s with power := { s.power with pending := some r } } 2 0 r.requester 0
  else startReq s r

/-- The fields of a request are legal (Table 3.20). -/
def reqLegal (r : PwrReq) : Bool := r.target ≤ 4 && !((r.target = 0 || r.target = 3 || r.target = 4) && r.tiles = 0)

/-- Why a request is refused when it is made: the precondition of its first step fails (R33); one made while a transition
runs is judged when that ends (R57). -/
def reqCheck (s : State) (r : PwrReq) : RefCode :=
  if s.power.trans.isSome || anyTile s .falling || anyTile s .rising then .ok
  else match nextStep s r 0 with
  | none => .ok
  | some p => stepCheck s p

/-- A tile taken Off by force has settled while no transition runs: a pending request is evaluated (R57, R298). -/
def settlePending (s : State) : State :=
  if s.power.trans.isSome || anyTile s .falling || anyTile s .rising then s
  else match s.power.pending with
  | some r => startReq { s with power := { s.power with pending := none } } r
  | none => s

/-- The package reaches Banked from Smouldering: event 0x1010, the records are kept and the hub powers down (R32, R53). -/
def enterBanked (s : State) : State :=
  let s := keepRecords (logEvent s 0x1010 0 .boot [2, 1, 0, whoMoves s])
  let p := s.power
  let s := hubLost s .banked
  { s with power := { s.power with trans := p.trans, pending := p.pending } }

/-! ### Tiles coming up (Table 5.3) -/

/-- The tile reaches Kindled: its stack is initialised or leaves self-refresh (R31, R411, R429). -/
def tileKindled (s : State) (t : Nat) : State :=
  tileSettle ((stackEnter s t).modTile t (fun x => { x with kindle := .idle })) t .kindled

/-- A stack that does not leave self-refresh loses its contents and its tile returns to Off (R439). -/
def stackStuck (s : State) (t : Nat) : State :=
  if (s.stack t).selfRefresh then tileFail (stackLost s t 2) t 2 else s

/-- A tile reaches Stoked; the first one without an inlet limit logs event 0x1016 (R662). -/
def tileStoked (s : State) (t : Nat) : State :=
  let s := if !anyTile s .stoked && s.hearth.watts = 0 then logEvent s 0x1016 1 .boot [t, 0, 0, 0] else s
  tileSettle s t .stoked

/-- The tile enters Kindled: the counts of its rows of ledgers 1 and 2 restart from 0, WRITTEN_OFF among them. Units that cores
left STOPPED or FAULTED still have in their queues, and adds in flight, stay counted (R113, R116; log entry 97). -/
def restartRows (s : State) (t : Nat) : State :=
  modTally (modCred s t (fun r => { r with writtenOff := 0 })) t
    (fun r => { r with issued := BitVec.ofNat 64 r.inFlight, applied := 0 })

/-- Nets 16, 17 and 18 are each ON or given up: bring-up goes on with E2's training (Table 2.5, R170). -/
def edgesCheck (s : State) : State :=
  if s.power.stage = .edgeNets && [16, 17, 18].all (fun n => (s.net n).st = .on || 2 ≤ (s.net n).attempts || (s.net n).dead) then
    { s with power := { s.power with stage := .train } }
  else s

/-- VSRAM of tile `t` is within 10 mV of its SETPOINT, as its last frame measured it (R153). -/
def sramNear (s : State) (t : Nat) : Bool :=
  (((s.net (2 * t + 1)).voutMv : Int) - 5 * calSetpoint s (2 * t + 1)).natAbs ≤ 10

/-- VCORE of a rising tile starts its ramp (R153). -/
def coreStart (s : State) (t : Nat) : State := (netEnable s (2 * t)).modTile t (fun x => { x with kindle := .core })

/-- At the end of a frame of die `d` the Hearth enables what waits for it, from the output the frame has measured: the first net of a
die whose loop ADCs have begun to run, and VCORE once VSRAM is near its SETPOINT (R151, R153, R217, Tables 2.5 and 5.3). -/
def frameEnable (s : State) (d : Nat) : State :=
  if d < 8 then
    if (s.tile d).st ≠ .rising || (s.tile d).kindle ≠ .sram then s
    else match (s.net (2 * d + 1)).st with
    | .off => netEnable s (2 * d + 1)
    | .rising => if sramNear s d then coreStart s d else s
    | _ => s
  else if (s.net (d + 8)).st ≠ .off then s
  else if d = 11 then (if s.power.stage = .hubNet then netEnable s 19 else s)
  else if s.power.stage = .edgeNets && (s.net (d + 8)).attempts < 2 && !(s.net (d + 8)).dead then netEnable s (d + 8)
  else s

/-- A transition that has been stopped ends once the tiles taken Off by force have reached Off (R298, R325). -/
def stopWaits (s : State) (tr : Trans) : Bool := tr.stop && (bitsOf 8 tr.failed).any (fun t => (s.tile t).st = .falling && (s.tile t).forced)

/-- TRANSITION_STEP_DONE: the present step is done, and the next follows (R37). `stuck` names the tiles whose stacks did
not leave self-refresh (R439). -/
def execTransitionStepDone (stuck : List Nat) (s : State) : Host.Outcome State Fault Refusal :=
  match s.power.trans with
  | none => .next s
  | some tr =>
    if stopWaits s tr then .next s else
    let mark (s : State) (m : Nat) : State :=
      { s with power := { s.power with trans := s.power.trans.map (fun (tr : Trans) => { tr with failed := tr.failed ||| m }) } }
    match tr.cur with
    | .wake => if isReady s then .next (noted s (advance s)) else .next s
    | .kindle m =>
      let ts := bitsOf 8 m.toNat
      if ts.any (fun t => (s.tile t).st = .rising && (s.tile t).kindle ≠ .done) then .next s
      else
        let up := tilesIn s m.toNat .rising
        let s1 := forEach (up.filter (fun t => stuck.contains t)) s stackStuck
        let s1 := forEach (tilesIn s1 m.toNat .rising) s1 tileKindled
        let s1 := mark s1 (((ts.filter (fun t => (s1.tile t).st ≠ .kindled)).map (fun t => 2 ^ t)).sum)
        if ts.any (fun t => (s1.tile t).st = .falling) then .next (noted s s1) else .next (noted s (advance s1))
    | .stoke t =>
      (match (s.tile t).st with
       | .rising => .next (noted s (advance (tileStoked s t)))
       | .off => .next (noted s (advance s))
       | _ => .next s)
    | .unstoke t =>
      (match (s.tile t).st with
       | .falling =>
         if (s.tile t).forced then .next s
         else .next (noted s (advance (tileSettle (restartRows (rejudge (releaseBase s t)) t) t .kindled)))
       | .off => .next (noted s (advance s))
       | _ => .next s)
    | .off m => if (bitsOf 8 m.toNat).all (fun t => (s.tile t).st = .off) then .next (noted s (advance s)) else .next s
    | .bank => if anyTile s .falling then .next s else .next (noted s (finishTrans (enterBanked s) 0 0))

end Sys2Proof.Machine
end

