-- ==== Sys2Proof/Machine/Fault.lean ====
section
/-!
DEFINITION. Power faults (chapter 09): phases, cells and nets out of service, capacity, retired tokens and tile caps, path
and feed resistance, restoring, links that fail, loop-engine memory errors, and the HEARTH page and CELL fault registers.
-/
namespace Sys2Proof.Machine
open Sys2Proof

/-! ### Capacity and budget (R282, R289, R290) -/

/-- P: phases out of service because of a fault, over every cell, as far as the Hearth has heard (R289, R300). -/
def phasesOut (s : State) : Nat := ((List.range numCells).map (fun i => 4 - heardIn s i)).sum

/-- RETIRED of R289. -/
def retiredOf (s : State) : Nat := min 4928 ((288 * phasesOut s + 99) / 100)

/-- The mean of FEED(d) over its last updates, in microohm (R288). -/
def feedMean (x : SurveySt) : Nat := if x.feeds = [] then 0 else x.feeds.sum / x.feeds.length

/-- FEED(d) of the last update, in microohm (R288). -/
def feedLast (x : SurveySt) : Nat := x.feeds.headD 0

/-- F(t) of R290, from FEED(t) itself. -/
def feedTerm (s : State) (t : Nat) : Nat :=
  let x := s.survey t
  if x.feedSuspect && 0 < feedLast x then max 64 (512 * calFeedBase s t / feedLast x) else 512

/-- The terms of R290: VCORE, VSRAM, feed. -/
def capTerms (s : State) (t : Nat) : List Nat :=
  [capacityMa s (2 * t) * 8 / 1750, capacityMa s (2 * t + 1) * 8 / 250, feedTerm s t]

/-- TILE_CAP of R290. -/
def capOf (s : State) (t : Nat) : Nat := (capTerms s t).foldl min 512

/-- The limiting term: the least, the first of several. -/
def capLimit (s : State) (t : Nat) : Nat :=
  let l := capTerms s t
  (l.findIdx? (fun v => v = l.foldl min (l.getD 0 512))).getD 0

/-- The tile cap follows R290: event 0x1068, the tile's recall, and requests set aside are judged again (R291, R292). -/
def capUpdate (s : State) (t : Nat) : State :=
  let old := (s.tile t).cap
  let new := capOf s t
  if new = old then s
  else
    let s := logEvent (s.modTile t (fun x => { x with cap := new })) 0x1068 0 .hearth [t, old, new, capLimit s t]
    rejudge (tileRecall s t)

/-- An event at severity degrade or above raises POWER_FAULT (R295). -/
def powerEvent (s : State) (code sev : Nat) (p : PageRef) (args : List Nat) : State :=
  let s := logEvent s code sev p args
  if 2 ≤ sev then raise s .hearth 1 else s

/-- A loss or return of phases of net `n` enters RETIRED and the tile cap; CAP_CHANGED (R289, R290). -/
def capApply (s : State) (n : Nat) : State :=
  let s := raise (setRetired s (retiredOf s)) (.net n) 3
  if n < 16 then capUpdate s (n / 2) else s

/-! ### Shorts and net failure (R281, R298) -/

/-- What the failure of a net brings with it; a bring-up that waited for it goes on without it (R281, Table 2.5). -/
def netConsequences (s : State) (n : Nat) : State :=
  if n < 16 then rejudge (forceOff (barTile s (n / 2)) (n / 2) (.lost 4))
  else if n = 16 then edgesCheck (forEach [0, 1, 2, 3] s portOff)
  else if n = 17 then edgesCheck (forEach [4, 5, 6, 7] s portOff)
  else if n = 18 then edgesCheck (if s.ao.l0 then linkSet s false s.ao.rate s.ao.width else s)
  else
    let s := bankAtOnce (keepRecords s)
    { s with ao := { s.ao with hold := true } }

/-- A net that runs is disabled for a short or for lack of capacity: its event, RETIRED, its consequences (R281, R282). -/
def netFail (s : State) (n : Nat) (short : Bool) : State :=
  let x := s.net n
  if x.dead || x.st = .off || x.st = .falling then s
  else
    let s1 := if short then powerEvent s 0x1062 3 (.net n) [n, x.voutMv, ioutOf x.iQ, 0]
      else powerEvent s 0x1069 3 (.net n) [n, capacityMa s n, (cellsIn s n).length, 0]
    let s1 := netDisable (s1.modNet n (fun x => { x with dead := true })) n
    noted s (netConsequences (capApply s1 n) n)

/-- A net whose CAPACITY falls below half its rating fails (Table 9.1). -/
def capacityCheck (s : State) (n : Nat) : State := if 2 * capacityMa s n < ratingMa n then netFail s n false else s

/-- A frame of a net below V_ref - 150 mV while I_net is at or above CAPACITY counts towards its short (Table 9.1). `v` is
the output and `ref` V_ref, in Q11.20; `capMa` CAPACITY in mA. -/
def shortWatch (x : NetSt) (v ref : Int) (capMa : Nat) : NetSt :=
  { x with lowFrames := if v < ref - q20OfUv 150000 && (capMa : Int) * 65536 ≤ 1000 * x.iQ then min 20 (x.lowFrames + 1) else 0 }

/-- NET_SHORT: the criterion has held for 2 us, 20 frames (R272, R281). -/
def execNetShort (n : Nat) (s : State) : Host.Outcome State Fault Refusal :=
  if n < 20 && 20 ≤ (s.net n).lowFrames then .next (netFail s n true) else .next s

/-- INPUT_SWITCH_FAILED: the phase currents of an isolated cell have come to more than 0.5 A for 1 us, 10 frames; its net is treated
as shorted (R301). -/
def execInputSwitchFailed (i : Nat) (s : State) : Host.Outcome State Fault Refusal :=
  if i < numCells && (s.cell i).isolated && 10 ≤ (s.cell i).leak then .next (netFail s (cellNet i) true) else .next s

/-! ### Phases and cells (R274 to R279, R294, R297, R300) -/

/-- The Hearth cannot hear from the cell's die (R110, R300). -/
def cellUnreachable (s : State) (i : Nat) : Bool := s.arb.unreachable.contains (cellDie i)

/-- The Hearth learns of a fault: it retires tokens, sets the tile cap and logs (R289). RETIRED is the last argument of event
0x1061. -/
def faultLearned (s : State) (i code : Nat) (args : List Nat) : State :=
  let n := cellNet i
  let s := if code = 0x1061 then powerEvent s code 3 (.cell i) (args ++ [retiredOf s]) else powerEvent s code 2 (.cell i) args
  capacityCheck (capApply s n) n

/-- The Hearth hears of the faults of die `d`, oldest first, unless the die does not answer (R289, R300). -/
def hearNow (s : State) (d : Nat) : State :=
  if s.arb.unreachable.contains d then s
  else
    forEach (s.hearth.late.filter (fun f => cellDie f.cell = d)) s (fun s f =>
      faultLearned { s with hearth := { s.hearth with late := s.hearth.late.erase f } } f.cell f.code f.args)

/-- A fault on cell `i` arose in the present frame of its engine, and the Hearth has not heard of it. -/
def thisFrame (s : State) (i : Nat) (f : LateFault) : Bool := f.cell = i && f.frame = (s.loopE (cellDie i)).frame

/-- The Hearth hears of a fault at the end of the frame, or at once where the die's engine has no frames, unless the die does not
answer; `before` is the cell's phases in service before it. An isolation stands for the phases removed in its frame (R297, R300). -/
def faultReport (s : State) (i code before : Nat) (args : List Nat) : State :=
  let d := cellDie i
  let mine := s.hearth.late.filter (thisFrame s i)
  let f : LateFault := ⟨i, code, args, (s.loopE d).frame, (mine.head?.map (·.known)).getD before⟩
  let rest := if code = 0x1061 then s.hearth.late.filter (fun f => !thisFrame s i f) else s.hearth.late
  let s := { s with hearth := { s.hearth with late := rest ++ [f] } }
  if (s.loopE d).clk then s else hearNow s d

/-- The cell was isolated in the present frame, and the Hearth has not heard of it. -/
def isolatedNow (s : State) (i : Nat) : Bool := s.hearth.late.any (fun f => thisFrame s i f && f.code = 0x1061)

/-- A further cause arises in the frame of an isolation: the lowest is the one shown and logged (R297). -/
def lowerCause (s : State) (i cause : Nat) : State :=
  let c := s.cell i
  if !isolatedNow s i || c.isoCause ≤ cause then s
  else
    let s := s.setCell i { c with isoCause := cause }
    { s with hearth := { s.hearth with late := s.hearth.late.map (fun f =>
      if thisFrame s i f && f.code = 0x1061 then { f with args := i :: cause :: f.args.drop 2 } else f) } }

/-- On the VCORE net of a Stoked tile core clock periods are stretched for 2 us (R279). -/
def stretchClock (s : State) (n : Nat) : State :=
  if n < 16 && n % 2 = 0 && (s.tile (n / 2)).st = .stoked then s.modTile (n / 2) (fun x => { x with stretchAt := some s.ao.ticks }) else s

/-- A cell restored less than 1 s ago (R294). -/
def freshlyRestored (s : State) (i : Nat) : Bool := (s.cell i).restoredAt.any (fun t => withinUs s t 1000000)

/-- A cell is isolated: its switches stop, its input switch opens and a range change goes on without it (R166, R277,
R278); of several causes in one frame the lowest counts (R297). -/
def isolateCell (s : State) (i cause : Nat) : State :=
  let c := s.cell i
  if c.isolated then lowerCause s i cause
  else
    let n := cellNet i
    let before := phasesIn s i
    let s := s.setCell i { c with isolated := true, isoCause := cause, leak := 0, discharge := false, pathWant := [], judged := false,
                                  permanent := c.permanent || cause = 8 }
    let s := raise (stretchClock s n) (.cell i) 2
    let s := match (s.net n).roll with
      | some r => if r.cur = some i && !r.halted then rollNext s n r.todo r.changed (r.skipped + 1) r.range else s
      | none => s
    faultReport s i 0x1061 before [i, cause, before]

/-- A criterion of Table 9.1 or 9.2 isolates a cell: with cause 8, for good, within 1 s of a restore (R294). -/
def isolateFor (s : State) (i cause : Nat) : State := isolateCell s i (if freshlyRestored s i then 8 else cause)

/-- PH_CAUSE with the cause of phase `k` (Table 9.8). -/
def setPhCause (m : BitVec 8) (k cause : Nat) : BitVec 8 := m ||| BitVec.ofNat 8 ((cause + 1) * 4 ^ k)

/-- Phase `k` is switched off (R274, R276): with the first, the share weight falls to three quarters. -/
def dropPhase (s : State) (i k cause : Nat) : State :=
  s.modCell i (fun c =>
    let c' := { c with phases := c.phases &&& ~~~ BitVec.ofNat 4 (2 ^ k), phCause := setPhCause c.phCause k cause,
                       phWatch := put {} c.phWatch k {} }
    if c.phases = 0xF then { c' with savedWt := some c.shareWt, shareWt := max 1 ((3 * c.shareWt + 2) / 4) } else c')

/-- Current of phase `k` in the last frame. -/
def phaseQ (c : CellSt) (k : Nat) : Int := match k with | 0 => c.i0Q | 1 => c.i1Q | 2 => c.i2Q | _ => c.i3Q

/-- Phase `k` looks open: below 25 % of the mean of the cell's other phases in service, that mean being at least 0.15 A
(Table 9.1). -/
def phaseOpen (c : CellSt) (k : Nat) : Bool :=
  let o := ([0, 1, 2, 3].filter (fun j => j ≠ k && c.phases.getLsbD j)).map (phaseQ c)
  0 < o.length && 15 * 65536 * (o.length : Int) ≤ 100 * o.sum && 4 * o.length * phaseQ c k < o.sum

/-- The counts of phase `k` after one more frame (Table 9.1). -/
def watchPhase (c : CellSt) (k : Nat) : PhaseWatch :=
  let w := look {} c.phWatch k
  if c.isolated || !c.phases.getLsbD k then {}
  else { oc := if 72 * 65536 < 100 * phaseQ c k then min 101 (w.oc + 1) else 0,
         peak := if 65536 < phaseQ c k then min 4 (w.peak + 1) else 0,
         idle := if phaseOpen c k then min 64 (w.idle + 1) else 0 }

/-- The die fault logic counts one frame of a cell's results (R272, R301). -/
def watchPhases (c : CellSt) : CellSt :=
  { c with phWatch := [0, 1, 2, 3].foldl (fun m k => put {} m k (watchPhase c k)) c.phWatch,
           leak := if c.isolated && 32768 < c.i0Q + c.i1Q + c.i2Q + c.i3Q then min 10 (c.leak + 1) else 0 }

/-- The cause for which phase `k` is due for removal: 0 overcurrent, 1 open (Table 9.1). -/
def phaseDue (c : CellSt) (k : Nat) : Option Nat :=
  let w := look {} c.phWatch k
  if 101 ≤ w.oc || 4 ≤ w.peak then some 0 else if 64 ≤ w.idle then some 1 else none

/-- PHASE_REMOVE: phase `k` of a cell, whose count has expired, leaves service; a second one isolates the cell. A phase removed in the
frame of the cell's isolation adds nothing but its cause (R272, R274, R276, R297). -/
def execPhaseRemove (i k : Nat) (s : State) : Host.Outcome State Fault Refusal :=
  let c := s.cell i
  match phaseDue c k with
  | none => .next s
  | some cause =>
    if !(i < numCells && k < 4) || (c.isolated && !isolatedNow s i) || !c.phases.getLsbD k || !dieOn s (cellDie i) then .next s
    else
      let before := phasesIn s i
      let fresh := freshlyRestored s i
      let s := raise (dropPhase s i k cause) (.cell i) 1
      if fresh then .next (isolateCell s i 8)
      else if c.phases ≠ 0xF then .next (isolateFor s i 0)
      else if c.isolated then .next s
      else .next (faultReport (stretchClock s (cellNet i)) i 0x1060 before [i, k, cause, twos 32 (maOf (phaseQ c k))])

/-- STUCK_HIGH_SIDE (R272). -/
def execStuckHighSide (i k : Nat) (s : State) : Host.Outcome State Fault Refusal :=
  if i < numCells && k < 4 && dieOn s (cellDie i) then .next (isolateFor s i 1) else .next s

/-- ROLL_RESUME_TIMEOUT (R172). -/
def execRollResumeTimeout (i : Nat) (s : State) : Host.Outcome State Fault Refusal :=
  match (s.net (cellNet i)).roll with
  | some r => if r.cur = some i && !r.halted then .next (isolateCell s i 6) else .next s
  | none => .next s

/-- A die answers again: what its fault logic did is retired and logged, its notices go, and requests set aside for it are
judged again (R253, R269, R300). -/
def dieAnswered (s : State) (d : Nat) : State :=
  let s := hearNow { s with arb := { s.arb with unreachable := s.arb.unreachable.filter (· ≠ d) },
                            token := { s.token with undelivered := s.token.undelivered.filter (· ≠ d) } } d
  rejudge (if d < 8 then noticeTile s d true else s)

/-- DIE_ANSWER. -/
def execDieAnswer (d : Nat) (s : State) : Host.Outcome State Fault Refusal :=
  if s.arb.unreachable.contains d then .next (dieAnswered s d) else .next s

/-! ### Path resistance (R284 to R286, Table 9.2) -/

/-- The channels of a confirmation: the die's feed, the cell's input, the cell's output. -/
def pathChannels (i : Nat) : List Nat := let n := i - dieFirst (cellDie i); [96, 48 + n, n]

/-- A cell becomes path-suspect: the Hearth asks for its conversions one after the other (R285). -/
def pathSuspect (s : State) (i : Nat) : State :=
  let s := s.modCell i (fun c => { c with suspect := true, judged := false, pathWant := pathChannels i, pathGot := [], pathTries := 0 })
  (hearthUrgent (raise s (.cell i) 3) (cellDie i) 96).1

/-- The 1 ms update of R_F of one cell (R284), and what follows from it (R285, Table 9.2). -/
def pathUpdate (s : State) (i : Nat) : State :=
  let c := s.cell i
  if c.sumN = 0 then s
  else
    let m1 := c.sumX1 / c.sumN
    let m4 := c.sumX4 / c.sumN
    let s := s.setCell i { c with sumX1 := 0, sumX4 := 0, sumN := 0, meanX1 := m1 }
    if m1 < 32768 || c.isolated then s
    else
      let est := divNear (m4 * 62500) m1.toNat
      let rF := ((c.rF : Int) + divNear (est - c.rF) 16).toNat
      let s := s.modCell i (fun c => { c with rF := rF })
      let base := calPathBase s i
      if rF * 10 ≤ 13 * base then s.modCell i (fun c => { c with suspect := false, judged := false, pathWant := [] })
      else if !c.suspect then pathSuspect s i
      else if c.judged && 2 * base < rF then isolateFor s i 3
      else s

/-- R_IN in microohm from the survey results: the input drop over the input current u x mean x1 (R285); none when no current
flows. -/
def pathIn (c : CellSt) (n : Nat) : Option Nat :=
  let cur := (c.applied.toNat : Int) * c.meanX1
  if cur ≤ 0 then none else some (divNear ((look 0 c.pathGot 96 - look 0 c.pathGot (48 + n)) * 268435456) cur.toNat).toNat

/-- Table 9.2 for a suspect cell; `conv` says that the three channels were converted. Where both of its first findings hold, the cause is
the lower one, 2 (R297). -/
def pathJudge (s : State) (i : Nat) (conv : Bool) : State :=
  let c := s.cell i
  let n := i - dieFirst (cellDie i)
  let rIn := if conv then (pathIn c n).getD 0 else 0
  let diff := (look 0 c.pathGot n - divNear (c.vQ * 1000000) 1048576).natAbs
  let input := conv && 13 * calInBase s i < rIn * 10
  let s := s.setCell i { c with rIn := if conv then rIn else c.rIn, judged := true, pathWant := [] }
  let s := powerEvent s 0x1064 2 (.cell i) [i, c.rF, rIn, if !conv then 2 else if input then 1 else 0]
  if input then isolateFor s i 2
  else if conv && 20000 < diff then isolateFor s i 5
  else if 2 * calPathBase s i < c.rF then isolateFor s i 3
  else s

/-- PATH_JUDGE: the results are there, or eight repeats have failed (R285, R286). -/
def execPathJudge (i : Nat) (s : State) : Host.Outcome State Fault Refusal :=
  let c := s.cell i
  if !c.suspect || c.isolated || c.judged then .next s
  else if c.pathWant = [] then .next (pathJudge s i true)
  else if 8 ≤ c.pathTries then .next (pathJudge s i false)
  else .next s

/-- The Hearth's request for this channel is running or waiting. -/
def urgentPending (s : State) (d ch : Nat) : Bool :=
  let is (r : Option UrgReq) : Bool := r.any (fun x => x.hearth && x.ch = ch)
  is (s.survey d).urg || is (s.survey d).urgWait

/-- PATH_CONFIRM_RETRY: a dropped request is made again, at most 8 times (R286). -/
def execPathConfirmRetry (i : Nat) (s : State) : Host.Outcome State Fault Refusal :=
  let c := s.cell i
  match c.pathWant with
  | [] => .next s
  | ch :: _ =>
    if !c.suspect || c.isolated || 8 ≤ c.pathTries || urgentPending s (cellDie i) ch then .next s
    else .next (hearthUrgent (s.setCell i { c with pathTries := c.pathTries + 1 }) (cellDie i) ch).1

/-! ### The feed (R283, R288) -/

/-- The sum over a die's cells in service of duty x mean x1. -/
def feedCurrent (s : State) (d : Nat) : Int :=
  ((dieCells d).map (fun i => if phasesIn s i = 0 then 0 else ((s.cell i).applied.toNat : Int) * (s.cell i).meanX1)).sum

/-- The 1 ms update of FEED(d), and the judgement of the feed path (R288). -/
def feedUpdate (s : State) (d : Nat) : State :=
  let x := s.survey d
  let cur := feedCurrent s d
  if !dieOn s d || cur ≤ 0 || x.v96Uv = 0 then s
  else
    let feed := (divNear (((s.hearth.vinMv : Int) * 1000 - x.v96Uv) * 268435456) cur.toNat).toNat
    let x' := { x with feeds := (feed :: x.feeds).take 16 }
    let sus := x'.feeds.length = 16 && 13 * calFeedBase s d < feedMean x' * 10
    let s := s.setSurvey d { x' with feedSuspect := sus }
    let s := if d < 8 then capUpdate s d else s
    if sus && !x.feedSuspect then
      powerEvent s 0x1066 2 .hearth [d, feedMean x', calFeedBase s d, if d < 8 then (s.tile d).cap else 0]
    else s

/-- The package feed is low while VIN_MEAS is below 1746 mV; one event an episode (Table 9.1, R283). -/
def feedLow (s : State) : State :=
  if s.hearth.vinMv < 1746 then
    (if s.hearth.feedLowAt.isSome then s
     else
      let s := { s with hearth := { s.hearth with feedLowAt := some s.ao.ticks } }
      raise (logEvent s 0x1063 1 .hearth [0xFF, s.hearth.vinMv, 0, 0]) .hearth 2)
  else { s with hearth := { s.hearth with feedLowAt := none } }

/-- Cells whose sums the update takes. -/
def measuredCells (s : State) : List Nat := (s.cells.filter (fun e => e.2.sumN ≠ 0)).map (·.1)

/-- HEARTH_MS_UPDATE: measured values, VIN_USED of every loop engine, the inlet cap, path and feed resistance, the package
feed (R176, R255, R283, R284, R288). -/
def execHearthMsUpdate (m : HearthMeas) (s : State) : Host.Outcome State Fault Refusal :=
  if !hubOn s then .next s
  else
    let s := { s with hearth := { s.hearth with vinMv := m.vinMv, feedI := m.feedI, pkgP := m.pkgP, vhbmP := m.vhbmP, vsbMw := m.vsbMw } }
    let s := forEach ((List.range 12).filter (fun d => (s.loopE d).clk)) s (fun s d => s.modLoop d (fun x => { x with vinMv := m.vinMv }))
    let s := inletUpdate s
    let s := forEach (measuredCells s) s pathUpdate
    let s := forEach (List.range 12) s feedUpdate
    .next (feedLow s)

/-! ### Restoring a cell (R293, R294) -/

/-- A write of CELL_FAULT: RESTORE (Table 9.8). -/
def writeCellFault (i : Nat) (w : RegWrite) (s : State) : State × RefCode :=
  let c := s.cell i
  let n := cellNet i
  let go := w.ones.getLsbD 24
  let ok := c.isolated && c.isoCause ≠ 1 && !c.permanent && (s.net n).st = .on && (16 ≤ n || (s.tile (n / 2)).st = .kindled)
  guarded s (.cell i) 0x68 w { wrongState := go && !ok } (fun s =>
    if !go then s
    else
      let s := (hearNow s (cellDie i)).setCell i { c with
        isolated := false, isoCause := 0, held := false, phases := 0xF, phCause := 0, phWatch := [], suspect := false, judged := false, pathWant := [], preset := true,
        discharge := false, range := calRange s n, rF := calPathBase s i, shareWt := c.savedWt.getD c.shareWt, savedWt := none,
        restoredAt := some s.ao.ticks }
      capApply (logEvent s 0x1067 1 (.cell i) [i, retiredOf s, 0, 0]) n)

/-- RESTORE. -/
def execRestore (i : Nat) (w : RegWrite) (s : State) : Host.Outcome State Fault Refusal := .next (writeCellFault i w s).1

/-- Writes of a CELL page. -/
def writeCell (i off : Nat) (w : RegWrite) (s : State) : State × RefCode :=
  match off with
  | 0x40 => writeCellCtrl i w s
  | 0x44 => writeDuty i false w s
  | 0x68 => writeCellFault i w s
  | _ => roWrite s (.cell i) off w

/-! ### Loop-engine memory errors (R211, R212) -/

/-- Cells whose entry, or one of whose two sets, holds the word, by the schedule in force (R212). -/
def wordCells (s : State) (d mem a : Nat) : List Nat :=
  let es := entries s d (s.loopE d).schedAct
  let hit := if mem = 1 then (es[a]?).toList
    else es.filter (fun e => e.setL = a / 64 || e.setH = a / 64)
  hit.map (fun e => dieFirst d + e.cell)

/-- LOOP_MEM_ERROR: memory 0 coefficient, 1 schedule, 2 state of `cell`; `both` copies lost, or one corrected from the
other. -/
def execLoopMemError (d mem a cell : Nat) (both : Bool) (s : State) : Host.Outcome State Fault Refusal :=
  if !(s.loopE d).clk then .next s
  else if both && mem < 2 then
    let cs := wordCells s d mem a
    let s := forEach cs s (fun s i => s.modCell i (fun c => { c with held := true }))
    let s := raise (logEvent s 0x1033 3 (.loop d) [d, mem, a, cs.length]) (.loop d) 4
    .next (forEach cs s (fun s i => isolateCell s i 7))
  else
    let s := if both then s.modCell cell (fun c => { c with preset := true }) else s
    .next (raise (logEvent s 0x1032 2 (.loop d) [d, mem, a, if mem = 2 then cell else 0xFFFF]) (.loop d) 4)

/-! ### Links of the grid (R344, R373, R500) -/

/-- Ends of the tile-to-tile bridges, in the order of Table 1.3. -/
def bridgeEnds : List (Nat × Nat) := [(0, 1), (1, 2), (2, 3), (4, 5), (5, 6), (6, 7), (0, 4), (1, 5), (2, 6), (3, 7)]

/-- Key of a link for its count of resends. -/
def linkKey : LinkRef → Nat
  | .mesh t l => t * 256 + l
  | .tiles b => 4096 + b
  | .edge e => 8192 + e

/-- Tiles at a link. -/
def linkTiles : LinkRef → List Nat
  | .mesh t _ => [t]
  | .tiles b => match bridgeEnds[b]? with | some (x, y) => [x, y] | none => []
  | .edge e => if e = 0 then [0] else if e = 1 then [3] else [7]

/-- The link exists. -/
def linkOk : LinkRef → Bool
  | .mesh t l => t < 8 && l < 256
  | .tiles b => b < 10
  | .edge e => e < 3

/-- Link number in event 0x3006. -/
def linkNum : LinkRef → Nat
  | .mesh _ l => l
  | .tiles b => 256 + b
  | .edge e => 256 + 10 + e

/-- One resend is counted in RETRIES (Table 11.12). -/
def countResend (s : State) (l : LinkRef) : State :=
  match l with
  | .mesh t _ => s.modTile t (fun x => { x with meshRetries := satInc x.meshRetries 0xFFFF })
  | _ => forEach (linkTiles l) s (fun s t => s.modTile t (fun x => { x with bridgeRetries := satInc x.bridgeRetries 0xFFFF }))

/-- The host command path is lost: the cores of every running command stop, every command in the slots completes with
PATH_LOST, PATH_LOST and event 0x5011 (R500). -/
def pathLost (s : State) : State :=
  if s.host.pathLost then s
  else
    let live := ((slotList s).filter (fun e => e.2.st ≠ .completing)).map (·.1)
    let s := forEach live { s with host := { s.host with pathLost := true } } (fun s k => endCmd s k 0x24 0 0)
    rejudge <| raise (logEvent s 0x5011 4 .hostif [live.length, 0, 0, 0]) .hostif 1

/-- Tiles that a packet from tile `a` to tile `b` passes: along the row of `a`, then across to the other row (R341). -/
def tilePath (a b : Nat) : List Nat :=
  let along := (List.range 4).filter (fun x => min (a % 4) (b % 4) ≤ x && x ≤ max (a % 4) (b % 4))
  along.map (· + 4 * (a / 4)) ++ (if a / 4 = b / 4 then [] else [b])

/-- A packet between two tiles passes one of these. -/
def passes (ts : List Nat) (a b : Nat) : Bool := (tilePath a b).any ts.contains

/-- Tally adds and credits under way through the tiles of a failed link count as applied and returned; no value changes (R374; log
entry 101). -/
def linkCounts (s : State) (ts : List Nat) : State :=
  let gone (a : TallyAdd) : Bool := passes ts (a.core / 64) (a.tally / 512)
  let cred (p : CredPkt) : Bool := passes ts (p.rcv / 64) (p.sender / 64)
  let g := s.grid
  let s := { s with grid := { g with adds := g.adds.filter (fun a => !gone a), grants := g.grants.filter (fun p => !cred p),
                                     returns := g.returns.filter (fun p => !cred p) } }
  let s := forEach (g.adds.filter gone) s (fun s a => modTally s (a.tally / 512) (fun r =>
    { r with applied := r.applied + BitVec.ofNat 64 a.amount, inFlight := r.inFlight - a.amount }))
  forEach ((g.grants ++ g.returns).filter cred) s creditArrives

/-- A link fails: event 0x3006, LINK_FAIL, and what its kind brings (R373). -/
def linkFail (s : State) (l : LinkRef) (n : Nat) : State :=
  let ts := linkTiles l
  let s := logEvent s 0x3006 4 (.grid (ts.headD 0)) [ts.headD 0, linkNum l, n, 0]
  let s := forEach ts s (fun s t => raise s (.grid t) 3)
  match l with
  | .edge e => if e = 0 then forEach [0, 1, 2, 3] s portOff else if e = 1 then forEach [4, 5, 6, 7] s portOff else pathLost s
  | _ => rejudge (forEach ts (linkCounts s ts) (fun s t => forceOff (barTile s t) t (.lost 3)))

/-- MESH_FLIT_RESEND: a flit is sent again; `again` says that it is the flit this link resent last. The sixteenth time the
link has failed (R344, R373). -/
def execMeshFlitResend (l : LinkRef) (again : Bool) (s : State) : Host.Outcome State Fault Refusal :=
  if !linkOk l || (linkTiles l).any (fun t => (s.tile t).st = .off) then .next s
  else
    let k := linkKey l
    let n := if again then look 0 s.grid.resends k + 1 else 1
    let s1 := countResend { s with grid := { s.grid with resends := put 0 s.grid.resends k n } } l
    .next (if n = 16 then noted s (linkFail s1 l n) else s1)

/-! ### HEARTH page (Tables 5.5 to 5.10, 9.10 to 9.13) -/

/-- The cell is isolated as far as the Hearth has heard (R300). -/
def heardIso (s : State) (i : Nat) : Bool := (s.cell i).isolated && !s.hearth.late.any (fun f => f.cell = i && f.code = 0x1061)

/-- A write of INLET_LIMIT; with WATTS 0 the inlet cap is lifted at once (Tables 5.9, 8.6, R255). -/
def writeInlet (w : RegWrite) (s : State) : State × RefCode :=
  let v := fld (w.merged (w32 s.hearth.watts)).toNat 0 10
  guarded s .hearth 0x54 w { outOfRange := (0 < v && v < 100) || 750 < v }
    (fun s =>
      let s := raise { s with hearth := { s.hearth with watts := v } } .hearth 0
      if v = 0 && s.token.inletCap ≠ 4928 then budgetUpdate { s with token := { s.token with inletCap := 4928 } } 1 else s)

/-- INLET_LIMIT_WRITE. -/
def execInletLimitWrite (w : RegWrite) (s : State) : Host.Outcome State Fault Refusal := .next (writeInlet w s).1

/-- A mask of the pages `p k`, k < n, with INT_PENDING non-zero. -/
def pendMask (s : State) (n : Nat) (p : Nat → PageRef) : Nat :=
  ((List.range n).map (fun k => if intPending s (p k) ≠ 0 then 2 ^ k else 0)).sum

def readHearth (s : State) (off : Nat) : Word :=
  let h := s.hearth
  let x := s.survey h.dieSel
  if 0x68 ≤ off && off < 0xA0 then
    w32 (((List.range 32).map (fun b =>
      let i := 32 * ((off - 0x68) / 4) + b
      if i < numCells && intPending s (.cell i) ≠ 0 then 2 ^ b else 0)).sum)
  else if 0xAC ≤ off && off < 0xBC then
    word [(0, (s.tile ((off - 0xAC) / 2)).cap), (16, (s.tile ((off - 0xAC) / 2 + 1)).cap)]
  else match off with
  | 0x40 => w32 (((List.range 20).map (fun n => if (s.net n).st = .on || (s.net n).st = .rolling then 2 ^ n else 0)).sum)
  | 0x44 => w32 (h.vinMv % 65536)
  | 0x48 => w32 (h.feedI % 65536)
  | 0x4C => w32 (h.pkgP % 65536)
  | 0x50 => word [(0, h.vhbmP % 65536), (16, h.vsbMw % 65536)]
  | 0x54 => w32 h.watts
  | 0x60 => word [(0, pendMask s 20 .net), (20, b2n (intPending s .hearth ≠ 0))]
  | 0x64 => word [(0, pendMask s 12 .loop), (16, pendMask s 12 .survey)]
  | 0xA0 => word [(0, phasesOut s), (16, ((List.range numCells).filter (heardIso s)).length)]
  | 0xA4 => w32 h.dieSel
  | 0xA8 => word [(0, min (feedMean x) 0xFFFF), (16, calFeedBase s h.dieSel)]
  | _ => 0

def writeHearth (off : Nat) (w : RegWrite) (s : State) : State × RefCode :=
  match off with
  | 0x54 => writeInlet w s
  | 0xA4 =>
    let v := fld (w.merged (w32 s.hearth.dieSel)).toNat 0 4
    guarded s .hearth off w { outOfRange := 12 ≤ v } (fun s => { s with hearth := { s.hearth with dieSel := v } })
  | _ => roWrite s .hearth off w

end Sys2Proof.Machine
end

