-- ==== Sys2Proof/Machine/LoopFrame.lean ====
section
/-!
DEFINITION. One frame of a loop engine (chapter 06, Table 6.7): samples and trims, bank exchanges, notices, injection,
evaluation of every entry, overrun, contact steps, and capture.
-/
namespace Sys2Proof.Machine
open Sys2Proof

/-! ### Samples (R218 to R221, R241) -/

/-- A trimmed voltage in Q11.20, or a trimmed phase current in Q15.16 (R219); `k` is 0 for voltage, 1 to 4 for phases. -/
def trimmed (s : State) (i k code : Nat) : Int :=
  let t := trimInForce s (cellDie i) (loopTrimAt i k)
  if k = 0 then divNear (((code : Int) - t.1) * t.2) 50 else divNear (((code : Int) - 1024 - t.1) * t.2) 500

/-- LOOP_CLAMP or LOOP_STALE count and the fields of the latest one (Table 7.14). -/
def lastSample (i k : Nat) : Nat :=
  (i - dieFirst (cellDie i)) * 2 ^ 16 + b2n (0 < k) * 2 ^ 24 + (k - 1) * 2 ^ 25

/-- A clamped sample is counted and logged (R221). -/
def clampSeen (s : State) (i k code : Nat) : State :=
  let d := cellDie i
  let s := s.modSurvey d (fun x => { x with clampCount := satInc x.clampCount 0xFFFF, clampLast := lastSample i k })
  logLimited (raise s (.survey d) 4) (0x1042 * 65536 + i) 1000 0x1042 2 (.cell i) [i, b2n (0 < k), k - 1, code]

/-- A missing result is counted and logged (R241). -/
def staleSeen (s : State) (i k : Nat) : State :=
  let d := cellDie i
  let s := s.modSurvey d (fun x => { x with staleCount := satInc x.staleCount 0xFFFF, staleLast := lastSample i k })
  logEvent (raise s (.survey d) 5) 0x1043 2 (.cell i) [i, b2n (0 < k), k - 1, (s.survey d).staleCount]

/-- The value of ADC `k` of cell `i` as the front-end delivers it: trimmed, or the previous one again. -/
def adcTake (s : State) (i k : Nat) (old : Int) (x : AdcIn) : State × Int :=
  match x with
  | .code c cl => (if cl then clampSeen s i k c.toNat else s, trimmed s i k c.toNat)
  | .missing => (staleSeen s i k, old)

/-- The ADC result marks the capture record of the frame (R213, R241). -/
def adcMarks : AdcIn → Bool
  | .code _ cl => cl
  | .missing => true

/-- The samples of one cell reach the engine and the die's fault logic (R272); the observer's values of the frame before are kept for
R287. -/
def takeSample (d : Nat) (s : State) (m : CellSample) : State :=
  if dieCount d ≤ m.cell then s
  else
    let i := dieFirst d + m.cell
    let c := s.cell i
    let (s, v) := adcTake s i 0 c.vQ m.v
    let (s, a) := adcTake s i 1 c.i0Q m.i0
    let (s, b) := adcTake s i 2 c.i1Q m.i1
    let (s, e) := adcTake s i 3 c.i2Q m.i2
    let (s, f) := adcTake s i 4 c.i3Q m.i3
    s.modCell i (fun c => watchPhases { c with vQ := v, i0Q := a, i1Q := b, i2Q := e, i3Q := f,
                                                  past := ((c.x1, c.x4) :: c.past).take 4 })

/-- Some result of the frame was clamped or missing. -/
def samplesMark (l : List CellSample) : Bool :=
  l.any (fun m => adcMarks m.v || adcMarks m.i0 || adcMarks m.i1 || adcMarks m.i2 || adcMarks m.i3)

/-- i_m of a cell (R219). -/
def cellIm (c : CellSt) : Int := c.i0Q + c.i1Q + c.i2Q + c.i3Q

/-! ### Frame start (R183, R187, R199, R205) -/

/-- Exchanges written before this frame start take effect (R183, R205), with event 0x1031. -/
def takeSwap (s : State) (d : Nat) : State :=
  match (s.loopE d).swap with
  | none => s
  | some r =>
    if r.wait then s.modLoop d (fun x => { x with swap := some { r with wait := false } }) else
    let s := s.modLoop d (fun x => { x with
      swap := none,
      coefAct := if r.coef then 1 - x.coefAct else x.coefAct,
      schedAct := if r.sched then 1 - x.schedAct else x.schedAct })
    raise (logEvent s 0x1031 0 (.loop d)
      [d, b2n r.coef + 2 * b2n r.sched, slotsMax (entries s d (s.loopE d).schedAct), r.writer]) (.loop d) 1

/-- Notices that arrived are taken into I_ann (R199). -/
def takeNotes (s : State) (d : Nat) : State :=
  s.modLoop d (fun x => { x with
    annLo := x.noteLo.getD x.annLo, annHi := x.noteHi.getD x.annHi, noteLo := none, noteHi := none })

/-- A new I_ann of net `n` waits for this frame start. -/
def noteWaits (x : LoopSt) (n : Nat) : Bool := if n < 16 && n % 2 = 1 then x.noteHi.isSome else x.noteLo.isSome

/-! ### Evaluation (Tables 6.1, 6.7; R190 to R198) -/

/-- What one frame gives every evaluation: engine, frame count, slots before the first entry (R191), stall slots, whether a scrub
stall and a wide capture coincide in it, the only case of an overrun (R195), and the injection value of the frame. -/
structure FrameCtx where
  d : Nat
  frame : Nat
  base : Nat
  stall : Nat
  both : Bool
  inj : Int
  deriving DecidableEq, Repr

/-- What the frame leaves for the capture of its target: the entry was evaluated, overran, was clamped, was in its
extended frame; u, V_ref and I_ann. -/
structure FrameRec where
  cell : Nat
  eval : Bool := false
  overrun : Bool := false
  clamped : Bool := false
  ext : Bool := false
  u : Int := 0
  vref : Int := 0
  iann : Int := 0
  deriving DecidableEq, Repr

/-- The frame as far as it has gone: the state, C_j so far, how late the last entry ended, and the target's record. -/
structure FrameAcc where
  s : State
  cum : Nat
  late : Nat
  tgt : FrameRec
  deriving DecidableEq, Repr

/-- I_ann of net `n` in Q15.16: tokens of 0.25 A (R199). -/
def annQ (x : LoopSt) (n : Nat) : Int := ((if n < 16 && n % 2 = 1 then x.annHi else x.annLo : Nat) : Int) * 16384

/-- The inputs of cell `i`'s evaluation (R174 to R177, R196 to R198, R201). -/
def lawIn (s : State) (k : FrameCtx) (e : SchedEntry) (i : Nat) : LawIn :=
  let c := s.cell i
  let x := s.loopE k.d
  let n := cellNet i
  let hit := x.inj.run && x.inj.cell = e.cell
  { uPrev := (c.applied.toNat : Int) * 4096, vin := divNear ((x.vinMv : Int) * 1048576) 1000, vref := q20OfUv (vrefUv s n),
    vm := c.vQ, im := cellIm c, inet := (s.net n).iQ, sc := shareQ s i, iann := annQ x n,
    dmax := (calDutyMax s i : Int) * 4096, ext := e.ext, extFrame := extFrame e k.frame,
    injRef := if hit && !x.inj.point then k.inj else 0, injDuty := if hit && x.inj.point then k.inj else 0,
    preset := c.preset, transfer := c.transfer && !c.manual }

/-- The coefficient set of an entry: that of the cell's present range (R174). -/
def setOf (s : State) (e : SchedEntry) (i : Nat) : Nat := if (s.cell i).range then e.setH else e.setL

/-- A contact step (R287): x4 moved by more than 2 mV in four frames while x1 moved by less than 0.1 A. A preset of the observer is no
step (log entry 41). -/
def isStep (c : CellSt) (x1 x4 : Int) : Bool :=
  match c.past[3]? with
  | none => false
  | some (o1, o4) => !c.preset && 2 * 1048576 < 1000 * (x4 - o4).natAbs && 10 * (x1 - o1).natAbs < 65536

/-- What an evaluation leaves in its cell: observer, sums of R284, steps of R287, and the duty unless it is discarded or
held (R158, R197, R212). -/
def lawStore (s : State) (c : CellSt) (o : LawOut) : CellSt :=
  let st := isStep c o.x1 o.x4
  let c1 := { c with
    x1 := o.x1, x2 := o.x2, x3 := o.x3, x4 := o.x4, ush := o.ush, uext := o.uext, preset := false,
    sumX1 := c.sumX1 + o.x1, sumX4 := c.sumX4 + o.x4, sumN := c.sumN + 1, past := if c.preset then [] else c.past,
    steps := if st then satInc c.steps 0xFFFF else c.steps,
    stepTicks := if st then s.ao.ticks :: c.stepTicks.filter (fun t => withinUs s t 1000000) else c.stepTicks }
  if c.manual then c1
  else if c.held then { c1 with transfer := false }
  else { c1 with z := o.z, transfer := false, shadow := BitVec.ofNat 12 o.d, shadowHost := false }

/-- The events of contact steps (R287): cause 4, which is no criterion of Tables 9.1 and 9.2 (R294). -/
def stepsJudge (s : State) (i : Nat) : State :=
  let n := lastSteps s i
  if n < 8 then s
  else
    let s := logLimited s (0x1065 * 65536 + i) 1000000 0x1065 1 (.cell i) [i, n, 0, 0]
    if 64 ≤ n then isolateCell s i 4 else s

/-- An overrun: counted, logged, and the cell's next sample is discarded (R194). -/
def overrunSeen (s : State) (i cj stall : Nat) : State :=
  let d := cellDie i
  let s := s.modCell i (fun c => { c with overruns := satInc c.overruns 0xFFFF, discard := true })
  let s := raise (s.modLoop d (fun x => { x with overrunTotal := satInc x.overrunTotal 0xFFFF })) (.loop d) 0
  logLimited s (0x1030 * 65536 + i) 1000 0x1030 2 (.loop d) [i, (s.cell i).overruns, cj, stall]

/-- One entry of the schedule. An entry that is not evaluated passes in 0 slots (R190). -/
def evalEntry (k : FrameCtx) (a : FrameAcc) (e : SchedEntry) : FrameAcc :=
  let i := dieFirst k.d + e.cell
  let c := a.s.cell i
  if c.discard then { a with s := a.s.setCell i { c with discard := false } }
  else if !switching a.s i then a
  else
    let cf := coefOf a.s k.d (a.s.loopE k.d).coefAct (setOf a.s e i)
    let inp := lawIn a.s k e i
    let o := evalLaw cf c inp
    let cum := a.cum + entryCost e k.frame
    let fin := k.base + cum
    let late := k.both && 200 < cum && 220 < fin
    let s1 := a.s.setCell i (lawStore a.s c o)
    let s2 := if late then overrunSeen s1 i cum k.stall else s1
    let s3 := if isStep c o.x1 o.x4 then stepsJudge s2 i else s2
    let t := if a.tgt.cell = e.cell then
        { a.tgt with eval := true, overrun := late, clamped := o.clamped, ext := e.ext && extFrame e k.frame, u := o.u,
                     vref := inp.vref, iann := inp.iann }
      else a.tgt
    { s := s3, cum := cum, late := max a.late (fin - 220), tgt := t }

/-! ### Capture (R204, R208, R213, Table 6.8) -/

/-- The capture's trigger falls in this frame (Table 6.22); an overrun is known at the frame's end. -/
def capTriggers (x : LoopSt) (d : Nat) (overrun : Bool) : Bool :=
  match x.cap.trig with
  | 0 => true
  | 1 => noteWaits x (cellNet (dieFirst d + x.cap.cell))
  | 2 => overrun
  | _ => x.inj.started

/-- A record is due in this frame. -/
def capDue (c : CapSt) (trg : Bool) : Bool := c.busy && (c.triggered || trg) && c.frames % 2 ^ c.cdec = 0

/-- Words of a record (Table 6.8). -/
def capWords (s : State) (k : FrameCtx) (t : FrameRec) (u : Word) (v : Int) (mark note : Bool) : List Word :=
  let x := s.loopE k.d
  let c := s.cell (dieFirst k.d + x.cap.cell)
  let q (i : Int) : Word := BitVec.ofInt 32 i
  let narrow := [q c.vQ, q (cellIm c), u,
    word [(0, twos 16 v), (16, k.frame % 256), (24, b2n t.overrun), (25, b2n t.clamped), (26, b2n mark), (27, b2n t.ext), (28, b2n note)]]
  if x.cap.wide then narrow ++ [q c.x1, q c.x2, q c.x3, q c.x4, q c.z, q c.uext, q t.vref, q t.iann] else narrow

/-- One record is written; the last sets DONE and CAP_DONE (R204). -/
def capWrite (s : State) (d : Nat) (ws : List Word) : State :=
  let x := s.loopE d
  let c := x.cap
  let at_ := c.records * (if c.wide then 12 else 4)
  let n := c.records + 1
  let fin := n = c.length
  let s := s.setLoop d { x with cap := { c with
    buf := putList 0 c.buf at_ ws, records := n, busy := !fin, done := fin, triggered := !fin } }
  if fin then raise s (.loop d) 2 else s

/-- The capture at the end of a frame. A target that was not evaluated has no u in the frame: that word is free (log
entry 10). -/
def capFrame (s : State) (k : FrameCtx) (t : FrameRec) (v : Int) (trg mark note : Bool) : State :=
  let c := (s.loopE k.d).cap
  if !c.busy then s
  else
    let go := c.triggered || trg || (c.trig = 2 && t.overrun)
    let due := go && c.frames % 2 ^ c.cdec = 0
    let s1 := s.modLoop k.d (fun x => { x with cap := { x.cap with triggered := go, frames := if go then x.cap.frames + 1 else 0 } })
    if !due then s1
    else
      let (u, s2) := if t.eval then (BitVec.ofInt 32 t.u, s1) else freeVal s1
      capWrite s2 k.d (capWords s2 k t u v mark note)

/-! ### The frame -/

/-- Net output and I_net of the frame (R146, Table 5.17), and the counts of an excursion and of a short (R171, R272). -/
def netMeasure (s : State) (n : Nat) : State :=
  let l := cellsIn s n
  let iq := ((netCells n).map (fun i => if (s.cell i).isolated then 0 else cellIm (s.cell i))).sum
  let v := divNear ((l.map (fun i => (s.cell i).vQ)).sum) l.length
  let ref := q20OfUv (vrefUv s n)
  s.modNet n (fun x =>
    if l = [] then { x with iQ := iq }
    else shortWatch (bandWatch { x with iQ := iq, voutMv := (mvOf v).toNat } v ref) v ref (capacityMa s n))

/-- The scrub's stall in a frame: at most 8 slots, at most once in 64 consecutive frames (R192). -/
def scrubStall (x : LoopSt) (frame slots : Nat) : Nat :=
  if x.scrubFrame.all (fun f => 64 ≤ (frame + 2 ^ 32 - f) % 2 ^ 32) then min slots 8 else 0

/-- The record of a target that no entry evaluates: V_ref and I_ann of its net, and whether the frame is an extended one of its entry
(Table 6.8). -/
def tgtStart (s : State) (d : Nat) (es : List SchedEntry) (frame cell : Nat) : FrameRec :=
  let n := cellNet (dieFirst d + cell)
  { cell := cell, ext := (es.find? (fun e => e.cell = cell)).any (fun e => extFrame e frame), vref := q20OfUv (vrefUv s n),
    iann := annQ (s.loopE d) n }

/-- The frame boundary: cells of a net that has been disabled stop switching (R155, R646). -/
def frameBoundary (s : State) (d : Nat) : State :=
  forEach ((dieNets d).filter (fun n => (s.net n).st = .falling)) s netCellsOff

/-- LOOP_FRAME: the Hearth hears of the faults of the frame that ends (R297); then one frame of engine `d`, from the results that
reach it to its capture record (R174 to R213); the nets that its measurement lets the Hearth enable, and the notices of the next
frame, follow it (R151, R253). -/
def execLoopFrame (d : Nat) (samples : List CellSample) (scrubSlots : Nat) (s : State) : Host.Outcome State Fault Refusal :=
  let s := if d < 12 && (s.loopE d).clk then hearNow s d else s
  if 12 ≤ d || !(s.loopE d).clk then .next s
  else
    let s := forEach samples (frameBoundary s d) (takeSample d)
    let s := s.modLoop d (fun x => { x with frame := x.frame + 1 })
    let x := s.loopE d
    let note := noteWaits x (cellNet (dieFirst d + x.cap.cell))
    let trg := capTriggers x d false
    let s := takeNotes (takeSwap s d) d
    let frame := x.frame.toNat
    let scrub := scrubStall x frame scrubSlots
    let wide := x.cap.wide && capDue x.cap trg
    let stall := scrub + (if wide then 10 else 0)
    let v := if x.inj.run then injV x.inj else 0
    let (iv, clip) := injValue x.inj
    let s := if x.inj.run && clip then raise s (.loop d) 3 else s
    let k : FrameCtx := { d := d, frame := frame, base := 2 + stall, stall := stall, both := wide && 0 < scrub, inj := iv }
    let es := entries s d (s.loopE d).schedAct
    let a := es.foldl (evalEntry k) { s := s, cum := 0, late := 0, tgt := tgtStart s d es frame x.cap.cell }
    let s := capFrame a.s k a.tgt v trg (samplesMark samples) note
    let s := s.modLoop d (fun y => { y with
      late := a.late, scrubFrame := if 0 < scrub then some frame else y.scrubFrame,
      inj := if y.inj.run then { injAdvance y.inj with started := false } else y.inj })
    let s := trimsSettle (frameEnable (forEach (dieNets d) s netMeasure) d) d false
    .next (if d < 8 then noticeFrame s d else s)

end Sys2Proof.Machine
end

