-- ==== Sys2Proof/Machine/Hmac.lean ====
section
/-!
DEFINITION. SHA-256 (FIPS 180-4) and HMAC (FIPS 198-1), as the tag of TMB frames uses them (R594).
-/
namespace Sys2Proof.Machine
open Sys2Proof

/-! ### Constants: the first 32 bits of the fractional parts of roots of primes (FIPS 180-4) -/

/-- The first 64 primes. -/
def shaPrimes : List Nat := (List.range 312).filter (fun n => 2 ≤ n && (List.range 18).all (fun d => d < 2 || n = d || n % d ≠ 0))

/-- The greatest number whose `e`-th power is at most `n`, bit by bit from bit 35. -/
def rootOf (e n : Nat) : Nat :=
  (List.range 36).foldr (fun k r => r + (if (r + 2 ^ k) ^ e ≤ n then 2 ^ k else 0)) 0

/-- 32 bits after the point of the `e`-th root of a prime. -/
def rootBits (e p : Nat) : Word := w32 (rootOf e (p * 2 ^ (32 * e)))

/-- The constants of the 64 steps. -/
def stepConsts : List Word := shaPrimes.map (rootBits 3)

/-- The hash before the first block. -/
def firstHash : List Word := (shaPrimes.take 8).map (rootBits 2)

/-! ### The hash -/

/-- A word turned right by each of these amounts, the results added bit by bit. -/
def turned (amounts : List Nat) (x : Word) : Word := (amounts.map (fun n => x.rotateRight n)).foldl (· ^^^ ·) 0

/-- One step on the eight words, given its constant plus its schedule word. -/
def hashStep (x : List Word) (kw : Word) : List Word :=
  match x with
  | [a, b, c, d, e, f, g, h] =>
    let t := kw + h + turned [6, 11, 25] e + (g ^^^ (e &&& (f ^^^ g)))
    [turned [2, 13, 22] a + ((a &&& b) ||| (c &&& (a ||| b))) + t, a, b, c, t + d, e, f, g]
  | _ => x

/-- The schedule word after these, which stand newest first. -/
def nextWord (l : List Word) : Word :=
  (turned [17, 19] (l.getD 1 0) ^^^ (l.getD 1 0) >>> 10) + l.getD 6 0 +
  (turned [7, 18] (l.getD 14 0) ^^^ (l.getD 14 0) >>> 3) + l.getD 15 0

/-- The 64 schedule words of a block. -/
def schedule (blk : List Word) : List Word := ((List.range 48).foldl (fun l _ => nextWord l :: l) blk.reverse).reverse

/-- The hash after one more block of 16 words. -/
def hashBlock (x blk : List Word) : List Word :=
  List.zipWith (· + ·) x ((List.zipWith (· + ·) stepConsts (schedule blk)).foldl hashStep x)

/-- The first `n` groups of `k` elements. -/
def groups {α : Type} (k : Nat) : Nat → List α → List (List α)
  | 0, _ => []
  | n + 1, l => l.take k :: groups k n (l.drop k)

/-- The blocks of a message: its bytes, a 1 bit, 0 bits, and its length in bits in the last eight bytes. -/
def hashBlocks (m : List Byte) : List (List Word) :=
  let p := m ++ [0x80] ++ List.replicate ((119 - m.length % 64) % 64) 0 ++ (leBytes 8 (8 * m.length)).reverse
  groups 16 (p.length / 64) ((groups 4 (p.length / 4) p).map (fun b => w32 (leNat b.reverse)))

/-- SHA-256. -/
def sha256 (m : List Byte) : List Byte :=
  ((hashBlocks m).foldl hashBlock firstHash).flatMap (fun w => (leBytes 4 w.toNat).reverse)

/-- HMAC-SHA-256 with a key of at most 64 bytes. -/
def hmac (key m : List Byte) : List Byte :=
  let k := key ++ List.replicate (64 - key.length) 0
  sha256 (k.map (· ^^^ 0x5C) ++ sha256 (k.map (· ^^^ 0x36) ++ m))

/-- The tag of a frame: the first 16 bytes (R594). -/
def frameTag (key nonceR nonceD bytes : List Byte) : List Byte := (hmac key (nonceR ++ nonceD ++ bytes)).take 16

end Sys2Proof.Machine
end

