-- ==== Sys2Proof/Machine/Power.lean ====
section
/-!
DEFINITION. Rails, clocks, bring-up and power-state requests as commands (chapters 02 and 20), and the BOOT page.
-/
namespace Sys2Proof.Machine
open Sys2Proof

/-! ### Rails (R43, R44, R58, R638, R658) -/

/-- VSB_VALID: the AO domain starts, samples its address straps and counts ticks from 0 (R39, R43, R100, R586). -/
def execVsbValid (straps : BitVec 5) (s : State) : Host.Outcome State Fault Refusal :=
  if s.ao.vsb then .next s
  else .next (autoWake (absence { s with ao := { s.ao with vsb := true, ticks := 0, tmbAddr := straps, wakeTick := 0, cold := true } }))

/-- VSB_INVALID: the AO domain loses everything, the trip latch and the image with it (R43, R322, R632). -/
def execVsbInvalid (s : State) : Host.Outcome State Fault Refusal :=
  .next { pending := s.pending, out := s.out, free := s.free, ao := { vin := s.ao.vin, vhbm := s.ao.vhbm, perst := s.ao.perst } }

/-- VIN_VALID (R43, R44). -/
def execVinValid (s : State) : Host.Outcome State Fault Refusal :=
  if s.ao.vin then .next s else .next (autoWake { s with ao := { s.ao with vin := true } })

/-- VIN_LOST: above Banked the package goes to Banked at once; an automatic store may start (R58, R624, R625). -/
def execVinLost (s : State) : Host.Outcome State Fault Refusal :=
  if !s.ao.vin then .next s
  else
    let s := { s with ao := { s.ao with vin := false } }
    let s := if hubOn s && s.trip.isNone then bankAtOnce s else s
    .next (if s.ao.vsb then autoStore s else s)

/-- VHBM_VALID (R638). -/
def execVhbmValid (s : State) : Host.Outcome State Fault Refusal := .next { s with ao := { s.ao with vhbm := true } }

/-- Tiles that are Kindled or Stoked, or between the two. -/
def workingTiles (s : State) : List Nat := (List.range 8).filter (fun t => (s.tile t).settled ≠ 0 && (s.tile t).st ≠ .off && !(s.tile t).forced)

/-- VHBM_LOST: VHBM has fallen below 1.067 V; each Kindled or Stoked tile is lost as with a tile net, without the later bar
(R658). -/
def execVhbmLost (mv : Nat) (s : State) : Host.Outcome State Fault Refusal :=
  let ts := workingTiles s
  let s1 := { s with ao := { s.ao with vhbm := false } }
  if 1067 ≤ mv then .next s
  else if ts = [] then .next s1
  else
    let s1 := logEvent s1 0x1015 3 .boot [(ts.map (fun t => 2 ^ t)).sum, mv, 0, 0]
    .next (noted s (rejudge (forEach ts s1 (fun s t => forceOff s t (.lost 4)))))

/-! ### Clocks (R39 to R42, R659) -/

/-- AO_LOCK: timestamps lose bit 47 (R39, R40). -/
def execAoLock (s : State) : Host.Outcome State Fault Refusal :=
  .next (if s.ao.vsb then { s with ao := { s.ao with aoLock := true, lockFailDue := false } } else s)

/-- Event 0x8004 is logged once the hub runs (R659). -/
def logLockFail (s : State) : State :=
  if s.ao.lockFailDue && hubOn s && s.power.stage ≠ .pll then
    logEvent { s with ao := { s.ao with lockFailDue := false } } 0x8004 2 .boot [msSince s 0, 0, 0, 0]
  else s

/-- AO_LOCK_TIMEOUT: 500 ms have passed since VSB became valid, without lock (R659). -/
def execAoLockTimeout (s : State) : Host.Outcome State Fault Refusal :=
  .next (if s.ao.vsb && !s.ao.aoLock && !withinUs s 0 500000 then logLockFail { s with ao := { s.ao with lockFailDue := true } } else s)

/-- The loop-engine clock of die `d` runs: FRAME counts from 0 and the Hearth has loaded both banks (R184, R188). A tile Kindled again
within one hub start gets the sets and schedules of that start, and words written before are gone (DESIGN CHOICE, log entry 100). -/
def loopClkOn (s : State) (d : Nat) : State :=
  s.modLoop d (fun x => { x with clk := true, frame := 0, coef0 := [], coef1 := [], sched0 := [], sched1 := [], late := 0, scrubFrame := none })

/-- CLOCK_LOCK: the transition that started the clock goes on (R41, Tables 2.5 and 5.3). A loop engine's clock starts its loop ADCs, and
the first frame measures the output from which the net's ramp begins (R217, `frameEnable`). -/
def execClockLock (c : Clock) (s : State) : Host.Outcome State Fault Refusal :=
  match c with
  | .hubPll =>
    if s.power.stage = .pll then
      .next (logLockFail { s with power := { s.power with stage := .copyA, hubPll := true, norDriven := true } })
    else .next s
  | .loopClk d =>
    if d < 8 then
      (if (s.tile d).st = .rising && (s.tile d).kindle = .loopClk then
        .next ((loopClkOn s d).modTile d (fun x => { x with kindle := .sram }))
      else .next s)
    else if d = 11 then
      (if s.power.stage = .hubNet && !(s.loopE 11).clk then .next (loopClkOn s 11) else .next s)
    else if d < 11 && s.power.stage = .edgeNets && !(s.loopE d).clk && (s.net (d + 8)).attempts < 2 && !(s.net (d + 8)).dead then
      .next (loopClkOn s d)
    else .next s
  | .tilePll t =>
    if t < 8 && (s.tile t).st = .rising && (s.tile t).kindle = .pll then
      .next (s.modTile t (fun x => { x with pll := true, kindle := .phy }))
    else .next s
  | .hbmPhy t =>
    if t < 8 && (s.tile t).st = .rising && (s.tile t).kindle = .phy then
      .next (s.modTile t (fun x => { x with phy := true, kindle := .done }))
    else .next s

/-- CLOCK_LOCK_TIMEOUT: the transition that started the clock fails (R42, R64; log entry 32). -/
def execClockLockTimeout (c : Clock) (s : State) : Host.Outcome State Fault Refusal :=
  match c with
  | .hubPll => if s.power.stage = .pll then .next (bootFailed s) else .next s
  | .loopClk d =>
    if d < 8 then
      (if (s.tile d).st = .rising && (s.tile d).kindle = .loopClk then .next (noted s (tileFail s d 0)) else .next s)
    else if d = 11 then
      (if s.power.stage = .hubNet && !(s.loopE 11).clk then .next (bootFailed s) else .next s)
    else if d < 11 && s.power.stage = .edgeNets && !(s.loopE d).clk then
      .next (edgesCheck (s.modNet (d + 8) (fun x => { x with attempts := 2 })))
    else .next s
  | .tilePll t =>
    if t < 8 && (s.tile t).st = .rising && (s.tile t).kindle = .pll then .next (noted s (tileFail s t 1)) else .next s
  | .hbmPhy t =>
    if t < 8 && (s.tile t).st = .rising && (s.tile t).kindle = .phy then .next (noted s (tileFail s t 2)) else .next s

/-! ### Boot (R46, R47, R62, R63, R619, R622) -/

/-- What the verification of a copy found: 3 is no failure (R47, Table 3.22). -/
def copyFail (c : CopyCheck) : Nat :=
  if 6291456 < c.length || !c.readOk then 0 else if !c.digestOk then 1 else if !c.signatureOk then 2 else 3

/-- BOOT_COPY_VERIFIED (R47, R62). -/
def execBootCopyVerified (c : CopyCheck) (s : State) : Host.Outcome State Fault Refusal :=
  let f := copyFail c
  match s.power.stage with
  | .copyA =>
    if f = 3 then .next { s with power := { s.power with stage := .slots, copy := 0 } }
    else .next (logEvent { s with power := { s.power with stage := .copyB, failA := f } } 0x8001 2 .boot [f, 0, 0, 0])
  | .copyB =>
    if f = 3 then .next { s with power := { s.power with stage := .slots, copy := 1 } }
    else
      let s := { s with power := { s.power with failB := f } }
      .next (bootFailed (logEvent s 0x8002 4 .boot [s.power.failA, f, 0, 0]))
  | _ => .next s

/-- CAL_SLOTS_READ: a slot is selected, or the factory calibration; the tray key is loaded; in cold bring-up the hold-up is
measured next, unless a store that runs has measured it (R598, R619, R622, R630, R63). -/
def execCalSlotsRead (a b : SlotBytes) (s : State) : Host.Outcome State Fault Refusal :=
  if s.power.stage = .slots then
    let s := selectCal s a b
    let s := { s with tmb := { s.tmb with key := calKey s } }
    if s.ao.cold && !(storing s && !s.cal.measuring) then .next (startMeasure { s with power := { s.power with stage := .holdup } })
    else .next { s with power := { s.power with stage := .hubNet } }
  else .next s

/-- HOLDUP_MEASURE_DONE (R622). -/
def execHoldupMeasureDone (vStart dropB dropL : Nat) (s : State) : Host.Outcome State Fault Refusal :=
  if s.cal.measuring then
    let s := finishMeasure s vStart dropB dropL
    .next (if s.power.stage = .holdup then { s with power := { s.power with stage := .hubNet } } else s)
  else .next s

/-- DEVICE_READY (R46, R49, Table 3.23). -/
def execDeviceReady (s : State) : Host.Outcome State Fault Refusal :=
  if s.power.stage = .train then
    let ms := min (msSince s (if s.ao.cold then 0 else s.ao.wakeTick)) 0xFFFF
    let s1 := { s with power := { s.power with stage := .ready, bringupMs := ms } }
    .next (raise (raise (logEvent s1 0x1010 0 .boot [s.power.wakeFrom, 2, 0, whoMoves s]) .boot 0) .boot 1)
  else .next s

/-! ### Nets of a transition (R151, R153, R155, R170, Table 5.3) -/

/-- NET_RAMP_DONE: the net is ON, and what waits for it follows. -/
def execNetRampDone (n : Nat) (s : State) : Host.Outcome State Fault Refusal :=
  if (s.net n).st ≠ .rising then .next s
  else
    let s := netOn s n
    if n < 16 then
      let t := n / 2
      if (s.tile t).st ≠ .rising then .next s
      else if n % 2 = 1 && (s.tile t).kindle = .sram then .next (coreStart s t)
      else if (s.tile t).kindle = .core && (s.net (2 * t)).st = .on && (s.net (2 * t + 1)).st = .on then
        .next (s.modTile t (fun x => { x with kindle := .pll }))
      else .next s
    else if n = 19 then
      .next (if s.power.stage = .hubNet then { s with power := { s.power with stage := .edgeNets } } else s)
    else .next (edgesCheck s)

/-- NET_RAMP_TIMEOUT (R170): a tile's transition fails; nets 16 to 18 are tried once more and then left off; net 19 fails
the boot. -/
def execNetRampTimeout (n mv : Nat) (s : State) : Host.Outcome State Fault Refusal :=
  if (s.net n).st ≠ .rising then .next s
  else
    let k := (s.net n).attempts + 1
    let s1 := s.modNet n (fun x => { x with attempts := k, voutMv := mv })
    let s1 := logEvent s1 0x1020 3 (.net n) [n, calSetpoint s n, mv, k]
    if n < 16 then .next (noted s (tileFail (netDisable (s1.modNet n (fun x => { x with attempts := 0 })) n) (n / 2) 0))
    else if n = 19 then .next (bootFailed s1)
    else if k < 2 then .next (netEnable (netDisable s1 n) n)
    else .next (edgesCheck (netDisable s1 n))

/-- The frames of a die have ended: the Hearth hears of its last faults (R289, R297). -/
def framesEnded (s : State) (d : Nat) : State := if (s.loopE d).clk then s else hearNow s d

/-- NET_DISCHARGED: the net is OFF; a falling tile goes on with its other net, or is Off; a die without its net loses its
loop-engine clock (R153, R155, R298). -/
def execNetDischarged (n : Nat) (s : State) : Host.Outcome State Fault Refusal :=
  if (s.net n).st ≠ .falling then .next s
  else
    let s1 := netOff s n
    if n < 16 then .next (noted s (settlePending (framesEnded (tileFallStep s1 (n / 2)) (n / 2))))
    else .next (framesEnded (clearLocks (sensorsOff (surveyOff (s1.modLoop (n - 8) (fun x => { x with clk := false })) (n - 8)) (n - 8))
      (n - 8)) (n - 8))

/-! ### Requests (R33, R38, R57, R94) -/

/-- A write of PWR_REQ (Table 3.20). -/
def writePwrReq (w : RegWrite) (s : State) : State × RefCode :=
  let r : PwrReq := ⟨fld w.value.toNat 0 4, BitVec.ofNat 8 (fld w.value.toNat 8 8), w.master.num⟩
  let c := reqCheck s r
  let vf : Bool := match w.master with | .vf _ => true | _ => false
  guarded s .boot 0x48 w
    { exempt := true, notOwner := vf, tripped := c = .tripped, outOfRange := !w.full || !reqLegal r, wrongState := c = .wrongState,
      ledgerFault := c = .ledgerFault, budget := c = .budget }
    (fun s => noted s (acceptReq s r))

/-- PWR_REQ_OFF. -/
def execPwrReqOff (w : RegWrite) (s : State) : Host.Outcome State Fault Refusal := .next (writePwrReq w s).1
/-- PWR_REQ_BANKED. -/
def execPwrReqBanked (w : RegWrite) (s : State) : Host.Outcome State Fault Refusal := .next (writePwrReq w s).1
/-- PWR_REQ_SMOULDERING. -/
def execPwrReqSmouldering (w : RegWrite) (s : State) : Host.Outcome State Fault Refusal := .next (writePwrReq w s).1
/-- PWR_REQ_KINDLED. -/
def execPwrReqKindled (w : RegWrite) (s : State) : Host.Outcome State Fault Refusal := .next (writePwrReq w s).1
/-- PWR_REQ_STOKED. -/
def execPwrReqStoked (w : RegWrite) (s : State) : Host.Outcome State Fault Refusal := .next (writePwrReq w s).1

/-! ### BOOT page (Tables 3.17 to 3.23) -/

/-- PWR_RESULT. -/
def pwrResult (s : State) : Word :=
  word [(0, s.power.outcome), (8, s.power.code), (16, s.power.requester), (24, s.power.reached.toNat)]

/-- TILE_STATE. -/
def tileStateWord (s : State) : Word := word ((List.range 8).map (fun t => (4 * t, tileCode s t)))

def readBoot (s : State) (off : Nat) : Word :=
  match off with
  | 0x40 => word [(0, pkgCode s), (4, (s.power.pending.map (·.target)).getD 0xF)]
  | 0x44 => tileStateWord s
  | 0x4C => pwrResult s
  | 0x50 => word [(0, s.power.copy), (2, s.power.failA), (4, s.power.failB), (6, s.power.calSlot), (8, b2n s.ao.hold), (9, b2n s.ao.aoLock)]
  | 0x54 => word [(0, s.power.bringupMs)]
  | _ => 0

def writeBoot (off : Nat) (w : RegWrite) (s : State) : State × RefCode :=
  match off with
  | 0x48 => writePwrReq w s
  | _ => roWrite s .boot off w

end Sys2Proof.Machine
end

