-- ==== Sys2Proof/Machine/Plate.lean ====
section
/-!
DEFINITION. Plates (chapter 14): the plate file as admission reads it, placement, the commands LOAD, UNLOAD and NOP, and when
a fetched command may begin (chapter 15).
-/
namespace Sys2Proof.Machine
open Sys2Proof

/-! ### When a command may begin (R447, R454, R488) -/

/-- The command executes: it does not wait as a duplicate. -/
def executes (c : Cmd) : Bool := c.dupOf.isNone

/-- An earlier command of its queue keeps this one from beginning (R488). -/
def heldBy (c o : Cmd) : Bool :=
  o.queue = c.queue && o.order < c.order && ((executes o && o.st = .fetched) || (c.desc.flag 2 && o.st ≠ .completing))

/-- The command in the slot may begin as far as order goes (R488; loads device-wide, R447). -/
def mayBegin (s : State) (c : Cmd) : Bool :=
  c.st = .fetched && executes c && !(slotList s).any (fun e => heldBy c e.2) &&
  (c.desc.opcode ≠ 1 || !(slotList s).any (fun e => e.2.desc.opcode = 1 && executes e.2 && e.2.st = .fetched && e.2.order < c.order))

/-! ### Partitions and plates -/

/-- The partition of a tenant, when it is assigned (R445). -/
def partOf (s : State) (n : Nat) : Option Nat := if (s.tenant n).assigned then some (s.tenant n).part else none

/-- The definition has something on tile `t`. -/
def defOn (d : PartDef) (t : Nat) : Bool :=
  look 0 d.cores t ≠ 0 || look 0 d.memPages t ≠ 0 || look 0 d.tallyCount t ≠ 0

/-- The tiles of a partition. -/
def partTiles (s : State) (p : Nat) : List Nat := (List.range 8).filter (defOn (s.part p).active)

/-- Every admitted plate, with its tenant. -/
def allPlates (s : State) : List (Nat × Plate) :=
  s.tenants.flatMap (fun e => e.2.plates.filterMap (fun h => h.2.map (fun p => (e.1, p))))

/-- Every placed slot on tile `t`, with its plate's tallies a slot. -/
def slotsOn (s : State) (t : Nat) : List (PSlot × Nat) :=
  (allPlates s).flatMap (fun e => (e.2.slots.filter (fun x => x.tile = t)).map (fun x => (x, e.2.tallies)))

/-- Tallies held by a tenant's plates (R461). -/
def talliesHeld (s : State) (n : Nat) : Nat :=
  ((s.tenant n).plates.map (fun h => h.2.elim 0 (fun p => p.slots.length * p.tallies))).sum

/-- Plates a tenant holds. -/
def platesHeld (s : State) (n : Nat) : Nat := ((s.tenant n).plates.filter (fun h => h.2.isSome)).length

/-- First byte of a page. -/
def pageAddr (t p : Nat) : Nat := t * 2 ^ 36 + p * 2 ^ 21

/-- The bytes lie wholly in the partition's pages (R490, Table 14.5). -/
def inPages (s : State) (p a n : Nat) : Bool :=
  let d := (s.part p).active
  (List.range 8).any (fun t =>
    pageAddr t (look 0 d.memBase t) ≤ a && a + n ≤ pageAddr t (look 0 d.memBase t + look 0 d.memPages t) && look 0 d.memPages t ≠ 0)

/-- The bytes touch a page of an admitted plate. -/
def inPlate (s : State) (a n : Nat) : Bool :=
  (allPlates s).any (fun e => e.2.slots.any (fun x =>
    a < pageAddr x.tile (x.base + x.pages) && pageAddr x.tile x.base < a + n))

/-- The bytes can be read: a stack in use and no poisoned line. -/
def cleanRead (s : State) (a n : Nat) : Bool := stackUp s (dpaStack a) && mappedAll s a n && (firstPoison s a n).isNone

/-- The file's bytes can be read where admission looks for them (Table 14.5, check 3). -/
def fileAt (s : State) (p a n : Nat) : Bool := inPages s p a n && !inPlate s a n && cleanRead s a n

/-! ### The plate file (Tables 14.2 to 14.4) -/

/-- The little-endian number of `n` bytes at offset `o`. -/
def num (f : List Byte) (o n : Nat) : Nat := leNat ((f.drop o).take n)

/-- The bytes are all 0. -/
def zeros (f : List Byte) (o n : Nat) : Bool := ((f.drop o).take n).all (fun b => b = 0)

/-- A slot declaration (Table 14.3). -/
structure Decl where
  off : Nat
  mask : DWord
  weights : Nat
  scratch : Nat
  image : Nat
  entry : Nat
  deriving DecidableEq, Repr

/-- An image table entry (Table 14.4). -/
structure Image where
  off : Nat
  at_ : Nat
  size : Nat
  deriving DecidableEq, Repr

def declAt (f : List Byte) (o : Nat) : Decl :=
  ⟨o, BitVec.ofNat 64 (num f o 8), num f (o + 8) 4, num f (o + 12) 4, num f (o + 16) 2, num f (o + 18) 2⟩

def imageAt (f : List Byte) (o : Nat) : Image := ⟨o, num f o 4, num f (o + 4) 4⟩

/-- The slot declarations. -/
def declsOf (f : List Byte) : List Decl := (List.range (num f 16 2)).map (fun j => declAt f (num f 32 4 + 32 * j))

/-- The image table. -/
def imagesOf (f : List Byte) : List Image := (List.range (num f 40 2)).map (fun k => imageAt f (num f 36 4 + 16 * k))

/-- Number of cores of a mask. -/
def maskCount (m : DWord) : Nat := popCount 64 m.toNat

/-- The cores the file declares. -/
def fileCores (f : List Byte) : Nat := ((declsOf f).map (fun d => maskCount d.mask)).sum

/-- The file's CRC as Table 14.2 computes it. -/
def fileCrc (f : List Byte) : Nat := (crc32c (f.take 12 ++ [0, 0, 0, 0] ++ f.drop 16)).toNat

/-- The rules of Table 14.2 by byte offset, each true when kept. -/
def headerRules (f : List Byte) : List (Nat × Bool) :=
  let size := f.length
  [(0, num f 0 4 = 0x45544C50), (4, num f 4 2 = 1), (6, num f 6 2 = 128), (8, num f 8 4 = size && 128 ≤ size),
   (12, num f 12 4 = fileCrc f), (16, 1 ≤ num f 16 2 && num f 16 2 ≤ 8), (18, num f 18 2 ≤ 1), (20, num f 20 4 ≤ 0x17FF00),
   (24, fileCores f ≤ num f 24 4 && num f 24 4 ≤ 8 * fileCores f), (28, num f 28 2 ≤ 512), (30, num f 30 2 < 256),
   (32, num f 32 4 % 8 = 0 && num f 32 4 + 32 * num f 16 2 ≤ size), (36, num f 36 4 % 8 = 0 && num f 36 4 + 16 * num f 40 2 ≤ size),
   (40, 1 ≤ num f 40 2 && num f 40 2 ≤ 16), (42, zeros f 42 22), (96, zeros f 96 32)]

/-- The rules of Table 14.3. -/
def declRules (f : List Byte) (d : Decl) : List (Nat × Bool) :=
  [(d.off, d.mask ≠ 0), (d.off + 16, d.image < num f 40 2),
   (d.off + 18, d.entry % 8 = 0 && d.entry < ((imagesOf f)[d.image]?).elim 0 (·.size)), (d.off + 20, zeros f (d.off + 20) 12)]

/-- The rules of Table 14.4. -/
def imageRules (f : List Byte) (i : Image) : List (Nat × Bool) :=
  [(i.off, i.at_ % 8 = 0 && i.at_ + i.size ≤ f.length), (i.off + 4, i.size % 8 = 0 && 8 ≤ i.size && i.size ≤ 65536),
   (i.off + 8, zeros f (i.off + 8) 8)]

/-- The first broken rule, by its byte offset, in the order of the tables. -/
def firstOff (l : List (Nat × Bool)) : Option Nat := (l.find? (fun r => !r.2)).map (·.1)

/-- The byte offset of the file's first broken field. Declarations and images are judged once the header is good. -/
def fileFault (f : List Byte) : Option Nat :=
  match firstOff (headerRules f) with
  | some o => some o
  | none => firstOff ((declsOf f).flatMap (declRules f) ++ (imagesOf f).flatMap (imageRules f))

/-! ### Placement (R448) -/

/-- The lowest start of `need` free units in `[lo, lo + cnt)`, with `occ` in use as intervals. -/
def fitLow (occ : List (Nat × Nat)) (lo cnt need : Nat) : Option Nat :=
  if need = 0 then some lo
  else
    let occ := occ.filter (fun i => i.1 < i.2)
    ((lo :: occ.map (·.2)).filter (fun x =>
      lo ≤ x && x + need ≤ lo + cnt && occ.all (fun i => i.2 ≤ x || x + need ≤ i.1))).min?

/-- R: the pages a slot needs (R448). -/
def pagesFor (shared : Bool) (d : Decl) (ls : Nat) : Nat :=
  1 + d.weights + d.scratch + (if shared then (maskCount d.mask * (ls + 12288) + 2 ^ 21 - 1) / 2 ^ 21 else 0)

/-- The first condition: the tile's cores (R448). -/
def coresFit (s : State) (p t : Nat) (m : DWord) : Bool :=
  let d := (s.part p).active
  m &&& ~~~ look 0 d.cores t = 0 && (bitsOf 64 m.toNat).all (fun k => (s.core (64 * t + k)).st ≠ .lost) &&
  (d.shared || (slotsOn s t).all (fun x => x.1.mask &&& m = 0))

/-- The second condition: the lowest region of free pages; a stack that cannot be used has none. -/
def memFit (s : State) (p t need : Nat) : Option Nat :=
  let d := (s.part p).active
  if stackUp s t then fitLow ((slotsOn s t).map (fun x => (x.1.base, x.1.base + x.1.pages))) (look 0 d.memBase t) (look 0 d.memPages t) need
  else none

/-- The third condition: the lowest free tallies, by index on the tile. -/
def tallyFit (s : State) (p t n : Nat) : Option Nat :=
  let d := (s.part p).active
  fitLow ((slotsOn s t).map (fun x => (x.1.tally - 512 * t, x.1.tally - 512 * t + x.2))) (look 0 d.tallyBase t) (look 0 d.tallyCount t) n

/-- The three conditions of a tile for a slot. -/
def conditions (s : State) (p t : Nat) (d : Decl) (need tallies : Nat) : List Bool :=
  [coresFit s p t d.mask, (memFit s p t need).isSome, (tallyFit s p t tallies).isSome]

/-- How many conditions are met. -/
def metCount (l : List Bool) : Nat := (l.filter id).length

/-- The resource reported when no tile serves: the first unmet condition on the tile that met the most, the lowest on a tie;
cores when no tile is left (R448). -/
def shortOf (l : List (List Bool)) : Nat :=
  let best := (l.map metCount).foldl max 0
  match l.find? (fun c => metCount c = best) with
  | some c => (c.takeWhile id).length + 1
  | none => 1

/-- One slot placed on the lowest tile that meets the conditions, or the resource that is short. -/
def placeSlot (s : State) (p : Nat) (used : List Nat) (d : Decl) (ls tallies : Nat) : Except Nat PSlot :=
  let need := pagesFor (s.part p).active.shared d ls
  let ts := (partTiles s p).filter (fun t => !used.contains t)
  match ts.find? (fun t => (conditions s p t d need tallies).all id) with
  | some t => .ok { mask := d.mask, tile := t, wPages := d.weights, sPages := d.scratch, image := d.image, entry := d.entry,
                    base := (memFit s p t need).getD 0, pages := need, tally := 512 * t + (tallyFit s p t tallies).getD 0 }
  | none => .error (shortOf (ts.map (fun t => conditions s p t d need tallies)))

/-- Every slot in order, or the resource and the slot that failed (R448). -/
def placeAll (s : State) (p ls tallies : Nat) : List Decl → Nat → List Nat → Except (Nat × Nat) (List PSlot)
  | [], _, _ => .ok []
  | d :: ds, j, used =>
    match placeSlot s p used d ls tallies with
    | .error r => .error (r, j)
    | .ok x =>
      match placeAll s p ls tallies ds (j + 1) (x.tile :: used) with
      | .error e => .error e
      | .ok xs => .ok (x :: xs)

/-! ### Admission (R447, Table 14.5) -/

/-- What admission answers: a refusal with code, resource, failing slot and byte offset, or the plate. -/
inductive Verdict where
  | refuse (code res slot off : Nat)
  | accept (p : Plate)
  deriving DecidableEq, Repr

/-- Offsets of the images in the code page, in order (R449). -/
def packed (l : List Image) (o : Nat) : List (Nat × Nat) :=
  match l with
  | [] => []
  | i :: r => (o, i.size) :: packed r (o + i.size)

/-- Checks 4 to 8 of a good file (Table 14.5). -/
def admitFile (s : State) (n p : Nat) (f : List Byte) : Verdict :=
  let t := s.tenant n
  let slots := num f 16 2
  let tal := num f 28 2
  if (s.part p).active.shared && num f 18 2 = 0 then .refuse 0x02 7 0 0
  else if 8 ≤ platesHeld s n then .refuse 0x07 6 0 0
  else if t.tokQuota < num f 24 4 then .refuse 0x0B 4 0 0
  else if t.tallyQuota < talliesHeld s n + slots * tal then .refuse 0x07 5 0 0
  else match placeAll s p (num f 20 4) tal (declsOf f) 0 [] with
  | .error (r, j) => .refuse 0x07 r j 0
  | .ok xs => .accept {
      part := p, slots := xs, tallies := tal, lsBytes := num f 20 4, maxTokens := num f 24 4, queues := BitVec.ofNat 8 (num f 30 2),
      images := packed (imagesOf f) 0 }

/-- The checks of Table 14.5 in order. -/
def admission (s : State) (n a : Nat) : Verdict :=
  if ledgerFaulted s then .refuse 0x06 0 0 0
  else match partOf s n with
  | none => .refuse 0x02 0 0 0
  | some p =>
    if (partTiles s p).any (fun t => (s.tile t).st ≠ .kindled && (s.tile t).st ≠ .stoked) then .refuse 0x02 0 0 0
    else if !fileAt s p a 128 then .refuse 0x03 0 0 0
    else
      let size := num (memRead s a 128) 8 4
      if size < 128 then .refuse 0x03 0 0 8
      else if !fileAt s p a size then .refuse 0x03 0 0 0
      else
        let f := memRead s a size
        match fileFault f with
        | some o => .refuse 0x03 0 0 o
        | none => admitFile s n p f

/-- The lowest handle a tenant has free. -/
def freeHandle (s : State) (n : Nat) : Nat := ((List.range 8).find? (fun h => plateOf s n h = none)).getD 0

/-- The bytes of the file's images, one after another (R449). -/
def imageBytes (f : List Byte) : List Byte := (imagesOf f).flatMap (fun i => (f.drop i.at_).take i.size)

/-- Admission rewrites the poisoned lines of a code page whole (R422, R472). -/
def scrubPage (s : State) (a : Nat) : State :=
  forEach ((linesOf a (2 ^ 21)).filter (poisoned s)) s (fun s l => memWrite s l (List.replicate 64 0))

/-- The images are copied into every slot's code page (R449). -/
def copyImages (s : State) (p : Plate) (bytes : List Byte) : State :=
  forEach p.slots s (fun s x => memWrite (scrubPage s (slotPage x 0)) (slotPage x 0) bytes)

/-- The tiles a plate uses, as a mask. -/
def plateTiles (p : Plate) : Nat := (p.slots.map (fun x => 2 ^ x.tile)).sum

/-- A plate is admitted: event 0x5001, its handle in ADMIT_RESULT and in the load's record (R449). -/
def admitPlate (s : State) (k n a : Nat) (c : Cmd) (p : Plate) : State :=
  let h := freeHandle s n
  let s := beginCmd s k
  let s := copyImages s p (imageBytes (memRead s a (num (memRead s a 128) 8 4)))
  let s := s.modTenant n (fun t => { t with plates := put none t.plates h (some p), admCode := 0, admRes := 0, admHandle := h, admSlot := 0 })
  let s := raise (logEvent s 0x5001 0 (.tenant n) [n, h, p.part, plateTiles p]) (.tenant n) 0
  completeCmd s k (mkRec s { c with st := .running, startAt := s.ao.ticks } 0 0 0 0 h)

/-- A load is refused: event 0x5002 and the record, nothing else (R447, Table 15.6). -/
def refuseLoad (s : State) (k n : Nat) (c : Cmd) (code res slot off : Nat) : State :=
  let s := s.modTenant n (fun t => { t with admCode := code, admRes := res, admHandle := 0, admSlot := slot })
  let s := raise (logEvent s 0x5002 1 (.tenant n) [n, code, res, slot]) (.tenant n) 1
  completeCmd s k (mkRec s c code off (if code = 0x07 then slot else 0) res c.desc.handle)

/-- The lines an admission reads: the header, then the file (R447). -/
def loadReads (s : State) (n a l : Nat) : Bool :=
  !ledgerFaulted s && (match partOf s n with
    | none => false
    | some p => fileAt s p a 128 && inLines a (max 128 (num (memRead s a 128) 8 4)) l && inPages s p l 64)

/-- LOAD; `ecc` is what the reads of the plate file find (R421, R447 to R450, R464, R491). -/
def execLoad (k : Nat) (ecc : EccFound) (s : State) : Host.Outcome State Fault Refusal :=
  match s.cmd k with
  | none => .next s
  | some c =>
    if !hubOn s || c.desc.opcode ≠ 1 || !mayBegin s c then .next s
    else
    let s := codeEnd (eccFound s (fun l => loadReads s c.tenant c.desc.addr l) ecc)
    match admission s c.tenant c.desc.addr with
    | .refuse code res slot off => .next (refuseLoad s k c.tenant c code res slot off)
    | .accept p => .next (admitPlate s k c.tenant c.desc.addr c p)

/-- Some command of the plate is fetched, running or switched out (R451). -/
def plateInUse (s : State) (n h : Nat) : Bool :=
  (slotList s).any (fun e => e.2.tenant = n && e.2.desc.handle = h && e.2.desc.opcode = 3 && executes e.2 && e.2.st ≠ .completing)

/-- UNLOAD: it frees the plate's cores, pages and tallies at once; a handle not admitted is OUT_OF_RANGE, a plate in use
WRONG_STATE (R451, Table 15.4). -/
def execUnload (k : Nat) (s : State) : Host.Outcome State Fault Refusal :=
  match s.cmd k with
  | none => .next s
  | some c =>
    let n := c.tenant
    let h := c.desc.handle
    if !hubOn s || c.desc.opcode ≠ 2 || !mayBegin s c then .next s
    else match plateOf s n h with
    | none => .next (completePlain s k 0x03 2 0)
    | some p =>
      if plateInUse s n h then .next (completePlain s k 0x02 0 0)
      else
        let s := (beginCmd s k).modTenant n (fun t => { t with plates := put none t.plates h none })
        let s := logEvent s 0x5003 0 (.tenant n) [n, h, (p.slots.map (·.pages)).sum, p.slots.length * p.tallies]
        .next (completePlain s k 0 0 0)

/-- NOP: completes with SUCCESS (Table 15.4, R491). -/
def execNopCommand (k : Nat) (s : State) : Host.Outcome State Fault Refusal :=
  match s.cmd k with
  | none => .next s
  | some c =>
    if !hubOn s || c.desc.opcode ≠ 4 || !mayBegin s c then .next s else .next (completePlain (beginCmd s k) k 0 0 0)

end Sys2Proof.Machine
end

