-- ==== Sys2Proof/Machine/Tenant.lean ====
section
/-!
DEFINITION. Partitions, the start of commands on their cores, time-slicing, quotas, drains and the TENANT page (chapter 14).
-/
namespace Sys2Proof.Machine
open Sys2Proof

/-! ### Partitions (R441 to R443, Table 14.1) -/

/-- A page range beyond its stack or a tally range beyond index 511. -/
def defBeyond (s : State) (d : PartDef) : Bool :=
  (List.range 8).any (fun t =>
    (look 0 d.memPages t ≠ 0 && stackMib (s.stack t) < 2 * (look 0 d.memBase t + look 0 d.memPages t)) ||
    (look 0 d.tallyCount t ≠ 0 && 512 < look 0 d.tallyBase t + look 0 d.tallyCount t))

/-- Two ranges share an index. -/
def rangesMeet (a n b m : Nat) : Bool := n ≠ 0 && m ≠ 0 && a < b + m && b < a + n

/-- Two definitions share a core, a page or a tally. -/
def defsMeet (a b : PartDef) : Bool :=
  (List.range 8).any (fun t => look 0 a.cores t &&& look 0 b.cores t ≠ 0 ||
    rangesMeet (look 0 a.memBase t) (look 0 a.memPages t) (look 0 b.memBase t) (look 0 b.memPages t) ||
    rangesMeet (look 0 a.tallyBase t) (look 0 a.tallyCount t) (look 0 b.tallyBase t) (look 0 b.tallyCount t))

/-- Plates admitted in partition `p`. -/
def platesIn (s : State) (p : Nat) : Nat := ((allPlates s).filter (fun e => e.2.part = p)).length

/-- Logical cores of a definition. -/
def defCores (d : PartDef) : List Nat := (List.range 8).flatMap (fun t => (bitsOf 64 (look 0 d.cores t).toNat).map (· + 64 * t))

/-- The staged definition becomes active; spares are mapped and event 0x5006 is logged (R441, R443). -/
def commitPart (s : State) (p : Nat) : State :=
  let d := (s.part p).staged
  let lost := (defCores d).filter (fun n => (s.core n).st = .lost)
  let s := s.modPart p (fun x => { x with active := x.staged })
  let s := forEach lost s mapSpare
  let mapped := (lost.filter (fun n => (s.core n).st ≠ .lost)).length
  logEvent s 0x5006 1 (.tenant p) [p, b2n d.shared, (defCores d).length, mapped]

/-- A write of PART_CTRL: COMMIT checked as Table 14.1 gives, DISCARD. -/
def writePartCtrl (p : Nat) (w : RegWrite) (s : State) : State × RefCode :=
  let commit := w.value.getLsbD 0
  let drop := w.value.getLsbD 1
  let d := (s.part p).staged
  guarded s (.tenant p) 0x9C w
    { outOfRange := !w.full || (commit && defBeyond s d), wrongState := commit && platesIn s p ≠ 0,
      noResource := commit && s.parts.any (fun e => e.1 ≠ p && defsMeet d e.2.active) }
    (fun s => if commit then commitPart s p
      else if drop then s.modPart p (fun x => { x with staged := x.active }) else s)

/-- COMMIT. -/
def execCommit (n : Nat) (w : RegWrite) (s : State) : Host.Outcome State Fault Refusal := .next (writePartCtrl n w s).1

/-- DISCARD. -/
def execDiscard (n : Nat) (w : RegWrite) (s : State) : Host.Outcome State Fault Refusal := .next (writePartCtrl n w s).1

/-! ### The start of a command (R452, R453) -/

/-- The cores in use: of every command that runs and is not switched out. -/
def busyCores (s : State) : List Nat :=
  ((slotList s).filter (fun e => e.2.st = .running && e.2.switch ≠ .out)).flatMap (fun e => e.2.cores)

/-- Pad a list to `n` bytes. -/
def padTo (n : Nat) (pad l : List Byte) : List Byte := l ++ pad.take (n - l.length)

/-- The command block for a core of slot `j` (Table 14.6); `junk` fills what the table gives no value, the numbers of unused
slots. -/
def commandBlock (s : State) (c : Cmd) (p : Plate) (j : Nat) (junk : List Byte) : List Byte :=
  let one (n : Nat) : List Byte := leBytes 1 n
  one c.desc.handle ++ one j ++ one c.tenant ++ one (b2n (s.part p.part).active.shared) ++
  padTo 8 (List.replicate 8 0xFF) (p.slots.flatMap (fun x => one x.tile)) ++ List.replicate 4 0 ++
  padTo 16 junk (p.slots.flatMap (fun x => leBytes 2 x.tally)) ++ List.replicate 32 0 ++
  padTo 64 junk (p.slots.flatMap (fun x => leBytes 8 (slotPage x 1))) ++
  padTo 64 junk (p.slots.flatMap (fun x => leBytes 8 (slotPage x (1 + x.wPages)))) ++
  ((c.desc.args ++ List.replicate 16 0).take 16).flatMap (fun (a : Word) => leBytes 4 a.toNat)

/-- The image of a slot, read from its code page (R452). -/
def slotImage (s : State) (p : Plate) (x : PSlot) : List Byte :=
  match p.images[x.image]? with
  | some (o, n) => memRead s (slotPage x 0 + o) n
  | none => []

/-- The slot's image and the command block are written to a core's memories (R452). -/
def placeProgram (x : CoreSt) (image block : List Byte) : CoreSt :=
  lsWrite { x with imem := putList 0 x.imem 0 image } 0x17FF00 block

/-- One core of a command starts at ENTRY with s1 at the command block (R452). -/
def startCore (s : State) (k n entry : Nat) (image block : List Byte) : State :=
  (releaseQueues s [n]).modCore n (fun x => freshCore (placeProgram x image block) entry (w32 0x17FF00) (some k))

/-- The lowest lost core of a plate. -/
def lostCore (s : State) (p : Plate) : Option Nat := ((plateCores p).filter (fun n => (s.core n).st = .lost)).min?

/-- The argument block of an INDIRECT run lies wholly in the partition's pages and can be read (R490). -/
def argsOk (s : State) (c : Cmd) (p : Plate) : Bool :=
  !c.desc.flag 3 || (inPages s p.part c.desc.addr 64 && cleanRead s c.desc.addr 64)

/-- The argument words of a run: from ARGS, or from the block at ADDR (R490). -/
def argWords (s : State) (c : Cmd) : List Word :=
  if c.desc.flag 3 then (List.range 16).map (fun k => w32 (leNat (memRead s (c.desc.addr + 4 * k) 4))) else c.desc.args

/-- Every core of the command's slots starts (R452, R455, R487). -/
def startAll (s : State) (k : Nat) (c : Cmd) (p : Plate) : State :=
  let c := { c with desc := { c.desc with args := argWords s c } }
  let (junk, s) := freeBytes s 64
  let s := (beginCmd s k).modCmd k (fun x => { x with desc := c.desc, cores := plateCores p, switch := .on, expired := false })
  let s := s.modPart p.part (fun x => { x with lastTenant := some c.tenant })
  forEach p.slots.zipIdx s (fun s (x, j) =>
    let image := slotImage s p x
    let block := commandBlock s c p j junk
    forEach (slotCores x) s (fun s n => startCore s k n x.entry image block))

/-- The lines an INDIRECT run reads its arguments from (R490). -/
def argReads (s : State) (c : Cmd) (p : Plate) (l : Nat) : Bool :=
  c.desc.flag 3 && inPages s p.part c.desc.addr 64 && inLines c.desc.addr 64 l

/-- The lines of the code pages a start reads: the images of the plate's slots (R452). -/
def codeReads (p : Plate) (l : Nat) : Bool :=
  p.slots.any (fun x => match p.images[x.image]? with
    | some (o, n) => inLines (slotPage x 0 + o) n l
    | none => false)

/-- A RUN's execution begins, or a precondition of Table 15.4, R452, R472 or R490 ends it. `ecc` is what its reads of the
argument block and of the code pages find (R421). -/
def beginRun (s : State) (k : Nat) (c : Cmd) (p : Plate) (ecc : EccFound) : State :=
  if (partTiles s p.part).any (fun t => (s.tile t).st ≠ .stoked) then completePlain s k 0x02 0 0
  else
    let s := codeEnd (eccFound s (argReads s c p) ecc)
    if !argsOk s c p then completePlain s k 0x03 8 0
    else match lostCore s p with
    | some n => completePlain s k 0x20 n (s.core n).lostCause
    | none =>
      let s := codeEnd (eccFound s (codeReads p) ecc)
      match (cmdPlate s c).bind (·.codeBad) with
      | some a => poisonEnd s k c a
      | none => startAll s k c p

/-! ### Rotation in a shared partition (R454, R455) -/

/-- A command of the plate is running or switched out (R454, R457). -/
def plateRuns (s : State) (n h : Nat) : Bool :=
  (slotList s).any (fun e => e.2.tenant = n && e.2.desc.handle = h && e.2.desc.opcode = 3 && e.2.st = .running)

/-- A fetched RUN that may begin with a plate, as far as order and R454 go. -/
def runReady (s : State) (c : Cmd) : Bool := c.desc.opcode = 3 && mayBegin s c && !plateRuns s c.tenant c.desc.handle

/-- The cores the command runs on or would run on. -/
def wantedCores (s : State) (c : Cmd) : List Nat := (cmdPlate s c).elim [] plateCores

/-- The command waits for cores of partition `p`: fetched and ready, or switched out. -/
def waitsIn (s : State) (p : Nat) (c : Cmd) : Bool :=
  (cmdPlate s c).any (fun x => x.part = p) && (runReady s c || (c.st = .running && c.switch = .out && c.ending.isNone))

/-- Insert a slot by fetch order. -/
def insertCmd (e : Nat × Cmd) : List (Nat × Cmd) → List (Nat × Cmd)
  | [] => [e]
  | x :: xs => if e.2.order < x.2.order then e :: x :: xs else x :: insertCmd e xs

/-- The waiting commands of partition `p`, in fetch order. -/
def waiting (s : State) (p : Nat) : List (Nat × Cmd) := ((slotList s).filter (fun e => waitsIn s p e.2)).foldr insertCmd []

/-- The cores of a waiting command are free, and a switched-out one has its tiles Stoked (R458) or a lost core, for which the
attempt ends it (R470). -/
def canTake (s : State) (c : Cmd) : Bool :=
  (wantedCores s c).all (fun n => !(busyCores s).contains n) &&
  (c.switch ≠ .out || c.st ≠ .running || (cmdPlate s c).any (fun p => (lostCore s p).isSome) ||
    (wantedCores s c).all (fun n => (s.tile (n / 64)).st = .stoked))

/-- The tenants in rotation, from the one after the tenant last started (R455). -/
def rotation (s : State) (p : Nat) : List Nat :=
  let b := match (s.part p).lastTenant with | some t => t + 1 | none => 0
  (List.range 32).map (fun i => (b + i) % 32)

/-- The command that starts or is restored next: the first waiting one of the first tenant in rotation whose cores are
free (R455). -/
def nextRun (s : State) (p : Nat) : Option (Nat × Cmd) :=
  ((rotation s p).filterMap (fun t => (waiting s p).find? (fun e => e.2.tenant = t))).find? (fun e => canTake s e.2)

/-! ### Save and restore (R456 to R459) -/

/-- First byte of a core's area in its slot's save pages: areas of 12 KiB and LS_BYTES, in core order (log entry 23). -/
def saveArea (p : Plate) (x : PSlot) (i : Nat) : Nat := slotPage x (1 + x.wPages + x.sPages) + i * (12288 + p.lsBytes)

/-- Bytes of a slot's save areas. -/
def saveBytes (p : Plate) (x : PSlot) : Nat := (slotCores x).length * (12288 + p.lsBytes)

/-- The cores of a slot are saved: for each a record of its own, whose layout the spec does not give, then its local store
(R456). -/
def saveSlot (s : State) (p : Plate) (x : PSlot) : State :=
  forEach (slotCores x).zipIdx s (fun s (n, i) =>
    let (rec_, s) := freeBytes s 12288
    memWrite s (saveArea p x i) (rec_ ++ lsRead (s.core n) 0 p.lsBytes))

/-- Credits of a queue that return to a sender. -/
def returningTo (s : State) (rcv q sender : Nat) : Nat :=
  ((s.grid.returns.filter (fun r => r.live && r.rcv = rcv && r.q = q && r.sender = sender)).map (·.n)).sum

/-- The queues of the command's cores, as they are kept (R456). -/
def keptQueues (s : State) (c : Cmd) : List SavedQueue :=
  c.cores.flatMap (fun n => (s.core n).queues.map (fun e => ⟨n, e.1, e.2,
    (c.cores.map (fun m => (m, heldCred s m n e.1 + returningTo s n e.1 m))).filter (fun x => x.2 ≠ 0)⟩))

/-- A core gives up its saved program. -/
def leaveCore (s : State) (n : Nat) : State := s.modCore n (fun x => { x with st := .idle, slot := none, engines := [], yielded := false })

/-- Every core of a command is saved, and its queues leave the ledger with their credits (R456, R457). -/
def saveAll (s : State) (k : Nat) (c : Cmd) (p : Plate) : State :=
  let s := s.modCmd k (fun x => { x with switch := .saving, saved := c.cores.map (fun n => ⟨n, s.core n⟩), savedQueues := keptQueues s c })
  let s := forEach p.slots s (fun s x => saveSlot s p x)
  forEach c.cores (releaseQueues s c.cores) leaveCore

/-- A saved queue is configured again: its depth enters CAPACITY, its entries QUEUED, and its senders' credits go out as
grants (R458). -/
def restoreQueue (s : State) (x : SavedQueue) : State :=
  let s := modQueueOf s x.core x.q (fun _ => x.ring)
  let s := modCred s (x.core / 64) (fun r => { r with capacity := r.capacity + x.ring.depth, queued := r.queued + x.ring.count,
                                                       returning := r.returning + (x.ring.depth - x.ring.count) })
  sendGrants s x.core x.q x.credits

/-- A saved core as it goes on: its program's state with the core's own page registers and tokens. -/
def revive (old : CoreSt) (sv : CoreSt) (k : Nat) (ls image block : List Byte) : CoreSt :=
  let x := placeProgram (lsWrite old 0 ls) image block
  { sv with st := if sv.ended then .idle else .running, ls := x.ls, imem := x.imem, queues := [], slot := some k, stopping := false,
            yielded := false, lostCause := old.lostCause, startPc := old.startPc, arg := old.arg, corr := old.corr,
            regSel := old.regSel, lsAddr := old.lsAddr, queueSel := old.queueSel, tok := old.tok,
            engines := sv.engines.map (fun e => (e.1, if e.2.run = .paused then { e.2 with run := .running } else e.2)) }

/-- A core of a restored command continues, with a STOKE to its holding at the save (R458). -/
def restoreCore (s : State) (k n area ls : Nat) (sv : CoreSt) (image block : List Byte) : State :=
  let bytes := memRead s area ls
  let s := s.modCore n (fun x => revive x sv k bytes image block)
  if sv.ended then s else stokeTo s n sv.tok.atStop

/-- Every core of a command is restored. -/
def restoreAll (s : State) (k : Nat) (c : Cmd) (p : Plate) : State :=
  let (junk, s) := freeBytes s 64
  let s := forEach p.slots.zipIdx s (fun s (x, j) =>
    let image := slotImage s p x
    let block := commandBlock s c p j junk
    forEach (slotCores x).zipIdx s (fun s (n, i) =>
      match c.saved.find? (fun v => v.core = n) with
      | some v => restoreCore s k n (saveArea p x i + 12288) p.lsBytes v.st image block
      | none => s))
  let s := forEach c.savedQueues s restoreQueue
  s.modCmd k (fun x => { x with switch := .on, expired := false, saved := [], savedQueues := [] })

/-- The first poisoned line a restore would read (R471). -/
def restorePoison (s : State) (p : Plate) : Option Nat :=
  match p.codeBad with
  | some a => some a
  | none => (p.slots.filterMap (fun x => firstPoison s (saveArea p x 0) (saveBytes p x))).head?

/-- A restore begins, or ends the command for a lost core or a poisoned line (R458, R470, R471). -/
def beginRestore (s : State) (k : Nat) (c : Cmd) (p : Plate) : State :=
  match lostCore s p with
  | some n => endCmd s k 0x20 n (s.core n).lostCause
  | none => match restorePoison s p with
    | some a => poisonEnd s k c a
    | none =>
      let s := (s.modCmd k (fun x => { x with switch := .restoring })).modPart p.part (fun x => { x with lastTenant := some c.tenant })
      forEach c.cores s (fun s n => s.modCore n (fun x => { x with slot := some k, ended := false }))

/-- The waiting command starts or is restored. -/
def takeRun (s : State) (k : Nat) (c : Cmd) (ecc : EccFound) : State :=
  match cmdPlate s c with
  | none => s
  | some p => if c.st = .fetched then beginRun s k c p ecc else beginRestore s k c p

/-- COMMAND_START: in a shared partition, the next command in rotation starts or is restored; not during a ledger fault (R130,
R455, R469). -/
def execCommandStart (p : Nat) (ecc : EccFound) (s : State) : Host.Outcome State Fault Refusal :=
  if !hubOn s || ledgerFaulted s || !(s.part p).active.shared then .next s
  else match nextRun s p with
  | some (k, c) => .next (takeRun s k c ecc)
  | none => .next s

/-- RUN: the command begins once order, R454 and its partition's rotation allow it; during a ledger fault it stays in FETCHED
(R452, R454, R455, R487, R488, R491). -/
def execRun (k : Nat) (ecc : EccFound) (s : State) : Host.Outcome State Fault Refusal :=
  match s.cmd k with
  | none => .next s
  | some c =>
    if !hubOn s || c.desc.opcode ≠ 3 || !mayBegin s c || ledgerFaulted s then .next s
    else match cmdPlate s c with
    | none => .next (completePlain s k 0x03 2 0)
    | some p =>
      if !runReady s c then .next s
      else if (s.part p.part).active.shared then
        (if (nextRun s p.part).map (·.1) = some k then .next (beginRun s k c p ecc) else .next s)
      else .next (beginRun s k c p ecc)

/-- A waiting command needs one of the command's cores (R456). -/
def coresNeeded (s : State) (k : Nat) (c : Cmd) (p : Plate) : Bool :=
  (waiting s p.part).any (fun e => e.1 ≠ k && (wantedCores s e.2).any c.cores.contains)

/-- QUANTUM_EXPIRE: the quantum renews, or the command is to leave its cores (R456, R465, R469). -/
def execQuantumExpire (k : Nat) (s : State) : Host.Outcome State Fault Refusal :=
  match s.cmd k with
  | none => .next s
  | some c =>
    match cmdPlate s c with
    | none => .next s
    | some p =>
      if c.st = .running && c.switch = .on && c.ending.isNone && !c.aborting && (s.part p.part).active.shared &&
         !ledgerFaulted s && coresNeeded s k c p then
        .next (s.modCmd k (fun x => { x with expired := true, switch := .leaving }))
      else .next s

/-- The command's cores that still run. -/
def stillRunning (s : State) (k : Nat) (c : Cmd) : List Nat :=
  c.cores.filter (fun n => (s.core n).slot = some k && (s.core n).st = .running)

/-- YIELD_GRACE_EXPIRE: the cores that have not yielded are stopped, a forced save, but during a ledger fault none (R456,
R469). -/
def execYieldGraceExpire (k : Nat) (s : State) : Host.Outcome State Fault Refusal :=
  match s.cmd k with
  | none => .next s
  | some c =>
    let left := stillRunning s k c
    if c.st = .running && c.switch = .leaving && c.ending.isNone && !ledgerFaulted s && left ≠ [] then
      .next (forEach left (raise (logEvent s 0x5004 1 (.tenant c.tenant) [c.tenant, c.desc.handle, left.length, k]) (.tenant c.tenant) 3) stopCore)
    else .next s

/-- SWITCH_OUT: with every core halted and nothing in flight, the command is saved (R456, R457, R469). -/
def execSwitchOut (k : Nat) (s : State) : Host.Outcome State Fault Refusal :=
  match s.cmd k with
  | none => .next s
  | some c =>
    match cmdPlate s c with
    | none => .next s
    | some p =>
      if c.st = .running && c.switch = .leaving && c.ending.isNone && allHalted s k c && quiet s c.cores && !ledgerFaulted s then
        .next (rejudge (saveAll s k c p))
      else .next s

/-- SAVE_DONE: the command is switched out; one that a drain has reached completes with ABORTED (R459, R467). -/
def execSaveDone (k : Nat) (s : State) : Host.Outcome State Fault Refusal :=
  match s.cmd k with
  | none => .next s
  | some c =>
    if c.st = .running && c.switch = .saving then
      .next (if c.aborting then completePlain s k 0x22 0 0 else s.modCmd k (fun x => { x with switch := .out }))
    else .next s

/-- Every running core of an aborted command is stopped (R462). -/
def stopForAbort (s : State) (k : Nat) (c : Cmd) : State := abortCheck (forEach (stillRunning s k c) s stopCore) k

/-- Every line a restore reads: the code pages' images and the save pages (R458). -/
def restoreReads (p : Plate) (l : Nat) : Bool :=
  codeReads p l || p.slots.any (fun x => inLines (saveArea p x 0) (saveBytes p x) l)

/-- A command between the start and the end of its restore. -/
def restoring (s : State) (k : Nat) : Bool :=
  (s.cmd k).any (fun c => c.st = .running && c.switch = .restoring && c.ending.isNone)

/-- The reads of a restore are done: a poisoned line ends the command (R471, R472); otherwise its cores continue, and an ABORT
drain that arrived meanwhile stops them (R458, R467). -/
def restoreEnd (s : State) (k : Nat) (c : Cmd) (p : Plate) : State :=
  match restorePoison s p with
  | some a => rejudge (poisonEnd s k c a)
  | none =>
    let s := restoreAll s k c p
    if c.aborting then rejudge (stopForAbort s k c) else s

/-- RESTORE_DONE: the cores continue from their saved PCs. `ecc` is what the reads of the restore find (R421, R458, R459,
R467, R471). -/
def execRestoreDone (k : Nat) (ecc : EccFound) (s : State) : Host.Outcome State Fault Refusal :=
  if !restoring s k then .next s
  else match s.cmd k with
  | none => .next s
  | some c =>
    match cmdPlate s c with
    | none => .next s
    | some p =>
      let s := codeEnd (eccFound s (restoreReads p) ecc)
      match cmdPlate s c with
      | some p => .next (if restoring s k then restoreEnd s k c p else s)
      | none => .next s

/-! ### Drains (R462, R463, R467) -/

/-- An ABORT drain reaches one command. -/
def abortCmd (s : State) (k : Nat) : State :=
  match s.cmd k with
  | none => s
  | some c =>
    match c.st with
    | .completing => s
    | .fetched => if executes c then completePlain s k 0x22 0 0 else s
    | .running =>
      if c.ending.isSome then s
      else
        let s' := s.modCmd k (fun x => { x with aborting := true })
        match c.switch with
        | .on => stopForAbort s' k c
        | .leaving => stopForAbort (s'.modCmd k (fun x => { x with switch := .on, expired := false })) k c
        | .saving => s'
        | .out => endCmd s' k 0x22 0 0
        | .restoring => s'

/-- An ABORT drain of a tenant: every command that acts for it (R462). -/
def abortDrain (s : State) (n : Nat) : State :=
  forEach (((slotList s).filter (fun e => e.2.tenant = n)).map (·.1)) s abortCmd

/-- GO goes from 0 to 1 (R462, R502). -/
def tenantDrain (s : State) (n : Nat) (mode : Bool) : State :=
  let s := drainReads (s.modTenant n (fun t => { t with go := true, mode := mode, done := false, aborted := 0 })) n mode
  drainCheck (if mode then rejudge (abortDrain s n) else s) n

/-- DRAIN as it reads. -/
def drainWord (t : TenantSt) : Word := word [(0, b2n t.go), (1, b2n t.mode), (8, b2n t.done)]

/-- A write of DRAIN: the host or the side-band may write it (R94, R462, R463). -/
def writeDrain (n : Nat) (w : RegWrite) (s : State) : State × RefCode :=
  let t := s.tenant n
  let v := w.merged (drainWord t)
  let go := v.getLsbD 0
  let mode := v.getLsbD 1
  let isVf : Bool := match w.master with | .vf _ => true | _ => false
  guarded s (.tenant n) 0x50 w { exempt := true, notOwner := isVf, wrongState := t.go && mode ≠ t.mode }
    (fun s => if go && !t.go then tenantDrain s n mode
      else if !go && t.go then s.modTenant n (fun t => { t with go := false, done := false })
      else s.modTenant n (fun t => { t with mode := mode }))

/-- TENANT_DRAIN_START. -/
def execTenantDrainStart (n : Nat) (w : RegWrite) (s : State) : Host.Outcome State Fault Refusal := .next (writeDrain n w s).1

/-- TENANT_DRAIN_END. -/
def execTenantDrainEnd (n : Nat) (w : RegWrite) (s : State) : Host.Outcome State Fault Refusal := .next (writeDrain n w s).1

/-! ### Quotas (R445, R460, R461) -/

/-- TEN_CFG as it reads. -/
def tenCfgWord (t : TenantSt) : Word := word [(0, t.part), (8, b2n t.assigned)]

/-- A write of TEN_CFG: PART only while the tenant has no plate (R445). -/
def writeTenCfg (n : Nat) (w : RegWrite) (s : State) : State × RefCode :=
  let v := w.merged (tenCfgWord (s.tenant n))
  guarded s (.tenant n) 0x40 w { wrongState := w.be.getLsbD 0 && platesHeld s n ≠ 0 }
    (fun s => s.modTenant n (fun t => { t with part := fld v.toNat 0 5, assigned := v.getLsbD 8 }))

/-- PART_WRITE. -/
def execPartWrite (n : Nat) (w : RegWrite) (s : State) : Host.Outcome State Fault Refusal := .next (writeTenCfg n w s).1

/-- Largest MAX_TOKENS of the tenant's plates. -/
def largestTokens (s : State) (n : Nat) : Nat := ((s.tenant n).plates.map (fun h => h.2.elim 0 (·.maxTokens))).foldl max 0

/-- A write of TOK_QUOTA; requests set aside for it are judged again (R250, R460). -/
def writeTokQuota (n : Nat) (w : RegWrite) (s : State) : State × RefCode :=
  let v := fld (w.merged (w32 (s.tenant n).tokQuota)).toNat 0 13
  guarded s (.tenant n) 0x44 w { outOfRange := v = 0 || 4928 < v, wrongState := v < largestTokens s n }
    (fun s => rejudge (s.modTenant n (fun t => { t with tokQuota := v })))

/-- TOK_QUOTA_WRITE. -/
def execTokQuotaWrite (n : Nat) (w : RegWrite) (s : State) : Host.Outcome State Fault Refusal := .next (writeTokQuota n w s).1

/-- A write of TALLY_QUOTA (R461). -/
def writeTallyQuota (n : Nat) (w : RegWrite) (s : State) : State × RefCode :=
  let v := fld (w.merged (w32 (s.tenant n).tallyQuota)).toNat 0 13
  guarded s (.tenant n) 0x48 w { outOfRange := 4096 < v, wrongState := v < talliesHeld s n }
    (fun s => s.modTenant n (fun t => { t with tallyQuota := v }))

/-- TALLY_QUOTA_WRITE. -/
def execTallyQuotaWrite (n : Nat) (w : RegWrite) (s : State) : Host.Outcome State Fault Refusal := .next (writeTallyQuota n w s).1

/-! ### TENANT page (Tables 14.8 to 14.10) -/

/-- The plate and slot PLATE_SEL names. -/
def shownSlot (s : State) (n : Nat) : Option (Plate × PSlot) :=
  match plateOf s n (s.tenant n).selHandle with
  | some p => (p.slots[(s.tenant n).selSlot]?).map (fun x => (p, x))
  | none => none

/-- A command of the shown plate that runs, by whether it is switched out. -/
def shownRun (s : State) (n : Nat) (out : Bool) : Bool :=
  (slotList s).any (fun e => e.2.tenant = n && e.2.desc.opcode = 3 && e.2.desc.handle = (s.tenant n).selHandle && e.2.st = .running &&
    (decide (e.2.switch = .out) = out))

def readTenant (s : State) (n off : Nat) : Word :=
  let t := s.tenant n
  let x := shownSlot s n
  let pl := plateOf s n t.selHandle
  let p := s.part n
  let d := p.staged
  let k := p.tileSel
  match off with
  | 0x40 => tenCfgWord t
  | 0x44 => w32 t.tokQuota
  | 0x48 => w32 t.tallyQuota
  | 0x4C => word [(0, platesHeld s n), (4, talliesHeld s n), (17, tenantTokens s n)]
  | 0x50 => drainWord t
  | 0x54 => word [(0, t.admCode), (8, t.admRes), (16, t.admHandle), (24, t.admSlot)]
  | 0x58 => word [(0, t.selHandle), (4, t.selSlot)]
  | 0x5C => word [(0, b2n pl.isSome), (4, pl.elim 0 (·.slots.length)), (8, x.elim 0 (·.2.tile)), (16, b2n (shownRun s n false)), (17, b2n (shownRun s n true))]
  | 0x60 => word [(0, x.elim 0 (·.2.tally)), (16, x.elim 0 (·.1.tallies))]
  | 0x64 => w32 (x.elim 0 (fun e => slotPage e.2 1))
  | 0x68 => w32 (x.elim 0 (fun e => slotPage e.2 1 / 2 ^ 32))
  | 0x6C => w32 (x.elim 0 (fun e => slotPage e.2 (1 + e.2.wPages)))
  | 0x70 => w32 (x.elim 0 (fun e => slotPage e.2 (1 + e.2.wPages) / 2 ^ 32))
  | 0x80 => word [(0, b2n d.shared)]
  | 0x84 => word [(0, p.quantum), (16, p.grace)]
  | 0x88 => word [(0, k)]
  | 0x8C => w32 (look 0 d.cores k).toNat
  | 0x90 => w32 ((look 0 d.cores k).toNat / 2 ^ 32)
  | 0x94 => word [(0, look 0 d.memBase k), (16, look 0 d.memPages k)]
  | 0x98 => word [(0, look 0 d.tallyBase k), (16, look 0 d.tallyCount k)]
  | 0xA0 => word [(0, b2n (defCores p.active ≠ [])), (1, b2n (p.staged ≠ p.active)), (8, platesIn s n)]
  | _ => 0

/-- Change the staged definition of partition `n`. -/
def modStaged (s : State) (n : Nat) (f : PartDef → PartDef) : State := s.modPart n (fun x => { x with staged := f x.staged })

def writeTenant (n off : Nat) (w : RegWrite) (s : State) : State × RefCode :=
  let v := (w.merged (readTenant s n off)).toNat
  let pg := PageRef.tenant n
  let k := (s.part n).tileSel
  match off with
  | 0x40 => writeTenCfg n w s
  | 0x44 => writeTokQuota n w s
  | 0x48 => writeTallyQuota n w s
  | 0x50 => writeDrain n w s
  | 0x58 => guarded s pg off w {} (fun s => s.modTenant n (fun t => { t with selHandle := fld v 0 3, selSlot := fld v 4 3 }))
  | 0x80 => guarded s pg off w {} (fun s => modStaged s n (fun d => { d with shared := bit v 0 }))
  | 0x84 => guarded s pg off w { outOfRange := fld v 0 16 < 100 || 50000 < fld v 0 16 || fld v 16 16 < 10 || 1000 < fld v 16 16 }
      (fun s => s.modPart n (fun x => { x with quantum := fld v 0 16, grace := fld v 16 16 }))
  | 0x88 => guarded s pg off w {} (fun s => s.modPart n (fun x => { x with tileSel := fld v 0 3 }))
  | 0x8C => guarded s pg off w {} (fun s => modStaged s n (fun d =>
      { d with cores := put 0 d.cores k (BitVec.ofNat 64 ((look 0 d.cores k).toNat / 2 ^ 32 * 2 ^ 32 + v)) }))
  | 0x90 => guarded s pg off w {} (fun s => modStaged s n (fun d =>
      { d with cores := put 0 d.cores k (BitVec.ofNat 64 ((look 0 d.cores k).toNat % 2 ^ 32 + v * 2 ^ 32)) }))
  | 0x94 => guarded s pg off w {} (fun s => modStaged s n (fun d =>
      { d with memBase := put 0 d.memBase k (fld v 0 16), memPages := put 0 d.memPages k (fld v 16 16) }))
  | 0x98 => guarded s pg off w { outOfRange := 512 < fld v 16 10 } (fun s => modStaged s n (fun d =>
      { d with tallyBase := put 0 d.tallyBase k (fld v 0 9), tallyCount := put 0 d.tallyCount k (fld v 16 10) }))
  | 0x9C => writePartCtrl n w s
  | _ => roWrite s pg off w

end Sys2Proof.Machine
end

