-- ==== Sys2Proof/Machine/HostIf.lean ====
section
/-!
DEFINITION. The host interface (chapter 15): queue pairs, fetching, descriptors, duplicates, completion records, DMA failures,
resets and the PCIe link, and the QUEUE and HOSTIF registers.
-/
namespace Sys2Proof.Machine
open Sys2Proof

/-! ### Queue pairs (R479 to R484) -/

/-- Entries in each ring. -/
def ringSize (x : QueueSt) : Nat := 2 ^ x.log2

/-- The completion ring is full (R484). -/
def ringFull (x : QueueSt) : Bool := (x.cqTail + 1) % ringSize x = x.cqHead

/-- The commands of a queue, in slot order. -/
def queueCmds (s : State) (q : Nat) : List (Nat × Cmd) := (slotList s).filter (fun e => e.2.queue = q)

/-- Offset, in its page, of register `i` of a queue: 0 SQ_BASE_LO to 11 Q_COUNTS. -/
def queueOff (q i : Nat) : Nat := if isAdm q then 0x100 + (q - 256) * 0x40 + 4 * i else 0x40 + 4 * i

/-- The function whose requester ID a queue's requests carry (R475). -/
def queueFn (q : Nat) : Option Nat := if isAdm q then none else some (q / 8)

/-- A tenant queue whose tenant is in a drain (R462, R498). -/
def queueDraining (s : State) (q : Nat) : Bool := !isAdm q && ((s.tenant (q / 8)).go || (s.tenant (q / 8)).resetDrain)

/-- STATE of a queue: OFF, ON or FAULT. -/
def queueCode (x : QueueSt) : Nat := if x.fault then 5 else if x.enable then 2 else 0

/-- Register `i` of a queue as it reads. -/
def readQueue (s : State) (q i : Nat) : Word :=
  let x := s.queue q
  match i with
  | 0 => x.sqBase.setWidth 32
  | 1 => w32 (x.sqBase.toNat / 2 ^ 32)
  | 2 => x.cqBase.setWidth 32
  | 3 => w32 (x.cqBase.toNat / 2 ^ 32)
  | 4 => word [(0, x.log2)]
  | 5 => if isAdm q then 0 else word [(0, queueVec s q)]
  | 6 => word [(0, x.sqTail)]
  | 7 => word [(0, x.sqHead)]
  | 8 => word [(0, x.cqHead)]
  | 9 => word [(0, x.cqTail), (16, b2n x.phase)]
  | 10 => word [(0, (queueCmds s q).length), (16, b2n (x.enable && ringFull x)), (17, b2n (queueDraining s q))]
  | 11 => word [(0, x.dups), (16, x.refused)]
  | _ => 0

/-- Replace the low or the high word of a base. -/
def setHalf (b : DWord) (hi : Bool) (v : Word) : DWord :=
  if hi then BitVec.ofNat 64 (b.toNat % 2 ^ 32 + v.toNat * 2 ^ 32) else BitVec.ofNat 64 (b.toNat / 2 ^ 32 * 2 ^ 32 + v.toNat)

/-- A write of SQ_TAIL, the doorbell (R482). -/
def writeSqTail (q : Nat) (w : RegWrite) (s : State) : State × RefCode :=
  let x := s.queue q
  let v := fld (w.merged (readQueue s q 6)).toNat 0 12
  guarded s (queuePage q) (queueOff q 6) w { outOfRange := ringSize x ≤ v, wrongState := !x.enable }
    (fun s => s.modQueue q (fun x => { x with sqTail := v }))

/-- A write of CQ_HEAD: it returns entries, no more than have been written and not returned (R483). -/
def writeCqHead (q : Nat) (w : RegWrite) (s : State) : State × RefCode :=
  let x := s.queue q
  let v := fld (w.merged (readQueue s q 8)).toNat 0 12
  let n := ringSize x
  guarded s (queuePage q) (queueOff q 8) w { outOfRange := n ≤ v || (x.cqTail + n - x.cqHead) % n < (v + n - x.cqHead) % n }
    (fun s => s.modQueue q (fun x => { x with cqHead := v, fullLogged := x.fullLogged && ringFull { x with cqHead := v } }))

/-- A write of register `i` of a queue (R480 to R483, Table 15.9). -/
def writeQueue (q i : Nat) (w : RegWrite) (s : State) : State × RefCode :=
  let x := s.queue q
  let v := w.merged (readQueue s q i)
  let pg := queuePage q
  let o := queueOff q i
  match i with
  | 0 => guarded s pg o w { outOfRange := v.toNat % 4096 ≠ 0, wrongState := x.enable } (fun s => s.modQueue q (fun x => { x with sqBase := setHalf x.sqBase false v }))
  | 1 => guarded s pg o w { wrongState := x.enable } (fun s => s.modQueue q (fun x => { x with sqBase := setHalf x.sqBase true v }))
  | 2 => guarded s pg o w { outOfRange := v.toNat % 4096 ≠ 0, wrongState := x.enable } (fun s => s.modQueue q (fun x => { x with cqBase := setHalf x.cqBase false v }))
  | 3 => guarded s pg o w { wrongState := x.enable } (fun s => s.modQueue q (fun x => { x with cqBase := setHalf x.cqBase true v }))
  | 4 =>
    let n := fld v.toNat 0 4
    guarded s pg o w { outOfRange := n < 4 || 12 < n, wrongState := x.enable } (fun s => s.modQueue q (fun x => { x with log2 := n }))
  | 5 =>
    if isAdm q then roWrite s pg o w
    else
      let n := fld v.toNat 0 4
      guarded s pg o w { wrongState := x.enable } (fun s =>
        let t := s.modQueue q (fun x => { x with vector := if n = q % 8 then none else some n })
        if !vfVecPending s (q / 8) n && vectorPending t pg && hostSignalled t pg then emit t (.msix (some (q / 8)) n) else t)
  | 6 => writeSqTail q w s
  | 8 => writeCqHead q w s
  | _ => roWrite s pg o w

/-- The records of a queue are discarded: those that are ready and those to come (R498, R506). Duplicates that wait end with
them. -/
def discardQueue (s : State) (q : Nat) : State :=
  forEach ((queueCmds s q).map (·.1)) s (fun s k =>
    let s := s.modCmd k (fun c => { c with discard := true })
    match s.cmd k with
    | some c => if c.st = .completing then freeSlot s k else if c.st = .fetched && !executes c then completePlain s k 0x22 0 0 else s
    | none => s)

/-- A write of ENABLE = 1: indices, phase and tag history start afresh; a queue in FAULT stays so until its ENABLE is written
0 (R481, R506). -/
def enableQueue (s : State) (q : Nat) : State :=
  s.modQueue q (fun x => { x with enable := true, fault := x.enable && x.fault, sqHead := 0, sqTail := 0, cqHead := 0, cqTail := 0,
                                  phase := true, history := [], readFailed := false, writeFailed := false, fullLogged := false })

/-- The tenants in `l` whose drain waited for a descriptor read that is over. -/
def readChecks (s : State) (l : List (Nat × Bool)) : State := forEach (l.map (·.1)) s drainCheck

/-- A read of the queue's own that nothing has reached is dropped. -/
def dropRead (s : State) (q : Nat) : State :=
  if s.host.fetching = some q && !s.host.fetchReset then readChecks (readOver s) s.host.fetchDrains else s

/-- A write of ENABLE = 0; the held records of a queue in FAULT are discarded (R481, R506). -/
def disableQueue (s : State) (q : Nat) : State :=
  let s := dropRead (if (s.queue q).fault then discardQueue s q else s) q
  s.modQueue q (fun x => { x with enable := false, fault := false, readFailed := false, writeFailed := false, fullLogged := false })

/-- A write of the register that holds a queue's ENABLE: PAGE_CTRL, with FREEZE, or ADM_CTRL (R72, R481, R506). -/
def writeQueueEnable (q : Nat) (freeze : Bool → State → State) (w : RegWrite) (s : State) : State × RefCode :=
  let x := s.queue q
  let v := w.merged (word [(0, b2n x.enable), (1, b2n (s.hdr (queuePage q)).freeze)])
  let on := v.getLsbD 0
  let off := w.be.getLsbD 0 && !on
  guarded s (queuePage q) (if isAdm q then queueOff q 12 else 0x08) w
    { wrongState := off && !x.fault && queueCmds s q ≠ [] }
    (fun s =>
      let s := if isAdm q then s else freeze (v.getLsbD 1) s
      if off then disableQueue s q else if w.be.getLsbD 0 then enableQueue s q else s)

/-- SQ_TAIL. -/
def execSqTail (q : Nat) (w : RegWrite) (s : State) : Host.Outcome State Fault Refusal :=
  if q < 258 then .next (writeSqTail q w s).1 else .next s

/-- CQ_HEAD. -/
def execCqHead (q : Nat) (w : RegWrite) (s : State) : Host.Outcome State Fault Refusal :=
  if q < 258 then .next (writeCqHead q w s).1 else .next s

/-! ### Fetching (R485, R486, R499, R501, R504) -/

/-- Slots a tenant's own queues hold. -/
def slotsHeld (s : State) (n : Nat) : Nat := ((slotList s).filter (fun e => e.2.queue < 256 && e.2.queue / 8 = n)).length

/-- Slots the administrative queues hold. -/
def admHeld (s : State) : Nat := ((slotList s).filter (fun e => isAdm e.2.queue)).length

/-- The queue has descriptors submitted and meets the conditions of R485. -/
def fetchable (s : State) (q : Nat) : Bool :=
  let x := s.queue q
  x.enable && !x.fault && x.sqHead ≠ x.sqTail &&
  (if isAdm q then decide (admHeld s < s.host.admLimit) else decide (slotsHeld s (q / 8) < (s.tenant (q / 8)).slotLimit) && !queueDraining s q)

/-- The queue whose turn it is (R486). -/
def nextFetch (s : State) : Option Nat := ((List.range 258).map (fun i => (s.host.lastFetched + i) % 258)).find? (fetchable s)

/-- DESCRIPTOR_FETCH_START: a descriptor read goes out (R475, R485, R486, R499, R501). -/
def execDescriptorFetchStart (s : State) : Host.Outcome State Fault Refusal :=
  if !isReady s || !s.ao.l0 || s.host.fetching.isSome || 256 ≤ (slotList s).length then .next s
  else match nextFetch s with
  | none => .next s
  | some q =>
    let x := s.queue q
    .next (emit { s with host := { s.host with fetching := some q, fetchDrains := [], fetchReset := false, lastFetched := (q + 1) % 258 } }
      (.hostRead (queueFn q) (x.sqBase.toNat + 64 * x.sqHead) 64))

/-! ### Descriptors (R489, R490, Table 15.3) -/

/-- A descriptor as its bytes give it. -/
def descOf (b : List Byte) : Desc :=
  { opcode := num b 0 1, flags := BitVec.ofNat 8 (num b 1 1), handle := num b 2 1, tenantByte := num b 3 1, tag := w32 (num b 4 4),
    addr := num b 8 8, args := (List.range 12).map (fun k => w32 (num b (16 + 4 * k) 4)) }

/-- The rules of Table 15.3 by byte offset, each true when kept. -/
def descRules (adm : Bool) (d : Desc) : List (Nat × Bool) :=
  let run := d.opcode = 3
  let ind := run && d.flag 3
  [(0, 1 ≤ d.opcode && d.opcode ≤ 4), (1, d.flags.toNat < 16), (2, if d.opcode = 2 || run then d.handle ≤ 7 else d.handle = 0),
   (3, if adm then d.tenantByte < 32 else d.tenantByte = 0),
   (8, if d.opcode = 1 then d.addr < 2 ^ 39 else if ind then d.addr < 2 ^ 39 && d.addr % 64 = 0 else d.addr = 0),
   (16, (run && !ind) || d.args.all (fun a => a = 0))]

/-- A command waits in slot `k` as it was fetched. -/
def newCmd (q tenant order : Nat) (d : Desc) : Cmd :=
  { queue := q, tenant := tenant, desc := d, order := order, st := .fetched, dupOf := none, startAt := 0, cores := [], switch := .on,
    expired := false, saved := [], savedQueues := [], aborting := false, ending := none, record := none, readyOrder := 0, discard := false }

/-- The lowest free slot. -/
def freeSlotNo (s : State) : Nat := ((List.range 256).find? (fun k => s.cmd k = none)).getD 0

/-- The record of a duplicate: the original's outcome, with DUP set (R497, R503). -/
def dupRec (c : Cmd) (r : CompRec) : CompRec :=
  { r with tag := c.desc.tag, dup := true, replaySafe := c.desc.flag 0, irq := c.desc.flag 1, resource := 0, opcode := c.desc.opcode, runUs := 0 }

/-- A duplicate completes: DUPS counts and event 0x5012 is logged, at most once a queue in 1 ms (R497). -/
def completeDup (s : State) (k : Nat) (c : Cmd) (r : CompRec) : State :=
  let s := s.modQueue c.queue (fun x => { x with dups := satInc x.dups 0xFFFF })
  let s := logLimited s (0x5012 * 65536 + c.queue) 1000 0x5012 0 (queuePage c.queue) [c.queue, c.desc.tag.toNat, r.status, 0]
  completeCmd s k (dupRec c r)

/-- The earliest command of the queue that still has the tag. -/
def liveTag (s : State) (k : Nat) (c : Cmd) : Option Nat :=
  (((queueCmds s c.queue).filter (fun e => e.1 ≠ k && e.2.desc.tag = c.desc.tag)).foldr insertCmd []).head?.map (·.1)

/-- A fetched descriptor is judged, suppressed as a duplicate, or left to begin (R489, R497, R500). -/
def judgeDesc (s : State) (k : Nat) (c : Cmd) : State :=
  match firstOff (descRules (isAdm c.queue) c.desc) with
  | some o =>
    let s := s.modQueue c.queue (fun x => { x with refused := satInc x.refused 0xFFFF })
    completePlain (logEvent s 0x5014 1 (queuePage c.queue) [c.queue, c.desc.tag.toNat, c.desc.opcode, o]) k 0x03 o 0
  | none =>
    if s.host.pathLost then completePlain s k 0x24 0 0
    else match (s.queue c.queue).history.find? (fun r => r.tag = c.desc.tag) with
    | some r => completeDup s k c r
    | none => match liveTag s k c with
      | some o => s.modCmd k (fun x => { x with dupOf := some o })
      | none => s

/-- The descriptor of queue `q` takes slot `k` as command `c`. SQ_HEAD advances past it, but for a queue enabled afresh since a
host reset (R481, R486, R487). -/
def takeDesc (s : State) (q k : Nat) (c : Cmd) : State :=
  let stale := s.host.fetchReset && (s.queue q).enable
  let s := { readOver s with host := { (readOver s).host with nextOrder := s.host.nextOrder + 1 } }
  let s := (s.setCmd k (some c)).modQueue q (fun x =>
    { x with sqHead := if stale then x.sqHead else (x.sqHead + 1) % ringSize x, readFailed := false })
  modSlots s (fun l => { l with free := l.free - 1, fetched := l.fetched + 1 })

/-- The command goes on as a fetched one: a host reset that reached its read ends it with ABORTED and discards its record
(R498); otherwise it is judged, and an ABORT drain of its tenant that started meanwhile reaches it (R502). -/
def fetchedDesc (s : State) (k : Nat) (c : Cmd) (reset : Bool) (drains : List (Nat × Bool)) : State :=
  if reset then completePlain s k 0x22 0 0
  else
    let s := judgeDesc s k c
    if drains.contains (c.tenant, true) then abortCmd s k else s

/-- DESCRIPTOR_RECEIVED, with the link in L0: SQ_HEAD advances, the descriptor takes a slot and is judged (R486, R487, R489, R497,
R499, R502). -/
def execDescriptorReceived (bytes : List Byte) (s : State) : Host.Outcome State Fault Refusal :=
  match s.host.fetching with
  | none => .next s
  | some q =>
    if bytes.length ≠ 64 || !s.ao.l0 then .next s
    else
      let h := s.host
      let d := descOf bytes
      let k := freeSlotNo s
      let c := { newCmd q (if isAdm q then d.tenantByte % 32 else q / 8) h.nextOrder d with discard := h.fetchReset }
      .next (readChecks (fetchedDesc (takeDesc s q k c) k c h.fetchReset h.fetchDrains) h.fetchDrains)

/-- DUPLICATE_COMPLETE: the original's record has been written (R497, R503). -/
def execDuplicateComplete (k : Nat) (s : State) : Host.Outcome State Fault Refusal :=
  match s.cmd k with
  | none => .next s
  | some c => match c.ending with
    | some r => if c.st = .fetched && !executes c then .next (completeDup s k c r) else .next s
    | none => .next s

/-! ### Completion records (R484, R488, R492, R495, R496) -/

/-- The ready record that is to be written next: the one that became ready first (R488). -/
def firstReady (s : State) (q : Nat) : Option (Nat × Cmd × CompRec) :=
  let l := (queueCmds s q).filterMap (fun e => if e.2.st = .completing then e.2.record.map (fun r => (e.1, e.2, r)) else none)
  l.find? (fun e => l.all (fun x => e.2.1.readyOrder ≤ x.2.1.readyOrder))

/-- The 32 bytes of a record (Table 15.5). -/
def completionBytes (x : QueueSt) (r : CompRec) : List Byte :=
  let one (n : Nat) : List Byte := leBytes 1 n
  leBytes 4 r.tag.toNat ++ one r.status ++ one (b2n r.dup + 2 * b2n r.replaySafe + 4 * b2n r.irq) ++ one r.resource ++ one r.handle ++
  leBytes 2 x.sqHead ++ leBytes 2 r.opcode ++ leBytes 4 r.result.toNat ++ leBytes 4 r.detail.toNat ++ leBytes 4 r.runUs ++
  List.replicate 7 0 ++ one (b2n x.phase)

/-- The record enters the tag history (R496). -/
def remembered (r : CompRec) : Bool := !r.dup && !((r.status = 0x20 || r.status = 0x24) && r.replaySafe)

/-- The queue after a record has been written to its ring (R492, R496). -/
def afterRecord (x : QueueSt) (r : CompRec) : QueueSt :=
  let t := (x.cqTail + 1) % ringSize x
  { x with cqTail := t, phase := if t = 0 then !x.phase else x.phase, writeFailed := false,
           history := if remembered r then (r :: x.history).take 64 else x.history }

/-- The duplicates that wait for slot `k` are given its record. -/
def tellDups (s : State) (k : Nat) (r : CompRec) : State :=
  forEach ((slotList s).map (·.1)) s (fun s j => s.modCmd j (fun c =>
    if c.dupOf = some k && c.st = .fetched && c.ending.isNone then { c with ending := some r } else c))

/-- A record can be written: the link is in L0 and the ring has room (R484, R499, R506). -/
def canWrite (s : State) (q : Nat) : Bool := hubOn s && s.ao.l0 && (s.queue q).enable && !(s.queue q).fault && !ringFull (s.queue q)

/-- COMPLETION_RECORD_WRITE (R475, R484, R487, R488, R492, R495, R496). -/
def execCompletionRecordWrite (q : Nat) (s : State) : Host.Outcome State Fault Refusal :=
  if !canWrite s q then .next s
  else match firstReady s q with
  | none => .next s
  | some (k, _, r) =>
    let x := s.queue q
    let s := emit s (.hostWrite (queueFn q) (x.cqBase.toNat + 32 * x.cqTail) (completionBytes x r))
    let s := tellDups (s.setQueue q (afterRecord x r)) k r
    let s := if r.irq then raiseQueue s q 0 else s
    let s := if ringFull (s.queue q) then raiseQueue s q 1 else s
    .next (freeSlot s k)

/-- Commands of a queue whose records are held. -/
def heldRecords (s : State) (q : Nat) : Nat := ((queueCmds s q).filter (fun e => e.2.st = .completing)).length

/-- CQ_FULL_TIMEOUT: event 0x5013, once an episode (R507). -/
def execCqFullTimeout (q : Nat) (s : State) : Host.Outcome State Fault Refusal :=
  let x := s.queue q
  if q < 258 && x.enable && ringFull x && !x.fullLogged then
    .next (logEvent (s.setQueue q { x with fullLogged := true }) 0x5013 2 (queuePage q) [q, heldRecords s q, 0, 0])
  else .next s

/-- A second failure: the queue is in FAULT, and event 0x5014 is logged (R506). -/
def faultQueue (s : State) (q tag opcode : Nat) : State :=
  logEvent (s.modQueue q (fun x => { x with fault := true, readFailed := false, writeFailed := false })) 0x5014 1 (queuePage q)
    [q, tag, opcode, 0xFF]

/-- A descriptor read fails: it goes out once more, and the second time the queue faults; TAG and OPCODE of a descriptor that was
not read are free values. A read that a host reset has reached is not retried. -/
def readFails (s : State) (q : Nat) : State :=
  let x := s.queue q
  let drains := s.host.fetchDrains
  if s.host.fetchReset then readChecks (readOver s) drains
  else if !x.readFailed then
    emit (s.setQueue q { x with readFailed := true }) (.hostRead (queueFn q) (x.sqBase.toNat + 64 * x.sqHead) 64)
  else
    let (tag, s) := freeVal s
    let (op, s) := freeVal s
    readChecks (faultQueue (readOver s) q tag.toNat op.toNat) drains

/-- A record write fails: retried once, then the queue faults. -/
def recordFails (s : State) (q : Nat) (c : Cmd) (r : CompRec) : State :=
  let x := s.queue q
  if x.writeFailed then faultQueue s q r.tag.toNat c.desc.opcode else s.setQueue q { x with writeFailed := true }

/-- DMA_FAILURE of the descriptor read (`record` false) or the record write of a queue, with the link in L0 (R499, R506). -/
def execDmaFailure (q : Nat) (record : Bool) (s : State) : Host.Outcome State Fault Refusal :=
  if record then
    if !canWrite s q then .next s
    else match firstReady s q with
    | none => .next s
    | some (_, c, r) => .next (recordFails s q c r)
  else if s.host.fetching = some q && s.ao.l0 then .next (readFails s q)
  else .next s

/-! ### Resets and the link (R60, R91, R498, R499) -/

/-- A queue is reset: disabled, its history empty, QUEUE_RESET raised; a descriptor of it that is being read is marked
(R498, R502). -/
def resetQueue (s : State) (q : Nat) : State :=
  let s := s.modQueue q (fun x => { x with enable := false, fault := false, history := [], readFailed := false, writeFailed := false,
                                           fullLogged := false })
  raiseQueue { s with host := { s.host with fetchReset := s.host.fetchReset || s.host.fetching = some q } } q 2

/-- The ABORT drain of a host reset starts for one tenant (R498). -/
def resetDrainStart (s : State) (n : Nat) : State :=
  drainReads (s.modTenant n (fun t => { t with resetDrain := true, done := false, aborted := if t.go && !t.done then t.aborted else 0 })) n true

/-- Commands that a reset of these tenants aborts: fetched or running (R498). -/
def abortable (s : State) (ts : List Nat) : Nat :=
  ((slotList s).filter (fun e => ts.contains e.2.tenant && executes e.2 && e.2.st ≠ .completing && e.2.ending.isNone)).length

/-- The host's resets: an ABORT drain, records discarded, queues disabled, SLOT_LIMIT reset, RESET and event 0x5010 (R498). -/
def hostReset (s : State) (cause tenant : Nat) (ts qs : List Nat) : State :=
  let aborted := abortable s ts
  let held := (qs.map (heldRecords s)).sum
  let s := forEach qs s (fun s q => forEach ((queueCmds s q).map (·.1)) s (fun s k => s.modCmd k (fun c => { c with discard := true })))
  let s := rejudge (forEach ts (forEach ts s resetDrainStart) abortDrain)
  let s := forEach qs s (fun s q => resetQueue (discardQueue s q) q)
  let s := forEach ts s (fun s n => drainCheck (s.modTenant n (fun t => { t with slotLimit := 8 })) n)
  raise (logEvent s 0x5010 1 .hostif [cause, tenant, aborted, held]) .hostif 2

/-- Every tenant, and every queue of the device. -/
def allTenants : List Nat := List.range 32
def allQueues : List Nat := List.range 258

/-- PERST_N_CHANGE: the host's presence follows; on assertion E2's PCIe logic is reset, the link leaves L0 and every queue is
reset (R60, R91, R498, R656). -/
def execPerstNChange (asserted : Bool) (s : State) : Host.Outcome State Fault Refusal :=
  let s1 := { s with ao := { s.ao with perst := asserted } }
  if !asserted || s.ao.perst || !dieOn s 10 then .next (absence s1)
  else
    let s2 := if s1.ao.l0 then linkSet s1 false s1.ao.rate s1.ao.width else absence s1
    .next (hostReset { s2 with host := { s2.host with pcie := [], msix := [] } } 0 0xFF allTenants allQueues)

/-- Place of a function among the functions: 0 PF0, n + 1 VF(n + 1). -/
def fnNo : Option Nat → Nat
  | none => 0
  | some n => n + 1

/-- A function's configuration and its MSI-X table are reset (log entry 102). -/
def fnReset (s : State) (fns : List Nat) : State :=
  { s with host := { s.host with pcie := s.host.pcie.filter (fun e => !fns.contains e.1),
                                 msix := s.host.msix.filter (fun e => !fns.contains (e.1 / 256)) } }

/-- FUNCTION_LEVEL_RESET (R498). -/
def execFunctionLevelReset (f : FlrTarget) (s : State) : Host.Outcome State Fault Refusal :=
  if !isReady s || !s.ao.l0 then .next s
  else match f with
  | .pf0 => .next (hostReset (fnReset s (List.range 33)) 1 0xFF allTenants allQueues)
  | .vf n => if n < 32 then .next (hostReset (fnReset s [n + 1]) 2 n [n] ((List.range 8).map (· + 8 * n))) else .next s

/-- PCIE_LINK_CHANGE, between the rates and widths of Table 15.1 (R65, R91, R474, R499). -/
def execPcieLinkChange (l0 : Bool) (rate width : Nat) (s : State) : Host.Outcome State Fault Refusal :=
  if !dieOn s 10 || (l0 && (s.ao.perst || !linkModeOk rate width)) then .next s else .next (linkSet s l0 rate width)

/-! ### Configuration space and MSI-X tables (R474, R476) -/

/-- The configuration of a function. -/
def pcieOf (s : State) (fn : Option Nat) : PcieFn := look {} s.host.pcie (fnNo fn)

/-- A field of a function's configuration space as it reads (Table 15.1). -/
def cfgRead (s : State) (fn : Option Nat) : CfgField → Nat
  | .vendor => Config.vendorId.toNat
  | .device => if fn.isNone then 0x0070 else 0x0071
  | .classCode => 0x120000
  | .totalVfs => if fn.isNone then 32 else 0
  | .initialVfs => if fn.isNone then 32 else 0
  | .vfStride => if fn.isNone then 1 else 0
  | .maxPayload => (pcieOf s fn).payload
  | .maxReadRequest => (pcieOf s fn).readSize
  | .d3hot => b2n (pcieOf s fn).d3hot
  | .aspmL1 => b2n (pcieOf s fn).aspmL1

/-- A write of a field: sizes that Table 15.1 supports, D0 or D3hot, ASPM L1; it leaves the fixed fields (log entry 102). -/
def cfgWrite (x : PcieFn) (f : CfgField) (v : Nat) : PcieFn :=
  match f with
  | .maxPayload => if v = 128 || v = 256 || v = 512 then { x with payload := v } else x
  | .maxReadRequest => if v = 128 || v = 256 || v = 512 || v = 1024 || v = 2048 || v = 4096 then { x with readSize := v } else x
  | .d3hot => { x with d3hot := v = 1 }
  | .aspmL1 => { x with aspmL1 := v = 1 }
  | .vendor | .device | .classCode | .totalVfs | .initialVfs | .vfStride => x

/-- The request acts, and is completed with the field as it then reads. -/
def cfgDone (s : State) (tag : Nat) (r : CfgReq) : State :=
  let s := match r.write with
    | some v => { s with host := { s.host with pcie := put {} s.host.pcie (fnNo r.fn) (cfgWrite (pcieOf s r.fn) r.field v) } }
    | none => s
  emit s (.cfg tag false (cfgRead s r.fn r.field))

/-- PCIE_CONFIG_REQUEST: until the device is ready it is answered with CRS (R48, R474). -/
def execPcieConfigRequest (tag : Nat) (r : CfgReq) (s : State) : Host.Outcome State Fault Refusal :=
  if !dieOn s 10 || s.ao.perst || !r.fn.all (· < 32) then .next s
  else if !isReady s then .next (emit s (.cfg tag true 0))
  else .next (cfgDone s tag r)

/-- The function and the offset in its MSI-X BAR, PF0 BAR4 or VF BAR2, which follows BAR0 in the addresses of REGISTER_WRITE
(Table 15.2, log entry 102). -/
def msixAt (m : Master) (a : Nat) : Option (Option Nat × Nat) :=
  match m with
  | .host => if 2 ^ 26 ≤ a && a < 2 ^ 26 + 2 ^ 16 then some (none, a - 2 ^ 26) else none
  | .vf n => if 2 ^ 16 ≤ a && a < 2 ^ 16 + 2 ^ 13 then some (some n, a - 2 ^ 16) else none
  | .side _ => none

/-- Vectors of a function: 64 of PF0, 16 of a VF (R477, R478). -/
def fnVectors (fn : Option Nat) : Nat := if fn.isNone then 64 else 16

/-- The word at an offset of a function's MSI-X BAR: four words of the table for each vector; the rest, the PBA in it, reads 0. -/
def msixRead (s : State) (fn : Option Nat) (off : Nat) : Word :=
  if off < 16 * fnVectors fn then look 0 s.host.msix (256 * fnNo fn + off / 4) else 0

/-- A write in a function's MSI-X BAR (R476). -/
def writeMsix (fn : Option Nat) (off : Nat) (w : RegWrite) (s : State) : State × RefCode :=
  if !isReady s then (emit s (.unsupported off), .bringup)
  else if off < 16 * fnVectors fn then
    ({ s with host := { s.host with msix := put 0 s.host.msix (256 * fnNo fn + off / 4) (w.merged (msixRead s fn off)) } }, .ok)
  else (s, .ok)

/-- The host has been absent for 500 ms of AO ticks (R91). -/
def absentLong (s : State) : Bool := s.ao.absentSince.elim false (fun t => !withinUs s t 500000)

/-- HOST_ABSENT sets once the host has been absent for 500 ms (R91). -/
def execHostAbsent (s : State) : Host.Outcome State Fault Refusal :=
  if !hubOn s || s.ao.hostAbsent || !absentLong s then .next s
  else .next (raise { s with ao := { s.ao with hostAbsent := true } } .arbiter 2)

/-! ### HOSTIF page (Tables 15.10, 15.11) -/

/-- The administrative queue and its register number of an offset. -/
def admReg (off : Nat) : Option (Nat × Nat) :=
  if 0x100 ≤ off && off < 0x180 then some (256 + (off - 0x100) / 0x40, (off - 0x100) % 0x40 / 4) else none

/-- Pending causes of an administrative queue. -/
def admPending (s : State) (q : Nat) : Bool := (s.queue q).admInt &&& (s.queue q).admIntEn ≠ 0

/-- Change an administrative queue's causes or enables; its vector is sent as R96 lays down. -/
def admInts (s : State) (q : Nat) (always : Bool) (f : QueueSt → QueueSt) : State :=
  let s' := s.modQueue q f
  if admPending s' q && (always || !admPending s q) then emit s' (.msix none (58 + (q - 256))) else s'

def readHostif (s : State) (off : Nat) : Word :=
  match admReg off with
  | some (q, i) =>
    let x := s.queue q
    if i < 12 then readQueue s q i
    else if i = 12 then word [(0, b2n x.enable), (4, queueCode x)]
    else if i = 13 then x.admInt.setWidth 32
    else if i = 14 then x.admIntEn.setWidth 32 else 0
  | none =>
    match off with
    | 0x40 => word [(0, s.ao.rate % 128), (8, s.ao.width % 32), (16, b2n s.ao.l0)]
    | 0x44 => word [(0, b2n s.host.pathLost)]
    | 0x48 => word [(0, s.host.tenSel)]
    | 0x4C => word [(0, (s.tenant s.host.tenSel).slotLimit)]
    | 0x50 => word [(0, slotsHeld s s.host.tenSel), (16, (slotList s).length)]
    | 0x54 => word [(0, s.host.admLimit)]
    | _ => 0

/-- A write of SLOT_LIMIT (R504, Table 15.11). -/
def writeSlotLimit (w : RegWrite) (s : State) : State × RefCode :=
  let v := fld (w.merged (readHostif s 0x4C)).toNat 0 9
  guarded s .hostif 0x4C w { outOfRange := v = 0 || 256 < v } (fun s => s.modTenant s.host.tenSel (fun t => { t with slotLimit := v }))

/-- SLOT_LIMIT_WRITE. -/
def execSlotLimitWrite (w : RegWrite) (s : State) : Host.Outcome State Fault Refusal := .next (writeSlotLimit w s).1

def writeHostif (off : Nat) (w : RegWrite) (s : State) : State × RefCode :=
  let v := w.merged (readHostif s off)
  match admReg off with
  | some (q, i) =>
    if i < 12 then writeQueue q i w s
    else if i = 12 then writeQueueEnable q (fun _ s => s) w s
    else if i = 13 then guarded s .hostif off w {} (fun s => admInts s q true (fun x => { x with admInt := x.admInt &&& ~~~ (w.ones.setWidth 3) }))
    else if i = 14 then guarded s .hostif off w {} (fun s => admInts s q false (fun x => { x with admIntEn := v.setWidth 3 }))
    else roWrite s .hostif off w
  | none =>
    match off with
    | 0x48 => guarded s .hostif off w {} (fun s => { s with host := { s.host with tenSel := fld v.toNat 0 5 } })
    | 0x4C => writeSlotLimit w s
    | 0x54 =>
      let n := fld v.toNat 0 9
      guarded s .hostif off w { outOfRange := n = 0 || 256 < n } (fun s => { s with host := { s.host with admLimit := n } })
    | _ => roWrite s .hostif off w

end Sys2Proof.Machine
end

