-- ==== Sys2Proof/Machine/MemCmd.lean ====
section
/-!
DEFINITION. The commands of device memory (chapter 13): scrubbing, retirement, PHY retraining, the BAR2 window, and the MEM page.
-/
namespace Sys2Proof.Machine
open Sys2Proof

/-! ### The events of memory -/

/-- SCRUB: the scrubber visits a mapped line of a stack in use (R423). -/
def execScrub (t line : Nat) (e : EccRead) (s : State) : Host.Outcome State Fault Refusal :=
  let a := t * 2 ^ 36 + 64 * line
  if t < 8 && stackUp s t && !(s.stack t).retiring && 64 * line < stackMib (s.stack t) * 2 ^ 20 then
    let pct := 100 * (64 * (line + 1)) / (stackMib (s.stack t) * 2 ^ 20)
    .next (codeEnd (eccRead (s.modStack t (fun x => { x with donePct := pct })) a 1 e))
  else .next s

/-- A write of RETIRE (Table 13.9). -/
def writeRetire (t : Nat) (w : RegWrite) (s : State) : State × RefCode :=
  let ch := fld w.value.toNat 0 5
  let go := w.value.getLsbD 8
  guarded s (.mem t) 0x70 w
    { outOfRange := !w.full,
      wrongState := go && ((s.tile t).st ≠ .kindled || plateOnTile s t || (s.stack t).gone.contains ch),
      noResource := go && 4 ≤ (s.stack t).gone.length }
    (fun s => if go then codeEnd (retireChannel s t ch 3) else s)

/-- RETIRE. -/
def execRetire (t : Nat) (w : RegWrite) (s : State) : Host.Outcome State Fault Refusal := .next (writeRetire t w s).1

/-- A write of LOST_COUNT: CLEAR empties the list and clears OVERFLOW (Table 13.8). -/
def writeLostCount (t : Nat) (w : RegWrite) (s : State) : State × RefCode :=
  guarded s (.mem t) 0x5C w {} (fun s =>
    if w.ones.getLsbD 31 then s.modStack t (fun x => { x with lostList := [], overflow := false }) else s)

/-- LOST_LIST_CLEAR. -/
def execLostListClear (t : Nat) (w : RegWrite) (s : State) : Host.Outcome State Fault Refusal := .next (writeLostCount t w s).1

/-- HBM_PHY_RETRAIN_FAIL: the second failure retires the channel (R425). -/
def execHbmPhyRetrainFail (t ch : Nat) (s : State) : Host.Outcome State Fault Refusal :=
  if t < 8 && ch < 32 && stackUp s t then
    let s := modChan s t ch (fun c => { c with phyFails := c.phyFails + 1 })
    .next (if 2 ≤ (look {} (s.stack t).chans ch).phyFails then codeEnd (retireChannel s t ch 2) else s)
  else .next s

/-! ### BAR2 (R430, R431) -/

/-- A BAR2 request is refused: Unsupported Request for a read, and event 0x4006. -/
def bar2Refuse (s : State) (a kind : Nat) : State :=
  logEvent s 0x4006 1 (.mem (dpaStack a % 8)) [a % 2 ^ 32, a / 2 ^ 32, kind, 0]

/-- Why a BAR2 request is answered Unsupported Request, if it is (R430). -/
def bar2Bad (s : State) (a n : Nat) : Option Nat :=
  if !stackUp s (dpaStack a) || !stackUp s (dpaStack (a + n - 1)) then some 0
  else if !mappedAll s a n then some 1 else none

/-- Give each line of an access what its read finds. -/
def eccLines (s : State) : List Nat → List EccRead → State
  | l :: ls, e :: es => eccLines (eccRead s l 2 e) ls es
  | _, _ => s

/-- BAR2_READ (R48, R430, R431). The value of a poisoned line is not given by the spec. -/
def execBar2Read (a n : Nat) (ecc : List EccRead) (s : State) : Host.Outcome State Fault Refusal :=
  if !isReady s then .next (emit s (.unsupported a))
  else match bar2Bad s a n with
  | some k => .next (emit (bar2Refuse s a k) (.unsupported a))
  | none =>
    let s := codeEnd (eccLines s (linesOf a n) ecc)
    if (firstPoison s a n).isSome then
      let (v, s) := freeBytes s n
      .next (emit (emit s (.bar2Data v true)) .aer)
    else .next (emit s (.bar2Data (memRead s a n) false))

/-- The lines a write covers in part. -/
def partialLines (a n : Nat) : List Nat := (linesOf a n).filter (fun l => l < a || a + n < l + 64)

/-- BAR2_WRITE: a write that covers part of a poisoned line is discarded (R430, R431). -/
def execBar2Write (a : Nat) (bytes : List Byte) (s : State) : Host.Outcome State Fault Refusal :=
  if !isReady s then .next (emit s (.unsupported a))
  else match bar2Bad s a bytes.length with
  | some k => .next (emit (bar2Refuse s a k) (.unsupported a))
  | none =>
    if (partialLines a bytes.length).any (poisoned s) then .next (bar2Refuse s a 2) else .next (memWrite s a bytes)

/-! ### MEM page (Tables 13.4 to 13.9) -/

/-- CH_RETIRED. -/
def goneMask (x : StackSt) : Word := word (x.gone.map (fun c => (c, 1)))

/-- The entry LOST_SEL names. -/
def lostShown (x : StackSt) : Nat × Bool := x.lostList.getD x.lostSel (0, false)

def readMem (s : State) (t off : Nat) : Word :=
  let x := s.stack t
  let c := look {} x.chans x.chSel
  match off with
  | 0x40 => word [(0, b2n x.init), (1, b2n x.selfRefresh), (2, b2n x.hot), (4, x.gone.length)]
  | 0x44 => word [(0, stackMib x)]
  | 0x48 => goneMask x
  | 0x4C => word [(0, x.corr), (16, x.uncorr)]
  | 0x50 => w32 x.errAddr
  | 0x54 => word [(0, x.errAddr / 2 ^ 32)]
  | 0x58 => word [(0, x.hours), (16, x.donePct)]
  | 0x5C => word [(0, x.lostList.length), (16, b2n x.overflow)]
  | 0x60 => word [(0, x.lostSel)]
  | 0x64 => word [(0, (lostShown x).1), (16, b2n (lostShown x).2)]
  | 0x68 => word [(0, x.chSel)]
  | 0x6C => word [(0, c.repairs), (8, c.unrepairable), (16, min (lastDay s c.poisoned).length 255), (24, b2n (x.gone.contains x.chSel))]
  | _ => 0

def writeMem (t off : Nat) (w : RegWrite) (s : State) : State × RefCode :=
  let v := (w.merged (readMem s t off)).toNat
  match off with
  | 0x58 => guarded s (.mem t) off w { outOfRange := fld v 0 8 = 0 || 168 < fld v 0 8 }
      (fun s => s.modStack t (fun x => { x with hours := fld v 0 8 }))
  | 0x5C => writeLostCount t w s
  | 0x60 => guarded s (.mem t) off w {} (fun s => s.modStack t (fun x => { x with lostSel := fld v 0 10 }))
  | 0x68 => guarded s (.mem t) off w {} (fun s => s.modStack t (fun x => { x with chSel := fld v 0 5 }))
  | 0x70 => writeRetire t w s
  | _ => roWrite s (.mem t) off w

end Sys2Proof.Machine
end

