-- ==== Sys2Proof/Machine/Therm.lean ====
section
/-!
DEFINITION. Temperature and throttling (chapter 10): sensors, zones and levels, the throttle states, managed shutdown, the
hardware trip, the refresh interval of the stacks (R428), and the THERM page.
-/
namespace Sys2Proof.Machine
open Sys2Proof

/-! ### Sensors and zones (Table 10.1, R302 to R305) -/

def sensorIsStack (k : Nat) : Bool := 96 ≤ k && k < 112

/-- The zone of a sensor. -/
def sensorZone (k : Nat) : Nat := if k < 96 then k / 12 else if k < 112 then (k - 96) / 2 else if k < 124 then 8 else 9

/-- The die under which a sensor lies; a stack's tile. -/
def sensorDie (k : Nat) : Nat := if k < 96 then k / 12 else if k < 112 then (k - 96) / 2 else 8 + (k - 112) / 4

/-- The sensor should be delivering readings (R303). -/
def sensorOn (s : State) (k : Nat) : Bool :=
  if sensorIsStack k then hubOn s && ((s.tile (sensorDie k)).st = .kindled || (s.tile (sensorDie k)).st = .stoked)
  else dieOn s (sensorDie k)

def State.sensor (s : State) (k : Nat) : SensorSt := look {} s.therm.sensors k
def State.modSensor (s : State) (k : Nat) (f : SensorSt → SensorSt) : State :=
  { s with therm := { s.therm with sensors := modAt {} s.therm.sensors k f } }

/-- The reading of a sensor that plays a part in levels and maxima (R304). -/
def reading (s : State) (k : Nat) : Option Int := if sensorOn s k && !(s.sensor k).failed then (s.sensor k).temp else none

/-- Die sensors and stack sensors of a zone. -/
def zoneDies (z : Nat) : List Nat :=
  if z < 8 then (List.range 12).map (· + 12 * z) else if z = 8 then (List.range 12).map (· + 112) else (List.range 4).map (· + 124)
def zoneStacks (z : Nat) : List Nat := if z < 8 then [96 + 2 * z, 97 + 2 * z] else []

/-- The highest reading and the lowest-numbered sensor that holds it. -/
def hottest (s : State) (l : List Nat) : Option (Int × Nat) :=
  l.foldl (fun b k => match reading s k, b with
    | none, _ => b
    | some v, none => some (v, k)
    | some v, some (u, j) => if u < v then some (v, k) else some (u, j)) none

/-- A maximum as registers and events show it: 0x8000 with no reading (R304). -/
def shown (r : Option (Int × Nat)) : Nat := match r with | some (v, _) => twos 16 v | none => 0x8000

/-- The hottest reading of a zone. -/
def zoneHot (s : State) (z : Nat) : Nat := shown (hottest s (zoneDies z ++ zoneStacks z))

/-- Level of a zone. -/
def levelOf (s : State) (z : Nat) : Nat := look 0 s.therm.levels z

/-- Some zone stands at THROTTLE or above. -/
def anyHot (s : State) : Bool := (List.range 10).any (fun z => 2 ≤ levelOf s z)

/-! ### Failed sensors (R329, R330) -/

/-- A sensor fails: its bit of FAILED, event 0x2007 (reason 0 range, 1 missing, 2 disagreement), SENSOR_FAIL. -/
def failSensor (s : State) (k reason : Nat) : State :=
  if (s.sensor k).failed then s
  else
    let last := match (s.sensor k).temp with | some v => twos 16 v | none => 0x8000
    raise (logEvent (s.modSensor k (fun x => { x with failed := true })) 0x2007 2 .therm [k, reason, last, 0]) .therm 4

/-- A reading put in its place in a rising list. -/
def insertReading (v : Int) : List Int → List Int
  | [] => [v]
  | x :: xs => if v ≤ x then v :: x :: xs else x :: insertReading v xs

/-- Twice the median of a list of readings: the sum of the middle two, or twice the middle one. -/
def median2 (l : List Int) : Int :=
  let o := l.foldr insertReading []
  o.getD ((o.length - 1) / 2) 0 + o.getD (o.length / 2) 0

/-- A reading differs by more than 20 degrees from the others of its zone or stack (R329). -/
def disagrees (s : State) (k : Nat) (v : Int) : Bool :=
  let peers := ((if sensorIsStack k then zoneStacks (sensorZone k) else zoneDies (sensorZone k)).filter (· ≠ k)).filterMap (reading s)
  peers ≠ [] && 160 < (2 * v - median2 peers).natAbs

/-- Failed sensors of a zone. -/
def zoneFailed (s : State) (z : Nat) : Nat := ((zoneDies z ++ zoneStacks z).filter (fun k => (s.sensor k).failed)).length

/-- A zone is held at THROTTLE: more than half of its die sensors, or both sensors of a powered stack, have failed (R330). -/
def zoneHeld (s : State) (z : Nat) : Bool :=
  (zoneDies z).length < 2 * ((zoneDies z).filter (fun k => (s.sensor k).failed)).length ||
  (zoneStacks z ≠ [] && hubOn s && tileUp s z && (zoneStacks z).all (fun k => (s.sensor k).failed))

/-! ### Refresh interval of a stack (R428, R437) -/

/-- The refresh interval changes with a stack's readings; the shorter one waits for the end of a retirement. -/
def refreshUpdate (s : State) (t : Nat) (v : Int) : State :=
  let x := s.stack t
  if 340 ≤ v && !x.hot then
    if x.retiring then s.setStack t { x with hotDue := true }
    else raise (logEvent (s.setStack t { x with hot := true }) 0x4007 0 (.mem t) [t, 1, twos 16 v, 0]) (.mem t) 4
  else if (zoneStacks t).all (fun k => (s.sensor k).temp.any (· < 328)) then
    if x.hot then logEvent (s.setStack t { x with hot := false }) 0x4007 0 (.mem t) [t, 0, twos 16 v, 0]
    else s.setStack t { x with hotDue := false }
  else s

/-- CHANNEL_RETIRE_DONE: the retirement's stall ends; a refresh interval that waited takes effect, and a tile that waited
to enter Off starts to fall (R425, R436, R437). -/
def execChannelRetireDone (t : Nat) (s : State) : Host.Outcome State Fault Refusal :=
  if !(s.stack t).retiring then .next s
  else
    let s1 := codeEnd (retireEnd s t)
    if (s1.stack t).retiring then .next s1
    else
      let x := s1.stack t
      let s2 := if x.hotDue then
          raise (logEvent (s1.setStack t { x with hotDue := false, hot := true }) 0x4007 0 (.mem t)
            [t, 1, shown (hottest s1 (zoneStacks t)), 0]) (.mem t) 4
        else s1
      match s2.power.trans with
      | some tr => (match tr.cur with
        | .off m => if m.getLsbD t && (s2.tile t).st = .kindled then .next (noted s2 (tileFall s2 t)) else .next s2
        | _ => .next s2)
      | none => .next s2

/-- SENSOR_READING: the reading is taken, the sensor is checked, and a stack's refresh interval follows (R303, R305, R329,
R428). -/
def execSensorReading (k : Nat) (temp : Int) (s : State) : Host.Outcome State Fault Refusal :=
  if 128 ≤ k || !sensorOn s k then .next s
  else
    let dis := disagrees s k temp
    let s := s.modSensor k (fun x => { x with temp := some temp, differs := if dis then min (x.differs + 1) 100 else 0 })
    let s := if temp < -160 || 600 < temp then failSensor s k 0
      else if (s.sensor k).differs = 100 then failSensor s k 2 else s
    .next (if sensorIsStack k then refreshUpdate s (sensorDie k) temp else s)

/-- SENSOR_MISSING: no reading for 300 us (R329). -/
def execSensorMissing (k : Nat) (s : State) : Host.Outcome State Fault Refusal :=
  if k < 128 && sensorOn s k then .next (failSensor s k 1) else .next s

/-! ### Levels (R306 to R309, R330) -/

/-- Threshold `l` of a kind in quarter degrees. -/
def threshold (x : ThermSt) (stack : Bool) (l : Nat) : Int :=
  4 * ((if stack then (if l = 1 then x.stackWarn else if l = 2 then x.stackThrottle else x.stackShutdown)
        else (if l = 1 then x.dieWarn else if l = 2 then x.dieThrottle else x.dieShutdown) : Nat) : Int)

/-- Readings of a zone with their kinds. -/
def zoneReadings (s : State) (z : Nat) : List (Bool × Int) :=
  (zoneDies z).filterMap (fun k => (reading s k).map (fun v => (false, v))) ++
  (zoneStacks z).filterMap (fun k => (reading s k).map (fun v => (true, v)))

/-- The highest level some sensor has reached. -/
def levelUp (x : ThermSt) (r : List (Bool × Int)) : Nat :=
  if r.any (fun e => threshold x e.1 3 ≤ e.2) then 3
  else if r.any (fun e => threshold x e.1 2 ≤ e.2) then 2
  else if r.any (fun e => threshold x e.1 1 ≤ e.2) then 1 else 0

/-- The fall of a level from `l` while every sensor is a hysteresis below its threshold. -/
def levelDown (x : ThermSt) (r : List (Bool × Int)) : Nat → Nat
  | 0 => 0
  | l + 1 => if r.all (fun e => e.2 < threshold x e.1 (l + 1) - 4 * (x.hyst : Int)) then levelDown x r l else l + 1

/-- The new level of a zone (R306, R330). -/
def judgeLevel (s : State) (z : Nat) : Nat :=
  let r := zoneReadings s z
  let up := levelUp s.therm r
  let l := if levelOf s z < up then up else levelDown s.therm r (levelOf s z)
  if zoneHeld s z then max l 2 else l

/-- The tiles of a mask are taken Off by a managed shutdown, the running transition stops (R315, R316, R325). -/
def shutDown (s : State) (z : Nat) : State :=
  let ts := (if z < 8 then [z] else List.range 8).filter (fun t => (s.tile t).st ≠ .off)
  let mask := (ts.map (fun t => 2 ^ t)).sum
  let hot := zoneHot s z
  let s := { s with power := { s.power with trans := s.power.trans.map (fun (tr : Trans) =>
    match tr.cur with | .wake => tr | .bank => tr | _ => { tr with stop := true }) } }
  let s := rejudge (forEach ts s (fun s t => forceOff s t (.thermal z mask)))
  let s := if 8 ≤ z then forEach (List.range 8) s portOff else s
  raise (logEvent s 0x2005 3 .therm [z, hot, mask, 0]) .therm 3

/-- A zone is judged: event 0x2001 on a change, WARN on entry to it, a managed shutdown at SHUTDOWN, event 0x2008 when the
zone comes to be held (R306, R309, R315, R330). -/
def judgeZone (s : State) (z : Nat) : State :=
  let old := levelOf s z
  let new := judgeLevel s z
  let held := zoneHeld s z
  let was := s.therm.heldZones.contains z
  let s := { s with therm := { s.therm with
    heldZones := if held && !was then s.therm.heldZones ++ [z] else if held then s.therm.heldZones else s.therm.heldZones.filter (· ≠ z) } }
  let s := if held && !was then logEvent s 0x2008 3 .therm [z, zoneFailed s z, new, 0] else s
  if new = old then s
  else
    let s := logEvent { s with therm := { s.therm with levels := put 0 s.therm.levels z new } } 0x2001 1 .therm [z, old, new, zoneHot s z]
    let s := if new = 1 then raise s .therm 0 else s
    if new = 3 then shutDown s z else s

/-! ### Throttle (R310 to R314, R324) -/

/-- The zone a throttle event names: the first at THROTTLE or above. -/
def hotZone (s : State) : Nat := ((List.range 10).find? (fun z => 2 ≤ levelOf s z)).getD 0

/-- The thermal cap falls by one step (Table 10.2). -/
def capDown (s : State) : State :=
  let new := max 1232 (s.token.thermalCap - 394)
  let s := { s with therm := { s.therm with steps := if new < s.token.thermalCap then s.therm.steps + 1 else s.therm.steps, lowest := min s.therm.lowest new } }
  setThermalCap s new

/-- Entry to REQUESTED (R310, R311). -/
def throttleRequest (s : State) : State :=
  let z := hotZone s
  let s := { s with therm := { s.therm with
    throttle := .requested, graceUsed := s.therm.grace, graceAt := s.ao.ticks, zone := z, lowest := 4928, steps := 0,
    requests := satInc s.therm.requests 0xFFFF } }
  raise (raise (logEvent s 0x2002 2 .therm [z, zoneHot s z, s.therm.grace, 0]) .therm 1) .hearth 3

/-- The throttle state follows the zones (Table 10.2). -/
def throttleJudge (s : State) : State :=
  match s.therm.throttle, anyHot s with
  | .idle, true => throttleRequest s
  | .requested, false => { s with therm := { s.therm with throttle := .idle } }
  | .enforcing, false => { s with therm := { s.therm with throttle := .relaxing } }
  | .relaxing, true => capDown { s with therm := { s.therm with throttle := .enforcing } }
  | _, _ => s

/-- ZONE_JUDGE: every zone is judged, then the throttle state. -/
def execZoneJudge (s : State) : Host.Outcome State Fault Refusal :=
  if !hubOn s then .next s
  else
    let s1 := forEach (List.range 10) s judgeZone
    .next (noted s (throttleJudge s1))

/-- GRACE_EXPIRE: the grace time ends with a zone still hot: ENFORCING, with its first step (R310, R314). -/
def execGraceExpire (s : State) : Host.Outcome State Fault Refusal :=
  if s.therm.throttle = .requested && anyHot s then
    let z := hotZone s
    let s := capDown { s with therm := { s.therm with throttle := .enforcing, enforced := satInc s.therm.enforced 0xFFFF } }
    .next (raise (logEvent s 0x2003 2 .therm [z, s.token.thermalCap, zoneHot s z, 0]) .therm 2)
  else .next s

/-- ENFORCE_STEP: 5 ms later the cap falls again (R310). -/
def execEnforceStep (s : State) : Host.Outcome State Fault Refusal :=
  if s.therm.throttle = .enforcing then .next (capDown s) else .next s

/-- RELAX_STEP: every 20 ms the cap rises; at 4928 the throttle is over (R310, R314). -/
def execRelaxStep (s : State) : Host.Outcome State Fault Refusal :=
  if s.therm.throttle = .relaxing then
    let new := min 4928 (s.token.thermalCap + 394)
    let s := setThermalCap s new
    if new < 4928 then .next s
    else
      let s := { s with therm := { s.therm with throttle := .idle } }
      .next (raise (logEvent s 0x2004 0 .therm [msSince s s.therm.graceAt, s.therm.lowest, s.therm.steps, 0]) .therm 5)
  else .next s

/-! ### The hardware trip (R319 to R323, R326) -/

/-- The trip fires: all but the AO domain loses power, the ledgers hold their last values, the latch and event 0x2006 are
written (R120, R320). -/
def tripFire (s : State) (k : Nat) (stack : Bool) : State :=
  let temp := (s.sensor k).temp.getD (-32768)
  let f := { hubLost s .banked with
    trip := some ⟨stack, k, temp, !s.ao.aoLock, s.ao.ticks⟩, ledgers := s.ledgers,
    ledger := { s.ledger with open_ := false } }
  cutRequest s (retainEvent f 0x2006 4 .therm [k, twos 16 temp, b2n stack, sensorDie k]) .tripped

/-- Sensor `k` can trip: a die's, whose comparator has power, or a stack's whose last reading reached 100 degrees (R319). -/
def canTrip (s : State) (k : Nat) : Bool :=
  if sensorIsStack k then hubOn s && (s.sensor k).temp.any (fun v => 400 ≤ v) else sensorOn s k

/-- HW_TRIP: a die's comparator, or a stack reading of 100 degrees (R319). -/
def execHwTrip (k : Nat) (stack : Bool) (s : State) : Host.Outcome State Fault Refusal :=
  if k < 128 && s.ao.vsb && s.trip.isNone && stack = sensorIsStack k && canTrip s k then .next (tripFire s k stack) else .next s

/-! ### THERM page (Tables 10.4 to 10.15) -/

def throttleNum : Throttle → Nat
  | .idle => 0 | .requested => 1 | .enforcing => 2 | .relaxing => 3

/-- PKG_DIE and PKG_STACK (Table 10.6). -/
def pkgMax (s : State) (l : List Nat) : Word :=
  let h := hottest s l
  word [(0, shown h), (16, (h.map (·.2)).getD 0)]

def failedWord (s : State) (k : Nat) : Word :=
  w32 (((List.range 32).map (fun b => if (s.sensor (32 * k + b)).failed then 2 ^ b else 0)).sum)

/-- GRACE_LEFT in ms (Table 10.10). -/
def graceLeft (s : State) : Nat :=
  if s.therm.throttle = .requested then s.therm.graceUsed - msSince s s.therm.graceAt else 0

def readTherm (s : State) (off : Nat) : Word :=
  let x := s.therm
  let all := List.range 128
  match off with
  | 0x40 => word ([(20, ((List.range 10).map (levelOf s)).foldl max 0), (22, throttleNum x.throttle)] ++
      (List.range 10).map (fun z => (2 * z, levelOf s z)))
  | 0x44 => pkgMax s (all.filter (fun k => !sensorIsStack k))
  | 0x48 => pkgMax s (all.filter sensorIsStack)
  | 0x4C => w32 x.zoneSel
  | 0x50 => word [(0, shown (hottest s (zoneDies x.zoneSel))), (16, shown (hottest s (zoneStacks x.zoneSel)))]
  | 0x54 => word [(0, x.dieWarn), (8, x.dieThrottle), (16, x.dieShutdown), (24, x.hyst)]
  | 0x58 => word [(0, x.stackWarn), (8, x.stackThrottle), (16, x.stackShutdown)]
  | 0x5C => w32 x.grace
  | 0x60 => word [(0, s.token.thermalCap), (16, graceLeft s), (25, (4928 - s.token.thermalCap + 393) / 394)]
  | 0x64 => w32 x.sensorSel
  | 0x68 =>
    let on := sensorOn s x.sensorSel
    let y := s.sensor x.sensorSel
    word [(0, if on then (match y.temp with | some v => twos 16 v | none => 0x8000) else 0x8000),
      (16, b2n (on && y.temp.isSome)), (17, b2n y.failed)]
  | 0x6C => (match s.trip with
    | some t => word [(0, 1), (1, b2n t.stack), (8, t.sensor), (16, twos 16 t.temp)]
    | none => 0)
  | 0x70 => (match s.trip with | some t => w32 (stamp t.unlocked t.ticks) | none => 0)
  | 0x74 => (match s.trip with | some t => w32 (stamp t.unlocked t.ticks / 2 ^ 32) | none => 0)
  | 0x78 => failedWord s 0
  | 0x7C => failedWord s 1
  | 0x80 => failedWord s 2
  | 0x84 => failedWord s 3
  | 0x88 => word [(0, x.requests), (16, x.enforced)]
  | _ => 0

def writeTherm (off : Nat) (w : RegWrite) (s : State) : State × RefCode :=
  let p := PageRef.therm
  let v := (w.merged (readTherm s off)).toNat
  let locked := (s.hdr p).lock
  match off with
  | 0x4C => guarded s p off w { outOfRange := 10 ≤ fld v 0 7 } (fun s => { s with therm := { s.therm with zoneSel := fld v 0 7 } })
  | 0x64 => guarded s p off w {} (fun s => { s with therm := { s.therm with sensorSel := fld v 0 7 } })
  | 0x54 =>
    let a := fld v 0 8
    let b := fld v 8 8
    let c := fld v 16 8
    let h := fld v 24 4
    guarded s p off w { locked := locked, outOfRange := !(a < b && b < c && c ≤ 112 && 1 ≤ h && h ≤ 8) }
      (fun s => { s with therm := { s.therm with dieWarn := a, dieThrottle := b, dieShutdown := c, hyst := h } })
  | 0x58 =>
    let a := fld v 0 8
    let b := fld v 8 8
    let c := fld v 16 8
    guarded s p off w { locked := locked, outOfRange := !(a < b && b < c && c ≤ 97) }
      (fun s => { s with therm := { s.therm with stackWarn := a, stackThrottle := b, stackShutdown := c } })
  | 0x5C =>
    let g := fld v 0 9
    guarded s p off w { locked := locked, outOfRange := g = 0 || 500 < g } (fun s => { s with therm := { s.therm with grace := g } })
  | _ => roWrite s p off w

end Sys2Proof.Machine
end

