-- ==== Sys2Proof/Machine/Regs.lean ====
section
/-!
DEFINITION. Register pages as the two masters see them (chapter 03): the header of every page, the IDENT, EVENT, LEDGER, ARBITER and
TMB registers, reads and what they clear or advance, FREEZE, owners and seizures, and the write of any register.
-/
namespace Sys2Proof.Machine
open Sys2Proof

/-! ### Every page (Table 3.6) -/

/-- All pages of the device. -/
def allPages : List PageRef :=
  let of (n : Nat) (f : Nat → PageRef) : List PageRef := (List.range n).map f
  List.flatten [[PageRef.ident, .boot, .event, .ledger, .arbiter, .cal, .tmb, .therm, .hearth, .token, .hostif],
    of 20 .net, of 428 .cell, of 12 .loop, of 12 .survey, of 8 .grid, of 8 .tally, of 8 .mem, of 528 .corectl, of 32 .tenant,
    of 256 .queue, of 8 .port, of 64 .lane, of 8 .wiring]

/-- The page answers a read: its block has power and its die answers, or the always-on domain holds it while the hub is not
running; the LEDGER page stays readable after a trip (R51, R81, R110, R120). -/
def pageSeen (s : State) (p : PageRef) : Bool :=
  pageAnswers s p || (s.ao.vsb && !hubOn s && aoPage p) || ledgerHeld s p

/-! ### STATE and PAGE_STATUS (R70, R72, Table 3.3) -/

/-- STATE codes of a tile's blocks. -/
def tileBlockCode (s : State) (t : Nat) : Nat :=
  match (s.tile t).st with
  | .off => 0 | .rising => 1 | .kindled => 2 | .stoked => 2 | .falling => 3

/-- STATE codes of a net, and of its cells. -/
def netCode : NetState → Nat
  | .off => 0 | .rising => 1 | .on => 2 | .falling => 3 | .rolling => 6

/-- STATE of a block that has power, before FREEZE. -/
def blockCode (s : State) (p : PageRef) : Nat :=
  match p with
  | .ledger => if ledgerFaulted s then 6 else 2
  | .therm => if s.trip.isSome then 6 else if hubOn s then 2 else 0
  | .net n => netCode (s.net n).st
  | .cell i => if (s.cell i).isolated then 5 else netCode (s.net (cellNet i)).st
  | .loop d => if (s.loopE d).clk then 2 else 0
  | .survey d => if (s.survey d).failed then 5 else 2
  | .grid t | .tally t => tileBlockCode s t
  | .mem t => (match (s.stack t).cond with | .lost => 6 | .failed => 7 | .good => tileBlockCode s t)
  | .corectl k => coreCode s k
  | .queue k => queueCode (s.queue k)
  | .port q => portCode (s.port q)
  | .lane k => let x := (s.lane k).phase
               if x = 0 then 0 else if x ≤ 9 then 6 else if x = 10 then 2 else if x = 15 then 5 else 7
  | _ => 2

/-- STATE: FROZEN shows in place of ON while FREEZE is set. -/
def stateCode (s : State) (p : PageRef) : Nat := if blockCode s p = 2 && (s.hdr p).freeze then 4 else blockCode s p

/-- PAGE_STATUS. READY is defined for BOOT alone; another page's READY, and BUSY, which no chapter defines, are free values. -/
def statusWord (s : State) (p : PageRef) : Word × State :=
  let (f, s') := freeVal s
  let open_ : Word := if p = .boot then 2 else 3
  ((f &&& open_) ||| word [(0, if p = .boot then b2n (isReady s) else 0), (4, stateCode s p)], s')

/-! ### IDENT, EVENT, LEDGER, ARBITER, TMB registers as they read -/

def readIdent (off : Nat) : Word :=
  match off with
  | 0x40 => 0x00A10070
  | 0x44 => Config.serial.setWidth 32
  | 0x48 => (Config.serial >>> 32).setWidth 32
  | 0x4C => 0x00FFFFFF
  | _ => 0

/-- A record's 32 bytes (Table 3.10). -/
def eventBytes (r : EventRec) : List Byte :=
  leBytes 6 (stamp r.unlocked r.ticks) ++ leBytes 2 r.code ++ leBytes 1 r.die ++ leBytes 1 r.sev ++ leBytes 2 r.block ++
  leBytes 2 r.inst ++ leBytes 2 r.seq ++ leBytes 4 r.a0 ++ leBytes 4 r.a1 ++ leBytes 4 r.a2 ++ leBytes 4 r.a3

/-- Word `k` of a window: 0 where no record is latched. -/
def windowWord (x : Cursor) (k : Nat) : Word :=
  match x.window with
  | some r => w32 (leNat (((eventBytes r).drop (4 * k)).take 4))
  | none => 0

/-- STATUS of a cursor (Table 3.29). -/
def cursorStatus (s : State) (x : Cursor) : Word :=
  word [(0, b2n x.valid), (1, b2n (decide (x.seq + 1024 < s.events.writeSeq))), (2, b2n (decide (s.events.writeSeq ≤ x.seq))),
    (3, b2n x.ecc)]

def cursorOf (s : State) (k : Nat) : Cursor := if k = 0 then s.events.cursor0 else s.events.cursor1

def setCursor (s : State) (k : Nat) (x : Cursor) : State :=
  if k = 0 then { s with events := { s.events with cursor0 := x } } else { s with events := { s.events with cursor1 := x } }

/-- The record of a sequence number, while the ring holds it. -/
def recordAt (s : State) (seq : Nat) : Option EventRec := s.events.log.find? (fun r => r.seq = seq)

/-- Record `seq` is found to hold an uncorrectable ECC error; it goes on holding it (R111). -/
def markBad (s : State) (seq : Nat) : State :=
  if (recordAt s seq).isNone || s.events.bad.contains seq then s
  else { s with events := { s.events with bad := seq :: s.events.bad } }

/-- The cursor names record `seq` and the window latches it; a record that holds an uncorrectable error reads 0 (R103, R111). -/
def nameRecord (s : State) (k seq : Nat) : State :=
  let r := recordAt s seq
  let bad := s.events.bad.contains seq
  setCursor s k { seq := seq, valid := r.isSome && !bad, ecc := r.isSome && bad, window := if bad then none else r }

/-- `nameRecord`, where `ecc` says that the record is now found to hold an uncorrectable error. -/
def latchCursor (s : State) (k seq : Nat) (ecc : Bool) : State := nameRecord (if ecc then markBad s seq else s) k seq

/-- A read of the window's last word (R103, R111). -/
def advanceCursor (s : State) (k : Nat) (ecc : Bool) : State :=
  let x := cursorOf s k
  if x.valid || x.ecc then latchCursor s k ((x.seq + 1) % 2 ^ 32) ecc else s

def readEvent (s : State) (off : Nat) : Word :=
  if 0x80 ≤ off && off < 0xA0 then windowWord s.events.cursor0 ((off - 0x80) / 4)
  else if 0xA0 ≤ off && off < 0xC0 then windowWord s.events.cursor1 ((off - 0xA0) / 4)
  else match off with
  | 0x40 => w32 s.events.writeSeq
  | 0x44 => w32 s.events.dropped
  | 0x48 => w32 s.events.threshold
  | 0x50 => w32 s.events.cursor0.seq
  | 0x54 => cursorStatus s s.events.cursor0
  | 0x58 => w32 s.events.cursor1.seq
  | 0x5C => cursorStatus s s.events.cursor1
  | _ => 0

/-- SNAP_STATUS bits of a buffer. -/
def snapBits (x : Snap) : Nat := b2n x.busy + 2 * b2n x.done + 4 * b2n x.frozen

/-- The buffer has been captured into. -/
def captured (x : Snap) : Bool := x.busy || x.done

/-- Column `k` that SNAP_SEL shows; 0 in a buffer that nothing has been captured into. -/
def snapColumn (s : State) (k : Nat) : Word :=
  let x := snapOf s s.ledger.selBuf
  if captured x then w32 ((columns x.data s.ledger.selLedger s.ledger.selRow).getD k 0) else 0

def readLedger (s : State) (off : Nat) : Word :=
  let l := s.ledger
  let x := snapOf s l.selBuf
  let time := if captured x then stamp x.unlocked x.ticks else 0
  if 0x60 ≤ off && off < 0x80 then snapColumn s ((off - 0x60) / 4)
  else match off with
  | 0x40 => word [(0, l.epoch), (16, b2n (guaranteed s))]
  | 0x44 => (match l.fault with
    | some f => word [(0, 1), (1, b2n f.invariant), (4, f.ledger), (8, f.row), (12, f.column)]
    | none => 0)
  | 0x50 => word [(0, snapBits l.snap0), (4, snapBits l.snap1)]
  | 0x54 => word [(0, l.selLedger), (8, l.selRow), (16, l.selBuf)]
  | 0x58 => w32 time
  | 0x5C => word [(0, time / 2 ^ 32), (16, x.epoch)]
  | _ => 0

/-- PEND over 32 vectors from `lo` (Table 3.37); vectors 58 and 59 serve the administrative queues. -/
def vecPendWord (s : State) (lo : Nat) : Word :=
  word ((List.range 32).map (fun b =>
    let v := lo + b
    (b, b2n (vecPending s v || (58 ≤ v && v < 60 && admPending s (256 + (v - 58)))))))

/-- ABSENT_MS. -/
def absentMs (s : State) : Nat := s.ao.absentSince.elim 0 (fun t => min (msSince s t) 0xFFFF)

def readArbiter (s : State) (off : Nat) : Word :=
  match off with
  | 0x40 => word [(0, b2n s.ao.l0), (1, b2n s.ao.perst), (2, b2n s.ao.hostAbsent), (16, absentMs s)]
  | 0x4C => w32 (s.arb.seized.length % 65536)
  | 0x50 => s.arb.unpAddr
  | 0x54 => word [(0, s.arb.unpCode), (8, s.arb.unpMaster), (10, s.arb.unpVf), (16, s.arb.unpCount)]
  | 0x58 => vecPendWord s 0
  | 0x5C => vecPendWord s 32
  | _ => 0

/-- A requester's window and session. -/
def State.req (s : State) (k : Nat) : Requester := look {} s.tmb.reqs k
def State.modReq (s : State) (k : Nat) (f : Requester → Requester) : State :=
  { s with tmb := { s.tmb with reqs := modAt {} s.tmb.reqs k f } }

def readTmb (s : State) (off : Nat) : Word :=
  let t := s.tmb
  let r := s.req t.reqSel
  match off with
  | 0x40 => word [(0, s.ao.tmbAddr.toNat), (8, b2n t.key.isNone)]
  | 0x68 => word [(0, t.frames), (16, t.crcErr)]
  | 0x6C => word [(0, t.captured), (16, t.overflow)]
  | 0x70 => word [(0, t.authFail), (16, t.dups)]
  | 0x74 => word [(0, t.busySent)]
  | 0x78 => w32 t.reqSel
  | 0x7C => word [(0, b2n r.session), (8, r.window.length), (16, r.window.head?.elim 0 (fun e => e.1.toNat))]
  | 0x80 => r.ctr
  | _ => 0

/-! ### Reads (R73, R80, R81) -/

/-- THERM registers that reflect no unpowered hardware: all of them while the hub runs (R51). -/
def thermSeen (s : State) (off : Nat) : Bool :=
  hubOn s || [0x4C, 0x54, 0x58, 0x5C, 0x64, 0x6C, 0x70, 0x74].contains off

/-- Registers from 0x40 on. -/
def readBlock (s : State) (p : PageRef) (off : Nat) : Word :=
  match p with
  | .ident => readIdent off
  | .boot => readBoot s off
  | .event => readEvent s off
  | .ledger => readLedger s off
  | .arbiter => readArbiter s off
  | .cal => readCal s off
  | .tmb => readTmb s off
  | .therm => if thermSeen s off then readTherm s off else 0
  | .hearth => readHearth s off
  | .token => readToken s off
  | .net n => readNet s n off
  | .cell i => readCell s i off
  | .loop d => readLoop s d off
  | .survey d => readSurvey s d off
  | .grid t => readGrid s t off
  | .tally t => readTally s t off
  | .mem t => readMem s t off
  | .corectl k => readCore s k off
  | .hostif => readHostif s off
  | .tenant n => readTenant s n off
  | .queue k => if 0x40 ≤ off && off < 0x70 then readQueue s k ((off - 0x40) / 4) else 0
  | .port q => readPort s q off
  | .lane k => readLane s k off
  | .wiring q => readWiring s q off

/-- PAGE_ID (R67 to R69, Table 3.5). -/
def pageId (p : PageRef) : Word := word [(0, 1), (8, p.inst % 256), (16, p.block)]

/-- ENABLE as it reads: 1 where a block has no enable (R71, R152, R481, R563). -/
def enableBit (s : State) (p : PageRef) : Bool :=
  match p with
  | .net n => (s.net n).st ≠ .off && (s.net n).st ≠ .falling
  | .queue k => (s.queue k).enable
  | .port q => (s.port q).enable
  | _ => true

/-- PAGE_CTRL. -/
def pageCtrl (s : State) (p : PageRef) : Word := word [(0, b2n (enableBit s p)), (1, b2n (s.hdr p).freeze)]

/-- OWNER (Table 3.1). -/
def ownerWord (s : State) (p : PageRef) : Word := word [(0, ownerOf s p), (8, b2n (s.hdr p).lock)]

/-- A register as it reads, FREEZE and PAGE_STATUS apart. INT_PENDING is INT_RAW and INT_ENABLE. -/
def liveReg (s : State) (p : PageRef) (off : Nat) : Word :=
  let h := s.hdr p
  if 0x40 ≤ off then readBlock s p off
  else match off with
  | 0x00 => pageId p
  | 0x08 => pageCtrl s p
  | 0x10 => h.intRaw
  | 0x14 => h.intEnable
  | 0x18 => h.intRaw &&& h.intEnable
  | 0x20 => w32 h.errCount
  | 0x24 => ownerWord s p
  | 0x28 => h.lastRefusal
  | _ => 0

/-- What the hub answers for a page whose block has no power, or does not answer (R81, R110). -/
def offReg (s : State) (p : PageRef) (off : Nat) : Word :=
  match off with
  | 0x00 => pageId p
  | 0x0C => word [(4, if pageOn s p then 5 else 0)]
  | 0x24 => ownerWord s p
  | _ => 0

/-- Status and counter registers of a block, which FREEZE holds whole: those with no field that software reads back, data
windows that a read advances apart (R72; log entry 69). -/
def heldBlock : PageRef → List Nat
  | .boot => [0x40, 0x44, 0x4C, 0x50, 0x54]
  | .event => [0x40, 0x44, 0x54, 0x5C]
  | .ledger => [0x40, 0x44, 0x50] ++ (List.range 10).map (fun k => 0x58 + 4 * k)
  | .arbiter => [0x40, 0x4C, 0x50, 0x54, 0x58, 0x5C]
  | .cal => [0x40, 0x44, 0x48, 0x50, 0x54, 0x58]
  | .tmb => [0x40, 0x68, 0x6C, 0x70, 0x74, 0x7C, 0x80]
  | .therm => [0x40, 0x44, 0x48, 0x50, 0x60, 0x68, 0x6C, 0x70, 0x74, 0x78, 0x7C, 0x80, 0x84, 0x88]
  | .hearth => [0x40, 0x44, 0x48, 0x4C, 0x50, 0x60, 0x64] ++ (List.range 14).map (fun k => 0x68 + 4 * k) ++
      [0xA0, 0xA8, 0xAC, 0xB0, 0xB4, 0xB8]
  | .token => [0x40, 0x44, 0x48, 0x4C, 0x50, 0x5C, 0x60, 0x68, 0x6C]
  | .net _ => [0x44, 0x48, 0x54, 0x58]
  | .cell _ => [0x48, 0x4C, 0x50, 0x54, 0x58, 0x5C, 0x60, 0x64, 0x68, 0x6C]
  | .loop _ => [0x40, 0x44, 0x48, 0x60, 0x64, 0x68, 0x6C, 0x70, 0x74, 0x78, 0x7C, 0x80, 0x84, 0x90, 0xA4]
  | .survey _ => [0x44, 0x48, 0x4C, 0x54, 0x58, 0x5C, 0x78, 0x7C]
  | .grid _ => [0x48, 0x4C, 0x50, 0x54, 0x58, 0x5C, 0x60, 0x64]
  | .tally _ => [0x48, 0x4C]
  | .mem _ => [0x40, 0x44, 0x48, 0x4C, 0x50, 0x54, 0x5C, 0x64, 0x6C]
  | .corectl _ => [0x4C, 0x50, 0x68, 0x6C]
  | .hostif => [0x40, 0x44, 0x50, 0x11C, 0x124, 0x128, 0x12C, 0x15C, 0x164, 0x168, 0x16C]
  | .tenant _ => [0x4C, 0x54, 0x5C, 0x60, 0x64, 0x68, 0x6C, 0x70, 0xA0]
  | .queue _ => [0x5C, 0x64, 0x68, 0x6C]
  | .port _ => [0x44, 0x4C, 0x50, 0x60, 0x64]
  | .lane _ => [0x44, 0x48, 0x4C, 0x50, 0x5C, 0x60, 0x64, 0x6C, 0x74, 0x78, 0x7C]
  | _ => []

/-- Registers of which FREEZE holds the status fields alone, with those fields' bits: CLOCK.CHANGING, SCRUB.DONE_PCT, the PASS
and ERRORS of BERT_RESULT, QUIET.WINDOWS, and STATE in ADM_CTRL. -/
def heldFields : PageRef → List (Nat × Word)
  | .grid _ => [(0x40, 0x00000100)]
  | .mem _ => [(0x58, 0x007F0000)]
  | .port _ => [(0x58, 0xFFFFFFF8)]
  | .lane _ => [(0x54, 0xFFFF0000)]
  | .hostif => [(0x130, 0x000000F0), (0x170, 0x000000F0)]
  | _ => []

/-- Everything FREEZE holds, PAGE_STATUS apart: offsets and the bits held. -/
def heldRegs (p : PageRef) : List (Nat × Word) :=
  ([0x20, 0x28] ++ heldBlock p).map (fun o => (o, BitVec.allOnes 32)) ++ heldFields p

/-- The bits of a register that a frozen page holds; all of PAGE_STATUS. -/
def heldBits (p : PageRef) (off : Nat) : Word :=
  if off = 0x0C then BitVec.allOnes 32 else ((heldRegs p).find? (fun e => e.1 = off)).elim 0 (·.2)

/-- What a read clears or advances (R80, R103, and the data registers of chapters 06 and 11). -/
def readEffect (s : State) (p : PageRef) (off : Nat) : State :=
  if off = 0x20 then s.modHdr p (fun h => { h with errCount := 0 })
  else match p with
  | .event =>
    if off = 0x44 then { s with events := { s.events with dropped := 0 } }
    else if off = 0x9C then advanceCursor s 0 false else if off = 0xBC then advanceCursor s 1 false else s
  | .arbiter => if off = 0x54 then { s with arb := { s.arb with unpCount := 0 } } else s
  | .token => if off = 0x6C then { s with token := { s.token with clamps := 0, maxLat := 0 } } else s
  | .therm => if off = 0x88 && hubOn s then { s with therm := { s.therm with requests := 0, enforced := 0 } } else s
  | .cell i => if off = 0x6C then s.modCell i (fun c => { c with steps := 0 }) else s
  | .loop d =>
    if off = 0x7C then s.modCell (dieFirst d + (s.loopE d).cellSel) (fun c => { c with overruns := 0 })
    else if off = 0xA4 then s.modLoop d (fun x => { x with overrunTotal := 0 }) else loopReadEffect s d off
  | .survey d =>
    if off = 0x5C then s.modSurvey d (fun x => { x with urgDropped := 0, urgPreempted := 0 })
    else if off = 0x78 then s.modSurvey d (fun x => { x with clampCount := 0 })
    else if off = 0x7C then s.modSurvey d (fun x => { x with staleCount := 0 }) else s
  | .grid t => if off = 0x64 then s.modTile t (fun x => { x with meshRetries := 0, bridgeRetries := 0 }) else s
  | .tally t => if off = 0x4C then s.modTile t (fun x => { x with wraps := 0 }) else s
  | .mem t => if off = 0x4C then s.modStack t (fun x => { x with corr := 0, uncorr := 0 }) else s
  | .corectl k => if off = 0x6C then s.modCore k (fun x => { x with corr := 0 }) else coreReadEffect s k off
  | .hostif => (match admReg off with
    | some (q, 11) => s.modQueue q (fun x => { x with dups := 0, refused := 0 })
    | _ => s)
  | .queue k => if off = 0x6C then s.modQueue k (fun x => { x with dups := 0, refused := 0 }) else s
  | .port q => if off = 0x50 then s.modPort q (fun x => { x with replays := 0, timeouts := 0 }) else s
  | .lane k =>
    if off = 0x5C then s.modLane k (fun x => { x with impBlocks := 0, runs := 0 })
    else if off = 0x60 then s.modLane k (fun x => { x with fecCorr := 0 })
    else if off = 0x64 then s.modLane k (fun x => { x with fecUncorr := 0 })
    else if off = 0x7C then s.modLane k (fun x => { x with wakes := 0, falses := 0 }) else s
  | .tmb =>
    let t := s.tmb
    if off = 0x68 then { s with tmb := { t with frames := 0, crcErr := 0 } }
    else if off = 0x6C then { s with tmb := { t with captured := 0, overflow := 0 } }
    else if off = 0x70 then { s with tmb := { t with authFail := 0, dups := 0 } }
    else if off = 0x74 then { s with tmb := { t with busySent := 0 } } else s
  | _ => s

/-- A read of the register at `off` of page `p`: its value, and the state it leaves (R72, R80, R81, R82). -/
def readReg (s : State) (p : PageRef) (off : Nat) : Word × State :=
  if !p.exists then (0, s)
  else if !pageSeen s p then (offReg s p off, s)
  else
    let m := if (s.hdr p).freeze then heldBits p off else 0
    let old := look 0 s.frozen (p.addr + off)
    if m = BitVec.allOnes 32 then (old, s)
    else if off = 0x0C then statusWord s p
    else ((old &&& m) ||| (liveReg s p off &&& ~~~ m), readEffect s p off)

/-- A master's view of a page: the VF of tenant n reads IDENT, its TENANT page and its QUEUE pages (Table 3.7). -/
def canReach (m : Master) (p : PageRef) : Bool :=
  match m, p with
  | .vf _, .ident => true
  | .vf n, .tenant k => k = n
  | .vf n, .queue k => k / 8 = n
  | .vf _, _ => false
  | _, _ => true

/-- CLEARING_READ: the value goes to the reader and RC fields clear; an increment of ERR_COUNT that coincides is kept (R72, R73,
R80). Before the device is ready the host is answered Unsupported Request (R48). -/
def execClearingRead (m : Master) (p : PageRef) (off : Nat) (coincident : Bool) (s : State) : Host.Outcome State Fault Refusal :=
  let o := off / 4 * 4
  let side : Bool := match m with | .side _ => true | _ => false
  if !isReady s && !ledgerHeld s p then .next (if side then s else emit s (.unsupported (writtenAddr p o m)))
  else if !canReach m p then .next (emit s (.readData 0))
  else
    let (v, s1) := readReg s p o
    let keep : Bool := coincident && o = 0x20 && p.exists && pageSeen s p && !(s.hdr p).freeze
    let s2 := if keep then s1.modHdr p (fun h => { h with errCount := 1 }) else s1
    .next (emit s2 (.readData v))

/-- EVENT_WINDOW_READ: the last word of window `k` is read (R103, R111). -/
def execEventWindowRead (k : Fin 2) (ecc : Bool) (s : State) : Host.Outcome State Fault Refusal :=
  if !isReady s then .next s
  else .next (advanceCursor (emit s (.readData (windowWord (cursorOf s k) 7))) k ecc)

/-! ### FREEZE (R72) -/

/-- FREEZE is written: going to 1, the page's status and counter registers are held as they stand, with STATE as the set FREEZE
shows it; going to 0, they show current values. -/
def setFreeze (p : PageRef) (on : Bool) (s : State) : State :=
  if (s.hdr p).freeze = on then s
  else
    let t := s.modHdr p (fun h => { h with freeze := on })
    let (st, t) := if on then statusWord t p else (0, t)
    let fr := (heldRegs p).foldl (fun m e => put 0 m (p.addr + e.1) (if on then liveReg s p e.1 &&& e.2 else 0)) s.frozen
    { t with frozen := put 0 fr (p.addr + 0x0C) st }

/-- A write of PAGE_CTRL. A net has no way to be enabled or disabled on its own (R152). -/
def writePageCtrl (p : PageRef) (w : RegWrite) (s : State) : State × RefCode :=
  let v := w.merged (pageCtrl s p)
  match p with
  | .port q => writePortEnable q (setFreeze p) w s
  | .queue k => writeQueueEnable k (setFreeze p) w s
  | .net _ => guarded s p 0x08 w { wrongState := v.getLsbD 0 ≠ enableBit s p } (setFreeze p (v.getLsbD 1))
  | _ => guarded s p 0x08 w {} (setFreeze p (v.getLsbD 1))

/-! ### Interrupt registers (R96, R98, R108) -/

/-- A write of INT_RAW: ones clear, but for bits whose cause comes in the same cycle (R108); a message goes out again when
INT_PENDING stays non-zero (R96). -/
def writeIntRaw (p : PageRef) (w : RegWrite) (s : State) : State × RefCode :=
  guarded s p 0x10 w {} (fun s =>
    let s := s.modHdr p (fun h => { h with intRaw := h.intRaw &&& ~~~ (w.ones &&& ~~~ w.meets) })
    match msixOf s p with
    | some o => if intPending s p ≠ 0 && hostSignalled s p then emit s o else s
    | none => s)

def writeIntEnable (p : PageRef) (w : RegWrite) (s : State) : State × RefCode :=
  guarded s p 0x14 w {} (fun s => s.modHdr p (fun h => { h with intEnable := w.merged h.intEnable }))

/-- A write of INT_FORCE (R98). -/
def writeIntForce (p : PageRef) (w : RegWrite) (s : State) : State × RefCode :=
  guarded s p 0x1C w { outOfRange := !w.full } (fun s => raiseBits s p w.value)

/-! ### Owners (R83, R88 to R94, R112) -/

/-- The hub's table: OWNER[1:0] of page `p`. -/
def setOwner (s : State) (p : PageRef) (o : Nat) : State := s.modHdr p (fun h => { h with owner := ownerEntry p o })

/-- The write is the side-band's seizure of one host-owned page (R92). -/
def seizes (s : State) (p : PageRef) (m : Master) (new : Nat) : Bool :=
  (match m with | .side _ => true | _ => false) && ownerOf s p = 0 && new = 1 && s.ao.hostAbsent

/-- Pages seized, rising by address. -/
def markSeized (l : List Nat) (a : Nat) (on : Bool) : List Nat :=
  let r := l.filter (· ≠ a)
  if on then r.filter (· < a) ++ a :: r.filter (a < ·) else r

/-- Block type x 2^16 + instance, argument 0 of event 0x7003. -/
def pageKey (p : PageRef) : Nat := p.block * 65536 + p.evInst

/-- A write of OWNER (R89, R90, R92, R93). -/
def writeOwner (p : PageRef) (w : RegWrite) (s : State) : State × RefCode :=
  let h := s.hdr p
  let old := ownerOf s p
  let v := w.merged (ownerWord s p)
  let new := fld v.toNat 0 2
  let sz := seizes s p w.master new
  let side : Bool := match w.master with | .side _ => true | _ => false
  guarded s p 0x24 w { exempt := sz, locked := h.lock && new ≠ old && !sz, outOfRange := new = 3 } (fun s =>
    let lock := h.lock || v.getLsbD 8
    let s := (setOwner s p new).modHdr p (fun h => { h with lock := lock })
    let s := if side then { s with arb := { s.arb with seized := markSeized s.arb.seized p.addr sz } } else s
    let s := if sz then raise s .arbiter 0 else s
    if old = new then s
    else raise (logEvent s 0x7003 0 .arbiter [pageKey p, old, new, w.master.num]) .arbiter 4)

/-- OWNER_WRITE. -/
def execOwnerWrite (p : PageRef) (w : RegWrite) (s : State) : Host.Outcome State Fault Refusal := .next (writeOwner p w s).1

/-- The writer is not the side-band. -/
def notSide (m : Master) : Bool := match m with | .side _ => false | _ => true

/-- A write of SEIZE: every host-owned page (R92, R107, Table 3.33). -/
def writeSeize (w : RegWrite) (s : State) : State × RefCode :=
  guarded s .arbiter 0x44 w { notOwner := notSide w.master, outOfRange := !w.full, wrongState := !s.ao.hostAbsent } (fun s =>
    if w.value.getLsbD 0 then
      let ps := allPages.filter (fun p => ownerOf s p = 0)
      let s := forEach ps s (fun s p => setOwner s p 1)
      let s := { s with arb := { s.arb with seized := ps.foldl (fun l p => markSeized l p.addr true) s.arb.seized } }
      raise (logEvent s 0x7001 1 .arbiter [ps.length, absentMs s, 0, 0]) .arbiter 0
    else s)

/-- A write of RELEASE: every seized page returns to its default owner (R93, Table 3.33). -/
def writeRelease (w : RegWrite) (s : State) : State × RefCode :=
  guarded s .arbiter 0x48 w { notOwner := notSide w.master, outOfRange := !w.full } (fun s =>
    if w.value.getLsbD 0 then
      let ps := s.arb.seized.filterMap (fun a => (pageAt a).map (·.1))
      let s := forEach ps s (fun s p => setOwner s p p.defaultOwner)
      let s := { s with arb := { s.arb with seized := [] } }
      raise (logEvent s 0x7002 1 .arbiter [ps.length, 0, 0, 0]) .arbiter 1
    else s)

/-- SEIZE. -/
def execSeize (w : RegWrite) (s : State) : Host.Outcome State Fault Refusal := .next (writeSeize w s).1

/-- RELEASE. -/
def execRelease (w : RegWrite) (s : State) : Host.Outcome State Fault Refusal := .next (writeRelease w s).1

/-- OWNERSHIP_TABLE_ERROR: default owners, no LOCK, no seizure, event 0x7004 (R112). DESIGN CHOICE (log entry 71): it raises
neither RELEASED nor OWNER_CHANGED of ARBITER, since the spec names them for writes and does not say. -/
def execOwnershipTableError (s : State) : Host.Outcome State Fault Refusal :=
  if !hubOn s then .next s
  else
    let ps := (s.hdrs.filter (fun e => e.2.owner.isSome || e.2.lock)).filterMap (fun e => (pageAt e.1).map (·.1))
    let s := forEach ps s (fun s p => s.modHdr p (fun h => { h with owner := none, lock := false }))
    .next (logEvent { s with arb := { s.arb with seized := [] } } 0x7004 3 .arbiter [ps.length, 0, 0, 0])

/-! ### Writes of the pages of this chapter, of LEDGER and of TMB -/

/-- A write of a cursor (R103). -/
def writeCursor (k : Nat) (ecc : Bool) (w : RegWrite) (s : State) : State × RefCode :=
  guarded s .event (0x50 + 8 * k) w {} (fun s => latchCursor s k (w.merged (w32 (cursorOf s k).seq)).toNat ecc)

/-- CURSOR_WRITE. -/
def execCursorWrite (k : Fin 2) (ecc : Bool) (w : RegWrite) (s : State) : Host.Outcome State Fault Refusal :=
  .next (writeCursor k ecc w s).1

def writeEvent (off : Nat) (w : RegWrite) (s : State) : State × RefCode :=
  match off with
  | 0x48 =>
    let v := fld (w.merged (w32 s.events.threshold)).toNat 0 3
    guarded s .event off w { outOfRange := 5 ≤ v } (fun s => { s with events := { s.events with threshold := v } })
  | 0x50 => writeCursor 0 false w s
  | 0x58 => writeCursor 1 false w s
  | _ => roWrite s .event off w

/-- A write of RESEAL (R133, Table 4.12). -/
def writeReseal (w : RegWrite) (s : State) : State × RefCode :=
  let go := w.value.getLsbD 0
  guarded s .ledger 0x48 w { outOfRange := !w.full, wrongState := go && !(List.range 8).all (fun t => (s.tile t).st = .off) }
    (fun s => if go then resealNow (retiredOf s) s else s)

/-- RESEAL. -/
def execReseal (w : RegWrite) (s : State) : Host.Outcome State Fault Refusal := .next (writeReseal w s).1

def writeLedger (off : Nat) (w : RegWrite) (s : State) : State × RefCode :=
  match off with
  | 0x48 => writeReseal w s
  | 0x4C => writeSnapCtrl w s
  | 0x54 =>
    let v := (w.merged (readLedger s off)).toNat
    guarded s .ledger off w { outOfRange := 4 < fld v 0 4 || ledgerRows (fld v 0 4) ≤ fld v 8 4 } (fun s =>
      { s with ledger := { s.ledger with selLedger := fld v 0 4, selRow := fld v 8 4, selBuf := fld v 16 1 } })
  | _ => roWrite s .ledger off w

def writeArbiter (off : Nat) (w : RegWrite) (s : State) : State × RefCode :=
  match off with
  | 0x44 => writeSeize w s
  | 0x48 => writeRelease w s
  | _ => roWrite s .arbiter off w

/-- An event of chapter 18: to the log once the device is ready, to AO retention memory before (R604). -/
def logTmb (s : State) (code sev : Nat) (args : List Nat) : State :=
  if isReady s then logEvent s code sev .tmb args else retainEvent s code sev .tmb args

/-- A COMMIT of the staged key: it is installed, or an all-zero one removes the key; every session ends (R598). -/
def commitKey (s : State) : State :=
  let k := lookList 0 s.tmb.staged 0 32
  let none_ := k.all (· = 0)
  let s := forEach (List.range 32) s (fun s r => s.modReq r (fun x => { x with session := false }))
  let s := { s with tmb := { s.tmb with key := if none_ then none else some k } }
  let s := if none_ then setCalN s 0x4880 32 0 else setCalKey s k
  raise (logTmb s 0x7011 1 [b2n (!none_), 0, 0, 0]) .tmb 1

/-- KEY0 to KEY7 and KEY_CTRL are written by PF0 only, whatever OWNER holds (R598). -/
def notPf0 (m : Master) : Bool := match m with | .host => false | _ => true

/-- A write of KEY_CTRL. -/
def writeKeyCtrl (w : RegWrite) (s : State) : State × RefCode :=
  guarded s .tmb 0x64 w { exempt := true, notOwner := notPf0 w.master, outOfRange := !w.full }
    (fun s => if w.value.getLsbD 0 then commitKey s else s)

/-- KEY_COMMIT. -/
def execKeyCommit (w : RegWrite) (s : State) : Host.Outcome State Fault Refusal := .next (writeKeyCtrl w s).1

def writeTmb (off : Nat) (w : RegWrite) (s : State) : State × RefCode :=
  if 0x44 ≤ off && off < 0x64 then
    guarded s .tmb off w { exempt := true, notOwner := notPf0 w.master, outOfRange := !w.full } (fun s =>
      { s with tmb := { s.tmb with staged := putList 0 s.tmb.staged (off - 0x44) (leBytes 4 w.value.toNat) } })
  else match off with
  | 0x64 => writeKeyCtrl w s
  | 0x78 => guarded s .tmb off w {} (fun s =>
      { s with tmb := { s.tmb with reqSel := fld (w.merged (w32 s.tmb.reqSel)).toNat 0 5 } })
  | _ => roWrite s .tmb off w

/-! ### Any write (R74 to R78, R82) -/

/-- A write of a register from 0x40 on. -/
def writeBlock (p : PageRef) (off : Nat) (w : RegWrite) (s : State) : State × RefCode :=
  match p with
  | .ident => roWrite s p off w
  | .boot => writeBoot off w s
  | .event => writeEvent off w s
  | .ledger => writeLedger off w s
  | .arbiter => writeArbiter off w s
  | .cal => writeCal off w s
  | .tmb => writeTmb off w s
  | .therm => writeTherm off w s
  | .hearth => writeHearth off w s
  | .token => writeToken off w s
  | .net n => writeNet n off w s
  | .cell i => writeCell i off w s
  | .loop d => writeLoop d off w s
  | .survey d => writeSurvey d off w s
  | .grid t => writeGrid t off w s
  | .tally t => writeTally t off w s
  | .mem t => writeMem t off w s
  | .corectl k => writeCore k off w s
  | .hostif => writeHostif off w s
  | .tenant n => writeTenant n off w s
  | .queue k => if 0x40 ≤ off && off < 0x70 then writeQueue k ((off - 0x40) / 4) w s else roWrite s p off w
  | .port q => writePort q off w s
  | .lane k => writeLane k off w s
  | .wiring q => writeWiring q off w s

/-- A write of any register of a page. -/
def writeReg (p : PageRef) (off : Nat) (w : RegWrite) (s : State) : State × RefCode :=
  if !p.exists then guarded s p off w {} id
  else if 0x40 ≤ off then writeBlock p off w s
  else match off with
  | 0x08 => writePageCtrl p w s
  | 0x10 => writeIntRaw p w s
  | 0x14 => writeIntEnable p w s
  | 0x1C => writeIntForce p w s
  | 0x24 => writeOwner p w s
  | _ => roWrite s p off w

/-- A write to an unmapped offset (R82). -/
def writeUnmapped (a : Nat) (w : RegWrite) (s : State) : State × RefCode :=
  if isReady s then (recordUnp s a w.master .outOfRange, .outOfRange)
  else match w.master with
  | .side _ => (s, .bringup)
  | _ => (emit s (.unsupported a), .bringup)

/-- The page and offset an address names for a master (Tables 3.6, 3.7). -/
def target (m : Master) (a : Nat) : Option (PageRef × Nat) :=
  match m with
  | .vf n => vfPageAt n a
  | _ => pageAt a

/-- A write by address. -/
def writeAddr (addr : Nat) (w : RegWrite) (s : State) : State × RefCode :=
  let a := addr / 4 * 4
  match msixAt w.master a with
  | some (fn, off) => writeMsix fn off w s
  | none => match target w.master a with
    | some (p, off) => writeReg p off w s
    | none => writeUnmapped a w s

/-- REGISTER_WRITE. -/
def execRegisterWrite (addr : Nat) (w : RegWrite) (s : State) : Host.Outcome State Fault Refusal := .next (writeAddr addr w s).1

/-- PAGE_FREEZE. -/
def execPageFreeze (p : PageRef) (w : RegWrite) (s : State) : Host.Outcome State Fault Refusal := .next (writeReg p 0x08 w s).1

/-- INT_FORCE. -/
def execIntForce (p : PageRef) (w : RegWrite) (s : State) : Host.Outcome State Fault Refusal := .next (writeReg p 0x1C w s).1

/-- A write of the register that holds ENABLE of queue `q`: a QUEUE page's PAGE_CTRL, or ADM_CTRL. -/
def writeEnable (q : Nat) (w : RegWrite) (s : State) : State × RefCode :=
  if q < 256 then writeReg (.queue q) 0x08 w s else if q < 258 then writeReg .hostif (queueOff q 12) w s else (s, .ok)

/-- QUEUE_ENABLE. -/
def execQueueEnable (q : Nat) (w : RegWrite) (s : State) : Host.Outcome State Fault Refusal := .next (writeEnable q w s).1

/-- QUEUE_DISABLE. -/
def execQueueDisable (q : Nat) (w : RegWrite) (s : State) : Host.Outcome State Fault Refusal := .next (writeEnable q w s).1

/-- PORT_ENABLE. -/
def execPortEnable (p : Nat) (w : RegWrite) (s : State) : Host.Outcome State Fault Refusal := .next (writeReg (.port p) 0x08 w s).1

/-- PORT_DISABLE. -/
def execPortDisable (p : Nat) (w : RegWrite) (s : State) : Host.Outcome State Fault Refusal := .next (writeReg (.port p) 0x08 w s).1

/-! ### Dies that do not answer (R110) -/

/-- SPINE_TIMEOUT: the hub logs event 0x1014 once for the die, and completes the access as for a page without power. -/
def execSpineTimeout (p : PageRef) (off : Nat) (acc : SpineAccess) (s : State) : Host.Outcome State Fault Refusal :=
  if !isReady s || !p.exists || p.die = 11 || !pageOn s p then .next s
  else
    let d := p.die
    let s := if s.arb.unreachable.contains d then s
      else logEvent { s with arb := { s.arb with unreachable := markSeized s.arb.unreachable d true } } 0x1014 3 .arbiter [d, p.block, p.evInst, off]
    match acc with
    | .read => .next (emit s (.readData (offReg s p off)))
    | .write w => .next (recordUnp s (writtenAddr p off w.master) w.master .wrongState)

end Sys2Proof.Machine
end

