-- ==== Sys2Proof/Machine/Tmb.lean ====
section
/-!
DEFINITION. The tray management bus (chapter 18): requests, their authentication and windows, the commands of Table 18.4 with the hub
and without it, and responses. A request is executed when it arrives and its response waits for the bus (log entry 20).
-/
namespace Sys2Proof.Machine
open Sys2Proof

/-! ### Attention and vectors as the side-band sees them (R95, R595, Table 18.4) -/

/-- The page signals the side-band and its INT_PENDING is non-zero; the always-on domain holds the pages of R51. -/
def sidePending (s : State) (p : PageRef) : Bool :=
  ownerOf s p ≠ 0 && (if aoPage p then s.ao.vsb && (s.hdr p).intRaw &&& (s.hdr p).intEnable ≠ 0 else decide (intPending s p ≠ 0))

/-- ATTN (R595). -/
def attention (s : State) : Bool := (listedPages s).any (sidePending s)

/-- VEC_PEND over the pages that signal the side-band, 32 vectors from `lo`. -/
def sideVec (s : State) (lo : Nat) : Word :=
  word ((List.range 32).map (fun b => (b, b2n ((listedPages s).any (fun p => p.vector = some (lo + b) && sidePending s p)))))

/-! ### Requests and responses (R585, R591 to R597) -/

/-- AUTH of a request. -/
def reqAuth (r : TmbReq) : Bool := r.flags.getLsbD 1

/-- CTR of a request: 0 where it carries none. -/
def reqCount (r : TmbReq) : Word := if reqAuth r then r.ctr else 0

/-- The frame's bytes from byte 0 to the last payload byte (Table 18.2). -/
def frameBody (dst src : BitVec 5) (flags seq six seven : Byte) (auth : Bool) (ctr : Word) (payload : List Byte) : List Byte :=
  let len := 12 + payload.length + (if auth then 20 else 0)
  leBytes 2 len ++ [dst.setWidth 8, src.setWidth 8, flags, seq, six, seven] ++ (if auth then leBytes 4 ctr.toNat else []) ++ payload

/-- Why a request that needs a tag is answered AUTH before its window is looked at: 0 tag, 2 no session, 3 AUTH set while OPEN
(R596, R598, Table 18.7). -/
def authCause (s : State) (op : Nat) (r : TmbReq) : Option Nat :=
  let q := s.req r.src.toNat
  match s.tmb.key with
  | none => if reqAuth r then some 3 else none
  | some k =>
    if !reqAuth r then some 0
    else if !q.session then some 2
    else if r.tag = frameTag k q.nonceR q.nonceD
        (frameBody s.ao.tmbAddr r.src r.flags r.seq (BitVec.ofNat 8 op) r.byte7 true r.ctr r.payload) then none
    else some 0

/-- What is to be answered: STATUS, payload, byte 7, whether it carries a tag, whether it enters the window. -/
structure Answer where
  status : Nat
  payload : List Byte := []
  orig : Nat := 0
  auth : Bool := false
  keep : Bool := false
  deriving DecidableEq, Repr

/-- STATUS codes beyond those of Table 3.4 (Table 18.5). -/
def stBusy : Nat := 0x0C
def stBad : Nat := 0x0D

/-- The response is ready to be sent, and enters the requester's window of 8 (R591). -/
def respond (r : TmbReq) (a : Answer) (s : State) : State :=
  let x : TmbResp := { dst := r.src, seq := r.seq, status := a.status, orig := a.orig, auth := a.auth,
                       ctr := if a.auth then r.ctr else 0, payload := a.payload }
  let s := { s with tmb := { s.tmb with responses := s.tmb.responses ++ [x] } }
  if a.keep then s.modReq r.src.toNat (fun q => { q with window := ((r.seq, reqCount r, x) :: q.window).take 8 }) else s

/-- AUTH: counted, raised and logged, at most once a requester in 1 s (R596, Table 18.7). -/
def refuseAuth (op : Nat) (r : TmbReq) (cause : Nat) (s : State) : State :=
  let k := r.src.toNat
  let s := raise { s with tmb := { s.tmb with authFail := satInc s.tmb.authFail 0xFFFF } } .tmb 0
  let quiet : Bool := match (s.req k).authLogAt with | some t => withinUs s t 1000000 | none => false
  let s := if quiet then s
    else logTmb (s.modReq k (fun q => { q with authLogAt := some s.ao.ticks })) 0x7010 1 [k, r.seq.toNat, op, cause]
  respond r { status := RefCode.auth.num } s

/-- The BUSY estimate (R49). -/
def busyMs (s : State) : Nat := max 10 (if s.ao.cold then 700 - msSince s 0 else 650 - msSince s s.ao.wakeTick)

/-- BUSY (R50, R603). -/
def answerBusy (r : TmbReq) (s : State) : State :=
  respond r { status := stBusy, payload := leBytes 2 (busyMs s) } { s with tmb := { s.tmb with busySent := satInc s.tmb.busySent 0xFFFF } }

/-- The window's entry for a request, newest first (R591, R592). -/
def windowEntry (s : State) (r : TmbReq) : Option TmbResp :=
  ((s.req r.src.toNat).window.find? (fun e => e.1 = r.seq && e.2.1 = reqCount r)).map (·.2.2)

/-- The response of an earlier request with this SEQ and CTR still waits for the bus (R607). -/
def answerWaits (s : State) (r : TmbReq) : Bool :=
  s.tmb.responses.any (fun x => x.dst = r.src && x.seq = r.seq && x.ctr = reqCount r)

/-- A command of Table 18.4: its OP, whether it needs a tag, whether its response enters a window (R593), which payloads are
malformed (R599), and what it does: STATUS, payload and state. -/
structure TmbCmd where
  op : Nat
  tag : Bool
  keep : Bool
  bad : List Byte → Bool
  run : TmbReq → State → Nat × List Byte × State

/-- FLAGS bits other than AUTH, and byte 7, must be 0 (Table 18.2). -/
def headBad (r : TmbReq) : Bool := r.byte7 ≠ 0 || r.flags &&& 0xFD ≠ 0

/-- A command is executed and answered, or answered BAD_REQUEST (R593, R599). -/
def runCmd (c : TmbCmd) (auth : Bool) (r : TmbReq) (s : State) : State :=
  if headBad r || c.bad r.payload then respond r { status := stBad, auth := auth } s
  else
    let (st, pl, s) := c.run r s
    respond r { status := st, payload := pl, auth := auth, keep := c.keep } s

/-- A duplicate: the original's response with STATUS DUPLICATE, tagged again (R592). -/
def answerDup (auth : Bool) (r : TmbReq) (x : TmbResp) (s : State) : State :=
  respond r { status := RefCode.duplicate.num, payload := x.payload, orig := x.status, auth := auth }
    { s with tmb := { s.tmb with dups := satInc s.tmb.dups 0xFFFF } }

/-- A request that needs a tag has passed R596 but for the counter. -/
def countCheck (c : TmbCmd) (auth : Bool) (r : TmbReq) (s : State) : State :=
  match windowEntry s r with
  | some x => answerDup auth r x s
  | none =>
    if auth && r.ctr.toNat ≤ (s.req r.src.toNat).ctr.toNat then refuseAuth c.op r 1 s
    else runCmd c auth r (if auth then s.modReq r.src.toNat (fun q => { q with ctr := r.ctr }) else s)

/-- The answer to a request for a listed command (R592, R596, R597, R603). -/
def answer (c : TmbCmd) (r : TmbReq) (s : State) : State :=
  if bringingUp s && c.op ≠ 1 && c.op ≠ 5 then answerBusy r s
  else if !c.tag then
    (if reqAuth r then respond r { status := stBad } s else countCheck c false r s)
  else match authCause s c.op r with
  | some k => refuseAuth c.op r k s
  | none => countCheck c s.tmb.key.isSome r s

/-- The frame being received has ended (R582). -/
def frameEnd (s : State) : State := { s with tmb := { s.tmb with energy := none } }

/-- A frame addressed to the node has ended, and is counted (Table 18.9). -/
def countFrame (s : State) : State := { s with tmb := { s.tmb with frames := satInc s.tmb.frames 0xFFFF, energy := none } }

/-- A request arrives: RSP = 1 is discarded, and one that finds 4 responses waiting is dropped, unless it repeats one of those
(R586, R589, R607). -/
def receive (r : TmbReq) (go : State → State) (s : State) : State :=
  if !s.ao.vsb then s
  else
    let s := countFrame s
    if r.flags.getLsbD 0 then s
    else if 4 ≤ s.tmb.responses.length && !((windowEntry s r).isSome && answerWaits s r) then
      { s with tmb := { s.tmb with overflow := satInc s.tmb.overflow 0xFFFF } }
    else go s

/-- A request for a listed command. -/
def serve (c : TmbCmd) (r : TmbReq) (s : State) : State := receive r (answer c r) s

/-! ### Commands (R599 to R604, Tables 18.4 and 18.6) -/

/-- The payload is empty. -/
def noPayload (b : List Byte) : Bool := b ≠ []

/-- STATUS. -/
def statusPayload (s : State) : List Byte :=
  leBytes 1 (pkgCode s) ++
  leBytes 1 (b2n (isReady s) + 2 * b2n s.ao.hold + 4 * b2n s.trip.isSome + 8 * b2n s.tmb.key.isNone + 16 * b2n s.ao.aoLock) ++
  leBytes 4 (tileStateWord s).toNat ++ leBytes 2 (pwrResult s).toNat ++ leBytes 4 (sideVec s 0).toNat ++ leBytes 4 (sideVec s 32).toNat

def cmdStatus : TmbCmd := { op := 0x01, tag := false, keep := false, bad := noPayload, run := fun _ s => (0, statusPayload s, s) }

/-- The range of a READ or WRITE is aligned and lies in PF0 BAR0 (R600). -/
def rangeOk (off n : Nat) : Bool := off % 4 = 0 && off + 4 * n ≤ 0x4000000

/-- The side-band's read of one word. -/
def readWordAt (s : State) (a : Nat) : Word × State :=
  match pageAt a with
  | some (p, o) => readReg s p o
  | none => (0, s)

/-- `n` words from address `a`, in increasing offset. -/
def readWords : Nat → Nat → State → List Byte × State
  | 0, _, s => ([], s)
  | n + 1, a, s =>
    let (v, s) := readWordAt s a
    let (l, s) := readWords n (a + 4) s
    (leBytes 4 v.toNat ++ l, s)

def runRead (r : TmbReq) (s : State) : Nat × List Byte × State :=
  let off := num r.payload 0 4
  let n := num r.payload 4 2
  if !rangeOk off n then (RefCode.outOfRange.num, [], s)
  else
    let (l, s) := readWords n off s
    (0, leBytes 4 off ++ leBytes 2 n ++ leBytes 2 0 ++ l, s)

def cmdRead : TmbCmd :=
  { op := 0x02, tag := false, keep := true,
    bad := fun b => b.length ≠ 8 || num b 4 2 = 0 || 64 < num b 4 2 || num b 6 2 ≠ 0, run := runRead }

/-- The side-band's write of one word: without the hub, of the TMB page only (R600, Table 18.6), and of the snapshot registers of
the ledgers that a trip holds (R120). -/
def writeWordAt (a v : Nat) (s : State) : State × RefCode :=
  let w : RegWrite := { master := .side true, value := w32 v, be := 15 }
  if isReady s then writeAddr a w s
  else match pageAt a with
  | some (.tmb, o) => writeReg .tmb o w s
  | some (.ledger, o) => if snapWrite s .ledger o then writeReg .ledger o w s else (s, .wrongState)
  | _ => (s, .wrongState)

/-- Each word in increasing offset, whatever the outcome of the others (R600). -/
def writeWords (b : List Byte) : Nat → Nat → Nat → State → List Byte × State
  | 0, _, _, s => ([], s)
  | n + 1, k, a, s =>
    let (s, c) := writeWordAt a (num b k 4) s
    let (l, s) := writeWords b n (k + 4) (a + 4) s
    (leBytes 1 c.num ++ l, s)

def runWrite (r : TmbReq) (s : State) : Nat × List Byte × State :=
  let off := num r.payload 0 4
  let n := num r.payload 4 2
  if !rangeOk off n then (RefCode.outOfRange.num, [], s)
  else
    let (l, s) := writeWords r.payload n 8 off s
    (0, l, s)

def cmdWrite : TmbCmd :=
  { op := 0x03, tag := true, keep := true,
    bad := fun b => num b 4 2 = 0 || 60 < num b 4 2 || b.length ≠ 8 + 4 * num b 4 2 || num b 6 2 ≠ 0, run := runWrite }

/-- EVENT_READ: the records present and valid from the first sequence number on; the cursors stay (R601, R111). -/
def runEventRead (r : TmbReq) (s : State) : Nat × List Byte × State :=
  let q := num r.payload 0 4
  let l := (List.range (num r.payload 4 1)).filterMap (fun k => if s.events.bad.contains (q + k) then none else recordAt s (q + k))
  (0, leBytes 4 s.events.writeSeq ++ leBytes 1 l.length ++ leBytes 3 0 ++ l.flatMap eventBytes, s)

def cmdEventRead : TmbCmd :=
  { op := 0x04, tag := false, keep := true,
    bad := fun b => b.length ≠ 8 || num b 4 1 = 0 || 8 < num b 4 1 || num b 5 3 ≠ 0, run := runEventRead }

/-- LATCH_READ: TRIP_LATCH and TRIP_TIME, from the always-on domain in every state (R323). -/
def latchPayload (s : State) : List Byte :=
  leBytes 4 (readTherm s 0x6C).toNat ++ leBytes 4 (readTherm s 0x70).toNat ++ leBytes 2 (readTherm s 0x74).toNat ++ leBytes 2 0

def cmdLatchRead : TmbCmd := { op := 0x05, tag := false, keep := false, bad := noPayload, run := fun _ s => (0, latchPayload s, s) }

/-- RETAIN_READ (R53, R601). -/
def runRetainRead (r : TmbReq) (s : State) : Nat × List Byte × State :=
  let l := (s.ao.retention.drop (num r.payload 0 1)).take (num r.payload 1 1)
  (0, leBytes 1 s.ao.retention.length ++ leBytes 1 l.length ++ leBytes 2 0 ++ l.flatMap eventBytes, s)

def cmdRetainRead : TmbCmd :=
  { op := 0x06, tag := false, keep := true,
    bad := fun b => b.length ≠ 4 || 63 < num b 0 1 || num b 1 1 = 0 || 8 < num b 1 1 || num b 2 2 ≠ 0, run := runRetainRead }

/-- The power-state request of a POWER command: its refusal code, or 0 (R38, R59, R602). -/
def powerTarget (target tiles : Nat) (s : State) : Nat × State :=
  let q : PwrReq := ⟨target, BitVec.ofNat 8 tiles, 1⟩
  if target = 0xF then (0, s)
  else if s.trip.isSome then (RefCode.tripped.num, s)
  else if !reqLegal q then (RefCode.outOfRange.num, s)
  else match reqCheck s q with
  | .ok => (0, noted s (acceptReq s q))
  | c => (c.num, s)

/-- POWER: the hold policy, then the target (R44, R602). -/
def runPower (r : TmbReq) (s : State) : Nat × List Byte × State :=
  let h := num r.payload 2 1
  let s := { s with ao := { s.ao with hold := if h = 0 then s.ao.hold else h = 1 } }
  let (c, s) := powerTarget (num r.payload 0 1) (num r.payload 1 1) s
  (c, leBytes 4 (pwrResult s).toNat, s)

def cmdPower : TmbCmd :=
  { op := 0x10, tag := true, keep := true, bad := fun b => b.length ≠ 4 || 2 < num b 2 1 || num b 3 1 ≠ 0, run := runPower }

/-- A DRAIN write to tenant `n` by the side-band (R462, R602); the end of a drain keeps its MODE. -/
def drainTenant (abort go : Bool) (n : Nat) (s : State) : State × RefCode :=
  let mode := if go then abort else (s.tenant n).mode
  writeDrain n { master := .side true, value := word [(0, b2n go), (1, b2n mode)], be := 15 } s

/-- A drain of port `p`, unless it is OFF (R570, R602). -/
def drainOne (p : Nat) (s : State) : State × RefCode :=
  if (s.port p).st = .off then (s, .ok) else writePortCtrl p { master := .side true, value := 1, be := 15 } s

/-- Writes in turn; the first refusal, if there is one. -/
def eachWrite (l : List Nat) (f : Nat → State → State × RefCode) (s : State) : State × RefCode :=
  l.foldl (fun (x : State × RefCode) k => let (s, c) := f k x.1; (s, if x.2 = .ok then c else x.2)) (s, .ok)

def runDrain (r : TmbReq) (s : State) : Nat × List Byte × State :=
  if !isReady s then (0, [], s)
  else
    let go : Bool := num r.payload 6 1 = 1
    let (s, c1) := eachWrite (bitsOf 32 (num r.payload 0 4)) (drainTenant (num r.payload 5 1 = 1) go) s
    let (s, c2) := if go then eachWrite (bitsOf 8 (num r.payload 4 1)) drainOne s else (s, .ok)
    (if c1 = .ok then c2.num else c1.num, [], s)

def cmdDrain : TmbCmd :=
  { op := 0x11, tag := true, keep := true,
    bad := fun b => b.length ≠ 8 || 1 < num b 5 1 || 1 < num b 6 1 || num b 7 1 ≠ 0, run := runDrain }

/-- CAL_STORE: a store starts, or is refused with WRONG_STATE (R602, R624). -/
def runCalStore (_r : TmbReq) (s : State) : Nat × List Byte × State :=
  if goAccepted s then (0, [], startStore s) else (RefCode.wrongState.num, [], s)

def cmdCalStore : TmbCmd := { op := 0x12, tag := true, keep := true, bad := noPayload, run := runCalStore }

/-- INLET: a write of WATTS to INLET_LIMIT (R602, Table 18.6). -/
def runInlet (r : TmbReq) (s : State) : Nat × List Byte × State :=
  let v := num r.payload 0 2
  if !isReady s then (RefCode.wrongState.num, [], s)
  else if 0x3FF < v then (RefCode.outOfRange.num, [], s)
  else
    let (s, c) := writeInlet { master := .side true, value := w32 v, be := 15 } s
    (c.num, [], s)

def cmdInlet : TmbCmd :=
  { op := 0x13, tag := true, keep := true, bad := fun b => b.length ≠ 4 || num b 2 2 ≠ 0, run := runInlet }

/-- N_d: 16 random bytes, free values (R594). -/
def nonce (s : State) : List Byte × State :=
  let (a, s) := freeVal s
  let (b, s) := freeVal s
  let (c, s) := freeVal s
  let (d, s) := freeVal s
  (leBytes 4 a.toNat ++ leBytes 4 b.toNat ++ leBytes 4 c.toNat ++ leBytes 4 d.toNat, s)

/-- OPEN_SESSION: the window is cleared, the last CTR is 0, and event 0x7012 is logged (R593, R594). -/
def runOpenSession (r : TmbReq) (s : State) : Nat × List Byte × State :=
  let (nd, s) := nonce s
  let s := s.modReq r.src.toNat (fun q => { q with window := [], session := true, nonceR := r.payload, nonceD := nd, ctr := 0 })
  (0, nd, logTmb s 0x7012 0 [r.src.toNat, 0, 0, 0])

def cmdOpenSession : TmbCmd :=
  { op := 0x20, tag := false, keep := true, bad := fun b => b.length ≠ 16, run := runOpenSession }

/-- OPs of Table 18.4. -/
def listedOps : List Nat := [0x01, 0x02, 0x03, 0x04, 0x05, 0x06, 0x10, 0x11, 0x12, 0x13, 0x20]

/-- STATUS. -/
def execStatus (r : TmbReq) (s : State) : Host.Outcome State Fault Refusal := .next (serve cmdStatus r s)
/-- READ. -/
def execRead (r : TmbReq) (s : State) : Host.Outcome State Fault Refusal := .next (serve cmdRead r s)
/-- WRITE. -/
def execWrite (r : TmbReq) (s : State) : Host.Outcome State Fault Refusal := .next (serve cmdWrite r s)
/-- EVENT_READ. -/
def execEventRead (r : TmbReq) (s : State) : Host.Outcome State Fault Refusal := .next (serve cmdEventRead r s)
/-- LATCH_READ. -/
def execLatchRead (r : TmbReq) (s : State) : Host.Outcome State Fault Refusal := .next (serve cmdLatchRead r s)
/-- RETAIN_READ. -/
def execRetainRead (r : TmbReq) (s : State) : Host.Outcome State Fault Refusal := .next (serve cmdRetainRead r s)
/-- POWER. -/
def execPower (r : TmbReq) (s : State) : Host.Outcome State Fault Refusal := .next (serve cmdPower r s)
/-- DRAIN. -/
def execDrain (r : TmbReq) (s : State) : Host.Outcome State Fault Refusal := .next (serve cmdDrain r s)
/-- CAL_STORE. -/
def execCalStore (r : TmbReq) (s : State) : Host.Outcome State Fault Refusal := .next (serve cmdCalStore r s)
/-- INLET. -/
def execInlet (r : TmbReq) (s : State) : Host.Outcome State Fault Refusal := .next (serve cmdInlet r s)
/-- OPEN_SESSION. -/
def execOpenSession (r : TmbReq) (s : State) : Host.Outcome State Fault Refusal := .next (serve cmdOpenSession r s)

/-- UNLISTED_OP: answered BUSY before the device is ready, as any request but two, and else BAD_REQUEST (Table 2.6, R599). -/
def execUnlistedOp (op : Byte) (r : TmbReq) (s : State) : Host.Outcome State Fault Refusal :=
  if listedOps.contains op.toNat then .next s else .next (receive r (fun s => if bringingUp s then answerBusy r s else respond r { status := stBad } s) s)

/-! ### The bus (R583, R586, R587, R610, R611) -/

/-- The receiver takes a frame whose preamble has this energy (R582). -/
def listen (s : State) (c : Nat) : State := { s with tmb := { s.tmb with energy := some c } }

/-- TMB_CAPTURE: 64 chips in which a preamble is found. An idle receiver takes it; one that is receiving a frame drops that frame
for a preamble at least 6 dB stronger, and ignores a weaker one (R582, R583). -/
def execTmbCapture (chips : List Int) (s : State) : Host.Outcome State Fault Refusal :=
  if !s.ao.vsb || !preambleFound chips then .next s
  else match s.tmb.energy with
  | none => .next (listen s (chipEnergy chips))
  | some c =>
    if stronger (chipEnergy chips) c then
      .next (listen { s with tmb := { s.tmb with captured := satInc s.tmb.captured 0xFFFF } } (chipEnergy chips))
    else .next s

/-- FRAME_DISCARDED (R586). -/
def execFrameDiscarded (why : FrameFault) (s : State) : Host.Outcome State Fault Refusal :=
  if !s.ao.vsb then .next s
  else match why with
  | .crc => .next (frameEnd { s with tmb := { s.tmb with crcErr := satInc s.tmb.crcErr 0xFFFF } })
  | .dst => .next (frameEnd s)
  | .rsp | .layout => .next (countFrame s)

/-- The frame of a response, with its tag and CRC (R585, R594, R595). -/
def responseFrame (s : State) (x : TmbResp) : List Byte :=
  let q := s.req x.dst.toNat
  let flags : Byte := BitVec.ofNat 8 (1 + 2 * b2n x.auth + 4 * b2n (attention s))
  let body := frameBody x.dst s.ao.tmbAddr flags x.seq (BitVec.ofNat 8 x.status) (BitVec.ofNat 8 x.orig) x.auth x.ctr x.payload
  let m := body ++ (if x.auth then frameTag (s.tmb.key.getD []) q.nonceR q.nonceD body else [])
  m ++ leBytes 4 (crc32c m).toNat

/-- TMB_RESPONSE_SEND: the oldest response goes out; an occupation of the bus is over (R587, R588, R610). -/
def execTmbResponseSend (s : State) : Host.Outcome State Fault Refusal :=
  if !s.ao.vsb then .next s
  else match s.tmb.responses with
  | [] => .next s
  | x :: rest => .next (emit { s with tmb := { s.tmb with responses := rest, busFault := false } } (.tmbFrame (tmbSymbols (responseFrame s x))))

/-- TMB_BUS_OCCUPIED, for this many whole milliseconds: event 0x7013 and BUS_FAULT, once for the episode (R610). -/
def execTmbBusOccupied (ms : Nat) (s : State) : Host.Outcome State Fault Refusal :=
  if !s.ao.vsb || s.tmb.busFault || ms = 0 then .next s
  else .next (raise (logTmb { s with tmb := { s.tmb with busFault := true } } 0x7013 2 [ms, 0, 0, 0]) .tmb 2)

/-- TMB_WINDOW_ERROR: the requester's window and session are cleared, and event 0x7014 is logged (R611). -/
def execTmbWindowError (src : BitVec 5) (s : State) : Host.Outcome State Fault Refusal :=
  if !s.ao.vsb then .next s
  else
    let s := s.modReq src.toNat (fun q => { authLogAt := q.authLogAt })
    .next (logTmb s 0x7014 2 [src.toNat, 0, 0, 0])

end Sys2Proof.Machine
end

