-- ==== Sys2Proof/Machine/Dispatch.lean ====
section
/-!
DEFINITION. The dispatch: one arm for each command.
-/
namespace Sys2Proof.Machine
open Sys2Proof

def exec (i : Instr) (s : State) : Host.Outcome State Fault Refusal :=
  match i with
  | .vsbValid addr => Sys2Proof.Machine.execVsbValid addr s
  | .vsbInvalid => Sys2Proof.Machine.execVsbInvalid s
  | .vinValid => Sys2Proof.Machine.execVinValid s
  | .vinLost => Sys2Proof.Machine.execVinLost s
  | .vhbmValid => Sys2Proof.Machine.execVhbmValid s
  | .vhbmLost mv => Sys2Proof.Machine.execVhbmLost mv s
  | .perstNChange asserted => Sys2Proof.Machine.execPerstNChange asserted s
  | .functionLevelReset fn => Sys2Proof.Machine.execFunctionLevelReset fn s
  | .pcieLinkChange l0 rate width => Sys2Proof.Machine.execPcieLinkChange l0 rate width s
  | .pcieConfigRequest tag req => Sys2Proof.Machine.execPcieConfigRequest tag req s
  | .aoLock => Sys2Proof.Machine.execAoLock s
  | .aoLockTimeout => Sys2Proof.Machine.execAoLockTimeout s
  | .clockLock clk => Sys2Proof.Machine.execClockLock clk s
  | .clockLockTimeout clk => Sys2Proof.Machine.execClockLockTimeout clk s
  | .bootCopyVerified chk => Sys2Proof.Machine.execBootCopyVerified chk s
  | .calSlotsRead a b => Sys2Proof.Machine.execCalSlotsRead a b s
  | .deviceReady => Sys2Proof.Machine.execDeviceReady s
  | .pwrReqOff w => Sys2Proof.Machine.execPwrReqOff w s
  | .pwrReqBanked w => Sys2Proof.Machine.execPwrReqBanked w s
  | .pwrReqSmouldering w => Sys2Proof.Machine.execPwrReqSmouldering w s
  | .pwrReqKindled w => Sys2Proof.Machine.execPwrReqKindled w s
  | .pwrReqStoked w => Sys2Proof.Machine.execPwrReqStoked w s
  | .transitionStepDone stuck => Sys2Proof.Machine.execTransitionStepDone stuck s
  | .registerWrite addr w => Sys2Proof.Machine.execRegisterWrite addr w s
  | .ownerWrite p w => Sys2Proof.Machine.execOwnerWrite p w s
  | .pageFreeze p w => Sys2Proof.Machine.execPageFreeze p w s
  | .intForce p w => Sys2Proof.Machine.execIntForce p w s
  | .hostAbsent => Sys2Proof.Machine.execHostAbsent s
  | .seize w => Sys2Proof.Machine.execSeize w s
  | .release w => Sys2Proof.Machine.execRelease w s
  | .cursorWrite k ecc w => Sys2Proof.Machine.execCursorWrite k ecc w s
  | .eventWindowRead k ecc => Sys2Proof.Machine.execEventWindowRead k ecc s
  | .spineTimeout p off acc => Sys2Proof.Machine.execSpineTimeout p off acc s
  | .dieAnswer d => Sys2Proof.Machine.execDieAnswer d s
  | .ownershipTableError => Sys2Proof.Machine.execOwnershipTableError s
  | .take w => Sys2Proof.Machine.execTake w s
  | .snapshotDone buf => Sys2Proof.Machine.execSnapshotDone buf s
  | .reseal w => Sys2Proof.Machine.execReseal w s
  | .ledgerCheck ecc => Sys2Proof.Machine.execLedgerCheck ecc s
  | .targetWrite n w => Sys2Proof.Machine.execTargetWrite n w s
  | .cellRollResume u => Sys2Proof.Machine.execCellRollResume u s
  | .rollResumeTimeout u => Sys2Proof.Machine.execRollResumeTimeout u s
  | .slewDone n => Sys2Proof.Machine.execSlewDone n s
  | .netRampDone n => Sys2Proof.Machine.execNetRampDone n s
  | .netRampTimeout n mv => Sys2Proof.Machine.execNetRampTimeout n mv s
  | .netDischarged n => Sys2Proof.Machine.execNetDischarged n s
  | .outOfBand n => Sys2Proof.Machine.execOutOfBand n s
  | .modeWrite u w => Sys2Proof.Machine.execModeWrite u w s
  | .shareWtWrite u w => Sys2Proof.Machine.execShareWtWrite u w s
  | .dutyWrite u late w => Sys2Proof.Machine.execDutyWrite u late w s
  | .inletLimitWrite w => Sys2Proof.Machine.execInletLimitWrite w s
  | .hearthMsUpdate m => Sys2Proof.Machine.execHearthMsUpdate m s
  | .loopFrame d samples scrubSlots => Sys2Proof.Machine.execLoopFrame d samples scrubSlots s
  | .coefDataWrite d w => Sys2Proof.Machine.execCoefDataWrite d w s
  | .schedDataWrite d w => Sys2Proof.Machine.execSchedDataWrite d w s
  | .coefSwap d w => Sys2Proof.Machine.execCoefSwap d w s
  | .schedSwap d w => Sys2Proof.Machine.execSchedSwap d w s
  | .injCtrlWrite d w => Sys2Proof.Machine.execInjCtrlWrite d w s
  | .injDataWrite d w => Sys2Proof.Machine.execInjDataWrite d w s
  | .capStart d w => Sys2Proof.Machine.execCapStart d w s
  | .loopMemError d mem word cell both => Sys2Proof.Machine.execLoopMemError d mem word cell both s
  | .stokeNotice n => Sys2Proof.Machine.execStokeNotice n s
  | .surveyPeriod d => Sys2Proof.Machine.execSurveyPeriod d s
  | .surveyStart d w => Sys2Proof.Machine.execSurveyStart d w s
  | .urgent d r => Sys2Proof.Machine.execUrgent d r s
  | .surveyConversionDone d code ovr => Sys2Proof.Machine.execSurveyConversionDone d code ovr s
  | .surveyTimeout d => Sys2Proof.Machine.execSurveyTimeout d s
  | .trimDataWrite d w => Sys2Proof.Machine.execTrimDataWrite d w s
  | .stokeRequest c => Sys2Proof.Machine.execStokeRequest c s
  | .grantCommit => Sys2Proof.Machine.execGrantCommit s
  | .grantRelease c => Sys2Proof.Machine.execGrantRelease c s
  | .grantApply c => Sys2Proof.Machine.execGrantApply c s
  | .issueCapStep c => Sys2Proof.Machine.execIssueCapStep c s
  | .grantResend c => Sys2Proof.Machine.execGrantResend c s
  | .tokenReturn c => Sys2Proof.Machine.execTokenReturn c s
  | .recallReceived c => Sys2Proof.Machine.execRecallReceived c s
  | .recallTimeout c => Sys2Proof.Machine.execRecallTimeout c s
  | .phaseRemove c k => Sys2Proof.Machine.execPhaseRemove c k s
  | .stuckHighSide u k => Sys2Proof.Machine.execStuckHighSide u k s
  | .netShort n => Sys2Proof.Machine.execNetShort n s
  | .inputSwitchFailed u => Sys2Proof.Machine.execInputSwitchFailed u s
  | .pathJudge u => Sys2Proof.Machine.execPathJudge u s
  | .pathConfirmRetry u => Sys2Proof.Machine.execPathConfirmRetry u s
  | .restore u w => Sys2Proof.Machine.execRestore u w s
  | .sensorReading k temp => Sys2Proof.Machine.execSensorReading k temp s
  | .sensorMissing k => Sys2Proof.Machine.execSensorMissing k s
  | .zoneJudge => Sys2Proof.Machine.execZoneJudge s
  | .graceExpire => Sys2Proof.Machine.execGraceExpire s
  | .enforceStep => Sys2Proof.Machine.execEnforceStep s
  | .relaxStep => Sys2Proof.Machine.execRelaxStep s
  | .hwTrip k stack => Sys2Proof.Machine.execHwTrip k stack s
  | .stepWrite t w => Sys2Proof.Machine.execStepWrite t w s
  | .clockChangeDone t => Sys2Proof.Machine.execClockChangeDone t s
  | .messageDelivered src dst => Sys2Proof.Machine.execMessageDelivered src dst s
  | .creditGrantArrival rcv q sender => Sys2Proof.Machine.execCreditGrantArrival rcv q sender s
  | .creditReturnArrival rcv q sender => Sys2Proof.Machine.execCreditReturnArrival rcv q sender s
  | .tallyAddApply c tally => Sys2Proof.Machine.execTallyAddApply c tally s
  | .tallyValueWrite t w => Sys2Proof.Machine.execTallyValueWrite t w s
  | .queueRelease slot => Sys2Proof.Machine.execQueueRelease slot s
  | .start k w => Sys2Proof.Machine.execStart k w s
  | .stop k w => Sys2Proof.Machine.execStop k w s
  | .coreHalt c => Sys2Proof.Machine.execCoreHalt c s
  | .resume k w => Sys2Proof.Machine.execResume k w s
  | .regDataWrite k w => Sys2Proof.Machine.execRegDataWrite k w s
  | .lsDataWrite k w => Sys2Proof.Machine.execLsDataWrite k w s
  | .heartbeatTimeout c => Sys2Proof.Machine.execHeartbeatTimeout c s
  | .coreEccError c uncorrectable => Sys2Proof.Machine.execCoreEccError c uncorrectable s
  | .meshFlitResend l again => Sys2Proof.Machine.execMeshFlitResend l again s
  | .add c f => Sys2Proof.Machine.execAdd c f s
  | .sub c f => Sys2Proof.Machine.execSub c f s
  | .and c f => Sys2Proof.Machine.execAnd c f s
  | .or c f => Sys2Proof.Machine.execOr c f s
  | .xor c f => Sys2Proof.Machine.execXor c f s
  | .shl c f => Sys2Proof.Machine.execShl c f s
  | .shr c f => Sys2Proof.Machine.execShr c f s
  | .sra c f => Sys2Proof.Machine.execSra c f s
  | .mul c f => Sys2Proof.Machine.execMul c f s
  | .mulh c f => Sys2Proof.Machine.execMulh c f s
  | .slt c f => Sys2Proof.Machine.execSlt c f s
  | .sltu c f => Sys2Proof.Machine.execSltu c f s
  | .min c f => Sys2Proof.Machine.execMin c f s
  | .max c f => Sys2Proof.Machine.execMax c f s
  | .aadd c f => Sys2Proof.Machine.execAadd c f s
  | .amov c f => Sys2Proof.Machine.execAmov c f s
  | .ard c f => Sys2Proof.Machine.execArd c f s
  | .ld c f => Sys2Proof.Machine.execLd c f s
  | .st c f => Sys2Proof.Machine.execSt c f s
  | .lda c f => Sys2Proof.Machine.execLda c f s
  | .sta c f => Sys2Proof.Machine.execSta c f s
  | .csrr c f => Sys2Proof.Machine.execCsrr c f s
  | .csrw c f sets => Sys2Proof.Machine.execCsrw c f sets s
  | .beq c f => Sys2Proof.Machine.execBeq c f s
  | .bne c f => Sys2Proof.Machine.execBne c f s
  | .blt c f => Sys2Proof.Machine.execBlt c f s
  | .bge c f => Sys2Proof.Machine.execBge c f s
  | .bltu c f => Sys2Proof.Machine.execBltu c f s
  | .bgeu c f => Sys2Proof.Machine.execBgeu c f s
  | .j c f => Sys2Proof.Machine.execJ c f s
  | .jal c f => Sys2Proof.Machine.execJal c f s
  | .jr c f => Sys2Proof.Machine.execJr c f s
  | .loop c f => Sys2Proof.Machine.execLoop c f s
  | .nop c f => Sys2Proof.Machine.execNop c f s
  | .scfg c f => Sys2Proof.Machine.execScfg c f s
  | .sgo c f => Sys2Proof.Machine.execSgo c f s
  | .swait c f => Sys2Proof.Machine.execSwait c f s
  | .sstat c f => Sys2Proof.Machine.execSstat c f s
  | .sstop c f => Sys2Proof.Machine.execSstop c f s
  | .mma c f => Sys2Proof.Machine.execMma c f s
  | .mmaz c f => Sys2Proof.Machine.execMmaz c f s
  | .accz c f => Sys2Proof.Machine.execAccz c f s
  | .accrd c f => Sys2Proof.Machine.execAccrd c f s
  | .accwr c f => Sys2Proof.Machine.execAccwr c f s
  | .accst c f => Sys2Proof.Machine.execAccst c f s
  | .accld c f => Sys2Proof.Machine.execAccld c f s
  | .vadd c f => Sys2Proof.Machine.execVadd c f s
  | .vsub c f => Sys2Proof.Machine.execVsub c f s
  | .vmul c f => Sys2Proof.Machine.execVmul c f s
  | .vfma c f => Sys2Proof.Machine.execVfma c f s
  | .vmax c f => Sys2Proof.Machine.execVmax c f s
  | .vmin c f => Sys2Proof.Machine.execVmin c f s
  | .vexp2 c f => Sys2Proof.Machine.execVexp2 c f s
  | .vrcp c f => Sys2Proof.Machine.execVrcp c f s
  | .vrsqrt c f => Sys2Proof.Machine.execVrsqrt c f s
  | .vcvt c f => Sys2Proof.Machine.execVcvt c f s
  | .vrsum c f => Sys2Proof.Machine.execVrsum c f s
  | .vrmax c f => Sys2Proof.Machine.execVrmax c f s
  | .vbcast c f => Sys2Proof.Machine.execVbcast c f s
  | .vmovs c f => Sys2Proof.Machine.execVmovs c f s
  | .vld c f => Sys2Proof.Machine.execVld c f s
  | .vst c f => Sys2Proof.Machine.execVst c f s
  | .qcfg c f => Sys2Proof.Machine.execQcfg c f s
  | .send c f => Sys2Proof.Machine.execSend c f s
  | .recv c f => Sys2Proof.Machine.execRecv c f s
  | .qcnt c f => Sys2Proof.Machine.execQcnt c f s
  | .tadd c f => Sys2Proof.Machine.execTadd c f s
  | .twait c f => Sys2Proof.Machine.execTwait c f s
  | .trd c f => Sys2Proof.Machine.execTrd c f s
  | .stoke c f => Sys2Proof.Machine.execStoke c f s
  | .ease c f => Sys2Proof.Machine.execEase c f s
  | .easeR c f => Sys2Proof.Machine.execEaseR c f s
  | .grantw c f => Sys2Proof.Machine.execGrantw c f s
  | .yield c f => Sys2Proof.Machine.execYield c f s
  | .end_ c f => Sys2Proof.Machine.execEnd_ c f s
  | .trap c f => Sys2Proof.Machine.execTrap c f s
  | .fence c f => Sys2Proof.Machine.execFence c f s
  | .stalledInstructionComplete c => Sys2Proof.Machine.execStalledInstructionComplete c s
  | .streamEngineTransfer c e ecc => Sys2Proof.Machine.execStreamEngineTransfer c e ecc s
  | .scrub t line ecc => Sys2Proof.Machine.execScrub t line ecc s
  | .retire t w => Sys2Proof.Machine.execRetire t w s
  | .channelRetireDone t => Sys2Proof.Machine.execChannelRetireDone t s
  | .lostListClear t w => Sys2Proof.Machine.execLostListClear t w s
  | .bar2Read addr len ecc => Sys2Proof.Machine.execBar2Read addr len ecc s
  | .bar2Write addr data => Sys2Proof.Machine.execBar2Write addr data s
  | .commit n w => Sys2Proof.Machine.execCommit n w s
  | .discard n w => Sys2Proof.Machine.execDiscard n w s
  | .partWrite n w => Sys2Proof.Machine.execPartWrite n w s
  | .tokQuotaWrite n w => Sys2Proof.Machine.execTokQuotaWrite n w s
  | .tallyQuotaWrite n w => Sys2Proof.Machine.execTallyQuotaWrite n w s
  | .tenantDrainStart n w => Sys2Proof.Machine.execTenantDrainStart n w s
  | .tenantDrainEnd n w => Sys2Proof.Machine.execTenantDrainEnd n w s
  | .commandStart part ecc => Sys2Proof.Machine.execCommandStart part ecc s
  | .quantumExpire slot => Sys2Proof.Machine.execQuantumExpire slot s
  | .yieldGraceExpire slot => Sys2Proof.Machine.execYieldGraceExpire slot s
  | .switchOut slot => Sys2Proof.Machine.execSwitchOut slot s
  | .saveDone slot => Sys2Proof.Machine.execSaveDone slot s
  | .restoreDone slot ecc => Sys2Proof.Machine.execRestoreDone slot ecc s
  | .queueEnable q w => Sys2Proof.Machine.execQueueEnable q w s
  | .queueDisable q w => Sys2Proof.Machine.execQueueDisable q w s
  | .sqTail q w => Sys2Proof.Machine.execSqTail q w s
  | .cqHead q w => Sys2Proof.Machine.execCqHead q w s
  | .slotLimitWrite w => Sys2Proof.Machine.execSlotLimitWrite w s
  | .descriptorFetchStart => Sys2Proof.Machine.execDescriptorFetchStart s
  | .descriptorReceived bytes => Sys2Proof.Machine.execDescriptorReceived bytes s
  | .duplicateComplete slot => Sys2Proof.Machine.execDuplicateComplete slot s
  | .load slot ecc => Sys2Proof.Machine.execLoad slot ecc s
  | .unload slot => Sys2Proof.Machine.execUnload slot s
  | .run slot ecc => Sys2Proof.Machine.execRun slot ecc s
  | .nopCommand slot => Sys2Proof.Machine.execNopCommand slot s
  | .completionRecordWrite q => Sys2Proof.Machine.execCompletionRecordWrite q s
  | .cqFullTimeout q => Sys2Proof.Machine.execCqFullTimeout q s
  | .dmaFailure q record => Sys2Proof.Machine.execDmaFailure q record s
  | .synthLock u => Sys2Proof.Machine.execSynthLock u s
  | .synthLockTimeout u => Sys2Proof.Machine.execSynthLockTimeout u s
  | .detectPreambleSend u => Sys2Proof.Machine.execDetectPreambleSend u s
  | .preambleDetected u corr => Sys2Proof.Machine.execPreambleDetected u corr s
  | .role u cw => Sys2Proof.Machine.execRole u cw s
  | .ready u cw => Sys2Proof.Machine.execReady u cw s
  | .trainingPhaseDone u m => Sys2Proof.Machine.execTrainingPhaseDone u m s
  | .presetReq u cw => Sys2Proof.Machine.execPresetReq u cw s
  | .seed u cw => Sys2Proof.Machine.execSeed u cw s
  | .wake u cw => Sys2Proof.Machine.execWake u cw s
  | .abort u cw => Sys2Proof.Machine.execAbort u cw s
  | .phaseBoundExpire u => Sys2Proof.Machine.execPhaseBoundExpire u s
  | .verifyEnd u uncorrectable snr => Sys2Proof.Machine.execVerifyEnd u uncorrectable snr s
  | .retrain u w => Sys2Proof.Machine.execRetrain u w s
  | .steeringUpdate u ofs => Sys2Proof.Machine.execSteeringUpdate u ofs s
  | .snrUpdate u snr corrected uncorrectable taps => Sys2Proof.Machine.execSnrUpdate u snr corrected uncorrectable taps s
  | .laneDegraded u => Sys2Proof.Machine.execLaneDegraded u s
  | .quietWindow u qsnr => Sys2Proof.Machine.execQuietWindow u qsnr s
  | .impulseBlock u err mean => Sys2Proof.Machine.execImpulseBlock u err mean s
  | .impulseRunEnd u uncorrectable gap => Sys2Proof.Machine.execImpulseRunEnd u uncorrectable gap s
  | .alignmentLost u frequency => Sys2Proof.Machine.execAlignmentLost u frequency s
  | .wakeFalseDetect u => Sys2Proof.Machine.execWakeFalseDetect u s
  | .wakeDataResume u seen => Sys2Proof.Machine.execWakeDataResume u seen s
  | .flitSubmit p vc body => Sys2Proof.Machine.execFlitSubmit p vc body s
  | .flitReceived p f => Sys2Proof.Machine.execFlitReceived p f s
  | .ackReceived p ack => Sys2Proof.Machine.execAckReceived p ack s
  | .nakReceived p ack => Sys2Proof.Machine.execNakReceived p ack s
  | .replayTimeout p => Sys2Proof.Machine.execReplayTimeout p s
  | .receiveBufferFree p vc => Sys2Proof.Machine.execReceiveBufferFree p vc s
  | .identity p r => Sys2Proof.Machine.execIdentity p r s
  | .verdict p isMatch cause => Sys2Proof.Machine.execVerdict p isMatch cause s
  | .identifyTimeout p => Sys2Proof.Machine.execIdentifyTimeout p s
  | .reform p mask => Sys2Proof.Machine.execReform p mask s
  | .sleepReq p count => Sys2Proof.Machine.execSleepReq p count s
  | .sleepAck p count => Sys2Proof.Machine.execSleepAck p count s
  | .idleExpire p => Sys2Proof.Machine.execIdleExpire p s
  | .bertGo p w => Sys2Proof.Machine.execBertGo p w s
  | .bertHoursExpire p => Sys2Proof.Machine.execBertHoursExpire p s
  | .bertReq p count ms => Sys2Proof.Machine.execBertReq p count ms s
  | .bertAck p count ms => Sys2Proof.Machine.execBertAck p count ms s
  | .bertEnd p bits errors => Sys2Proof.Machine.execBertEnd p bits errors s
  | .portEnable p w => Sys2Proof.Machine.execPortEnable p w s
  | .seedHoldExpire p => Sys2Proof.Machine.execSeedHoldExpire p s
  | .portDisable p w => Sys2Proof.Machine.execPortDisable p w s
  | .portDisableDone p => Sys2Proof.Machine.execPortDisableDone p s
  | .portDrain p w => Sys2Proof.Machine.execPortDrain p w s
  | .drainNotice p => Sys2Proof.Machine.execDrainNotice p s
  | .drained p => Sys2Proof.Machine.execDrained p s
  | .recheck p w => Sys2Proof.Machine.execRecheck p w s
  | .tmbCapture chips => Sys2Proof.Machine.execTmbCapture chips s
  | .status r => Sys2Proof.Machine.execStatus r s
  | .read r => Sys2Proof.Machine.execRead r s
  | .write r => Sys2Proof.Machine.execWrite r s
  | .eventRead r => Sys2Proof.Machine.execEventRead r s
  | .latchRead r => Sys2Proof.Machine.execLatchRead r s
  | .retainRead r => Sys2Proof.Machine.execRetainRead r s
  | .power r => Sys2Proof.Machine.execPower r s
  | .drain r => Sys2Proof.Machine.execDrain r s
  | .calStore r => Sys2Proof.Machine.execCalStore r s
  | .inlet r => Sys2Proof.Machine.execInlet r s
  | .openSession r => Sys2Proof.Machine.execOpenSession r s
  | .tmbResponseSend => Sys2Proof.Machine.execTmbResponseSend s
  | .tmbBusOccupied ms => Sys2Proof.Machine.execTmbBusOccupied ms s
  | .keyCommit w => Sys2Proof.Machine.execKeyCommit w s
  | .tmbWindowError src => Sys2Proof.Machine.execTmbWindowError src s
  | .calErase => Sys2Proof.Machine.execCalErase s
  | .calEraseDone blank => Sys2Proof.Machine.execCalEraseDone blank s
  | .storeGo w => Sys2Proof.Machine.execStoreGo w s
  | .measure w => Sys2Proof.Machine.execMeasure w s
  | .holdupMeasureDone vStart dropB dropL => Sys2Proof.Machine.execHoldupMeasureDone vStart dropB dropL s
  | .calStoreStepDone ok => Sys2Proof.Machine.execCalStoreStepDone ok s
  | .norTimeout => Sys2Proof.Machine.execNorTimeout s
  | .extest => Sys2Proof.Machine.execExtest s
  | .extestPulse => Sys2Proof.Machine.execExtestPulse s
  | .extestTrain => Sys2Proof.Machine.execExtestTrain s
  | .clamp => Sys2Proof.Machine.execClamp s
  | .idcode => Sys2Proof.Machine.execIdcode s
  | .clearingRead m p off coincident => Sys2Proof.Machine.execClearingRead m p off coincident s
  | .dutyReload u => Sys2Proof.Machine.execDutyReload u s
  | .hbmPhyRetrainFail t ch => Sys2Proof.Machine.execHbmPhyRetrainFail t ch s
  | .frameDiscarded why => Sys2Proof.Machine.execFrameDiscarded why s
  | .unlistedOp op r => Sys2Proof.Machine.execUnlistedOp op r s

end Sys2Proof.Machine
end

