-- ==== Sys2Proof/Safety.lean ====
section
/-!
DEFINITION. The terms in which claims speak of a run: a command that answers a next state, a write that nothing turns
away, a log that takes the next record, and the canonical form of everything the state keeps by index.
-/
namespace Sys2Proof.Machine
open Sys2Proof

/-- The command answers a next state, and that state satisfies `P`. -/
def Answers (i : Instr) (s : State) (P : State → Prop) : Prop := ∃ t, exec i s = .next t ∧ P t

/-- A write that nothing outside its register turns away: the device is ready, the page exists, its block has power,
answers and is not moving, the writer owns the page, and the write carries a valid tag where it needs one (R74 to R94). -/
def writeOk (s : State) (p : PageRef) (w : RegWrite) : Bool :=
  isReady s && p.exists && pageAnswers s p && !pageMoving s p && ownsPage s p w.master && !w.master.untagged

/-- None of a register's own checks fails (Table 3.4). -/
def Checks.pass (c : Checks) : Bool :=
  !c.tripped && !c.notOwner && !c.locked && !c.outOfRange && !c.wrongState && !c.ledgerFault && !c.noResource && !c.budget

/-- The RW registers that hold what is written to them, refuse no value of it and do nothing else, with the bits they hold
(Tables 3.3, 5.6, 6.16, 8.6, 10.9, 11.6, 11.7, 13.6, 14.5, 15.8, 16.11, 17.10, 18.8, 19.6). -/
def plainReg (p : PageRef) (off : Nat) : Option Word :=
  if off = 0x14 then some 0xFFFFFFFF
  else match p, off with
  | .corectl _, 0x48 | .tenant _, 0x8C | .tenant _, 0x90 | .tenant _, 0x94 => some 0xFFFFFFFF
  | .port _, 0x48 => some 0xFFFF
  | .loop _, 0x4C => some 0x13FF
  | .loop _, 0x54 => some 0x103F
  | .loop _, 0x94 | .loop _, 0x9C | .mem _, 0x60 => some 0x3FF
  | .token, 0x64 | .tally _, 0x40 => some 0x1FF
  | .lane _, 0x68 | .therm, 0x64 => some 0x7F
  | .tenant _, 0x58 => some 0x77
  | .hostif, 0x48 | .mem _, 0x68 | .tmb, 0x78 => some 0x1F
  | .port _, 0x5C => some 0xF
  | .corectl _, 0x64 | .port _, 0x58 | .tenant _, 0x88 => some 7
  | .tenant _, 0x80 | .cal, 0x5C => some 1
  | _, _ => none

/-- The hub runs, and the ring takes the next record (R99, R102). -/
def logOpen (s : State) : Bool := hubOn s && decide (recentEvents s < 256)

/-- The newest record of the ring has this code and these arguments. -/
def newest (s : State) (code : Nat) (args : List Nat) : Bool :=
  match s.events.log with
  | [] => false
  | r :: _ => r.code = code && [r.a0, r.a1, r.a2, r.a3] = args

/-- Cause `i` of a page is set in its INT_RAW. -/
def caused (s : State) (p : PageRef) (i : Nat) : Bool := (s.hdr p).intRaw.getLsbD i

/-- The command at the front of the queue. -/
def nextCommand (s : State) : Option Instr := s.pending.head?

/-- Device memory holds the canonical form of its bytes and of its poisoned lines (R408, R421). -/
def memWf (s : State) : Bool := sparseWf (0 : Byte) s.mem.data && sparseWf (0 : Nat) s.mem.poison

/-- The event ring holds at most 1024 records and retention memory at most 64 (R99, R53). -/
def logsBounded (s : State) : Bool := decide (s.events.log.length ≤ 1024) && decide (s.ao.retention.length ≤ 64)

/-- The tokens of the pool, wherever they stand (Table 4.2). -/
def tokSum (t : TokLedger) : Nat := t.free + t.held + t.transit + t.withheld + t.retired

/-- The command in slot `k` is COMPLETING, and its record has this status (R487, Table 15.5). -/
def CompletesWith (t : State) (k status : Nat) : Prop :=
  ∃ c r, t.cmd k = some c ∧ c.st = .completing ∧ c.record = some r ∧ r.status = status

/-- The frame of die `d` brings nothing but itself: the Hearth has heard of every fault of the die (R297), no net of it is FALLING
(R155), and none waits for the frame to be enabled (R151, R153). -/
def plainFrame (s : State) (d : Nat) : Bool :=
  s.hearth.late.all (fun f => cellDie f.cell ≠ d) && (dieNets d).all (fun n => (s.net n).st ≠ .falling) &&
  (if d < 8 then (s.tile d).st ≠ .rising else (s.net (d + 8)).st ≠ .off)

/-- The Hearth hears of a fault of cell `i` later: when its die answers again, or at the end of the frame that its engine is in
(R297, R300). -/
def heardLater (s : State) (i : Nat) : Bool := cellUnreachable s i || (s.loopE (cellDie i)).clk

/-! ### Lanes and ports (chapters 16, 17) -/

/-- A control word that a lane acts on as message `msg`: its CRC passes and its sequence number is new (R522). -/
def wordNew (x : LaneSt) (msg : Nat) (w : DWord) : Bool :=
  cwOk w && decide (cwMsg w = msg) && decide (x.lastSeq ≠ some (BitVec.ofNat 8 (cwSeq w)))

/-- A training attempt of lane `i` ends with this cause: it restarts from phase 2, or the lane is FAILED after three in a row,
or at once when its synthesiser did not lock; TRAIN_FAIL and event 0x6002 tell it (R543). -/
def TrainFails (c : Instr) (s : State) (i cause : Nat) : Prop :=
  Answers c s fun t =>
    (t.lane i).attempts = min ((s.lane i).attempts + 1) 255 ∧ (t.lane i).cause = cause ∧ caused t (.lane i) 2 = true ∧
    (t.lane i).phase = (if 2 ≤ (s.lane i).attempts ∨ cause = 1 then 15 else if (s.lane i).synth then 2 else 1) ∧
    ∀ j, j ≠ i → t.lane j = s.lane j

/-- The port of lane `i` is UP with the lane in service, can go on without it, and has no proposal of the far end (R565). -/
def leavesUp (s : State) (i : Nat) : Bool :=
  let x := s.port (lanePort i)
  let left := x.mask &&& ~~~ BitVec.ofNat 8 (2 ^ (i % 8))
  decide (x.st = .up) && x.mask.getLsbD (i % 8) && decide (left ≠ 0) && decide (x.lanesMin ≤ popCount 8 left.toNat) && x.reformFar.isNone

/-- Lane `i` has left service: it is unpowered, and its port reforms without it (R565). -/
def LeftUp (s t : State) (i : Nat) : Prop :=
  (t.lane i).phase = 0 ∧ (t.lane i).dropped = true ∧ (t.port (lanePort i)).st = .reforming ∧
  (t.port (lanePort i)).mask = (s.port (lanePort i)).mask &&& ~~~ BitVec.ofNat 8 (2 ^ (i % 8))

/-- The command takes port `p` down: its replay buffer is written off, DOWN is raised, and it trains anew, is FAILED after
3 downs within 1 s, or is OFF when ENABLE = 0 has been written, or where the wiring plan does not list it (R25, R564, R566, R576, R577). -/
def PortGoesDown (c : Instr) (s : State) (p : Nat) : Prop :=
  Answers c s fun t =>
    (t.port p).unacked = [] ∧ caused t (.port p) 1 = true ∧
    (t.port p).st = (if (s.port p).closing then .off else if 2 ≤ ((s.port p).downs.filter (fun a => withinUs s a 1000000)).length then .failed
      else if (s.port p).valid then .training else .off) ∧
    ∀ j, j ≠ p → t.port j = s.port j

/-- Port `p` enters QUARANTINE with this cause (R559, R560, R569). -/
def Quarantines (c : Instr) (s : State) (p cause : Nat) : Prop :=
  Answers c s fun t =>
    (t.port p).st = .quarantine ∧ (t.port p).qCause = cause ∧ caused t (.port p) 2 = true ∧
    (cause ≤ 5 → caused t (.wiring p) 0 = true) ∧ ∀ j, j ≠ p → t.port j = s.port j

/-! ### Side-band requests (chapter 18) -/

/-- A request of Table 18.4 and its command. -/
def IsRequest (i : TmbReq → Instr) (c : TmbCmd) : Prop :=
  (i = Instr.status ∧ c = cmdStatus) ∨ (i = Instr.read ∧ c = cmdRead) ∨ (i = Instr.write ∧ c = cmdWrite) ∨
  (i = Instr.eventRead ∧ c = cmdEventRead) ∨ (i = Instr.latchRead ∧ c = cmdLatchRead) ∨
  (i = Instr.retainRead ∧ c = cmdRetainRead) ∨ (i = Instr.power ∧ c = cmdPower) ∨ (i = Instr.drain ∧ c = cmdDrain) ∨
  (i = Instr.calStore ∧ c = cmdCalStore) ∨ (i = Instr.inlet ∧ c = cmdInlet) ∨ (i = Instr.openSession ∧ c = cmdOpenSession)

/-- A request that the receiver takes: VSB is valid, the frame is no response, and fewer than 4 responses wait (R586, R589). -/
def reqTaken (s : State) (r : TmbReq) : Bool := s.ao.vsb && !r.flags.getLsbD 0 && decide (s.tmb.responses.length < 4)

/-- The device is not BUSY for this command (R49, R603). -/
def notBusy (s : State) (op : Nat) : Bool := !bringingUp s || op = 1 || op = 5

/-- Nothing but the TMB node differs. -/
def SameButTmb (s t : State) : Prop := t = { s with tmb := t.tmb }

/-- The newest response waiting, and those before it as they were. -/
def RespondsWith (s t : State) (r : TmbReq) (P : TmbResp → Prop) : Prop :=
  ∃ x, t.tmb.responses = s.tmb.responses ++ [x] ∧ x.dst = r.src ∧ x.seq = r.seq ∧ P x

/-- Request `r` for command `c` is executed: it is taken, the device is not BUSY for it, its header is as Table 18.2 has it, no
response to it is in its window, and where the command needs a tag and a key is installed, R596 holds of it. -/
def reqRuns (s : State) (c : TmbCmd) (r : TmbReq) : Prop :=
  reqTaken s r = true ∧ notBusy s c.op = true ∧ headBad r = false ∧ windowEntry s r = none ∧
  (c.tag = false → reqAuth r = false) ∧
  (c.tag = true → authCause s c.op r = none ∧ (s.tmb.key.isSome = true → (s.req r.src.toNat).ctr.toNat < r.ctr.toNat))

/-- The request is executed and answered with this STATUS and payload. -/
def Serves (i : Instr) (s : State) (r : TmbReq) (status : Nat) (payload : List Byte) (P : State → Prop) : Prop :=
  Answers i s fun t => RespondsWith s t r (fun x => x.status = status ∧ x.payload = payload) ∧ P t

/-- A word that the side-band writes. -/
def sideWrite (v : Nat) : RegWrite := { master := .side true, value := w32 v, be := 15 }

/-! ### Core instructions (chapter 12) -/

/-- The core executes, and Table 12.4 lists the word at its PC (R380, R387). -/
def coreRuns (s : State) (c : Nat) : Bool := coreGo s c && (coreInstr c (fetchWord (s.core c))).isSome

/-- The core executes, the instruction's fields are legal, and the next instruction has an address (R380, R383, R387). -/
def coreReady (s : State) (c : Nat) (u : Uses) (f : Fields) : Bool := coreRuns s c && usesOk u f && !pcOver (s.core c)

/-- Nothing but core `c`, and the count of free values, differs. -/
def SameButCore (s t : State) (c : Nat) : Prop := t = { s with cores := t.cores, free := t.free } ∧ ∀ j, j ≠ c → t.core j = s.core j

/-- The command raises exception `k` on core `c`: the core is FAULTED, cause and PC are kept, no register changes (R359,
R390). -/
def Raises (i : Instr) (s : State) (c k : Nat) : Prop :=
  Answers i s fun t =>
    (t.core c).st = .faulted ∧ (t.core c).exc = k ∧ (t.core c).excPc = (s.core c).pc ∧ (t.core c).pc = (s.core c).pc ∧
    (t.core c).s = (s.core c).s ∧ (t.core c).a = (s.core c).a ∧ (t.core c).v = (s.core c).v ∧ (t.core c).acc = (s.core c).acc ∧
    (t.core c).ls = (s.core c).ls ∧ caused t (.corectl c) 1 = true

/-- The command goes no further than to stall core `c` (R387). -/
def Stalls (i : Instr) (s : State) (c : Nat) (st : Stall) : Prop := exec i s = .next (s.setCore c { s.core c with stall := some st })

/-- A core instruction's constructor with the fields its forms use. -/
abbrev FormRow := (Nat → Fields → Instr) × (Fields → Uses)

/-- Instructions that share the fields they use. -/
def sameForm (l : List (Nat → Fields → Instr)) (u : Fields → Uses) : List FormRow := l.map (fun e => (e, u))

/-- The fields of classes 0 to 2 (Tables 12.3, 12.4). -/
def scalarForms : List FormRow :=
  sameForm [Instr.add, Instr.sub, Instr.and, Instr.or, Instr.xor, Instr.shl, Instr.shr, Instr.sra, Instr.mul, Instr.mulh, Instr.slt, Instr.sltu, Instr.min, Instr.max] (fun f => usesOp f 32 32) ++
  sameForm [Instr.beq, Instr.bne, Instr.blt, Instr.bge, Instr.bltu, Instr.bgeu] (fun _ => { a := 32, b := 32, imm := true }) ++
  [(Instr.aadd, fun f => usesOp f 16 16), (Instr.amov, fun _ => { d := 16, a := 32, b := 32 }), (Instr.ard, fun _ => { d := 32, a := 16, x := true }),
   (Instr.ld, fun _ => { d := 32, a := 16, imm := true }), (Instr.st, fun _ => { a := 16, b := 32, imm := true }),
   (Instr.lda, fun _ => { d := 16, a := 16, imm := true }), (Instr.sta, fun _ => { a := 16, b := 16, imm := true }),
   (Instr.csrr, fun _ => { d := 32, imm := true }), ((fun c f => Instr.csrw c f 0), fun _ => { a := 32, imm := true }), (Instr.j, fun _ => { imm := true }),
   (Instr.jal, fun _ => { d := 32, imm := true }), (Instr.jr, fun _ => { a := 32 }),
   (Instr.loop, fun f => { a := if f.i then 1 else 32, i := true, imm := true }), (Instr.nop, fun _ => { })]

/-- The fields of classes 3 and 4. -/
def streamForms : List FormRow :=
  sameForm [Instr.mma, Instr.mmaz] (fun _ => { d := 2, a := 16, b := 4, x := true, imm := true }) ++
  [(Instr.scfg, fun _ => { d := 4, a := 16, imm := true }), (Instr.sgo, fun _ => { d := 4 }), (Instr.swait, fun _ => { imm := true }),
   (Instr.sstat, fun _ => { d := 32, a := 4 }), (Instr.sstop, fun _ => { d := 4 }), (Instr.accz, fun _ => { d := 2 }),
   (Instr.accrd, fun _ => { d := 32, a := 2, imm := true }), (Instr.accwr, fun _ => { a := 2, b := 32, imm := true }),
   (Instr.accst, fun _ => { d := 16, a := 2, x := true, imm := true }), (Instr.accld, fun _ => { d := 2, a := 16, imm := true })]

/-- The fields of class 5. -/
def vectorForms : List FormRow :=
  sameForm [Instr.vadd, Instr.vsub, Instr.vmul, Instr.vfma, Instr.vmax, Instr.vmin] (fun _ => { d := 32, a := 32, b := 32, x := true }) ++
  sameForm [Instr.vexp2, Instr.vrcp, Instr.vrsqrt, Instr.vcvt, Instr.vrsum, Instr.vrmax, Instr.vbcast] (fun _ => { d := 32, a := 32, x := true }) ++
  [(Instr.vmovs, fun _ => { d := 32, a := 32, x := true, imm := true }), (Instr.vld, fun _ => { d := 32, a := 16, imm := true }),
   (Instr.vst, fun _ => { a := 16, b := 32, imm := true })]

/-- The fields of classes 6 to 9. -/
def systemForms : List FormRow :=
  sameForm [Instr.grantw, Instr.yield, Instr.end_, Instr.trap, Instr.fence] (fun _ => { }) ++
  [(Instr.qcfg, fun _ => { d := 8, a := 16, imm := true }),
   (Instr.send, fun _ => { a := 32, b := 32, x := true, imm := true }), (Instr.recv, fun _ => { d := 32, b := 32, x := true }),
   (Instr.qcnt, fun _ => { d := 32, x := true }), (Instr.tadd, fun f => { a := 32, b := if f.i then 1 else 32, i := true, imm := true }),
   (Instr.twait, fun _ => { a := 32, b := 32, imm := true }), (Instr.trd, fun _ => { d := 32, a := 32, imm := true }),
   (Instr.stoke, fun f => usesH f false), (Instr.ease, fun f => usesH f true), (Instr.easeR, fun f => usesH f true)]

/-- Every core instruction with the fields it uses. -/
def formUses : List FormRow := scalarForms ++ streamForms ++ vectorForms ++ systemForms

end Sys2Proof.Machine
end

