-- ==== Sys2Proof/Certificates/Slice0/Obligations.lean ====
section
/-!
DEFINITION. The statements for the provers. Each says what commands of the block do, with the rules of the spec it
follows; what a statement claims of a next state is claimed of every state and of all operands that meet its hypotheses.
-/
open Sys2Proof Sys2Proof.Machine

/-! ### The step and the queue -/

/-- A step takes the command at the front of the queue and runs it on the state with the rest of the queue. -/
def Obligations.StepRunsFrontCommand : Prop :=
  ∀ (c : Instr) (rest : List Instr) (s : State), s.pending = c :: rest → step s = exec c { s with pending := rest }

/-- With an empty queue one AO tick passes while VSB is valid, and nothing else happens (the model's choice, log entry 2). -/
def Obligations.IdleStepTicks : Prop :=
  ∀ s : State, s.pending = [] →
    (s.ao.vsb = true → step s = .next { s with ao := { s.ao with ticks := s.ao.ticks + 1 } }) ∧
    (s.ao.vsb = false → step s = .next s)

/-- Every command answers a next state in every state, since the spec gives each row of its table an effect, and that effect
leaves the queue of waiting commands alone. -/
def Obligations.EveryCommandAnswers : Prop :=
  ∀ (i : Instr) (s : State), ∃ t, exec i s = .next t ∧ t.pending = s.pending

/-! ### Rails, clocks, bring-up (chapters 02 and 20) -/

/-- VSB, VIN and VHBM come and go: VSB_VALID starts the AO domain with its straps and its tick count at 0; VSB_INVALID leaves
it nothing, the trip latch and the calibration image with it; VIN_VALID leaves Banked when nothing holds the package there;
VIN_LOST takes the package to Banked at once, with event 0x1011 as the last record of retention memory where no automatic
store may begin, and starting one where AUTO is set and the image dirty (R43, R44, R58, R322, R624, R625, R638). VHBM_LOST, with
VHBM below 1.067 V: each Kindled or Stoked tile is taken Off by force (R658). Readings of the model it rests on: log entries
38, 39. -/
def Obligations.RailsComeAndGo : Prop :=
  ((∀ (a : BitVec 5) (s : State), s.ao.vsb = false → Answers (.vsbValid a) s fun t =>
    t.ao.vsb = true ∧ t.ao.tmbAddr = a ∧ t.ao.ticks = 0 ∧ t.trip = s.trip) ∧
  (∀ s : State, Answers .vsbInvalid s fun t =>
    t.ao.vsb = false ∧ t.trip = none ∧ t.power = {} ∧ t.cal = {} ∧ t.ao.retention = [] ∧ t.hdrs = [] ∧
    t.ao.vin = s.ao.vin ∧ t.ao.vhbm = s.ao.vhbm ∧ t.pending = s.pending) ∧
  (∀ s : State, s.ao.vin = false → Answers .vinValid s fun t =>
    t.ao.vin = true ∧ t.trip = s.trip ∧
    ((s.ao.vsb && !s.ao.hold && s.trip.isNone && decide (s.power.stage = .banked)) = true →
      t.power.stage = .pll ∧ t.ao.retention = []) ∧
    ((s.ao.vsb && !s.ao.hold && s.trip.isNone && decide (s.power.stage = .banked)) = false →
      t = { s with ao := { s.ao with vin := true } })) ∧
  (∀ s : State, s.ao.vin = true → hubOn s = true → s.trip = none → Answers .vinLost s fun t =>
    t.ao.vin = false ∧ t.power.stage = .banked ∧ t.tiles = [] ∧ t.nets = [] ∧ t.cores = [] ∧ t.mem = {} ∧ t.host = {} ∧
    (s.cal.auto = false → t.ao.retention.getLast?.map (·.code) = some 0x1011) ∧
    (s.ao.vsb = true → s.cal.auto = true → dirty s = true → storing s = false →
      (s.cal.blank = true → t.cal.step = .check ∧ t.cal.measuring = true ∧ t.cal.copy = s.cal.image) ∧
      (s.cal.blank = false → t.cal.step = .idle ∧ t.cal.result = 0x21 ∧ caused t .cal 1 = true))) ∧
  (∀ s : State, Answers .vhbmValid s fun t => t = { s with ao := { s.ao with vhbm := true } })) ∧
  (∀ (mv : Nat) (s : State), 1067 ≤ mv → exec (.vhbmLost mv) s = .next s) ∧
  (∀ (mv : Nat) (s : State), mv < 1067 → Answers (.vhbmLost mv) s fun t =>
    t.ao.vhbm = false ∧ t.trip = s.trip ∧
    (workingTiles s = [] → t = { s with ao := { s.ao with vhbm := false } }) ∧
    (∀ k ∈ workingTiles s, (t.tile k).st = .falling ∨ (t.tile k).st = .off))

/-- The clocks: AO_LOCK ends the unlocked timestamps and AO_LOCK_TIMEOUT makes event 0x8004 due, logged at once when the hub
runs past its PLL; CLOCK_LOCK and CLOCK_LOCK_TIMEOUT of the hub PLL carry bring-up to the firmware copies or to Boot failed
(R39 to R42, R62, R659, Table 2.5). Readings of the model it rests on: log entry 32. -/
def Obligations.ClocksLockOrFail : Prop :=
  (∀ s : State, s.ao.vsb = true → Answers .aoLock s fun t =>
    t = { s with ao := { s.ao with aoLock := true, lockFailDue := false } }) ∧
  (∀ s : State, withinUs s 0 500000 = true → exec .aoLockTimeout s = .next s) ∧
  (∀ s : State, s.ao.vsb = true → s.ao.aoLock = false → withinUs s 0 500000 = false → Answers .aoLockTimeout s fun t =>
    (hubOn s = false → t = { s with ao := { s.ao with lockFailDue := true } }) ∧
    (logOpen s = true → s.power.stage ≠ .pll →
      t.ao.lockFailDue = false ∧ newest t 0x8004 [msSince s 0 % 2 ^ 32, 0, 0, 0] = true)) ∧
  (∀ s : State, s.power.stage = .pll → Answers (.clockLock .hubPll) s fun t =>
    t.power.stage = .copyA ∧ t.power.hubPll = true) ∧
  (∀ s : State, s.power.stage = .pll → s.power.pending = none → Answers (.clockLockTimeout .hubPll) s fun t =>
    t.power.stage = .failed ∧ hubOn t = false ∧ t.trip = s.trip) ∧
  (∀ (k : Nat) (s : State), k < 8 → (s.tile k).st = .rising → (s.tile k).kindle = .pll →
    (Answers (.clockLock (.tilePll k)) s fun t => (t.tile k).pll = true ∧ (t.tile k).kindle = .phy) ∧
    (Answers (.clockLockTimeout (.tilePll k)) s fun t => (t.tile k).st = .falling ∨ (t.tile k).st = .off)) ∧
  (∀ (k : Nat) (s : State), k < 8 → (s.tile k).st = .rising → (s.tile k).kindle = .phy →
    (Answers (.clockLock (.hbmPhy k)) s fun t => (t.tile k).phy = true ∧ (t.tile k).kindle = .done) ∧
    (Answers (.clockLockTimeout (.hbmPhy k)) s fun t => (t.tile k).st = .falling ∨ (t.tile k).st = .off)) ∧
  (∀ (k : Nat) (s : State), k < 8 → (s.tile k).st = .rising → (s.tile k).kindle = .loopClk →
    Answers (.clockLock (.loopClk k)) s fun t => (t.loopE k).clk = true ∧ (t.loopE k).frame = 0 ∧ (t.tile k).kindle = .sram)

/-- Boot: a verified copy A or B is taken, a failed copy A hands over to B with event 0x8001, a failed copy B fails the boot;
the calibration slots are read; the hold-up measurement ends its step; DEVICE_READY makes the device ready (R46, R47, R62,
R619, R622). Readings of the model it rests on: log entries 17, 38. -/
def Obligations.BootGoesThroughItsStages : Prop :=
  (∀ (c : CopyCheck) (s : State), s.power.stage = .copyA → copyFail c = 3 → Answers (.bootCopyVerified c) s fun t =>
    t = { s with power := { s.power with stage := .slots, copy := 0 } }) ∧
  (∀ (c : CopyCheck) (s : State), s.power.stage = .copyA → copyFail c ≠ 3 → logOpen s = true → Answers (.bootCopyVerified c) s fun t =>
    t.power.stage = .copyB ∧ t.power.failA = copyFail c ∧ newest t 0x8001 [copyFail c, 0, 0, 0] = true) ∧
  (∀ (c : CopyCheck) (s : State), s.power.stage = .copyB → copyFail c = 3 → Answers (.bootCopyVerified c) s fun t =>
    t = { s with power := { s.power with stage := .slots, copy := 1 } }) ∧
  (∀ (c : CopyCheck) (s : State), s.power.stage = .copyB → copyFail c ≠ 3 → s.power.pending = none → Answers (.bootCopyVerified c) s fun t =>
    t.power.stage = .failed ∧ t.power.failB = copyFail c ∧ t.power.failA = s.power.failA ∧ hubOn t = false) ∧
  (∀ (a b : SlotBytes) (s : State), s.power.stage = .slots → Answers (.calSlotsRead a b) s fun t =>
    t.power.stage = (if s.ao.cold && !(storing s && !s.cal.measuring) then .holdup else .hubNet) ∧ t.tmb.key = calKey t) ∧
  (∀ (v b l : Nat) (s : State), s.cal.measuring = true → Answers (.holdupMeasureDone v b l) s fun t =>
    t.cal.measuring = false ∧ t.cal.vStart = v / 4 % 65536 ∧ (s.power.stage = .holdup → t.power.stage = .hubNet)) ∧
  (∀ s : State, s.power.stage = .train → logOpen s = true → Answers .deviceReady s fun t =>
    t.power.stage = .ready ∧ newest t 0x1010 [s.power.wakeFrom % 2 ^ 32, 2, 0, whoMoves s % 2 ^ 32] = true ∧ caused t .boot 0 = true ∧ caused t .boot 1 = true)

/-- The five power-state requests: a legal request whose first step's precondition holds, made while nothing moves, is done
when no step is needed and else runs, its first step begun (R33, R37, R57, Tables 3.20 and 3.21). A request made while a
transition runs becomes the pending one and replaces an earlier one; a request with an illegal target or no tiles is refused
with OUT_OF_RANGE and starts nothing (R57, Table 3.20). Readings of the model it rests on: log entries 34, 36. -/
def Obligations.PowerRequestsRunWaitOrAreRefused : Prop :=
  (∀ e ∈ [(0, Instr.pwrReqOff), (1, Instr.pwrReqBanked), (2, Instr.pwrReqSmouldering), (3, Instr.pwrReqKindled), (4, Instr.pwrReqStoked)],
  ∀ (w : RegWrite) (s : State), fld w.value.toNat 0 4 = e.1 → w.full = true → (∀ n, w.master ≠ .vf n) →
  writeOk s .boot w = true → s.power.trans = none → anyTile s .falling = false → anyTile s .rising = false →
  ∀ r : PwrReq, r = ⟨e.1, BitVec.ofNat 8 (fld w.value.toNat 8 8), w.master.num⟩ → reqLegal r = true → reqCheck s r = .ok →
  Answers (e.2 w) s fun t =>
    (nextStep s r 0 = none →
      t.power = { s.power with outcome := 0, code := 0, requester := r.requester % 4, reached := BitVec.ofNat 8 (reachedMask s r) } ∧
      caused t .boot 2 = true ∧ t.tiles = s.tiles) ∧
    (∀ p, nextStep s r 0 = some p → t.power.trans = some { req := r, cur := p } ∧ t.power.outcome = 1)) ∧
  (∀ i ∈ [Instr.pwrReqOff, Instr.pwrReqBanked, Instr.pwrReqSmouldering, Instr.pwrReqKindled, Instr.pwrReqStoked],
  ∀ (w : RegWrite) (s : State), (∀ n, w.master ≠ .vf n) → writeOk s .boot w = true →
  ∀ r : PwrReq, r = ⟨fld w.value.toNat 0 4, BitVec.ofNat 8 (fld w.value.toNat 8 8), w.master.num⟩ →
  (s.power.trans.isSome = true → w.full = true → reqLegal r = true → Answers (i w) s fun t =>
    t.power.pending = some r ∧ t.power.trans = s.power.trans ∧ t.power.outcome = 2 ∧ t.tiles = s.tiles) ∧
  (reqLegal r = false → s.trip = none → reqCheck s r ≠ .tripped → Answers (i w) s fun t =>
    t.power = s.power ∧ t.tiles = s.tiles ∧
    (t.hdr .boot).lastRefusal = word [(0, 0x03), (8, 0x48), (24, w.master.num)] ∧
    (t.hdr .boot).errCount = satInc (s.hdr .boot).errCount 0xFFFF))

/-- TRANSITION_STEP_DONE: a rising tile of a Stoke step reaches Stoked; when the present step is done and none follows, the
transition ends with outcome 0 (R37, R57). The ramp of a net ends: NET_RAMP_DONE turns it ON, a ramp of the hub's net or an
edge net that times out the first time is tried again or fails the boot, and NET_DISCHARGED turns a falling net OFF (R151,
R155, R170). Readings of the model it rests on: log entries 15, 35. -/
def Obligations.StepsAndRampsEnd : Prop :=
  ((∀ (l : List Nat) (s : State) (tr : Trans) (k : Nat), s.power.trans = some tr → tr.cur = .stoke k → (s.tile k).st = .rising →
    tr.req.target = 4 → isReady s = true → tr.stop = false → s.power.pending = none → Answers (.transitionStepDone l) s fun t =>
      (t.tile k).st = .stoked) ∧
  (∀ (l : List Nat) (s : State) (tr : Trans), s.power.trans = some tr →
    (tr.cur = .wake ∧ isReady s = true ∨ ∃ m, tr.cur = .off m ∧ (bitsOf 8 m.toNat).all (fun k => (s.tile k).st = .off) = true) →
    tr.stop = false → nextStep s tr.req tr.failed = none → s.power.pending = none → Answers (.transitionStepDone l) s fun t =>
      t.power.trans = none ∧ t.power.outcome = 0 ∧ t.power.requester = tr.req.requester % 4 ∧ t.tiles = s.tiles)) ∧
  ((∀ (n : Nat) (s : State), (s.net n).st = .rising → Answers (.netRampDone n) s fun t =>
    (t.net n).st = .on ∧ (t.net n).slew = none ∧ (t.net n).vsetUv = targetUv s n) ∧
  (∀ (n mv : Nat) (s : State), 16 ≤ n → n < 19 → (s.net n).st = .rising → (s.net n).attempts = 0 → Answers (.netRampTimeout n mv) s fun t =>
    (t.net n).st = .rising ∧ (t.net n).attempts = 1 ∧ (t.net n).vsetUv = mv * 1000) ∧
  (∀ (n mv : Nat) (s : State), 16 ≤ n → n < 19 → (s.net n).st = .rising → (s.net n).attempts = 1 → Answers (.netRampTimeout n mv) s fun t =>
    (t.net n).st = .falling ∧ (t.net n).attempts = 2) ∧
  (∀ (mv : Nat) (s : State), (s.net 19).st = .rising → s.power.pending = none → Answers (.netRampTimeout 19 mv) s fun t =>
    t.power.stage = .failed ∧ hubOn t = false) ∧
  (∀ (n : Nat) (s : State), 16 ≤ n → (s.net n).st = .falling → Answers (.netDischarged n) s fun t =>
    (t.net n).st = .off ∧ (t.net n).vsetUv = 0 ∧ ∀ j, j ≠ n → t.net j = s.net j))

/-! ### The host's link and its presence -/

/-- PERST_N, the PCIe link, Function Level Reset, configuration requests, and the absence of the host, which shows after 500 ms
(R48, R65, R91, R474, R498, R499). Readings of the model it rests on: log entries 90, 102. -/
def Obligations.HostLinkEvents : Prop :=
  (∀ s : State, Answers (.perstNChange false) s fun t => t.ao.perst = false ∧ t.host = s.host ∧ t.out = s.out) ∧
  (∀ s : State, dieOn s 10 = true → s.ao.perst = false → Answers (.perstNChange true) s fun t =>
    t.ao.perst = true ∧ t.ao.l0 = false ∧ ∀ q < 258, (t.queue q).enable = false) ∧
  (∀ (n : Nat) (s : State), isReady s = true → s.ao.l0 = true → n < 32 →
    (Answers (.functionLevelReset (.vf n)) s fun t => ∀ k < 8, (t.queue (8 * n + k)).enable = false) ∧
    (Answers (.functionLevelReset .pf0) s fun t => ∀ q < 258, (t.queue q).enable = false)) ∧
  (∀ (rate width : Nat) (s : State), dieOn s 10 = true → s.ao.perst = false → linkModeOk rate width = true → Answers (.pcieLinkChange true rate width) s fun t =>
    t.ao.l0 = true ∧ t.ao.rate = rate ∧ t.ao.width = width ∧ t.ao.absentSince = none ∧ t.ao.hostAbsent = false ∧
    caused t .hostif 0 = true) ∧
  (∀ (rate width : Nat) (s : State), dieOn s 10 = true → Answers (.pcieLinkChange false rate width) s fun t =>
    t.ao.l0 = false ∧ t.ao.rate = 0 ∧ t.ao.width = 0 ∧ t.ao.absentSince.isSome = true ∧ caused t .hostif 0 = true) ∧
  (∀ (tag : Nat) (r : CfgReq) (s : State), dieOn s 10 = true → s.ao.perst = false → (∀ n, r.fn = some n → n < 32) →
    (isReady s = false → exec (.pcieConfigRequest tag r) s = .next (emit s (.cfg tag true 0))) ∧
    (isReady s = true → r.write = none → exec (.pcieConfigRequest tag r) s = .next (emit s (.cfg tag false (cfgRead s r.fn r.field)))) ∧
    (isReady s = true → ∀ v, r.write = some v → Answers (.pcieConfigRequest tag r) s fun t =>
      t.out = s.out ++ [.cfg tag false (cfgRead t r.fn r.field)] ∧ t.cells = s.cells ∧ t.mem = s.mem ∧
      (r.field = .maxPayload → (v = 128 ∨ v = 256 ∨ v = 512) → cfgRead t r.fn r.field = v) ∧
      (∀ fn f, fnNo fn ≠ fnNo r.fn → cfgRead t fn f = cfgRead s fn f))) ∧
  (∀ s : State, hubOn s = true → s.ao.hostAbsent = false → absentLong s = true → Answers .hostAbsent s fun t =>
    t.ao.hostAbsent = true ∧ caused t .arbiter 2 = true) ∧
  (∀ s : State, absentLong s = false → exec .hostAbsent s = .next s)

/-! ### The regulator array (chapter 05) -/

/-- A legal write of TARGET takes effect: SETPOINT and RANGE take the written values, and an ON net starts to slew from where
its reference stands, at the rate in SLEW; with a new range, which both set-points in the overlap allow, it then changes its cells
one by one, and else the write is refused with WRONG_STATE; SLEW_DONE ends the slew with AT_TARGET (R138, R141 to R143, R154). A
code outside its range, below FLOOR or above CEIL is refused with OUT_OF_RANGE, and the set-point stays (R138, Table 5.12).
Readings of the model it rests on: log entry 46. -/
def Obligations.TargetWritesSlewOrAreRefused : Prop :=
  ((∀ (n : Nat) (w : RegWrite) (s : State), writeOk s (.net n) w = true →
    ∀ (v : Word) (code : Nat) (rg : Bool), v = w.merged (readNet s n 0x40) → code = fld v.toNat 0 9 → rg = v.getLsbD 12 →
    codeIn code rg = true → calFloor s n ≤ code → code ≤ calCeil s n → targetState s n = true → (s.net n).st ≠ .rolling →
    rg = calRange s n → (n < 16 → n % 2 = 0 → stepVf s (n / 2) ≤ code) → Answers (.targetWrite n w) s fun t =>
      calSetpoint t n = code ∧ calRange t n = rg ∧ (∀ j, j ≠ n → t.net j = s.net j) ∧ t.cells = s.cells ∧ t.tiles = s.tiles ∧
      ((s.net n).st = .on → code ≠ calSetpoint s n → (t.net n).slew = some ⟨vsetNow s n, s.ao.ticks, (s.net n).rate⟩)) ∧
  (∀ (n : Nat) (w : RegWrite) (s : State), writeOk s (.net n) w = true →
    ∀ (v : Word) (code : Nat) (rg : Bool), v = w.merged (readNet s n 0x40) → code = fld v.toNat 0 9 → rg = v.getLsbD 12 →
    codeIn code rg = true → calFloor s n ≤ code → code ≤ calCeil s n → targetState s n = true → (s.net n).st ≠ .rolling →
    rg ≠ calRange s n → (n < 16 → n % 2 = 0 → stepVf s (n / 2) ≤ code) →
    (inOverlap code = true → inOverlap (calSetpoint s n) = true → Answers (.targetWrite n w) s fun t =>
      calSetpoint t n = code ∧ calRange t n = rg ∧ (∀ j, j ≠ n → t.net j = s.net j) ∧ t.cells = s.cells ∧ t.tiles = s.tiles ∧
      ((s.net n).st ≠ .on → (t.net n).st = (s.net n).st) ∧
      ((s.net n).st = .on → vsetNow s n ≠ 5000 * code → (t.net n).st = .rolling ∧
        (t.net n).roll = some { range := rg, slewing := true, todo := netCells n, cur := none, changed := 0, skipped := 0 } ∧
        (t.net n).slew = some ⟨vsetNow s n, s.ao.ticks, (s.net n).rate⟩) ∧
      ((s.net n).st = .on → vsetNow s n = 5000 * code → ∀ (i : Nat) (l : List Nat), netCells n = i :: l → (s.cell i).isolated = false →
        (t.net n).st = .rolling ∧
        (t.net n).roll = some { range := rg, slewing := false, todo := l, cur := some i, changed := 0, skipped := 0 })) ∧
    (inOverlap code = false ∨ inOverlap (calSetpoint s n) = false → Answers (.targetWrite n w) s fun t =>
      t.cal = s.cal ∧ t.nets = s.nets ∧ t.cells = s.cells ∧
      (t.hdr (.net n)).lastRefusal = word [(0, 0x02), (8, 0x40), (24, w.master.num)])) ∧
  (∀ (n : Nat) (s : State), (s.net n).slew.isSome = true → (s.net n).st ≠ .rising → (s.net n).roll = none → Answers (.slewDone n) s fun t =>
    t.net n = { s.net n with slew := none, vsetUv := targetUv s n } ∧ caused t (.net n) 0 = true ∧
    (∀ j, j ≠ n → t.net j = s.net j) ∧ t.cells = s.cells)) ∧
  (∀ (n : Nat) (w : RegWrite) (s : State), writeOk s (.net n) w = true → ∀ v : Word, v = w.merged (readNet s n 0x40) →
    (codeIn (fld v.toNat 0 9) (v.getLsbD 12) = false ∨ fld v.toNat 0 9 < calFloor s n ∨ calCeil s n < fld v.toNat 0 9) →
    Answers (.targetWrite n w) s fun t =>
      t.cal = s.cal ∧ t.nets = s.nets ∧ t.cells = s.cells ∧
      (t.hdr (.net n)).lastRefusal = word [(0, 0x03), (8, 0x40), (24, w.master.num)])

/-- A cell of a range change resumes in the new range, preset; when it does not resume in time it is isolated with cause 6
(R143, R172); said here of a cell of which the Hearth hears at the end of the frame, or when its die answers (R297, R300). Manual mode, share
weight and duty: legal writes take effect in the cell and nowhere else; DUTY_RELOAD applies the whole shadow (R149, R157 to
R162, Tables 5.20 to 5.22). Readings of the model it rests on: log entry 92. -/
def Obligations.CellsTakeModeShareDutyAndRange : Prop :=
  (∀ (i : Nat) (s : State) (r : Roll), (s.net (cellNet i)).roll = some r → r.cur = some i → r.halted = false →
    (Answers (.cellRollResume i) s fun t => (t.cell i).range = r.range ∧ (t.cell i).preset = true) ∧
    (heardLater s i = true → (s.cell i).isolated = false → Answers (.rollResumeTimeout i) s fun t =>
      (t.cell i).isolated = true ∧ (t.cell i).isoCause = 6 ∧ caused t (.cell i) 2 = true)) ∧
  ((∀ e ∈ [Instr.modeWrite, Instr.shareWtWrite], ∀ (i : Nat) (w : RegWrite) (s : State), writeOk s (.cell i) w = true →
    ∀ v : Word, v = w.merged (word [(0, b2n (s.cell i).manual), (4, (s.cell i).shareWt)]) → fld v.toNat 4 4 ≠ 0 →
    (v.getLsbD 0 = true → cellNet i < 16 ∧ (s.tile (cellDie i)).st = .kindled) → Answers (e i w) s fun t =>
      (t.cell i).manual = v.getLsbD 0 ∧ (t.cell i).shareWt = fld v.toNat 4 4 ∧ (t.cell i).shadow = (s.cell i).shadow ∧
      (v.getLsbD 0 = true → (s.cell i).manual = false → (t.cell i).dutyReg = (s.cell i).shadow) ∧
      (∀ j, j ≠ i → t.cell j = s.cell j) ∧ t.nets = s.nets) ∧
  (∀ (i : Nat) (late : Bool) (w : RegWrite) (s : State), writeOk s (.cell i) w = true → (s.cell i).manual = true →
    ∀ v : Nat, v = fld (w.merged ((s.cell i).dutyReg.setWidth 32)).toNat 0 12 → v ≤ calDutyMax s i → Answers (.dutyWrite i late w) s fun t =>
      (t.cell i).dutyReg = BitVec.ofNat 12 v ∧ (t.cell i).applied = (s.cell i).applied ∧
      (late = false → (t.cell i).shadow = BitVec.ofNat 12 v ∧ (t.cell i).shadowHost = true) ∧
      (late = true → (t.cell i).shadow = (s.cell i).shadow ∧ (t.cell i).lateDuty = some (BitVec.ofNat 12 v)) ∧
      (∀ j, j ≠ i → t.cell j = s.cell j)) ∧
  (∀ (i : Nat) (s : State), switching s i = true → Answers (.dutyReload i) s fun t =>
    (t.cell i).applied = (s.cell i).shadow ∧ (t.cell i).appliedHost = (s.cell i).shadowHost ∧
    (t.cell i).reloads = ((s.cell i).reloads + 1) % 256 ∧ (∀ j, j ≠ i → t.cell j = s.cell j) ∧ t.nets = s.nets))

/-- An excursion of an ON or ROLLING net that has lasted more than 100 frames is reported once, with event 0x1022 and its
cause; measured values reach the HEARTH page; INLET_LIMIT
takes 0 or 100 to 750 W (R171, R176, R255, Table 5.9). Path resistance: after eight failed repeats a suspect cell whose R_F
is no more than twice its PATH_BASE is judged once and stays, with event 0x1064; a dropped conversion is asked for again
(R285, R286). A die that answers again is heard (R300). Readings of the model it rests on: log entries 42, 43, 94. -/
def Obligations.HearthReportsAndPaths : Prop :=
  ((∀ (n : Nat) (s : State), (s.net n).st = .on ∨ (s.net n).st = .rolling → 100 < (s.net n).bandFrames →
    ((s.net n).bandTold = false → Answers (.outOfBand n) s fun t =>
      (logOpen s = true → newest t 0x1022 [n % 2 ^ 32, (vrefUv s n / 1000).toNat % 2 ^ 32, (s.net n).bandMv % 2 ^ 32,
        frameTicks (s.net n).bandFrames % 2 ^ 32] = true) ∧ caused t (.net n) 2 = true ∧
      t.nets = (s.setNet n { s.net n with bandTold := true }).nets ∧ t.cells = s.cells) ∧
    ((s.net n).bandTold = true → exec (.outOfBand n) s = .next s)) ∧
  (∀ (m : HearthMeas) (s : State), hubOn s = true → (∀ i ∈ measuredCells s, (s.cell i).suspect = false ∨ (s.cell i).judged = false) →
    Answers (.hearthMsUpdate m) s fun t =>
      t.hearth.vinMv = m.vinMv ∧ t.hearth.feedI = m.feedI ∧ t.hearth.pkgP = m.pkgP ∧ t.hearth.vhbmP = m.vhbmP ∧ t.hearth.vsbMw = m.vsbMw ∧
      (∀ d, d < 12 → (s.loopE d).clk = true → (t.loopE d).vinMv = m.vinMv) ∧ (s.hearth.watts = 0 → t.token.inletCap = 4928) ∧
      t.hearth.feedLowAt.isSome = decide (m.vinMv < 1746) ∧ ∀ i ∈ measuredCells s, (t.cell i).sumN = 0) ∧
  (∀ (w : RegWrite) (s : State), writeOk s .hearth w = true →
    ∀ v : Nat, v = fld (w.merged (w32 s.hearth.watts)).toNat 0 10 → v = 0 ∨ 100 ≤ v ∧ v ≤ 750 → Answers (.inletLimitWrite w) s fun t =>
      t.hearth.watts = v ∧ caused t .hearth 0 = true ∧ (v ≠ 0 → t.token = s.token) ∧ (v = 0 → t.token.inletCap = 4928)) ∧
  (∀ (w : RegWrite) (s : State), writeOk s .hearth w = true →
    ∀ v : Nat, v = fld (w.merged (w32 s.hearth.watts)).toNat 0 10 → 0 < v ∧ v < 100 ∨ 750 < v → Answers (.inletLimitWrite w) s fun t =>
      t.hearth = s.hearth ∧ t.token = s.token ∧ (t.hdr .hearth).lastRefusal = word [(0, 0x03), (8, 0x54), (24, w.master.num)])) ∧
  ((∀ (i : Nat) (s : State), (s.cell i).suspect = true → (s.cell i).isolated = false → (s.cell i).judged = false →
    (s.cell i).pathWant ≠ [] → 8 ≤ (s.cell i).pathTries → (s.cell i).rF ≤ 2 * calPathBase s i → Answers (.pathJudge i) s fun t =>
      (t.cell i).judged = true ∧ (t.cell i).pathWant = [] ∧ (t.cell i).isolated = false ∧
      (logOpen s = true → newest t 0x1064 [i % 2 ^ 32, (s.cell i).rF % 2 ^ 32, 0, 2] = true) ∧ caused t .hearth 1 = true ∧ ∀ j, j ≠ i → t.cell j = s.cell j) ∧
  (∀ (i ch : Nat) (l : List Nat) (s : State), (s.cell i).pathWant = ch :: l → (s.cell i).suspect = true → (s.cell i).isolated = false →
    (s.cell i).pathTries < 8 → urgentPending s (cellDie i) ch = false → Answers (.pathConfirmRetry i) s fun t =>
      (t.cell i).pathTries = (s.cell i).pathTries + 1 ∧ (∀ j, j ≠ i → t.cell j = s.cell j) ∧
      ((s.survey (cellDie i)).failed = false → dieOn s (cellDie i) = true → (s.survey (cellDie i)).urg = none →
        (s.survey (cellDie i)).running = none → (t.survey (cellDie i)).urg = some ⟨ch, true, 0⟩)) ∧
  (∀ (d : Nat) (s : State), d < 11 → s.arb.unreachable.contains d = true → Answers (.dieAnswer d) s fun t =>
    t.arb.unreachable.contains d = false ∧ t.hearth.late = s.hearth.late.filter (fun f => decide (cellDie f.cell ≠ d))))

/-! ### Power faults (chapter 09) -/

/-- Phases and cells: a phase is due for removal in its 101st consecutive frame above 0.72 A, its 4th above 1.0 A or its 64th
open, and one frame between starts its counts again (Table 9.1). The first phase whose count expires takes the share weight to
three quarters, the second isolates the cell; a stuck high side isolates it with cause 1; within 1 s of a restore each isolates it
for good with cause 8; a restored cell is back in service with its share weight (R272, R274, R276, R277, R293, R294). The Hearth
hears of the fault at the end of the frame, or when the die answers (R297, R300). A shorted net and an input switch that fails
disable the net for good; of a tile they take the tile, and of the hub the package to Banked, held there (R281, R301). Readings of
the model it rests on: log entries 40, 94. -/
def Obligations.PhasesCellsAndNetsLeaveService : Prop :=
  ((∀ (i k cause : Nat) (s : State), i < 428 → k < 4 → phaseDue (s.cell i) k = some cause → (s.cell i).isolated = false → (s.cell i).phases = 0xF →
    dieOn s (cellDie i) = true → heardLater s i = true → freshlyRestored s i = false → Answers (.phaseRemove i k) s fun t =>
      (t.cell i).phases = 0xF &&& ~~~ BitVec.ofNat 4 (2 ^ k) ∧ (t.cell i).savedWt = some (s.cell i).shareWt ∧
      (t.cell i).shareWt = max 1 ((3 * (s.cell i).shareWt + 2) / 4) ∧ (t.cell i).isolated = false ∧ caused t (.cell i) 1 = true ∧
      (t.cell i).phCause = setPhCause (s.cell i).phCause k cause ∧
      ∀ j, j ≠ i → t.cell j = s.cell j) ∧
  (∀ (i k cause : Nat) (s : State), i < 428 → k < 4 → phaseDue (s.cell i) k = some cause → (s.cell i).isolated = false →
    (s.cell i).phases.getLsbD k = true →
    (s.cell i).phases ≠ 0xF → dieOn s (cellDie i) = true → heardLater s i = true → freshlyRestored s i = false →
    (s.net (cellNet i)).roll = none → Answers (.phaseRemove i k) s fun t =>
      (t.cell i).isolated = true ∧ (t.cell i).isoCause = 0 ∧ caused t (.cell i) 2 = true ∧ ∀ j, j ≠ i → t.cell j = s.cell j) ∧
  (∀ (i k cause : Nat) (s : State), i < 428 → k < 4 → (s.cell i).isolated = false → dieOn s (cellDie i) = true → heardLater s i = true →
    freshlyRestored s i = true →
    (phaseDue (s.cell i) k = some cause → (s.cell i).phases.getLsbD k = true → Answers (.phaseRemove i k) s fun t =>
      (t.cell i).isolated = true ∧ (t.cell i).isoCause = 8 ∧ (t.cell i).permanent = true) ∧
    Answers (.stuckHighSide i k) s fun t => (t.cell i).isolated = true ∧ (t.cell i).isoCause = 8 ∧ (t.cell i).permanent = true) ∧
  (∀ (c : CellSt) (k : Nat), k < 4 → c.isolated = false → c.phases.getLsbD k = true →
    (100 ≤ (look {} c.phWatch k).oc → 72 * 65536 < 100 * phaseQ c k → phaseDue (watchPhases c) k = some 0) ∧
    (3 ≤ (look {} c.phWatch k).peak → 65536 < phaseQ c k → phaseDue (watchPhases c) k = some 0) ∧
    (63 ≤ (look {} c.phWatch k).idle → phaseOpen c k = true → 100 * phaseQ c k ≤ 72 * 65536 → phaseDue (watchPhases c) k = some 1) ∧
    (100 * phaseQ c k ≤ 72 * 65536 → phaseOpen c k = false → phaseDue (watchPhases c) k = none)) ∧
  (∀ (i k : Nat) (s : State), i < 428 → k < 4 → dieOn s (cellDie i) = true → (s.cell i).isolated = false → heardLater s i = true →
    freshlyRestored s i = false → (s.net (cellNet i)).roll = none → Answers (.stuckHighSide i k) s fun t =>
      (t.cell i).isolated = true ∧ (t.cell i).isoCause = 1 ∧ caused t (.cell i) 2 = true ∧ ∀ j, j ≠ i → t.cell j = s.cell j) ∧
  (∀ (i : Nat) (w : RegWrite) (s : State), writeOk s (.cell i) w = true → w.ones.getLsbD 24 = true → (s.cell i).isolated = true →
    (s.cell i).isoCause ≠ 1 → (s.cell i).permanent = false → (s.net (cellNet i)).st = .on →
    16 ≤ cellNet i ∨ (s.tile (cellNet i / 2)).st = .kindled → Answers (.restore i w) s fun t =>
      (t.cell i).isolated = false ∧ (t.cell i).phases = 0xF ∧ (t.cell i).shareWt = (s.cell i).savedWt.getD (s.cell i).shareWt ∧
      (t.cell i).restoredAt = some s.ao.ticks)) ∧
  ((∀ (n : Nat) (s : State), 16 ≤ n → n < 19 → (s.net n).dead = false → (s.net n).st = .on → 20 ≤ (s.net n).lowFrames →
    Answers (.netShort n) s fun t =>
    (t.net n).dead = true ∧ (t.net n).st = .falling ∧ (t.net n).slew = none) ∧
  (∀ (i : Nat) (s : State), 384 ≤ i → i < 420 → (s.cell i).isolated = true → 10 ≤ (s.cell i).leak →
    (s.net (cellNet i)).dead = false → (s.net (cellNet i)).st = .on → Answers (.inputSwitchFailed i) s fun t =>
      (t.net (cellNet i)).dead = true ∧ (t.net (cellNet i)).st = .falling) ∧
  (∀ (n : Nat) (s : State), n < 16 → (s.tile (n / 2)).forced = false → (s.net n).dead = false → (s.net n).st = .on →
    20 ≤ (s.net n).lowFrames → Answers (.netShort n) s fun t =>
    (t.net n).dead = true ∧ (t.tile (n / 2)).barred = true ∧ ((t.tile (n / 2)).st = .falling ∨ (t.tile (n / 2)).st = .off)) ∧
  (∀ (i n : Nat) (s : State), i < 384 → n = cellNet i → (s.tile (n / 2)).forced = false → (s.cell i).isolated = true → 10 ≤ (s.cell i).leak → (s.net n).dead = false →
    (s.net n).st = .on → Answers (.inputSwitchFailed i) s fun t =>
      (t.net n).dead = true ∧ (t.tile (n / 2)).barred = true ∧ ((t.tile (n / 2)).st = .falling ∨ (t.tile (n / 2)).st = .off)) ∧
  (∀ s : State, (s.net 19).dead = false → (s.net 19).st = .on → 20 ≤ (s.net 19).lowFrames → Answers (.netShort 19) s fun t =>
    t.ao.hold = true ∧ t.power.stage = .banked))

/-! ### Register pages, owners, refusals (chapter 03) -/

/-- A refusal of an accessible page is recorded in LAST_REFUSAL and counted in ERR_COUNT, and no other register changes
(R78). -/
def Obligations.RefusalsAreRecorded : Prop :=
  ∀ (s : State) (p : PageRef) (off : Nat) (w : RegWrite) (c : Checks) (eff : State → State),
    isReady s = true → p.exists = true → pageAnswers s p = true → judge s p w c ≠ .ok →
    ∃ t, guarded s p off w c eff = (t, judge s p w c) ∧
      t = { s with hdrs := t.hdrs, out := t.out } ∧
      t.hdr p = { s.hdr p with lastRefusal := word [(0, (judge s p w c).num), (8, off % 0x10000), (24, w.master.num)],
                               errCount := satInc (s.hdr p).errCount 0xFFFF } ∧
      ∀ q : PageRef, q.addr ≠ p.addr → t.hdr q = s.hdr q

/-- OWNER: a master that owns the page, or either master on a shared page, may write 0, 1 or 2; 3 is refused with
OUT_OF_RANGE; while LOCK is 1 OWNER changes only by seizure (R89). Readings of the model it rests on: log entry 71. -/
def Obligations.OwnerWritesFollowTheirRules : Prop :=
  (∀ (p : PageRef) (w : RegWrite) (s : State), writeOk s p w = true → (s.hdr p).lock = false →
    ∀ new : Nat, new = fld (w.merged (ownerWord s p)).toNat 0 2 →
    (new < 3 → Answers (.ownerWrite p w) s fun t => ownerOf t p = new) ∧
    (new = 3 → Answers (.ownerWrite p w) s fun t => ownerOf t p = ownerOf s p ∧
      (t.hdr p).lastRefusal = word [(0, 0x03), (8, 0x24), (24, w.master.num)])) ∧
  (∀ (p : PageRef) (w : RegWrite) (s : State), (s.hdr p).lock = true →
    seizes s p w.master (fld (w.merged (ownerWord s p)).toNat 0 2) = false → Answers (.ownerWrite p w) s fun t =>
      ownerOf t p = ownerOf s p)

/-- INT_FORCE is an ordinary write subject to ownership; it sets bits of INT_RAW and has no other effect but the interrupt
they bring (R98). A write that leaves out a byte of it is refused with OUT_OF_RANGE, and one of a master that does not own
the page with NOT_OWNER; neither sets a bit. -/
def Obligations.IntForceSetsCauses : Prop :=
  (∀ (p : PageRef) (w : RegWrite) (s : State), writeOk s p w = true → w.full = true → Answers (.intForce p w) s fun t =>
    (t.hdr p).intRaw = (s.hdr p).intRaw ||| w.value ∧ t = { s with hdrs := t.hdrs, out := t.out } ∧
    ∀ q : PageRef, q.addr ≠ p.addr → t.hdr q = s.hdr q) ∧
  (∀ (p : PageRef) (w : RegWrite) (s : State), writeOk s p w = true → w.full = false → Answers (.intForce p w) s fun t =>
    (t.hdr p).intRaw = (s.hdr p).intRaw ∧ (t.hdr p).lastRefusal = word [(0, 0x03), (8, 0x1C), (24, w.master.num)]) ∧
  (∀ (p : PageRef) (w : RegWrite) (s : State), isReady s = true → p.exists = true → pageAnswers s p = true →
    pageMoving s p = false → ownsPage s p w.master = false → Answers (.intForce p w) s fun t =>
      (t.hdr p).intRaw = (s.hdr p).intRaw ∧ (t.hdr p).lastRefusal = word [(0, 0x01), (8, 0x1C), (24, w.master.num)])

/-- REGISTER_WRITE: a read-only register of an accessible page ignores it; an unmapped offset refuses it with OUT_OF_RANGE in
UNP_ADDR and UNP_INFO; a writable register takes the enabled bytes (here INT_ENABLE of any page, THRESHOLD of the EVENT page,
and every RW register that has no effect of its own) (R75, R76, R82, Table 3.6). A die that does not answer: the hub completes the access as for a page without power and
logs event 0x1014 once (R81, R82, R110). Readings of the model it rests on: log entry 72. -/
def Obligations.RegisterWritesReachTheirPages : Prop :=
  ((∀ (addr : Nat) (w : RegWrite) (s : State) (p : PageRef) (off : Nat), isReady s = true →
    msixAt w.master (addr / 4 * 4) = none → target w.master (addr / 4 * 4) = some (p, off) → p.exists = true → pageAnswers s p = true → off ∈ [0x00, 0x04, 0x0C, 0x18, 0x20, 0x28] → exec (.registerWrite addr w) s = .next s) ∧
  (∀ (addr : Nat) (w : RegWrite) (s : State), isReady s = true → msixAt w.master (addr / 4 * 4) = none →
    target w.master (addr / 4 * 4) = none → Answers (.registerWrite addr w) s fun t =>
    t.arb = { s.arb with unpAddr := w32 (addr / 4 * 4), unpCode := 0x03,
                         unpMaster := (match w.master with | .host => 0 | .side _ => 1 | .vf _ => 2),
                         unpVf := (match w.master with | .vf n => n % 64 | _ => 0), unpCount := satInc s.arb.unpCount 0xFFFF } ∧
    caused t .arbiter 3 = true ∧ t.cells = s.cells ∧ t.mem = s.mem) ∧
  (∀ (addr : Nat) (w : RegWrite) (s : State) (p : PageRef), msixAt w.master (addr / 4 * 4) = none →
    target w.master (addr / 4 * 4) = some (p, 0x14) → writeOk s p w = true → Answers (.registerWrite addr w) s fun t => (t.hdr p).intEnable = w.merged (s.hdr p).intEnable ∧ (t.hdr p).intRaw = (s.hdr p).intRaw ∧
      t.events = s.events ∧ t.cells = s.cells ∧ t.mem = s.mem) ∧
  (∀ (addr : Nat) (w : RegWrite) (s : State) (p : PageRef) (off : Nat) (m : Word), msixAt w.master (addr / 4 * 4) = none →
    target w.master (addr / 4 * 4) = some (p, off) → plainReg p off = some m → writeOk s p w = true →
    Answers (.registerWrite addr w) s fun t => (readReg t p off).1 = w.merged (readReg s p off).1 &&& m ∧
      (t.hdr p).lastRefusal = (s.hdr p).lastRefusal ∧ t.events = s.events ∧ t.cells = s.cells ∧ t.mem.data = s.mem.data ∧
      t.power = s.power ∧ t.ledgers = s.ledgers) ∧
  (∀ (w : RegWrite) (s : State), (∀ n, w.master ≠ .vf n) → writeOk s .event w = true →
    ∀ v : Nat, v = fld (w.merged (w32 s.events.threshold)).toNat 0 3 → v < 5 →
    exec (.registerWrite 0x2048 w) s = .next { s with events := { s.events with threshold := v } })) ∧
  (∀ (p : PageRef) (off : Nat) (s : State), isReady s = true → p.exists = true → p.die ≠ 11 → pageOn s p = true →
    (Answers (.spineTimeout p off .read) s fun t =>
      t.arb.unreachable.contains p.die = true ∧ t.out.getLast? = some (.readData (offReg s p off)) ∧
      (s.arb.unreachable.contains p.die = true → t = { s with out := s.out ++ [.readData (offReg s p off)] }) ∧
      (s.arb.unreachable.contains p.die = false → logOpen s = true →
        newest t 0x1014 [p.die % 2 ^ 32, p.block % 2 ^ 32, p.evInst % 2 ^ 32, off % 2 ^ 32] = true)) ∧
    (∀ w : RegWrite, Answers (.spineTimeout p off (.write w)) s fun t =>
      t.arb.unreachable.contains p.die = true ∧ t.arb.unpAddr = w32 (writtenAddr p off w.master) ∧ t.arb.unpCode = 0x02 ∧
      caused t .arbiter 3 = true ∧ t.cells = s.cells ∧ t.mem = s.mem))

/-- PAGE_FREEZE: while FREEZE is 1 the page's status and counter registers read what they held, and reading them clears
nothing (R72); the write leaves the ENABLE that a NET, QUEUE or PORT page has as it is. A read of ERR_COUNT clears it and
returns its value; an increment that coincides with it is kept, and the register then holds 1 (R73, R80). Before the device
is ready the host is answered Unsupported Request (R48). -/
def Obligations.FreezeAndClearingReads : Prop :=
  (∀ (p : PageRef) (w : RegWrite) (s : State), writeOk s p w = true →
    ((∃ n, p = .net n ∨ p = .queue n ∨ p = .port n) → (w.merged (pageCtrl s p)).getLsbD 0 = enableBit s p) →
    (∀ q, p = .port q → (s.port q).st ≠ .failed) → (∀ q, p = .queue q → queueCmds s q = []) →
    (s.hdr p).freeze = false → (w.merged (pageCtrl s p)).getLsbD 1 = true → Answers (.pageFreeze p w) s fun t =>
      (t.hdr p).freeze = true ∧ (t.hdr p).intRaw = (s.hdr p).intRaw ∧ (readReg t p 0x0C).2 = t ∧
      ∀ e ∈ heldRegs p, (readReg t p e.1).1 &&& e.2 = liveReg s p e.1 &&& e.2 ∧ (e.2 = BitVec.allOnes 32 → (readReg t p e.1).2 = t)) ∧
  ((∀ (m : Master) (p : PageRef) (together : Bool) (s : State), isReady s = true → canReach m p = true → p.exists = true →
    pageAnswers s p = true → (s.hdr p).freeze = false → Answers (.clearingRead m p 0x20 together) s fun t =>
      t.out.getLast? = some (.readData (w32 (s.hdr p).errCount)) ∧ (t.hdr p).errCount = b2n together ∧
      (t.hdr p).lastRefusal = (s.hdr p).lastRefusal) ∧
  (∀ (p : PageRef) (off : Nat) (together : Bool) (s : State), isReady s = false → ledgerHeld s p = false →
    exec (.clearingRead .host p off together) s = .next (emit s (.unsupported (writtenAddr p (off / 4 * 4) .host)))))

/-- Seizure and its end: SEIZE is accepted from the side-band while the host is absent and takes every host-owned page;
RELEASE returns the seized pages to their default owners (R92, R93). Both are refused to the host. Readings of the model it
rests on: log entry 71. -/
def Obligations.SeizeAndRelease : Prop :=
  (∀ (tag : Bool) (w : RegWrite) (s : State), w.master = .side tag → writeOk s .arbiter w = true → w.full = true → s.ao.hostAbsent = true →
    w.value.getLsbD 0 = true → Answers (.seize w) s fun t =>
      (∀ p ∈ allPages, ownerOf s p = 0 → ownerOf t p = 1) ∧ (∀ p ∈ allPages, ownerOf s p ≠ 0 → ownerOf t p = ownerOf s p) ∧
      caused t .arbiter 0 = true) ∧
  (∀ (tag : Bool) (w : RegWrite) (s : State), w.master = .side tag → writeOk s .arbiter w = true → w.full = true →
    w.value.getLsbD 0 = true → Answers (.release w) s fun t =>
      t.arb.seized = [] ∧ (∀ p ∈ allPages, p.addr ∈ s.arb.seized → ownerOf t p = p.defaultOwner) ∧ caused t .arbiter 1 = true) ∧
  (∀ e ∈ [Instr.seize, Instr.release], ∀ (w : RegWrite) (s : State), notSide w.master = true → Answers (e w) s fun t =>
    t.arb.seized = s.arb.seized ∧ ∀ p : PageRef, ownerOf t p = ownerOf s p)

/-- An uncorrectable error of the hub's ownership table returns every page to its default owner and clears every LOCK;
seizures end, and event 0x7004 is logged (R112). -/
def Obligations.OwnershipTableErrorResetsOwners : Prop :=
  ∀ s : State, hubOn s = true → Answers .ownershipTableError s fun t =>
    t.arb.seized = [] ∧ (∀ p ∈ allPages, ownerOf t p = p.defaultOwner ∧ (t.hdr p).lock = false) ∧
    (logOpen s = true → t.events.log.head?.map (·.code) = some 0x7004)

/-- The event log: a record of a running hub is the newest of the ring, numbered in order; past 256 in a millisecond it is
dropped and counted (R99, R102, R109). Cursors: a write latches the record it names in the window; a read of the window's
last word advances a valid cursor by one, and leaves an invalid one where it is (R103, R111). Readings of the model it rests
on: log entries 19, 73. -/
def Obligations.EventLogAndCursors : Prop :=
  (∀ (s : State) (code sev : Nat) (p : PageRef) (a : List Nat), hubOn s = true →
    (recentEvents s < 256 →
      (logEvent s code sev p a).events.log = (mkRecord s code sev p a :: s.events.log).take 1024 ∧
      (logEvent s code sev p a).events.writeSeq = (s.events.writeSeq + 1) % 2 ^ 32 ∧
      (mkRecord s code sev p a).seq = s.events.writeSeq ∧ (mkRecord s code sev p a).ticks = s.ao.ticks) ∧
    (256 ≤ recentEvents s →
      (logEvent s code sev p a).events.log = s.events.log ∧
      (logEvent s code sev p a).events.dropped = satInc s.events.dropped 0xFFFF)) ∧
  ((∀ (k : Fin 2) (ecc : Bool) (w : RegWrite) (s : State), writeOk s .event w = true →
    ∀ seq : Nat, seq = (w.merged (w32 (cursorOf s k).seq)).toNat → Answers (.cursorWrite k ecc w) s fun t =>
      t.events.log = s.events.log ∧
      cursorOf t k = { seq := seq, valid := (s.events.log.find? (fun r => r.seq = seq)).isSome && !ecc,
                       ecc := (s.events.log.find? (fun r => r.seq = seq)).isSome && ecc,
                       window := if ecc then none else s.events.log.find? (fun r => r.seq = seq) }) ∧
  (∀ (k : Fin 2) (ecc : Bool) (s : State), isReady s = true → Answers (.eventWindowRead k ecc) s fun t =>
    t.out = s.out ++ [.readData (windowWord (cursorOf s k) 7)] ∧ t.events.log = s.events.log ∧
    ((cursorOf s k).valid = true → (cursorOf t k).seq = ((cursorOf s k).seq + 1) % 2 ^ 32) ∧
    ((cursorOf s k).valid = false → (cursorOf s k).ecc = false → cursorOf t k = cursorOf s k)))

/-! ### Ledgers and snapshots (chapter 04) -/

/-- TAKE captures every ledger at one instant, SNAPSHOT_DONE sets DONE and leaves the capture alone (R122, R123, R129).
Readings of the model it rests on: log entry 73. -/
def Obligations.SnapshotsCaptureLedgers : Prop :=
  (∀ (w : RegWrite) (s : State), writeOk s .ledger w = true → w.full = true → w.value.getLsbD 0 = true →
    ∀ b : Nat, b = fld w.value.toNat 4 1 → (snapOf s b).busy = false → Answers (.take w) s fun t =>
      snapOf t b = { busy := true, done := false, frozen := ledgerFaulted s, unlocked := !s.ao.aoLock, ticks := s.ao.ticks,
                     epoch := s.ledger.epoch, data := s.ledgers } ∧
      snapOf t (1 - b) = snapOf s (1 - b) ∧ t.ledgers = s.ledgers) ∧
  (∀ (b : Fin 2) (s : State), hubOn s = true → (snapOf s b).busy = true → Answers (.snapshotDone b) s fun t =>
    snapOf t b = { snapOf s b with busy := false, done := true } ∧ caused t .ledger (1 + b) = true ∧ t.ledgers = s.ledgers)

/-- A TAKE aimed at a buffer whose BUSY is 1 is refused with WRONG_STATE (R125). -/
def Obligations.TakeOfBusyBufferRefused : Prop :=
  ∀ (w : RegWrite) (s : State), writeOk s .ledger w = true → w.full = true → w.value.getLsbD 0 = true →
    (snapOf s (fld w.value.toNat 4 1)).busy = true → Answers (.take w) s fun t =>
      t.ledger = s.ledger ∧ (t.hdr .ledger).lastRefusal = word [(0, 0x02), (8, 0x4C), (24, w.master.num)]

/-- The hub's check: with every invariant of Table 4.1 intact it changes nothing; a broken one, or an ECC error, is a ledger
fault that freezes the columns and ends the epoch. A RESEAL with every tile Off clears the fault, resets the ledgers to a
state that meets every invariant, and begins a new epoch (R113, R119, R130, R133). Readings of the model it rests on: log
entry 55. -/
def Obligations.LedgerFaultAndReseal : Prop :=
  (∀ s : State, hubOn s = true → ledgersOk s.ledgers = true → exec (.ledgerCheck none) s = .next s) ∧
  (∀ (e : Option (Nat × Nat × Nat)) (s : State), hubOn s = true → ledgerFaulted s = false → (e.isSome = true ∨ ledgersOk s.ledgers = false) →
    Answers (.ledgerCheck e) s fun t =>
      ledgerFaulted t = true ∧ t.ledger.open_ = false ∧ t.ledgers = s.ledgers ∧ counting t = false ∧ guaranteed t = false ∧
      caused t .ledger 0 = true) ∧
  (∀ (w : RegWrite) (s : State), writeOk s .ledger w = true → w.full = true → w.value.getLsbD 0 = true →
    (∀ k < 8, (s.tile k).st = .off) → Answers (.reseal w) s fun t =>
      ledgerFaulted t = false ∧ tokOk t.ledgers.tok = true ∧ t.ledgers.cred = [] ∧ t.ledgers.tally = [] ∧ t.ledger.open_ = true ∧
      (s.ledger.first = false → t.ledger.epoch = (s.ledger.epoch + 1) % 0x10000))

/-- The token pool's arithmetic creates and loses no token: every movement keeps both invariants of ledger 0 when it moves no
more than is there; a new budget or retirement keeps the sum, and together they restore the second invariant (R113 to R115,
R128, R248, R251, R257). Readings of the model it rests on: log entry 54. -/
def Obligations.PoolArithmeticConserves : Prop :=
  (∀ (t : TokLedger) (n r : Nat), tokOk t = true →
    (n ≤ t.free → tokOk (tokCommit n t) = true ∧ tokOk (tokCharge n t) = true) ∧
    (n ≤ t.transit → tokOk (tokApply n t) = true ∧ tokOk (tokReturn r n t) = true) ∧
    (n ≤ t.held → tokOk (tokEase n t) = true ∧ tokOk (tokGive r n t) = true)) ∧
  (∀ (t : TokLedger) (r b : Nat), tokSum t = 4928 →
    tokSum (tokRetire r t) = 4928 ∧ tokSum (tokBudget b t) = 4928 ∧
    ((tokRetire r t).retired + b ≤ 4928 → tokOk (tokBudget b (tokRetire r t)) = true)) ∧
  (∀ r b : Nat, r + b ≤ 4928 → tokOk (tokReset r b) = true)

/-! ### Loop engines (chapter 06) -/

/-- COEF_DATA and SCHED_DATA write the word the address register names in the inactive bank, and the address advances; the
bank in force keeps every word. INJ_DATA writes the injection table while RUN is 0 and is refused with WRONG_STATE while it
is 1 (R183, R185, R203, Table 6.15). COEF_SWAP and SCHED_SWAP wait for the next frame start; a schedule that fails a check of
Table 6.5 is refused and the banks stay; a write that comes too late for a frame start waits for the one after it (R183, R187,
R205). Readings of the model it rests on: log entries 47, 50. -/
def Obligations.LoopMemoriesAndBanks : Prop :=
  ((∀ (d : Nat) (w : RegWrite) (s : State), writeOk s (.loop d) w = true → (s.loopE d).coefRead = false → (s.loopE d).coefAct < 2 →
    Answers (.coefDataWrite d w) s fun t =>
      coefWord t d (1 - (s.loopE d).coefAct) (s.loopE d).coefAddr =
        w.merged (coefWord s d (1 - (s.loopE d).coefAct) (s.loopE d).coefAddr) ∧
      (t.loopE d).coefAddr = ((s.loopE d).coefAddr + 1) % 1024 ∧ (t.loopE d).coefAct = (s.loopE d).coefAct ∧
      (∀ a, coefWord t d (s.loopE d).coefAct a = coefWord s d (s.loopE d).coefAct a) ∧
      (∀ j, j ≠ d → t.loopE j = s.loopE j) ∧ t = { s with loops := t.loops, cal := t.cal, hdrs := t.hdrs, out := t.out }) ∧
  (∀ (d : Nat) (w : RegWrite) (s : State), writeOk s (.loop d) w = true → (s.loopE d).schedRead = false → (s.loopE d).schedAct < 2 →
    Answers (.schedDataWrite d w) s fun t =>
      schedWord t d (1 - (s.loopE d).schedAct) (s.loopE d).schedAddr =
        w.merged (schedWord s d (1 - (s.loopE d).schedAct) (s.loopE d).schedAddr) &&& 0x800FFFFF ∧
      (t.loopE d).schedAddr = ((s.loopE d).schedAddr + 1) % 64 ∧ (t.loopE d).schedAct = (s.loopE d).schedAct ∧
      (∀ k, schedWord t d (s.loopE d).schedAct k = schedWord s d (s.loopE d).schedAct k) ∧
      (∀ j, j ≠ d → t.loopE j = s.loopE j) ∧ t = { s with loops := t.loops }) ∧
  (∀ (d : Nat) (w : RegWrite) (s : State), writeOk s (.loop d) w = true →
    ((s.loopE d).inj.run = false → ∀ v : Word, v = w.merged ((look 0 (s.loopE d).inj.table (s.loopE d).inj.addr).setWidth 32) →
      exec (.injDataWrite d w) s = .next (s.setLoop d { s.loopE d with inj := { (s.loopE d).inj with
        table := put 0 (s.loopE d).inj.table (s.loopE d).inj.addr (v.setWidth 16), addr := ((s.loopE d).inj.addr + 1) % 1024 } })) ∧
    ((s.loopE d).inj.run = true → Answers (.injDataWrite d w) s fun t =>
      t.loops = s.loops ∧ (t.hdr (.loop d)).lastRefusal = word [(0, 0x02), (8, 0x98), (24, w.master.num)]))) ∧
  ((∀ (d : Nat) (w : RegWrite) (s : State), writeOk s (.loop d) w = true → w.ones.getLsbD 8 = true → w.ones.getLsbD 9 = false →
    exec (.coefSwap d w) s = .next (s.setLoop d { s.loopE d with swap := some (match (s.loopE d).swap with
      | some r => { coef := true, sched := r.sched, writer := w.master.num, wait := r.wait && w.late }
      | none => { coef := true, sched := false, writer := w.master.num, wait := w.late }) })) ∧
  (∀ (d : Nat) (w : RegWrite) (s : State) (es : List SchedEntry), writeOk s (.loop d) w = true → w.ones.getLsbD 9 = true →
    es = entries s d (1 - (s.loopE d).schedAct) →
    (schedShapeOk d es = true → (∀ n ∈ dieNets d, (s.net n).st ≠ .rolling) → slotsMax es ≤ 208 → Answers (.schedSwap d w) s fun t =>
      t = s.setLoop d { s.loopE d with swap := (t.loopE d).swap } ∧ ∃ r, (t.loopE d).swap = some r ∧ r.sched = true) ∧
    (schedShapeOk d es = false → Answers (.schedSwap d w) s fun t =>
      t.loops = s.loops ∧ (t.hdr (.loop d)).lastRefusal = word [(0, 0x03), (8, 0x44), (24, w.master.num)]) ∧
    (schedShapeOk d es = true → (∀ n ∈ dieNets d, (s.net n).st ≠ .rolling) → 208 < slotsMax es → Answers (.schedSwap d w) s fun t =>
      t.loops = s.loops ∧ (t.hdr (.loop d)).lastRefusal = word [(0, 0x07), (8, 0x44), (24, w.master.num)])) ∧
  (∀ (d : Nat) (l : List CellSample) (k : Nat) (s : State) (b : Nat), d < 12 → (s.loopE d).clk = true →
    (∀ f ∈ s.hearth.late, cellDie f.cell ≠ d) →
    b = (if (s.loopE d).swap.any (fun r => r.sched && !r.wait) then 1 - (s.loopE d).schedAct else (s.loopE d).schedAct) →
    (∀ e ∈ entries s d b, e.cell < dieCount d) → Answers (.loopFrame d l k) s fun t =>
      (t.loopE d).frame = (s.loopE d).frame + 1 ∧
      (∀ r, (s.loopE d).swap = some r → r.wait = true → (t.loopE d).swap = some { r with wait := false } ∧
        (t.loopE d).coefAct = (s.loopE d).coefAct ∧ (t.loopE d).schedAct = (s.loopE d).schedAct) ∧
      (∀ r, (s.loopE d).swap = some r → r.wait = false → (t.loopE d).swap = none ∧
        (t.loopE d).coefAct = (if r.coef then 1 - (s.loopE d).coefAct else (s.loopE d).coefAct) ∧
        (t.loopE d).schedAct = (if r.sched then 1 - (s.loopE d).schedAct else (s.loopE d).schedAct)) ∧
      ((s.loopE d).swap = none → (t.loopE d).swap = none ∧ (t.loopE d).coefAct = (s.loopE d).coefAct ∧
        (t.loopE d).schedAct = (s.loopE d).schedAct) ∧
      (t.loopE d).annLo = (s.loopE d).noteLo.getD (s.loopE d).annLo ∧ (t.loopE d).annHi = (s.loopE d).noteHi.getD (s.loopE d).annHi))

/-- A frame evaluates each entry of its schedule: here one entry, with nothing else under way. The cell's observer and,
unless the duty is manual or held, its shadow take the results of Table 6.1; no other cell changes. A legal duty never leaves
0 to DUTY_MAX (R174, R180, R189, R190). Readings of the model it rests on: log entries 47, 48, 49. -/
def Obligations.FramesEvaluateCells : Prop :=
  (∀ (d : Nat) (s : State) (e : SchedEntry) (i : Nat) (c : CellSt) (o : LawOut), d < 12 → (s.loopE d).clk = true → (s.loopE d).swap = none →
    (s.loopE d).noteLo = none → (s.loopE d).noteHi = none → entries s d (s.loopE d).schedAct = [e] → (s.loopE d).cap.busy = false →
    (s.loopE d).inj.run = false → plainFrame s d = true → i = dieFirst d + e.cell → c = s.cell i → switching s i = true → c.discard = false →
    o = evalLaw (coefOf s d (s.loopE d).coefAct (setOf s e i)) c
          (lawIn s { d := d, frame := ((s.loopE d).frame + 1).toNat, base := 2, stall := 0, both := false, inj := 0 } e i) →
    isStep c o.x1 o.x4 = false → Answers (.loopFrame d [] 0) s fun t =>
      (t.cell i).x1 = o.x1 ∧ (t.cell i).x2 = o.x2 ∧ (t.cell i).x3 = o.x3 ∧ (t.cell i).x4 = o.x4 ∧
      (t.cell i).shadow = (if c.manual || c.held then c.shadow else BitVec.ofNat 12 o.d) ∧
      (∀ j, j ≠ i → t.cell j = s.cell j)) ∧
  (∀ (cf : Nat → Int × Nat) (c : CellSt) (l : LawIn), 0 ≤ l.dmax →
    0 ≤ (evalLaw cf c l).u ∧ (evalLaw cf c l).u ≤ l.dmax)

/-- Injection and capture settings; the oldest stoke notice of a net reaches its engine and is kept for the next frame start,
the later of two (R199, R201 to R204, Tables 6.21, 6.22). A word of a loop engine's memories: corrected from its other copy, event
0x1032 and nothing of the cells changes; lost in both copies, a state word presets its cell, and a coefficient or schedule word
holds and isolates the cell it served, with cause 7 (R211, R212). Readings of the model it rests on: log entry 44. -/
def Obligations.InjectionCaptureNoticesAndMemoryErrors : Prop :=
  ((∀ (d : Nat) (w : RegWrite) (s : State), writeOk s (.loop d) w = true → ∀ v : Nat, v = (w.merged (injCtrlWord (s.loopE d).inj)).toNat →
    fld v 8 6 < dieCount d →
    4 ≤ fld v 20 4 → fld v 20 4 ≤ 10 → (bit v 0 = true → d < 8 ∧ ((s.tile d).st = .kindled ∨ (s.tile d).st = .stoked)) →
    Answers (.injCtrlWrite d w) s fun t => t = s.setLoop d { s.loopE d with inj := (t.loopE d).inj } ∧
      (t.loopE d).inj.run = bit v 0 ∧ (t.loopE d).inj.point = bit v 1 ∧ (t.loopE d).inj.src = bit v 2 ∧ (t.loopE d).inj.cell = fld v 8 6 ∧
      (t.loopE d).inj.scale = fld v 16 4 ∧ (t.loopE d).inj.tlen = fld v 20 4 ∧ (t.loopE d).inj.rate = fld v 24 3 ∧
      (t.loopE d).inj.table = (s.loopE d).inj.table ∧ (bit v 0 = true → (s.loopE d).inj.run = false → (t.loopE d).inj.ptr = 0)) ∧
  (∀ (d : Nat) (w : RegWrite) (s : State), writeOk s (.loop d) w = true → ∀ v : Nat, v = (w.merged (capCtrlWord (s.loopE d).cap)).toNat →
    w.ones.getLsbD 0 = true → (s.loopE d).cap.busy = false → fld v 8 6 < dieCount d → 1 ≤ fld v 20 9 →
    fld v 20 9 ≤ (if bit v 1 then 85 else 256) → Answers (.capStart d w) s fun t =>
      (t.loopE d).cap = { (s.loopE d).cap with wide := bit v 1, trig := fld v 2 2, cell := fld v 8 6, cdec := fld v 16 3, length := fld v 20 9,
                                               busy := true, triggered := false, done := false, records := 0, frames := 0 } ∧
      (∀ j, j ≠ d → t.loopE j = s.loopE j) ∧ t = { s with loops := t.loops }) ∧
  (∀ (n a : Nat) (s : State), n < 16 → dieOn s (n / 2) = true → s.token.notices.find? (fun r => r.1 = n) = some (n, a) →
    Answers (.stokeNotice n) s fun t =>
    (if n % 2 = 0 then (t.loopE (n / 2)).noteLo = some a ∧ (t.loopE (n / 2)).noteHi = (s.loopE (n / 2)).noteHi
     else (t.loopE (n / 2)).noteHi = some a ∧ (t.loopE (n / 2)).noteLo = (s.loopE (n / 2)).noteLo) ∧
    (t.loopE (n / 2)).annLo = (s.loopE (n / 2)).annLo ∧ (t.loopE (n / 2)).annHi = (s.loopE (n / 2)).annHi ∧
    t = { s with loops := t.loops, token := { s.token with notices := s.token.notices.erase (n, a) } } ∧
    ∀ j, j ≠ n / 2 → t.loopE j = s.loopE j)) ∧
  ((∀ (d m a i : Nat) (s : State), (s.loopE d).clk = true → Answers (.loopMemError d m a i false) s fun t =>
    t.cells = s.cells ∧ t.loops = s.loops ∧ caused t (.loop d) 4 = true ∧
    (logOpen s = true → newest t 0x1032 [d % 2 ^ 32, m % 2 ^ 32, a % 2 ^ 32, if m = 2 then i % 2 ^ 32 else 0xFFFF] = true)) ∧
  (∀ (d a i : Nat) (s : State), (s.loopE d).clk = true → Answers (.loopMemError d 2 a i true) s fun t =>
    t.cell i = { s.cell i with preset := true } ∧ (∀ j, j ≠ i → t.cell j = s.cell j) ∧ caused t (.loop d) 4 = true) ∧
  (∀ (d m a i k : Nat) (s : State), (s.loopE d).clk = true → m < 2 → wordCells s d m a = [i] → cellDie i = d → (s.cell i).isolated = false →
    (s.net (cellNet i)).roll = none → Answers (.loopMemError d m a k true) s fun t =>
      (t.cell i).held = true ∧ (t.cell i).isolated = true ∧ (t.cell i).isoCause = 7 ∧ caused t (.loop d) 4 = true ∧
      ∀ j, j ≠ i → t.cell j = s.cell j))

/-! ### Survey ADCs and trims (chapter 07) -/

/-- Conversions start and are asked for: a periodic one, deferred by an urgent one; one by START; an urgent one, which
preempts a running one when PREEMPT is 1 (R224, R225, R228, R229, R231). A conversion ends: the code, its channel, flags and
sequence number reach RESULT or the urgent result, its value is VALUE of R223, and an overrange makes the code 0 or 4095,
sets the channel's bit and marks the next two results. A conversion that gives no result fails the ADC (R223, R226, R233,
R234, R242). TRIM_DATA writes the selected trim, GAIN within 0x3000 to 0x5000, into the calibration image; with a late write the
old trim still acts once (R235, R236, R238, R621). Readings of the model it rests on: log entries 50, 51. -/
def Obligations.SurveyConversionsRunAndTrims : Prop :=
  ((∀ (d : Nat) (s : State), dieOn s d = true → (s.survey d).failed = false → (s.survey d).cont = true →
    ((s.survey d).urg = none → (s.survey d).running = none →
      exec (.surveyPeriod d) s = .next (s.setSurvey d { s.survey d with running := some ⟨(s.survey d).channel, false⟩ })) ∧
    ((s.survey d).urg ≠ none → exec (.surveyPeriod d) s = .next (s.setSurvey d { s.survey d with deferred := true }))) ∧
  (∀ (d : Nat) (w : RegWrite) (s : State), writeOk s (.survey d) w = true → ∀ v : Nat, v = (w.merged (svCtrlWord (s.survey d))).toNat →
    surveyCh d (fld v 0 7) = true → fld v 16 8 ≠ 0 → w.ones.getLsbD 9 = true → bit v 8 = false → (s.survey d).running = none → (s.survey d).urg = none →
    (s.survey d).failed = false → exec (.surveyStart d w) s = .next (s.setSurvey d { s.survey d with
      channel := fld v 0 7, cont := false, preempt := bit v 10, period := fld v 16 8, running := some ⟨fld v 0 7, false⟩ })) ∧
  (∀ (d : Nat) (r : UrgReq) (by_ : UrgentBy) (s : State), (s.survey d).failed = false → (s.survey d).urg = none → surveyCh d r.ch = true →
    ((∃ w, by_ = .write w ∧ writeOk s (.survey d) w = true ∧ w.full = true ∧ w.value.getLsbD 8 = true ∧
        r = ⟨fld w.value.toNat 0 7, false, w.master.num⟩) ∨ (by_ = .hearth r.ch ∧ r.hearth = true ∧ r.who = 0 ∧ dieOn s d = true ∧ hubOn s = true)) →
    ((s.survey d).running = none → exec (.urgent d by_) s = .next (s.setSurvey d { s.survey d with urg := some r })) ∧
    (∀ c : Conv, (s.survey d).running = some c → (s.survey d).preempt = true → exec (.urgent d by_) s = .next (s.setSurvey d { s.survey d with
      urg := some r, running := none, redo := some c.ch, urgPreempted := satInc (s.survey d).urgPreempted 0xFFFF })))) ∧
  ((∀ (d : Nat) (code : BitVec 12) (s : State) (c : Conv), dieOn s d = true → (s.survey d).urg = none → (s.survey d).running = some c → c.ch ≠ 96 →
    Answers (.surveyConversionDone d code false) s fun t =>
      (t.survey d).resCode = code ∧ (t.survey d).resCh = c.ch ∧ (t.survey d).resSeq = ((s.survey d).resSeq + 1) % 256 ∧
      (t.survey d).resUv = surveyUv s d c.ch code.toNat ∧ (t.survey d).settle = (s.survey d).settle - 1 ∧
      (t.survey d).running = (match (s.survey d).redo with
        | some k => some ⟨k, true⟩ | none => if (s.survey d).deferred then some ⟨(s.survey d).channel, false⟩ else none) ∧
      caused t (.survey d) 0 = true ∧ (∀ j, j ≠ d → t.survey j = s.survey j) ∧ t.cells = s.cells) ∧
  (∀ (d : Nat) (code : BitVec 12) (s : State) (r : UrgReq), dieOn s d = true → (s.survey d).urg = some r → r.hearth = false → r.ch ≠ 96 →
    Answers (.surveyConversionDone d code false) s fun t =>
      (t.survey d).urgCode = code ∧ (t.survey d).urgCh = r.ch ∧ (t.survey d).urgSeq = ((s.survey d).urgSeq + 1) % 256 ∧
      (t.survey d).urgUv = surveyUv s d r.ch code.toNat ∧ (t.survey d).urg = (s.survey d).urgWait ∧ (t.survey d).urgWait = none ∧
      caused t (.survey d) 1 = true ∧ (∀ j, j ≠ d → t.survey j = s.survey j) ∧ t.cells = s.cells) ∧
  (∀ (d : Nat) (code : BitVec 12) (s : State) (c : Conv), dieOn s d = true → (s.survey d).urg = none → (s.survey d).running = some c → c.ch ≠ 96 →
    c.ch < 128 → Answers (.surveyConversionDone d code true) s fun t =>
      (t.survey d).resCode = (if code.toNat < 2048 then 0 else 0xFFF) ∧ (t.survey d).settle = 2 ∧ (t.survey d).ovr.getLsbD c.ch = true ∧
      caused t (.survey d) 2 = true) ∧
  (∀ (d : Nat) (s : State) (c : Conv), dieOn s d = true → (s.survey d).urg = none → (s.survey d).running = some c → (s.survey d).urgWait = none →
    Answers (.surveyTimeout d) s fun t =>
      (t.survey d).failed = true ∧ (t.survey d).running = none ∧ (t.survey d).deferred = false ∧
      (logOpen s = true → newest t 0x1044 [d % 2 ^ 32, c.ch % 2 ^ 32, 0, 0] = true) ∧ ∀ j, j ≠ d → t.survey j = s.survey j)) ∧
  (∀ (d : Nat) (w : RegWrite) (s : State), writeOk s (.survey d) w = true →
    ∀ (v o : Nat), v = (w.merged (trimWord s d)).toNat → o = trimAt d (s.survey d).trimSel.toNat →
    (0x3000 ≤ fld v 16 16 → fld v 16 16 ≤ 0x5000 → Answers (.trimDataWrite d w) s fun t =>
      calN t o 1 = fld v 0 8 ∧ calN t (o + 2) 2 = fld v 16 16 ∧
      t = { s with cal := t.cal, hdrs := t.hdrs, out := t.out, surveys := t.surveys } ∧ (w.late = false → t.surveys = s.surveys) ∧
      (w.late = true → look none (t.survey d).oldTrims o = some ((look none (s.survey d).oldTrims o).getD (trimWord s d))) ∧
      ∀ a, a ∉ [o, o + 2, o + 3] → calN t a 1 = calN s a 1) ∧
    (fld v 16 16 < 0x3000 ∨ 0x5000 < fld v 16 16 → Answers (.trimDataWrite d w) s fun t =>
      t.cal = s.cal ∧ (t.hdr (.survey d)).lastRefusal = word [(0, 0x03), (8, 0x74), (24, w.master.num)]))

/-! ### Current tokens (chapter 08) -/

/-- STOKE requests and grants: a request that nothing keeps back joins the queue's tail, any other is set aside; the head of
the queue is committed from FREE to TRANSIT, each net of the tile that has had no notice in the frame is told its share of T,
and the head waits while FREE holds too few or a ledger fault is active; the grant is released (R131, R249, R251, R253). A grant is applied once: TRANSIT to HELD, the holding rises by the grant and the issue cap by at
most 2, then by 2 at a time up to the holding. A grant not applied is sent four times in all, and then its core is lost
(R246, R251, R270). Readings of the model it rests on: log entry 93. -/
def Obligations.GrantsAreCommittedAndApplied : Prop :=
  ((∀ (c : Nat) (s : State) (r : TokReq), s.token.sent.find? (fun x => x.core = c) = some r →
    (asideFor s r = false → exec (.stokeRequest c) s = .next { s with token := { s.token with
      sent := s.token.sent.filter (fun x => x.core ≠ c), queue := s.token.queue ++ [r] } }) ∧
    (asideFor s r = true → Answers (.stokeRequest c) s fun t =>
      t.token = { s.token with
        sent := s.token.sent.filter (fun x => x.core ≠ c), aside := s.token.aside ++ [r], undelivered := t.token.undelivered } ∧ t.cores = s.cores ∧
      (s.arb.unreachable.contains (r.core / 64) = true → t.token.undelivered.contains (r.core / 64) = true))) ∧
  (∀ (s : State) (r : TokReq) (rest : List TokReq) (need : Nat), s.token.queue = r :: rest → need = r.target - coreTotal s r.core →
    0 < need → counting s = true → asideFor s r = false →
    (need ≤ s.ledgers.tok.free → Answers .grantCommit s fun t =>
      t.token.queue = rest ∧ t.ledgers.tok = tokCommit need s.ledgers.tok ∧
      t.core r.core = { s.core r.core with tok := { (s.core r.core).tok with committed := (s.core r.core).tok.committed + need } } ∧
      (∃ g ∈ t.token.grants, g.core = r.core ∧ g.n = need ∧ g.released = false) ∧ (∀ j, j ≠ r.core → t.core j = s.core j) ∧
      ∀ n, n / 2 = r.core / 64 → s.token.noticed.contains n = false → look 0 t.token.notified n = noticeShare n (planT t (n / 2))) ∧
    (s.ledgers.tok.free < need → exec .grantCommit s = .next s)) ∧
  (∀ s : State, counting s = false → exec .grantCommit s = .next s) ∧
  (∀ (c : Nat) (s : State) (g : Grant), counting s = true → s.token.grants.find? (fun x => x.core = c && !x.released) = some g →
    exec (.grantRelease c) s = .next { s with token := { s.token with
      grants := s.token.grants.map (fun x => if x.seq = g.seq then { x with released := true, sends := 1 } else x) } })) ∧
  ((∀ (c : Nat) (s : State) (g : Grant), s.token.grants.find? (fun x => x.core = c && x.released) = some g → (s.core c).tok.easing = [] →
    Answers (.grantApply c) s fun t =>
      t.core c = { s.core c with tok := { (s.core c).tok with
        held := (s.core c).tok.held + g.n, committed := (s.core c).tok.committed - g.n, lastSeq := some g.seq,
        cap := if (s.core c).tok.clamped then (s.core c).tok.cap
               else max (s.core c).tok.cap (min ((s.core c).tok.held + g.n) ((s.core c).tok.cap + 2)) } } ∧
      t.token.grants = s.token.grants.filter (fun x => x.seq ≠ g.seq) ∧
      (counting s = true → t.ledgers.tok = tokApply g.n s.ledgers.tok) ∧ ∀ j, j ≠ c → t.core j = s.core j) ∧
  (∀ (c : Nat) (s : State), (s.core c).tok.clamped = false → (s.core c).tok.easing = [] → (s.core c).tok.cap < (s.core c).tok.held →
    exec (.issueCapStep c) s = .next (s.setCore c { s.core c with tok := { (s.core c).tok with
      cap := min (s.core c).tok.held ((s.core c).tok.cap + 2) } })) ∧
  (∀ (c : Nat) (s : State) (g : Grant), s.token.grants.find? (fun x => x.core = c && x.released) = some g →
    (g.sends < 4 → Answers (.grantResend c) s fun t =>
      (∃ h ∈ t.token.grants, h = { g with sends := g.sends + 1 }) ∧ t = { s with token := { s.token with grants := t.token.grants } }) ∧
    (4 ≤ g.sends → Answers (.grantResend c) s fun t => (t.core c).st = .lost)))

/-- Eased tokens reach the pool; a recall is received, and a recalled core that has not eased by the time-out is clamped to 1
token, with event 0x1051, and the nets of its tile are told the fall (R114, R248, R253, R258, R259). Readings of the model it rests on: log entry
93. -/
def Obligations.ReturnsAndRecalls : Prop :=
  (∀ (c n : Nat) (s : State), s.token.returns.find? (fun r => r.1 = c) = some (c, n) → counting s = true → Answers (.tokenReturn c) s fun t =>
    t.ledgers.tok = tokReturn s.token.retire n s.ledgers.tok ∧ t.token.returns = s.token.returns.erase (c, n)) ∧
  (∀ (c : Nat) (s : State), (recallTarget (s.core c).tok).isSome = true → exec (.recallReceived c) s =
    .next (s.setCore c { s.core c with tok := { (s.core c).tok with seen := true } })) ∧
  (∀ (c r : Nat) (s : State), recallTarget (s.core c).tok = some r → (s.core c).tok.seen = true → (s.core c).tok.clamped = false →
    r < (s.core c).tok.held → Answers (.recallTimeout c) s fun t =>
      t.core c = { s.core c with tok := { (s.core c).tok with clamped := true, cap := min (s.core c).tok.cap 1 } } ∧
      t.token.clamps = satInc s.token.clamps 0xFFFF ∧ caused t .token 2 = true ∧ t.ledgers = s.ledgers ∧
      (logOpen s = true → newest t 0x1051 [c % 2 ^ 32, (s.core c).tok.held % 2 ^ 32, r % 2 ^ 32, 0] = true) ∧
      (s.arb.unreachable.contains (c / 64) = false → ∀ n, n / 2 = c / 64 → look 0 t.token.notified n = noticeShare n (planT t (n / 2))) ∧
      ∀ j, j ≠ c → t.core j = s.core j)

/-! ### Temperature (chapter 10) -/

/-- Readings reach their sensor; one outside -40 to 150 degrees, and none for 300 us, fails it, and a failed sensor plays no
part; a stack sensor at 85 degrees makes its stack hot, with event 0x4007 (R303, R304, R329, R428). -/
def Obligations.SensorsReadAndFail : Prop :=
  (∀ (k : Nat) (v : Int) (s : State), k < 128 → sensorOn s k = true →
    (sensorIsStack k = false → disagrees s k v = false → -160 ≤ v → v ≤ 600 →
      exec (.sensorReading k v) s = .next (s.modSensor k (fun x => { x with temp := some v, differs := 0 }))) ∧
    (v < -160 ∨ 600 < v → (s.sensor k).failed = false → Answers (.sensorReading k v) s fun t =>
      (t.sensor k).failed = true ∧ reading t k = none ∧ caused t .therm 4 = true ∧ t.cores = s.cores)) ∧
  (∀ (k : Nat) (v : Int) (s : State), 96 ≤ k → k < 112 → sensorOn s k = true → disagrees s k v = false → 340 ≤ v → v ≤ 600 →
    (s.stack (sensorDie k)).hot = false → (s.stack (sensorDie k)).retiring = false → Answers (.sensorReading k v) s fun t =>
      (t.sensor k).temp = some v ∧ (t.stack (sensorDie k)).hot = true ∧
      (logOpen s = true → newest t 0x4007 [sensorDie k % 2 ^ 32, 1, twos 16 v % 2 ^ 32, 0] = true)) ∧
  (∀ (k : Nat) (s : State), k < 128 → sensorOn s k = true → (s.sensor k).failed = false → Answers (.sensorMissing k) s fun t =>
    (t.sensor k).failed = true ∧ reading t k = none ∧ caused t .therm 4 = true ∧ (∀ j, j ≠ k → t.sensor j = s.sensor j))

/-- The zones are judged together, and the throttle state follows them (R306, R310, R330, Table 10.2); no zone reaches
SHUTDOWN here. The thermal cap falls by 394 tokens at the end of the grace time and at each step, never below 1232, and rises
by 394 at each step of the relaxation, at 4928 of which the throttle is over (R310, R314). Readings of the model it rests on:
log entry 64. -/
def Obligations.ZonesThrottleAndThermalCap : Prop :=
  (∀ s : State, hubOn s = true → (∀ z < 10, judgeLevel s z < 3) → Answers .zoneJudge s fun t =>
    (∀ z < 10, levelOf t z = judgeLevel s z) ∧
    t.therm.throttle = (match s.therm.throttle, anyHot t with
      | .idle, true => .requested | .requested, false => .idle | .enforcing, false => .relaxing | .relaxing, true => .enforcing | x, _ => x) ∧
    (s.therm.throttle = .idle → anyHot t = true → caused t .therm 1 = true ∧ t.token.thermalCap = s.token.thermalCap)) ∧
  ((∀ s : State, s.therm.throttle = .requested → anyHot s = true → Answers .graceExpire s fun t =>
    t.therm.throttle = .enforcing ∧ t.token.thermalCap = max 1232 (s.token.thermalCap - 394) ∧ caused t .therm 2 = true ∧
    t.therm.levels = s.therm.levels) ∧
  (∀ s : State, s.therm.throttle = .enforcing → Answers .enforceStep s fun t =>
    t.therm.throttle = .enforcing ∧ t.token.thermalCap = max 1232 (s.token.thermalCap - 394) ∧ t.therm.levels = s.therm.levels) ∧
  (∀ s : State, s.therm.throttle = .relaxing → Answers .relaxStep s fun t =>
    t.token.thermalCap = min 4928 (s.token.thermalCap + 394) ∧ t.therm.levels = s.therm.levels ∧
    (s.token.thermalCap + 394 < 4928 → t.therm.throttle = .relaxing) ∧
    (4928 ≤ s.token.thermalCap + 394 → t.therm.throttle = .idle ∧ caused t .therm 5 = true)))

/-- The hardware trip: only the always-on domain keeps power, the ledgers hold their last values, and sensor, reading and
time are latched; a second one changes nothing (R120, R319, R320). -/
def Obligations.HardwareTripCutsPower : Prop :=
  (∀ (k : Nat) (s : State), k < 128 → s.ao.vsb = true → s.trip = none → canTrip s k = true → Answers (.hwTrip k (sensorIsStack k)) s fun t =>
    t.trip = some ⟨sensorIsStack k, k, (s.sensor k).temp.getD (-32768), !s.ao.aoLock, s.ao.ticks⟩ ∧ t.power.stage = .banked ∧
    t.ledgers = s.ledgers ∧ t.tiles = [] ∧ t.nets = [] ∧ t.cores = [] ∧ t.ao.ticks = s.ao.ticks ∧
    t.ao.retention.getLast?.map (·.code) = some 0x2006) ∧
  (∀ (k : Nat) (stack : Bool) (s : State), s.trip.isSome = true → exec (.hwTrip k stack) s = .next s)

/-- No command but the loss of VSB clears the latched trip (R322). -/
def Obligations.TripStaysLatched : Prop :=
  ∀ (s : State) (r : TripRec), s.trip = some r → nextCommand s ≠ some .vsbInvalid → ∃ t, step s = .next t ∧ t.trip = some r

/-! ### The core grid (chapter 11) -/

/-- Messages, credits and tallies: the oldest message between two cores is written to its queue with its metadata and its
credit goes from IN_FLIGHT to QUEUED; a credit reaches its sender, and one whose command has ended is discarded; a tally add
is applied modulo 2^32 and wakes the waits whose threshold it reaches, and no other; VALUE is written only while nothing
waits on the tally; queues are released (R346 to R355, R370). -/
def Obligations.MessagesCreditsAndTallies : Prop :=
  (∀ (a b : Nat) (s : State) (m : Msg) (x : RQueue) (k : Nat), s.grid.msgs.find? (fun m => m.src = a && m.dst = b) = some m →
    pathClear s a b m.id = true → a < 512 → m.len ≤ 64 → 0 < m.len →
    x = queueOf (s.core b) m.q → k = (x.head + x.count) % x.depth → Answers (.messageDelivered a b) s fun t =>
      t.core b = { s.core b with
        ls := putList 0 (putList 0 (s.core b).ls (x.base + 64 * k) (leBytes 64 m.data.toNat)) (x.meta_ + 8 * k)
                (leBytes 8 (a + (m.len - 1) * 512 + m.tag.toNat * 65536)),
        queues := put emptyQueue (s.core b).queues m.q { x with count := x.count + 1 } } ∧
      t.grid = { s.grid with msgs := s.grid.msgs.erase m } ∧ (∀ j, j ≠ b → t.core j = s.core j) ∧
      (counting s = true → ∀ r : CredRow, r = look {} s.ledgers.cred (b / 64) →
        look {} t.ledgers.cred (b / 64) = { r with inFlight := r.inFlight - 1, queued := r.queued + 1 })) ∧
  (∀ (e : Nat → Nat → Nat → Instr) (l : State → List CredPkt),
    ((e = Instr.creditGrantArrival ∧ l = fun s => s.grid.grants) ∨ (e = Instr.creditReturnArrival ∧ l = fun s => s.grid.returns)) →
    ∀ (rcv q n : Nat) (s : State) (p : CredPkt), (l s).find? (fun p => p.rcv = rcv && p.q = q && p.sender = n) = some p →
    pathClear s rcv n p.id = true →
    (p.live = true → (s.core n).st ≠ .lost → counting s = true → Answers (e rcv q n) s fun t =>
      heldCred t n rcv q = heldCred s n rcv q + p.n ∧ l t = (l s).erase p ∧ t.cores = s.cores ∧
      ∀ r : CredRow, r = look {} s.ledgers.cred (rcv / 64) →
        look {} t.ledgers.cred (rcv / 64) = { r with returning := r.returning - p.n, senderHeld := r.senderHeld + p.n }) ∧
    (p.live = false → Answers (e rcv q n) s fun t =>
      l t = (l s).erase p ∧ t.grid.credits = s.grid.credits ∧ t.ledgers = s.ledgers ∧ t.cores = s.cores)) ∧
  (∀ (c y : Nat) (s : State) (a : TallyAdd) (v : Nat), s.grid.adds.find? (fun a => a.core = c && a.tally = y) = some a →
    addReady s a = true → v = (tallyVal s y).toNat + a.amount → Answers (.tallyAddApply c y) s fun t =>
      tallyVal t y = w32 v ∧ t.grid.adds = s.grid.adds.erase a ∧ (∀ k, k ≠ y → tallyVal t k = tallyVal s k) ∧
      (∀ n θ, (s.core n).wait = some (y, θ) → (t.core n).wait = (if reached (w32 v) θ then none else some (y, θ))) ∧
      (∀ n, (∀ θ, (s.core n).wait ≠ some (y, θ)) → t.core n = s.core n) ∧
      (2 ^ 32 ≤ v → (t.tile (y / 512)).wraps = satInc (s.tile (y / 512)).wraps 0xFFFF ∧ caused t (.tally (y / 512)) 0 = true) ∧
      (counting s = true → ∀ r : TallyRow, r = look {} s.ledgers.tally (y / 512) → look {} t.ledgers.tally (y / 512) =
        { r with applied := r.applied + BitVec.ofNat 64 a.amount, inFlight := r.inFlight - a.amount })) ∧
  (∀ (k : Nat) (w : RegWrite) (s : State) (y : Nat), writeOk s (.tally k) w = true → y = 512 * k + (s.tile k).tallySel →
    (waiters s y = [] → exec (.tallyValueWrite k w) s = .next (setTally s y (w.merged (tallyVal s y)))) ∧
    (waiters s y ≠ [] → Answers (.tallyValueWrite k w) s fun t =>
      t.grid = s.grid ∧ (t.hdr (.tally k)).lastRefusal = word [(0, 0x02), (8, 0x44), (24, w.master.num)])) ∧
  (∀ (n : Nat) (s : State), (s.core n).slot = none → (s.core n).st = .idle → quiet s [n] = true → Answers (.queueRelease (256 + n)) s fun t =>
    ∀ q, queueOf (t.core n) q = emptyQueue) ∧
  (∀ (k : Nat) (s : State) (c : Cmd) (r : CompRec), k < 256 → s.cmd k = some c → c.st = .running → c.ending = some r → c.discard = false →
    quiet s (cmdQueueCores s k c) = true → Answers (.queueRelease k) s fun t =>
      ∃ c', t.cmd k = some c' ∧ c'.st = .completing ∧ c'.record = some r)

/-- CORECTL: START gives an idle, stopped or faulted core of a Stoked tile outside every partition a fresh architectural
state at START_PC with ARG in s1; STOP lets it run to an instruction boundary, where CORE_HALT stops it; RESUME lets it go
on; a stopped or faulted core's registers and local store are written, any other's are not (R357, R358, R376, R377). Readings
of the model it rests on: log entries 14, 29. -/
def Obligations.CoresAreControlled : Prop :=
  (∀ (k : Nat) (w : RegWrite) (s : State), writeOk s (.corectl k) w = true → w.full = true → k < 512 →
    (fld w.value.toNat 0 2 = 1 → ((s.core k).st = .idle ∨ (s.core k).st = .stopped ∨ (s.core k).st = .faulted) →
      (s.tile (k / 64)).st = .stoked → inPartition s k = false → ledgerFaulted s = false → (s.core k).queues = [] →
      Answers (.start k w) s fun t =>
        (t.core k).st = .running ∧ (t.core k).pc = (s.core k).startPc ∧ (∀ r, sreg (t.core k) r = if r = 1 then (s.core k).arg else 0) ∧
        (∀ r, areg (t.core k) r = 0) ∧ (∀ r, vreg (t.core k) r = 0) ∧ (t.core k).acc = [] ∧ (t.core k).loops = [] ∧
        (t.core k).ls = (s.core k).ls ∧ (t.core k).imem = (s.core k).imem ∧ (∀ j, j ≠ k → t.core j = s.core j)) ∧
    (fld w.value.toNat 0 2 = 2 → (s.core k).st = .running →
      exec (.stop k w) s = .next (s.setCore k { s.core k with stopping := true })) ∧
    (fld w.value.toNat 0 2 = 3 → (s.core k).st = .stopped → (s.tile (k / 64)).st = .stoked → Answers (.resume k w) s fun t =>
      (t.core k).st = .running ∧ (t.core k).pc = (s.core k).pc ∧ (t.core k).s = (s.core k).s ∧ (t.core k).acc = (s.core k).acc ∧
      ∀ j, j ≠ k → t.core j = s.core j) ∧
    (∀ e ∈ [(1, Instr.start), (2, Instr.stop), (3, Instr.resume)], fld w.value.toNat 0 2 = e.1 → (s.core k).st = .lost →
      Answers (e.2 k w) s fun t =>
        t.cores = s.cores ∧ (t.hdr (.corectl k)).lastRefusal = word [(0, 0x02), (8, 0x40), (24, w.master.num)])) ∧
  (∀ (c : Nat) (s : State), (s.core c).stopping = true → (s.core c).st = .running → (s.core c).slot = none → Answers (.coreHalt c) s fun t =>
    (t.core c).st = .stopped ∧ (t.core c).stopping = false ∧ (t.core c).stall = none ∧ (t.core c).pc = (s.core c).pc ∧
    (t.core c).s = (s.core c).s ∧ caused t (.corectl c) 0 = true) ∧
  (∀ (k : Nat) (w : RegWrite) (s : State) (i : Nat), writeOk s (.corectl k) w = true → i = (s.core k).regSel →
    (inspectable s k = true → i < 576 ∨ i = 581 ∨ i = 582 ∨ 640 ≤ i →
      exec (.regDataWrite k w) s = .next (s.setCore k (setArch (s.core k) i (w.merged (archWord s k i))))) ∧
    (inspectable s k = true → 0 < i → i < 32 → Answers (.regDataWrite k w) s fun t => archWord t k i = w.merged (archWord s k i)) ∧
    (inspectable s k = true → 1024 ≤ i → i < 3072 → Answers (.regDataWrite k w) s fun t => archWord t k i = w.merged (archWord s k i)) ∧
    (inspectable s k = true → 576 ≤ i → i < 581 → Answers (.regDataWrite k w) s fun t =>
      t.cores = s.cores ∧ (t.hdr (.corectl k)).lastRefusal = word [(0, 0x03), (8, 0x58), (24, w.master.num)]) ∧
    (inspectable s k = true → Answers (.lsDataWrite k w) s fun t =>
      lsWord (t.core k) (s.core k).lsAddr = w.merged (lsWord (s.core k) (s.core k).lsAddr) ∧ (t.core k).lsAddr = lsNext (s.core k).lsAddr ∧
      (∀ a, a < (s.core k).lsAddr ∨ (s.core k).lsAddr + 4 ≤ a → lsRead (t.core k) a 1 = lsRead (s.core k) a 1) ∧
      ∀ j, j ≠ k → t.core j = s.core j) ∧
    (inspectable s k = false → Answers (.lsDataWrite k w) s fun t =>
      t.cores = s.cores ∧ (t.hdr (.corectl k)).lastRefusal = word [(0, 0x02), (8, 0x60), (24, w.master.num)]))

/-- Lost cores, clocks and links: a missed heartbeat or an uncorrectable error loses a core of a powered tile, a corrected
one is counted; a legal STEP starts a change that ends with event 0x3005; a flit sent again is counted, and below the
sixteenth time nothing else follows (R336 to R339, R344, R371 to R373, R405). Readings of the model it rests on: log entries
45, 57. -/
def Obligations.CoreLossClocksAndLinks : Prop :=
  (∀ (c : Nat) (s : State), c < 512 → coreUp s c = true →
    (Answers (.heartbeatTimeout c) s fun t => (t.core c).st = .lost ∧ ((s.core c).st ≠ .lost → (t.core c).lostCause = 2)) ∧
    (Answers (.coreEccError c true) s fun t => (t.core c).st = .lost ∧ ((s.core c).st ≠ .lost → (t.core c).lostCause = 1)) ∧
    exec (.coreEccError c false) s = .next (s.setCore c { s.core c with corr := satInc (s.core c).corr 0xFFFF })) ∧
  (∀ (k : Nat) (w : RegWrite) (s : State) (v : Nat), writeOk s (.grid k) w = true → v = fld (w.merged (word [(0, calStep s k)])).toNat 0 6 →
    (12 ≤ v → v ≤ 32 → (s.tile k).changing = none → v ≠ calStep s k →
      (calStep s k < v → calVf s k v ≤ calSetpoint s (2 * k) ∧ calVf s k v ≤ vsetNow s (2 * k) / 5000) → Answers (.stepWrite k w) s fun t =>
        calStep t k = v ∧ (t.tile k).changing = some (calStep s k, w.master.num) ∧ (∀ j, j ≠ k → t.tile j = s.tile j) ∧ t.cores = s.cores) ∧
    (v < 12 ∨ 32 < v → Answers (.stepWrite k w) s fun t =>
      t.cal = s.cal ∧ t.tiles = s.tiles ∧ (t.hdr (.grid k)).lastRefusal = word [(0, 0x03), (8, 0x40), (24, w.master.num)])) ∧
  (∀ (k old who : Nat) (s : State), (s.tile k).changing = some (old, who) → Answers (.clockChangeDone k) s fun t =>
    t.tile k = { s.tile k with changing := none } ∧ caused t (.grid k) 2 = true ∧ (∀ j, j ≠ k → t.tile j = s.tile j) ∧
    (logOpen s = true → newest t 0x3005 [k % 2 ^ 32, 50 * old % 2 ^ 32, 50 * calStep s k % 2 ^ 32, who % 2 ^ 32] = true)) ∧
  (∀ (k l : Nat) (again : Bool) (s : State), k < 8 → l < 256 → (s.tile k).st ≠ .off →
    (again = true → look 0 s.grid.resends (k * 256 + l) < 15) → Answers (.meshFlitResend (.mesh k l) again) s fun t =>
      (t.tile k).meshRetries = satInc (s.tile k).meshRetries 0xFFFF ∧
      look 0 t.grid.resends (k * 256 + l) = (if again then look 0 s.grid.resends (k * 256 + l) + 1 else 1) ∧
      (∀ j, j ≠ k → t.tile j = s.tile j) ∧ t.cores = s.cores)

/-! ### Core instructions (chapter 12) -/

/-- A core that does not run executes nothing; an instruction with a field out of range or an unused field that is not 0, and a
word that Table 12.4 does not list, raise ILLEGAL and have no other effect; TRAP raises TRAP; of several causes the lowest is reported (R359, R380, R387, R390,
R406, Table 12.5). Readings of the model it rests on: log entries 16, 79. -/
def Obligations.InstructionsRaiseExceptions : Prop :=
  (∀ e ∈ formUses, ∀ (c : Nat) (f : Fields) (s : State),
    (coreGo s c = false → exec (e.1 c f) s = .next s) ∧
    (coreGo s c = true → usesOk (e.2 f) f = false ∨ coreInstr c (fetchWord (s.core c)) = none → Raises (e.1 c f) s c 0x1)) ∧
  (∀ (c : Nat) (f : Fields) (s : State), coreRuns s c = true → usesOk {} f = true → Raises (.trap c f) s c 0xC) ∧
  (∀ i ∈ [Instr.add, Instr.sub, Instr.and, Instr.or, Instr.xor, Instr.shl, Instr.shr, Instr.sra, Instr.mul, Instr.mulh, Instr.slt, Instr.sltu,
      Instr.min, Instr.max], ∀ (c : Nat) (f : Fields) (s : State), coreRuns s c = true → usesOk (usesOp f 32 32) f = true →
      pcOver (s.core c) = true → Raises (i c f) s c 0x5)

/-- Scalar instructions: the destination takes the operation of sA and the operand, s0 stays 0, the PC goes on, and nothing
else changes; CSRR reads a control register, CSRW writes FPFLAGS or MODE and raises ILLEGAL for any other (R382, Tables 12.1,
12.2, 12.4). Readings of the model it rests on: log entries 16, 79, 84. -/
def Obligations.ScalarInstructions : Prop :=
  (∀ e ∈ [(Instr.add, fun a b : Word => a + b), (Instr.sub, fun a b => a - b), (Instr.and, fun a b => a &&& b), (Instr.or, fun a b => a ||| b),
      (Instr.xor, fun a b => a ^^^ b), (Instr.shl, fun a b => a <<< (b.toNat % 32)), (Instr.shr, fun a b => a >>> (b.toNat % 32)),
      (Instr.sra, fun a b => a.sshiftRight (b.toNat % 32)), (Instr.mul, fun a b => a * b),
      (Instr.mulh, fun a b => BitVec.ofInt 32 (a.toInt * b.toInt / 2 ^ 32)),
      (Instr.slt, fun a b => if a.toInt < b.toInt then 1 else 0), (Instr.sltu, fun a b => if a.toNat < b.toNat then 1 else 0),
      (Instr.min, fun a b => if a.toInt ≤ b.toInt then a else b), (Instr.max, fun a b => if b.toInt ≤ a.toInt then a else b)],
    ∀ (c : Nat) (f : Fields) (s : State), coreReady s c (usesOp f 32 32) f = true →
      exec (e.1 c f) s = .next (s.setCore c (pcNext (setS (s.core c) f.d.toNat (e.2 (srcA (s.core c) f) (operand (s.core c) f)))))) ∧
  (∀ (c : Nat) (f : Fields) (s : State) (x : CoreSt), x = s.core c →
    (coreReady s c (usesOp f 16 16) f = true → exec (.aadd c f) s =
      .next (s.setCore c (pcNext (setA x f.d.toNat (areg x f.a.toNat + (operand x f).signExtend 64))))) ∧
    (coreReady s c { d := 16, a := 32, b := 32 } f = true → exec (.amov c f) s =
      .next (s.setCore c (pcNext (setA x f.d.toNat (srcB x f ++ srcA x f))))) ∧
    (coreReady s c { d := 32, a := 16, x := true } f = true → exec (.ard c f) s =
      .next (s.setCore c (pcNext (setS x f.d.toNat (if f.x.getLsbD 0 then (areg x f.a.toNat).extractLsb' 32 32 else (areg x f.a.toNat).extractLsb' 0 32))))) ∧
    (coreReady s c {} f = true → exec (.nop c f) s = .next (s.setCore c (pcNext x))) ∧
    (coreReady s c { d := 32, imm := true } f = true → Answers (.csrr c f) s fun t => SameButCore s t c ∧
      t.core c = pcNext { setS x f.d.toNat (csrValue s c (f.imm.toNat % 256)) with cycles := (t.core c).cycles } ∧
      (f.imm.toNat % 256 ≠ 2 → f.imm.toNat % 256 ≠ 3 → (t.core c).cycles = x.cycles)) ∧
    (coreReady s c { a := 32, imm := true } f = true →
      (f.imm.toNat % 256 = 5 → ∀ g, exec (.csrw c f g) s = .next (s.setCore c (pcNext { x with fpflags := (srcA x f).setWidth 4 ||| (x.fpflags &&& g) }))) ∧
      (f.imm.toNat % 256 = 6 → ∀ g, exec (.csrw c f g) s = .next (s.setCore c (pcNext { x with mode := (srcA x f).setWidth 3 }))) ∧
      (f.imm.toNat % 256 ≠ 5 → f.imm.toNat % 256 ≠ 6 → ∀ g, Raises (.csrw c f g) s c 0x1)))

/-- Local-store instructions: loads read and stores write the bytes at aA + IMM, little-endian, and nothing else changes; an
access that is misaligned or leaves the local store raises LS_RANGE (R378, Table 12.4). Readings of the model it rests on:
log entries 12, 16. -/
def Obligations.LocalStoreInstructions : Prop :=
  (∀ e ∈ ([(Instr.ld, { d := 32, a := 16, imm := true }, 4, 4, fun x f b => setS x f.d.toNat (w32 (leNat b))),
      (Instr.lda, { d := 16, a := 16, imm := true }, 8, 8, fun x f b => setA x f.d.toNat (BitVec.ofNat 64 (leNat b))),
      (Instr.vld, { d := 32, a := 16, imm := true }, 64, 1, fun x f b => setV x f.d.toNat (BitVec.ofNat 512 (leNat b)))] :
      List ((Nat → Fields → Instr) × Uses × Nat × Nat × (CoreSt → Fields → List Byte → CoreSt))),
    ∀ (c : Nat) (f : Fields) (s : State) (a : Nat), coreReady s c e.2.1 f = true → a = addrOf (s.core c) f.a f →
      (lsBad a e.2.2.1 e.2.2.2.1 = false → exec (e.1 c f) s =
        .next (s.setCore c (pcNext (e.2.2.2.2 (s.core c) f (lsRead (s.core c) a e.2.2.1))))) ∧
      (lsBad a e.2.2.1 e.2.2.2.1 = true → Raises (e.1 c f) s c 0x6)) ∧
  (∀ e ∈ ([(Instr.st, { a := 16, b := 32, imm := true }, 4, 4, fun x f => (srcB x f).toNat),
      (Instr.sta, { a := 16, b := 16, imm := true }, 8, 8, fun x f => (areg x f.b.toNat).toNat),
      (Instr.vst, { a := 16, b := 32, imm := true }, 64, 1, fun x f => (vreg x f.b.toNat).toNat)] :
      List ((Nat → Fields → Instr) × Uses × Nat × Nat × (CoreSt → Fields → Nat))),
    ∀ (c : Nat) (f : Fields) (s : State) (a : Nat), coreReady s c e.2.1 f = true → a = addrOf (s.core c) f.a f →
      (lsBad a e.2.2.1 e.2.2.2.1 = false → Answers (e.1 c f) s fun t =>
        lsRead (t.core c) a e.2.2.1 = leBytes e.2.2.1 (e.2.2.2.2 (s.core c) f) ∧
        (∀ b, b < a ∨ a + e.2.2.1 ≤ b → lsRead (t.core c) b 1 = lsRead (s.core c) b 1) ∧
        t = s.setCore c (pcNext { s.core c with ls := (t.core c).ls })) ∧
      (lsBad a e.2.2.1 e.2.2.2.1 = true → Raises (e.1 c f) s c 0x6))

/-- Control instructions: a branch goes to PC + 8 x IMM when its comparison holds and else to the next instruction; JAL
links, JR goes to sA; a target that is no instruction address raises PC_RANGE; LOOP opens a level with its count, start and
end, or with a count of 0 passes its body; YIELD, FENCE and END (R383 to R385, R398, R400, R401, R456). Readings of the model
it rests on: log entries 16, 78, 80. -/
def Obligations.ControlInstructions : Prop :=
  (∀ e ∈ [(Instr.beq, fun a b : Word => decide (a = b)), (Instr.bne, fun a b => decide (a ≠ b)), (Instr.blt, fun a b => decide (a.toInt < b.toInt)),
      (Instr.bge, fun a b => decide (b.toInt ≤ a.toInt)), (Instr.bltu, fun a b => decide (a.toNat < b.toNat)),
      (Instr.bgeu, fun a b => decide (b.toNat ≤ a.toNat))],
    ∀ (c : Nat) (f : Fields) (s : State), coreRuns s c = true → usesOk { a := 32, b := 32, imm := true } f = true →
      (e.2 (srcA (s.core c) f) (srcB (s.core c) f) = true →
        (targetBad (branchTo (s.core c) f) = false →
          exec (e.1 c f) s = .next (s.setCore c (pcTake (s.core c) (branchTo (s.core c) f).toNat))) ∧
        (targetBad (branchTo (s.core c) f) = true → Raises (e.1 c f) s c 0x5)) ∧
      (e.2 (srcA (s.core c) f) (srcB (s.core c) f) = false → targetBad (branchTo (s.core c) f) = false → pcOver (s.core c) = false →
        exec (e.1 c f) s = .next (s.setCore c (pcNext (s.core c))))) ∧
  (∀ (c : Nat) (f : Fields) (s : State) (x : CoreSt), x = s.core c → coreRuns s c = true →
    (usesOk { imm := true } f = true → targetBad (branchTo x f) = false → exec (.j c f) s = .next (s.setCore c (pcTake x (branchTo x f).toNat))) ∧
    (usesOk { d := 32, imm := true } f = true → targetBad (branchTo x f) = false →
      exec (.jal c f) s = .next (s.setCore c (pcTake (setS x f.d.toNat (w32 (x.pc + 8))) (branchTo x f).toNat))) ∧
    (usesOk { a := 32 } f = true → (targetBad (srcA x f).toNat = false → exec (.jr c f) s = .next (s.setCore c (pcTake x (srcA x f).toNat))) ∧
      (targetBad (srcA x f).toNat = true → Raises (.jr c f) s c 0x5)) ∧
    (usesOk { a := if f.i then 1 else 32, i := true, imm := true } f = true → ∀ n last : Nat, n = loopCount x f →
      last = x.pc + 8 * (f.imm.toNat / 65536) → last ≤ 0xFFF8 →
      (loopBroken x f = false → 0 < n → exec (.loop c f) s = .next (s.setCore c { x with pc := x.pc + 8, loops := ⟨n, x.pc + 8, last⟩ :: x.loops })) ∧
      (loopBroken x f = false → n = 0 → (fallThrough last x.loops).1 ≤ 0xFFF8 →
        exec (.loop c f) s = .next (s.setCore c { x with pc := (fallThrough last x.loops).1, loops := (fallThrough last x.loops).2 })) ∧
      (loopBroken x f = true → Raises (.loop c f) s c 0x4)) ∧
    (usesOk {} f = true → pcOver x = false →
      (x.tok.seen = false → quantumOver s c = false → exec (.yield c f) s = .next (s.setCore c (pcNext x))) ∧
      (x.tok.seen = false → quantumOver s c = true → ledgerFaulted s = false → Answers (.yield c f) s fun t =>
        (t.core c).st = .stopped ∧ (t.core c).yielded = true ∧ (t.core c).pc = (pcNext x).pc ∧ (t.core c).s = x.s ∧ (t.core c).acc = x.acc) ∧
      (allLanded s c = true → exec (.fence c f) s = .next (s.setCore c (pcNext x))) ∧
      (allLanded s c = false → Stalls (.fence c f) s c (.fence f))) ∧
    (usesOk {} f = true → x.slot = none → Answers (.end_ c f) s fun t =>
      (t.core c).st = .idle ∧ (t.core c).ended = true ∧ (t.core c).pc = x.pc ∧ (t.core c).s = x.s ∧ (t.core c).engines = []))

/-- Stream engines: SCFG loads a descriptor, stalls while the engine is busy, and raises STREAM while a bad descriptor has faulted it; SGO starts a loaded engine; SWAIT waits for
its engines; SSTAT reads the status; SSTOP abandons the descriptor (R390, R415 to R419, Table 12.4). Readings of the model it
rests on: log entries 16, 81. -/
def Obligations.StreamInstructions : Prop :=
  ∀ (c : Nat) (f : Fields) (s : State) (x : CoreSt), x = s.core c →
    (coreReady s c { d := 4, a := 16, imm := true } f = true → lsBad (addrOf x f.a f) 64 64 = false →
      (engBusy (engOf x f.d.toNat) = false →
        engBad (engOf x f.d.toNat) = false →
        exec (.scfg c f) s = .next (s.setCore c (pcNext (setEng x f.d.toNat (loadEng s c f.d.toNat (addrOf x f.a f)))))) ∧
      (engBad (engOf x f.d.toNat) = true → Raises (.scfg c f) s c 0xA) ∧
      (engBusy (engOf x f.d.toNat) = true → Stalls (.scfg c f) s c (.scfg f))) ∧
    (coreReady s c { d := 4 } f = true → ∀ g : EngineSt, g = engOf x f.d.toNat →
      (g.run = .idle → g.loaded = true → Answers (.sgo c f) s fun t =>
        t.core c = pcNext (setEng x f.d.toNat { g with run := .running, i := 0, j := 0, id := s.grid.nextId }) ∧
        t.grid = { s.grid with nextId := s.grid.nextId + 1 } ∧ (∀ j, j ≠ c → t.core j = s.core j)) ∧
      (engBusy g = true ∨ (g.run = .idle ∧ g.loaded = false) → Raises (.sgo c f) s c 0xA) ∧
      exec (.sstop c f) s = .next (s.setCore c (pcNext (setEng x f.d.toNat {})))) ∧
    (coreReady s c { imm := true } f = true → ∀ l : List EngineSt, l = engMask x (f.imm.toNat % 16) →
      (l.all (fun g => g.run = .idle) = true → exec (.swait c f) s = .next (s.setCore c (pcNext x))) ∧
      (l.any engBusy = true → l.any (fun g => g.run = .faulted) = false → Stalls (.swait c f) s c (.swait f)) ∧
      (l.any engBad = true → Raises (.swait c f) s c 0xA) ∧ (l.any engBad = false → l.any engLost = true → Raises (.swait c f) s c 0xB)) ∧
    (coreReady s c { d := 32, a := 4 } f = true →
      exec (.sstat c f) s = .next (s.setCore c (pcNext (setS x f.d.toNat (engStatus (engOf x f.a.toNat))))))

/-- Matrix instructions: MMA adds to, and MMAZ sets, the accumulator from the tile in the local store and the next tile of
the engine, which it takes; in INT8 the exact sum saturates; the other accumulator, the registers and the local store stay
(R391, R392, R395, Table 12.4). ACCZ, ACCRD, ACCWR, ACCST and ACCLD move accumulators. Readings of the model it rests on: log
entries 10, 16, 82, 83. -/
def Obligations.MatrixInstructions : Prop :=
  (∀ e ∈ [(Instr.mma, false), (Instr.mmaz, true)], ∀ (c : Nat) (f : Fields) (s : State) (x : CoreSt) (g : EngineSt) (W : List (BitVec 16))
      (rest : List (List (BitVec 16))) (A : List Nat) (m : Nat), x = s.core c → g = engOf x f.b.toNat → g.tiles = W :: rest → m = f.d.toNat →
    coreReady s c { d := 2, a := 16, b := 4, x := true, imm := true } f = true → mmaPair (fmtLo f) (fmtHi f) = true →
    lsBad (addrOf x f.a f) (1024 * (fmtBits (fmtLo f) / 8)) 64 = false → g.run ≠ .faulted → fmtHi f = g.outFmt →
    A = (List.range 1024).map (elemAt (fmtLo f) (lsRead x (addrOf x f.a f) (1024 * (fmtBits (fmtLo f) / 8)))) →
    Answers (e.1 c f) s fun t => SameButCore s t c ∧
      t.core c = pcNext { x with acc := (t.core c).acc, fpflags := (t.core c).fpflags, engines := put {} x.engines f.b.toNat { g with tiles := rest } } ∧
      (∀ p < 1024, look 0 (t.core c).acc (1024 * m + p) =
        w32 (mmaElem e.2 s.free (fmtLo f) (fmtHi f) A W (fun p => look 0 x.acc (1024 * m + p)) p).bits) ∧
      (∀ p, p < 1024 * m ∨ 1024 * m + 1024 ≤ p → look 0 (t.core c).acc p = look 0 x.acc p) ∧
      (fmtLo f = 0 → ∀ p < 1024, (look 0 (t.core c).acc (1024 * m + p)).toInt = clampI (-2147483648) 2147483647
        ((if e.2 then 0 else (look 0 x.acc (1024 * m + p)).toInt) +
          ((List.range 32).map (fun k => sgn 8 (A.getD (p / 32 * 32 + k) 0) * sgn 8 (W.getD (p % 32 * 32 + k) 0).toNat)).sum))) ∧
  (∀ (c : Nat) (f : Fields) (s : State) (x : CoreSt), x = s.core c →
    (coreReady s c { d := 2, a := 16, b := 4, x := true, imm := true } f = true → mmaPair (fmtLo f) (fmtHi f) = false →
      Raises (.mma c f) s c 0x2 ∧ Raises (.mmaz c f) s c 0x2) ∧
    (coreReady s c { d := 2 } f = true → Answers (.accz c f) s fun t => t = s.setCore c (pcNext { x with acc := (t.core c).acc }) ∧
      ∀ p, look 0 (t.core c).acc p = if p / 1024 = f.d.toNat then 0 else look 0 x.acc p) ∧
    (coreReady s c { d := 32, a := 2, imm := true } f = true → Answers (.accrd c f) s fun t =>
      t = s.setCore c (pcNext { x with v := (t.core c).v }) ∧ (∀ r, r ≠ f.d.toNat → vreg (t.core c) r = vreg x r) ∧
      ∀ k < 16, laneAt 5 (vreg (t.core c) f.d.toNat) k = (accWord x f.a.toNat (f.imm.toNat % 32) (16 * (f.imm.toNat / 32 % 2) + k)).toNat) ∧
    (coreReady s c { a := 2, b := 32, imm := true } f = true → Answers (.accwr c f) s fun t =>
      t = s.setCore c (pcNext { x with acc := (t.core c).acc }) ∧
      (∀ k < 16, (accWord (t.core c) f.a.toNat (f.imm.toNat % 32) (16 * (f.imm.toNat / 32 % 2) + k)).toNat = laneAt 5 (vreg x f.b.toNat) k) ∧
      ∀ p, p < accHalf f.a.toNat f ∨ accHalf f.a.toNat f + 16 ≤ p → look 0 (t.core c).acc p = look 0 x.acc p) ∧
    (coreReady s c { d := 16, a := 2, x := true, imm := true } f = true → ∀ g a : Nat, g = fmtHi f → g ≤ 5 → a = addrOf x f.d f →
      lsBad a (1024 * (fmtBits g / 8)) 64 = false → Answers (.accst c f) s fun t => SameButCore s t c ∧
        t.core c = pcNext { x with ls := (t.core c).ls, fpflags := (t.core c).fpflags } ∧
        lsRead (t.core c) a (1024 * (fmtBits g / 8)) = (accOut x s.free f.a.toNat g).flatMap (fun r => leBytes (fmtBits g / 8) r.bits) ∧
        ∀ b, b < a ∨ a + 1024 * (fmtBits g / 8) ≤ b → lsRead (t.core c) b 1 = lsRead x b 1) ∧
    (coreReady s c { d := 2, a := 16, imm := true } f = true → ∀ a : Nat, a = addrOf x f.a f → lsBad a 4096 1 = false →
      Answers (.accld c f) s fun t => t = s.setCore c (pcNext { x with acc := (t.core c).acc }) ∧
        (∀ p < 1024, look 0 (t.core c).acc (1024 * f.d.toNat + p) = w32 (leNat (lsRead x (a + 4 * p) 4))) ∧
        ∀ p, p < 1024 * f.d.toNat ∨ 1024 * f.d.toNat + 1024 ≤ p → look 0 (t.core c).acc p = look 0 x.acc p))

/-- Vector instructions: every lane of vD is the operation on the lanes of its operands, no other register changes but the
sticky flags; INT8 sums, differences and products saturate at -128 and 127; a format the instruction does not take raises
FORMAT (R381, R393, R395, Table 12.4). Readings of the model it rests on: log entries 10, 11, 16, 82, 83. -/
def Obligations.VectorInstructions : Prop :=
  (∀ e ∈ [(Instr.vadd, VOp.add), (Instr.vsub, VOp.sub), (Instr.vmul, VOp.mul), (Instr.vfma, VOp.fma), (Instr.vmax, VOp.max), (Instr.vmin, VOp.min)],
    ∀ (c : Nat) (f : Fields) (s : State) (x : CoreSt) (g : Nat), x = s.core c → g = fmtLo f →
    coreReady s c { d := 32, a := 32, b := 32, x := true } f = true →
    (vFmt g = true → Answers (e.1 c f) s fun t => SameButCore s t c ∧
      t.core c = pcNext { x with v := (t.core c).v, fpflags := (t.core c).fpflags } ∧ (∀ r, r ≠ f.d.toNat → vreg (t.core c) r = vreg x r) ∧
      ∀ k < laneCount g, laneAt g (vreg (t.core c) f.d.toNat) k = (laneOp g (rndOf x) ⟨e.2.num, s.free, k⟩ e.2
        (laneAt g (vreg x f.a.toNat) k) (laneAt g (vreg x f.b.toNat) k) (laneAt g (vreg x f.d.toNat) k)).bits % 2 ^ fmtBits g) ∧
    (vFmt g = false → Raises (e.1 c f) s c 0x2)) ∧
  (∀ e ∈ [(Instr.vadd, fun a b _ : Int => a + b), (Instr.vsub, fun a b _ => a - b), (Instr.vmul, fun a b _ => a * b),
      (Instr.vfma, fun a b d => d + a * b), (Instr.vmax, fun a b _ => max a b), (Instr.vmin, fun a b _ => min a b)],
    ∀ (c : Nat) (f : Fields) (s : State) (x : CoreSt), x = s.core c → fmtLo f = 0 →
    coreReady s c { d := 32, a := 32, b := 32, x := true } f = true → Answers (e.1 c f) s fun t =>
      ∀ k < 64, intOf 0 (laneAt 0 (vreg (t.core c) f.d.toNat) k) = clampI (-128) 127 (e.2 (intOf 0 (laneAt 0 (vreg x f.a.toNat) k))
        (intOf 0 (laneAt 0 (vreg x f.b.toNat) k)) (intOf 0 (laneAt 0 (vreg x f.d.toNat) k)))) ∧
  (∀ e ∈ [(Instr.vexp2, 6, exp2Lane), (Instr.vrcp, 7, rcpLane), (Instr.vrsqrt, 8, rsqrtLane)],
    ∀ (c : Nat) (f : Fields) (s : State) (x : CoreSt) (g : Nat), x = s.core c → g = fmtLo f → g = 3 ∨ g = 4 →
    coreReady s c { d := 32, a := 32, x := true } f = true → Answers (e.1 c f) s fun t => SameButCore s t c ∧
      t.core c = pcNext { x with v := (t.core c).v, fpflags := (t.core c).fpflags } ∧ (∀ r, r ≠ f.d.toNat → vreg (t.core c) r = vreg x r) ∧
      ∀ k < laneCount g, laneAt g (vreg (t.core c) f.d.toNat) k =
        (e.2.2 g (rndOf x) ⟨e.2.1, s.free, k⟩ (laneAt g (vreg x f.a.toNat) k)).bits % 2 ^ fmtBits g) ∧
  (∀ (c : Nat) (f : Fields) (s : State) (x : CoreSt) (g h : Nat), x = s.core c → g = fmtLo f → h = fmtHi f →
    coreReady s c { d := 32, a := 32, x := true } f = true →
    (g ≤ 5 → h ≤ 5 → Answers (.vcvt c f) s fun t => SameButCore s t c ∧
      t.core c = pcNext { x with v := (t.core c).v, fpflags := (t.core c).fpflags } ∧ (∀ r, r ≠ f.d.toNat → vreg (t.core c) r = vreg x r) ∧
      ∀ k < min (laneCount g) (laneCount h), laneAt h (vreg (t.core c) f.d.toNat) k =
        (convert g h (rndOf x) ⟨9, s.free, k⟩ (laneAt g (vreg x f.a.toNat) k)).bits % 2 ^ fmtBits h) ∧
    (vFmt g = true → Answers (.vrsum c f) s fun t => SameButCore s t c ∧
      t.core c = pcNext (setLane0 x f.d.toNat (sumLanes g (rndOf x) ⟨12, s.free, 0⟩ ((List.range (laneCount g)).map (laneAt g (vreg x f.a.toNat)))))) ∧
    (vFmt g = true → Answers (.vrmax c f) s fun t => SameButCore s t c ∧
      t.core c = pcNext (setLane0 x f.d.toNat (maxLanes g ⟨13, s.free, 0⟩ ((List.range (laneCount g)).map (laneAt g (vreg x f.a.toNat)))))) ∧
    (g ≤ 5 → Answers (.vbcast c f) s fun t => t = s.setCore c (pcNext { x with v := (t.core c).v }) ∧
      (∀ r, r ≠ f.d.toNat → vreg (t.core c) r = vreg x r) ∧
      ∀ k < laneCount g, laneAt g (vreg (t.core c) f.d.toNat) k = (srcA x f).toNat % 2 ^ fmtBits g)) ∧
  (∀ (c : Nat) (f : Fields) (s : State) (x : CoreSt) (g k : Nat), x = s.core c → g = fmtLo f → k = f.imm.toNat % 64 → g ≤ 5 → k < laneCount g →
    coreReady s c { d := 32, a := 32, x := true, imm := true } f = true →
    exec (.vmovs c f) s = .next (s.setCore c (pcNext (setS x f.d.toNat
      (if g = 0 then BitVec.ofInt 32 (intOf 0 (laneAt 0 (vreg x f.a.toNat) k)) else w32 (laneAt g (vreg x f.a.toNat) k))))))

/-- Messages, tallies and tokens as a core uses them: QCFG configures a queue and grants its credits; SEND spends a credit,
RECV takes the head entry and returns its credit, and both stall for want of one; TADD is counted at once and applied later;
TWAIT waits for its threshold; STOKE asks, EASE and EASE.R give up tokens; GRANTW waits; a stalled instruction completes when
its reason is gone (R345 to R353, R386, R387, R397, Table 12.4). Readings of the model it rests on: log entries 16, 26, 81,
84. -/
def Obligations.MessageTallyAndPowerInstructions : Prop :=
  (∀ (c : Nat) (f : Fields) (s : State) (x : CoreSt) (a : Nat) (d : QDesc), x = s.core c → a = addrOf x f.a f → d = readQDesc x a →
    coreReady s c { d := 8, a := 16, imm := true } f = true → lsBad a 16 4 = false → a + 16 + 4 * d.n ≤ lsSize → ringBad d = false →
    qDescBad d = false → d.pairs.all (fun p => (ownCores s c).contains p.1) = true → (queueOf x f.d.toNat).depth = 0 →
    Answers (.qcfg c f) s fun t =>
      t.core c = pcNext { x with queues := put emptyQueue x.queues f.d.toNat ⟨d.depth, d.base, d.meta_, 0, 0⟩ } ∧
      t.grid = { s.grid with grants := s.grid.grants ++ d.pairs.map (fun p => ⟨c, f.d.toNat, p.1, p.2, true, s.grid.nextId, packetTenant s c⟩),
                             nextId := s.grid.nextId + 1 } ∧
      (counting s = true → ∀ r : CredRow, r = look {} s.ledgers.cred (c / 64) →
        look {} t.ledgers.cred (c / 64) = { r with capacity := r.capacity + d.depth, returning := r.returning + d.depth }) ∧
      ∀ j, j ≠ c → t.core j = s.core j) ∧
  (∀ (c : Nat) (f : Fields) (s : State) (x : CoreSt) (n q : Nat), x = s.core c → n = (srcA x f).toNat → q = f.x.toNat % 8 →
    coreReady s c { a := 32, b := 32, x := true, imm := true } f = true →
    ((ownCores s c).contains n = true → (queueOf (s.core n) q).depth ≠ 0 → 0 < heldCred s c n q → Answers (.send c f) s fun t =>
      heldCred t c n q = heldCred s c n q - 1 ∧ t.cores = (s.setCore c (pcNext x)).cores ∧
      t.grid.msgs = s.grid.msgs ++ [⟨c, n, q, fld f.imm.toNat 16 6 + 1, BitVec.ofNat 16 (f.imm.toNat % 65536), vreg x f.b.toNat, s.grid.nextId, packetTenant s c⟩] ∧
      (counting s = true → ∀ r : CredRow, r = look {} s.ledgers.cred (n / 64) →
        look {} t.ledgers.cred (n / 64) = { r with senderHeld := r.senderHeld - 1, inFlight := r.inFlight + 1 })) ∧
    ((ownCores s c).contains n = true → (queueOf (s.core n) q).depth ≠ 0 → heldCred s c n q = 0 → Stalls (.send c f) s c (.send f)) ∧
    ((ownCores s c).contains n = false → Raises (.send c f) s c 0x7)) ∧
  (∀ (c : Nat) (f : Fields) (s : State) (x : CoreSt) (q : Nat) (k : RQueue) (md : Nat), x = s.core c → q = f.x.toNat % 8 → k = queueOf x q →
    k.depth ≠ 0 → md = leNat (lsRead x (k.meta_ + 8 * k.head) 4) →
    (coreReady s c { d := 32, b := 32, x := true } f = true →
      (0 < k.count → Answers (.recv c f) s fun t =>
        t.core c = pcNext { setS (setV x f.d.toNat (BitVec.ofNat 512 (leNat (lsRead x (k.base + 64 * k.head) 64)))) f.b.toNat (w32 md) with
          queues := put emptyQueue x.queues q { k with head := (k.head + 1) % k.depth, count := k.count - 1 } } ∧
        t.grid = { s.grid with returns := s.grid.returns ++ [⟨c, q, fld md 0 9, 1, true, s.grid.nextId, packetTenant s c⟩],
                               nextId := s.grid.nextId + 1 } ∧ ∀ j, j ≠ c → t.core j = s.core j) ∧
      (k.count = 0 → Stalls (.recv c f) s c (.recv f))) ∧
    (coreReady s c { d := 32, x := true } f = true → exec (.qcnt c f) s = .next (s.setCore c (pcNext (setS x f.d.toNat (w32 k.count)))))) ∧
  (∀ (c : Nat) (f : Fields) (s : State) (x : CoreSt) (y : Nat), x = s.core c → y = tallyOf x f → ownTally s c y = true →
    (∀ n : Nat, n = tallyAmount x f → n ≠ 0 → (s.tile (y / 512)).st ≠ .off →
      coreReady s c { a := 32, b := if f.i then 1 else 32, i := true, imm := true } f = true → Answers (.tadd c f) s fun t =>
        t.grid = { s.grid with adds := s.grid.adds ++ [⟨c, y, n, s.grid.nextId, x.slot⟩], nextId := s.grid.nextId + 1 } ∧
        t.cores = (s.setCore c (pcNext x)).cores ∧ (counting s = true → ∀ r : TallyRow, r = look {} s.ledgers.tally (y / 512) →
          look {} t.ledgers.tally (y / 512) = { r with issued := r.issued + BitVec.ofNat 64 n, inFlight := r.inFlight + n })) ∧
    (coreReady s c { a := 32, b := 32, imm := true } f = true →
      (reached (tallyVal s y) (srcB x f) = true → exec (.twait c f) s = .next (s.setCore c (pcNext x))) ∧
      (reached (tallyVal s y) (srcB x f) = false →
        exec (.twait c f) s = .next (s.setCore c { x with stall := some (.twait f), wait := some (y, srcB x f) }))) ∧
    (coreReady s c { d := 32, a := 32, imm := true } f = true →
      exec (.trd c f) s = .next (s.setCore c (pcNext (setS x f.d.toNat (tallyVal s y)))))) ∧
  (∀ (c : Nat) (f : Fields) (s : State) (x : CoreSt) (h : Nat), x = s.core c → h = targetOf x f →
    (coreReady s c (usesH f false) f = true → 1 ≤ h → h ≤ 8 → requestOf s c = none →
      (coreTotal s c < h → exec (.stoke c f) s =
        .next { s.setCore c (pcNext x) with token := { s.token with sent := s.token.sent ++ [⟨c, h, s.ao.ticks⟩] } }) ∧
      (h ≤ coreTotal s c → exec (.stoke c f) s = .next (s.setCore c (pcNext x)))) ∧
    (coreReady s c (usesH f false) f = true → h = 0 ∨ 8 < h → Raises (.stoke c f) s c 0x3) ∧
    (coreReady s c (usesH f true) f = true → ∀ e ∈ [Instr.ease, Instr.easeR], ∀ l : Option Nat,
      l = (if f.x.getLsbD 0 then (if x.tok.seen then recallTarget x.tok else none) else some h) →
      (l = none → exec (e c f) s = .next (s.setCore c (pcNext x))) ∧
      (f.x.getLsbD 0 = false → h = 0 ∨ 8 < h → Raises (e c f) s c 0x3) ∧
      (∀ r, l = some r → 1 ≤ r → r ≤ 8 → x.tok.committed = 0 → Answers (e c f) s fun t =>
        (t.core c).tok.held = min x.tok.held r ∧ (t.core c).pc = (pcNext x).pc ∧ (t.core c).s = x.s ∧
        (counting s = true → r < x.tok.held → t.ledgers.tok = tokEase (x.tok.held - r) s.ledgers.tok)) ∧
      (∀ r, l = some r → 1 ≤ r → r ≤ 8 → 0 < x.tok.committed → Answers (e c f) s fun t =>
        (t.core c).tok.held = x.tok.held ∧ (t.core c).tok.cap = min x.tok.cap r ∧ (t.core c).pc = (pcNext x).pc)) ∧
    (coreReady s c {} f = true →
      (grantQuiet s c = true → exec (.grantw c f) s = .next (s.setCore c (pcNext x))) ∧
      (grantQuiet s c = false → Stalls (.grantw c f) s c (.grantw f)))) ∧
  (∀ (c : Nat) (f : Fields) (s : State) (x : CoreSt), x = s.core c → x.st = .running →
    (x.stall = some (.twait f) → x.wait = none →
      exec (.stalledInstructionComplete c) s = .next (s.setCore c (pcNext { x with stall := none }))) ∧
    (x.stall = some (.twait f) → x.wait ≠ none → exec (.stalledInstructionComplete c) s = .next s) ∧
    (c < 512 → (s.tile (c / 64)).st = .stoked → usesOk {} f = true → pcOver x = false →
      (x.stall = some (.grantw f) → grantQuiet s c = true →
        exec (.stalledInstructionComplete c) s = .next (s.setCore c (pcNext { x with stall := none }))) ∧
      (x.stall = some (.fence f) → allLanded s c = true →
        exec (.stalledInstructionComplete c) s = .next (s.setCore c (pcNext { x with stall := none })))))

/-! ### Memory stacks (chapter 13) -/

/-- Device memory: stream engines move whole units; the scrubber counts what it finds; a second failed PHY retraining and a
write of RETIRE retire a channel, of which the fifth is refused; BAR2 reads and writes bytes, answers Unsupported Request
before the device is ready, flags poisoned data, and drops a write that covers part of a poisoned line (R415 to R420, R421 to
R431, Table 13.9). Readings of the model it rests on: log entries 8, 58, 59. -/
def Obligations.MemoryCommands : Prop :=
  (∀ (c e : Nat) (s : State) (x : CoreSt) (g : EngineSt) (a : Nat), x = s.core c → g = engOf x e → a = unitAddr g → c < 512 → e < 4 →
    g.run = .running → stackUp s (dpaStack a) = true → (s.stack (dpaStack a)).retiring = false → mappedAll s a (unitBytes g) = true →
    (g.mode = 2 → ∀ r : EccFound, Answers (.streamEngineTransfer c e r) s fun t =>
      memRead t a 64 = lsRead x (unitLs g) 64 ∧ (∀ b, b < a ∨ a + 64 ≤ b → memRead t b 1 = memRead s b 1) ∧
      t.core c = setEng x e (nextUnit g) ∧ ∀ j, j ≠ c → t.core j = s.core j) ∧
    (g.mode = 1 → firstPoison s a 64 = none → exec (.streamEngineTransfer c e []) s =
      .next (s.setCore c (setEng (lsWrite x (unitLs g) (memRead s a 64)) e (nextUnit g)))) ∧
    (g.mode = 0 → g.inFmt ≠ 6 → g.tiles.length < 8 → firstPoison s a (unitBytes g) = none →
      exec (.streamEngineTransfer c e []) s = .next (s.setCore c (setEng x e { (nextUnit g) with
        tiles := g.tiles ++ [(List.range 1024).map (fun p => BitVec.ofNat 16 (elemAt g.inFmt (memRead s a (unitBytes g)) p))] }))) ∧
    (g.mode = 1 → (firstPoison s a 64).isSome = true → Answers (.streamEngineTransfer c e []) s fun t =>
      engOf (t.core c) e = { g with run := .faulted, cause := 3 } ∧ (t.core c).ls = x.ls)) ∧
  (∀ (k l : Nat) (s : State) (a : Nat), a = k * 2 ^ 36 + 64 * l → k < 8 → stackUp s k = true → (s.stack k).retiring = false →
    64 * l < stackMib (s.stack k) * 2 ^ 20 → poisoned s a = false →
    (Answers (.scrub k l .clean) s fun t => t = s.setStack k { s.stack k with donePct := (t.stack k).donePct }) ∧
    (∀ (row : Nat) (sp : Bool) (more : List Nat), (lastDay s (look [] (s.stack k).rowErrs (rowKey (lineChannel s a) row))).length < 3 → Answers (.scrub k l (.corrected row sp more)) s fun t =>
      (t.stack k).corr = satInc (s.stack k).corr 0xFFFF ∧ t.mem.data = s.mem.data ∧ t.mem.poison = s.mem.poison) ∧
    (∀ (row : Nat), (s.stack k).gone.length < 4 → Answers (.scrub k l (.uncorrectable row true [])) s fun t =>
      poisoned t a = true ∧ (t.stack k).uncorr = satInc (s.stack k).uncorr 0xFFFF ∧ t.mem.data = s.mem.data)) ∧
  (∀ (k : Nat) (w : RegWrite) (s : State), writeOk s (.mem k) w = true →
    (w.full = true → w.value.getLsbD 8 = true → (s.tile k).st = .kindled → plateOnTile s k = false →
      (s.stack k).gone.contains (fld w.value.toNat 0 5) = false →
      ((s.stack k).gone.length < 4 → (s.stack k).cond = .good → (s.stack k).retiring = false → Answers (.retire k w) s fun t =>
        (t.stack k).gone = (s.stack k).gone ++ [fld w.value.toNat 0 5] ∧ (t.stack k).retiring = true ∧ t.mem.data = s.mem.data ∧
        stackMib (t.stack k) = capMib ((s.stack k).gone.length + 1) ∧ caused t (.mem k) 2 = true) ∧
      (4 ≤ (s.stack k).gone.length → Answers (.retire k w) s fun t =>
        t.mem = s.mem ∧ (t.hdr (.mem k)).lastRefusal = word [(0, 0x07), (8, 0x70), (24, w.master.num)])) ∧
    (w.ones.getLsbD 31 = true → exec (.lostListClear k w) s = .next (s.setStack k { s.stack k with lostList := [], overflow := false }))) ∧
  (∀ (k : Nat) (s : State), (s.stack k).retiring = true → (s.stack k).retireNext = [] → (s.stack k).hotDue = false → s.power.trans = none →
    exec (.channelRetireDone k) s = .next (s.setStack k { s.stack k with retiring := false })) ∧
  (∀ (k ch : Nat) (s : State), k < 8 → ch < 32 → stackUp s k = true →
    ((look {} (s.stack k).chans ch).phyFails = 0 → Answers (.hbmPhyRetrainFail k ch) s fun t =>
      (look {} (t.stack k).chans ch).phyFails = 1 ∧ (t.stack k).gone = (s.stack k).gone ∧ t.mem.data = s.mem.data) ∧
    (1 ≤ (look {} (s.stack k).chans ch).phyFails → (s.stack k).gone.contains ch = false → (s.stack k).gone.length < 4 →
      (s.stack k).retiring = false → Answers (.hbmPhyRetrainFail k ch) s fun t =>
        (t.stack k).gone = (s.stack k).gone ++ [ch] ∧ (t.stack k).retiring = true)) ∧
  (∀ (a n : Nat) (l : List EccRead) (s : State), isReady s = false → exec (.bar2Read a n l) s = .next (emit s (.unsupported a))) ∧
  (∀ (a n : Nat) (s : State), isReady s = true → bar2Bad s a n = none →
    (firstPoison s a n = none → exec (.bar2Read a n []) s = .next (emit s (.bar2Data (memRead s a n) false))) ∧
    ((firstPoison s a n).isSome = true → Answers (.bar2Read a n []) s fun t =>
      (∃ v, v.length = n ∧ t.out = s.out ++ [.bar2Data v true, .aer]) ∧ t.mem = s.mem)) ∧
  (∀ (a : Nat) (b : List Byte) (s : State), isReady s = true → bar2Bad s a b.length = none →
    ((partialLines a b.length).any (poisoned s) = false → Answers (.bar2Write a b) s fun t =>
      memRead t a b.length = b ∧ (∀ k, k < a ∨ a + b.length ≤ k → memRead t k 1 = memRead s k 1) ∧
      (∀ l ∈ linesOf a b.length, a ≤ l → l + 64 ≤ a + b.length → poisoned t l = false) ∧ t.cores = s.cores) ∧
    ((partialLines a b.length).any (poisoned s) = true → Answers (.bar2Write a b) s fun t =>
      t.mem = s.mem ∧ (logOpen s = true → newest t 0x4006 [a % 2 ^ 32, a / 2 ^ 32 % 2 ^ 32, 2, 0] = true)))

/-! ### Tenants (chapter 14) -/

/-- Partitions, quotas and drains: COMMIT makes a staged definition active when no plate is in the partition and nothing of
it overlaps another, and DISCARD drops it; PART changes only while the tenant has no plate; the quotas take legal values; a
drain begins and ends, and one in ABORT completes what is fetched with ABORTED (R441 to R445, R460 to R463). Readings of the
model it rests on: log entry 87. -/
def Obligations.PartitionsQuotasAndDrains : Prop :=
  (∀ (n : Nat) (w : RegWrite) (s : State), writeOk s (.tenant n) w = true → w.full = true →
    (w.value.getLsbD 0 = true → defBeyond s (s.part n).staged = false → platesIn s n = 0 →
      (s.parts.any (fun e => decide (e.1 ≠ n) && defsMeet (s.part n).staged e.2.active) = false → Answers (.commit n w) s fun t =>
        (t.part n).active = (s.part n).staged ∧ (t.part n).staged = (s.part n).staged ∧ (∀ j, j ≠ n → t.part j = s.part j) ∧
        t.tenants = s.tenants ∧ t.mem = s.mem) ∧
      (s.parts.any (fun e => decide (e.1 ≠ n) && defsMeet (s.part n).staged e.2.active) = true → Answers (.commit n w) s fun t =>
        t.parts = s.parts ∧ (t.hdr (.tenant n)).lastRefusal = word [(0, 0x07), (8, 0x9C), (24, w.master.num)])) ∧
    (w.value.getLsbD 0 = true → defBeyond s (s.part n).staged = false → platesIn s n ≠ 0 → Answers (.commit n w) s fun t =>
      t.parts = s.parts ∧ (t.hdr (.tenant n)).lastRefusal = word [(0, 0x02), (8, 0x9C), (24, w.master.num)]) ∧
    (w.value.getLsbD 0 = false → w.value.getLsbD 1 = true →
      exec (.discard n w) s = .next (s.setPart n { s.part n with staged := (s.part n).active }))) ∧
  (∀ (n : Nat) (w : RegWrite) (s : State) (x : TenantSt), writeOk s (.tenant n) w = true → x = s.tenant n →
    (∀ v : Word, v = w.merged (tenCfgWord x) → platesHeld s n = 0 →
      exec (.partWrite n w) s = .next (s.setTenant n { x with part := fld v.toNat 0 5, assigned := v.getLsbD 8 })) ∧
    (∀ v : Nat, v = fld (w.merged (w32 x.tokQuota)).toNat 0 13 →
      (1 ≤ v → v ≤ 4928 → largestTokens s n ≤ v → Answers (.tokQuotaWrite n w) s fun t =>
        t.tenant n = { x with tokQuota := v } ∧ (∀ j, j ≠ n → t.tenant j = s.tenant j) ∧ t.cores = s.cores ∧ t.ledgers = s.ledgers) ∧
      (v = 0 ∨ 4928 < v → Answers (.tokQuotaWrite n w) s fun t =>
        t.tenants = s.tenants ∧ (t.hdr (.tenant n)).lastRefusal = word [(0, 0x03), (8, 0x44), (24, w.master.num)])) ∧
    (∀ v : Nat, v = fld (w.merged (w32 x.tallyQuota)).toNat 0 13 → v ≤ 4096 → talliesHeld s n ≤ v →
      exec (.tallyQuotaWrite n w) s = .next (s.setTenant n { x with tallyQuota := v })) ∧
    (∀ v : Word, v = w.merged (drainWord x) →
      (v.getLsbD 0 = true → x.go = false → (slotList s).all (fun e => decide (e.2.tenant ≠ n)) = true → Answers (.tenantDrainStart n w) s fun t =>
        s.host.fetching = none → s.host.fetchDrains = [] →
        t.tenant n = { x with go := true, mode := v.getLsbD 1, done := true, aborted := 0, resetDrain := false } ∧ caused t (.tenant n) 2 = true ∧
        (∀ j, j ≠ n → t.tenant j = s.tenant j) ∧ t.host = s.host) ∧
      (v.getLsbD 0 = true → v.getLsbD 1 = true → x.go = false → ∀ (k : Nat) (c : Cmd), s.cmd k = some c → c.tenant = n → c.st = .fetched →
        executes c = true → c.discard = false → Answers (.tenantDrainStart n w) s fun t => CompletesWith t k 0x22) ∧
      (v.getLsbD 0 = false → x.go = true → v.getLsbD 1 = x.mode →
        exec (.tenantDrainEnd n w) s = .next (s.setTenant n { x with go := false, done := false }))))

/-- Commands on cores: the start of a run gives each of its cores a fresh program with the slot's entry and the command
block's address in s1; in a shared partition a quantum that others wait for ends in a save of every core, and a restored
command goes on at its saved PCs (R452, R455 to R459). Readings of the model it rests on: log entries 23, 85, 86. -/
def Obligations.CommandsStartAndSwitch : Prop :=
  (∀ (k q : Nat) (s : State) (c : Cmd) (p : Plate) (i : Instr), s.cmd k = some c → cmdPlate s c = some p → c.st = .fetched →
    hubOn s = true → ledgerFaulted s = false →
    ((i = .commandStart q [] ∧ (s.part q).active.shared = true ∧ nextRun s q = some (k, c)) ∨
     (i = .run k [] ∧ c.desc.opcode = 3 ∧ runReady s c = true ∧ (s.part p.part).active.shared = false)) →
    (partTiles s p.part).all (fun t => decide ((s.tile t).st = .stoked)) = true → argsOk s c p = true → lostCore s p = none → p.codeBad = none →
    Answers i s fun t =>
      (∃ c', t.cmd k = some c' ∧ c'.st = .running ∧ c'.cores = plateCores p ∧ c'.switch = .on ∧ c'.startAt = s.ao.ticks) ∧
      (∀ n ∈ plateCores p, (t.core n).st = .running ∧ (t.core n).slot = some k ∧ sreg (t.core n) 1 = 0x17FF00 ∧ (t.core n).queues = []) ∧
      (∀ x, p.slots = [x] → ∀ n ∈ slotCores x, (t.core n).pc = x.entry) ∧ (counting s = true → c.counted = true →
        t.ledgers.slots = { s.ledgers.slots with fetched := s.ledgers.slots.fetched - 1, running := s.ledgers.slots.running + 1 })) ∧
  (∀ (q : Nat) (ecc : EccFound) (s : State), nextRun s q = none → exec (.commandStart q ecc) s = .next s) ∧
  (∀ (k : Nat) (s : State) (c : Cmd) (p : Plate), s.cmd k = some c → cmdPlate s c = some p → c.st = .running → c.ending = none →
    (c.switch = .on → c.aborting = false → (s.part p.part).active.shared = true → ledgerFaulted s = false → coresNeeded s k c p = true →
      exec (.quantumExpire k) s = .next (s.setCmd k (some { c with expired := true, switch := .leaving }))) ∧
    (c.switch = .leaving → ledgerFaulted s = false → stillRunning s k c ≠ [] → Answers (.yieldGraceExpire k) s fun t =>
      (∀ n ∈ stillRunning s k c, (t.core n).stopping = true ∧ (t.core n).st = .running) ∧ caused t (.tenant c.tenant) 3 = true ∧
      ∀ n, n ∉ stillRunning s k c → t.core n = s.core n) ∧
    (c.switch = .leaving → allHalted s k c = true → quiet s c.cores = true → ledgerFaulted s = false → Answers (.switchOut k) s fun t =>
      (∃ c', t.cmd k = some c' ∧ c'.switch = .saving ∧ c'.saved = c.cores.map (fun n => ⟨n, s.core n⟩)) ∧
      ∀ n ∈ c.cores, (t.core n).st = .idle ∧ (t.core n).slot = none) ∧
    (c.switch = .saving → c.aborting = false → exec (.saveDone k) s = .next (s.setCmd k (some { c with switch := .out }))) ∧
    (c.switch = .saving → c.aborting = true → c.discard = false → Answers (.saveDone k) s fun t => CompletesWith t k 0x22) ∧
    (c.switch = .restoring → c.aborting = false → restorePoison s p = none → Answers (.restoreDone k []) s fun t =>
      (∃ c', t.cmd k = some c' ∧ c'.switch = .on ∧ c'.saved = []) ∧
      ∀ x ∈ p.slots, ∀ n ∈ slotCores x, ∀ v, c.saved.find? (fun v => v.core = n) = some v →
        (t.core n).pc = v.st.pc ∧ (t.core n).s = v.st.s ∧ (t.core n).slot = some k ∧
        (t.core n).st = (if v.st.ended then .idle else .running)))

/-! ### The host interface (chapter 15) -/

/-- Queues: ENABLE from 0 to 1 starts a queue afresh, and to 0 stops an empty one; doorbells, returned entries and SLOT_LIMIT
take legal values, and a doorbell beyond the ring is refused (R480 to R483, R504). Descriptors are fetched in rotation while
the link is in L0 and a slot is free; one that Table 15.3 forbids completes with OUT_OF_RANGE, and one whose tag the queue
remembers completes as its duplicate (R485 to R489, R497, R499). Readings of the model it rests on: log entry 89. -/
def Obligations.QueuesAndDescriptors : Prop :=
  (∀ (q : Nat) (w : RegWrite) (s : State) (x : QueueSt) (v : Word), q < 258 → writeOk s (queuePage q) w = true → x = s.queue q →
    v = w.merged (word [(0, b2n x.enable), (1, b2n (s.hdr (queuePage q)).freeze)]) → v.getLsbD 1 = (s.hdr (queuePage q)).freeze →
    (v.getLsbD 0 = true → x.enable = false → Answers (.queueEnable q w) s fun t =>
      t = s.setQueue q (t.queue q) ∧ (t.queue q).enable = true ∧ (t.queue q).fault = false ∧ (t.queue q).sqHead = 0 ∧ (t.queue q).sqTail = 0 ∧
      (t.queue q).cqHead = 0 ∧ (t.queue q).cqTail = 0 ∧ (t.queue q).phase = true ∧ (t.queue q).history = [] ∧
      (t.queue q).sqBase = x.sqBase ∧ (t.queue q).cqBase = x.cqBase ∧ (t.queue q).log2 = x.log2) ∧
    (v.getLsbD 0 = false → x.enable = true → x.fault = false → queueCmds s q = [] → Answers (.queueDisable q w) s fun t =>
      (t.queue q).enable = false ∧ (t.queue q).history = x.history ∧ (∀ j, j ≠ q → t.queue j = s.queue j) ∧ t.host.cmds = s.host.cmds) ∧
    (v.getLsbD 0 = false → x.enable = true → x.fault = false → queueCmds s q ≠ [] → Answers (.queueDisable q w) s fun t => t.host = s.host)) ∧
  (∀ (q : Nat) (w : RegWrite) (s : State) (x : QueueSt), q < 258 → writeOk s (queuePage q) w = true → x = s.queue q →
    (∀ v : Nat, v = fld (w.merged (w32 x.sqTail)).toNat 0 12 → x.sqTail < 4096 →
      (v < ringSize x → x.enable = true → exec (.sqTail q w) s = .next (s.setQueue q { x with sqTail := v })) ∧
      (ringSize x ≤ v → Answers (.sqTail q w) s fun t =>
        t.host = s.host ∧ (t.hdr (queuePage q)).lastRefusal = word [(0, 0x03), (8, queueOff q 6), (24, w.master.num)])) ∧
    (∀ v : Nat, v = fld (w.merged (w32 x.cqHead)).toNat 0 12 → x.cqHead < 4096 → v < ringSize x →
      (v + ringSize x - x.cqHead) % ringSize x ≤ (x.cqTail + ringSize x - x.cqHead) % ringSize x → Answers (.cqHead q w) s fun t =>
        (t.queue q).cqHead = v ∧ t = s.setQueue q { x with cqHead := v, fullLogged := (t.queue q).fullLogged })) ∧
  (∀ (w : RegWrite) (s : State) (v : Nat), writeOk s .hostif w = true →
    v = fld (w.merged (word [(0, (s.tenant s.host.tenSel).slotLimit)])).toNat 0 9 → 1 ≤ v → v ≤ 256 →
    exec (.slotLimitWrite w) s = .next (s.setTenant s.host.tenSel { s.tenant s.host.tenSel with slotLimit := v })) ∧
  (∀ (s : State) (q : Nat), isReady s = true → s.ao.l0 = true → s.host.fetching = none → (slotList s).length < 256 → nextFetch s = some q →
    exec .descriptorFetchStart s = .next { s with
      host := { s.host with fetching := some q, fetchDrains := [], fetchReset := false, lastFetched := (q + 1) % 258 },
      out := s.out ++ [.hostRead (queueFn q) ((s.queue q).sqBase.toNat + 64 * (s.queue q).sqHead) 64] }) ∧
  (∀ (b : List Byte) (s : State) (q k : Nat) (d : Desc), s.host.fetching = some q → b.length = 64 → d = descOf b → k = freeSlotNo s →
    s.host.pathLost = false → s.ao.l0 = true → s.host.fetchReset = false → s.host.fetchDrains = [] →
    ((∀ o, firstOff (descRules (isAdm q) d) = some o → Answers (.descriptorReceived b) s fun t =>
        CompletesWith t k 0x03 ∧ (t.queue q).refused = satInc (s.queue q).refused 0xFFFF ∧
        (t.queue q).sqHead = ((s.queue q).sqHead + 1) % ringSize (s.queue q)) ∧
     (firstOff (descRules (isAdm q) d) = none →
      (∀ r, (s.queue q).history.find? (fun r => r.tag = d.tag) = some r → Answers (.descriptorReceived b) s fun t =>
        CompletesWith t k r.status ∧ (t.queue q).dups = satInc (s.queue q).dups 0xFFFF) ∧
      ((s.queue q).history.find? (fun r => r.tag = d.tag) = none → queueCmds s q = [] → (k < 256 → s.cmd k = none) → Answers (.descriptorReceived b) s fun t =>
        (∃ c, t.cmd k = some c ∧ c.st = .fetched ∧ c.desc = d ∧ c.queue = q ∧ c.dupOf = none) ∧ t.host.fetching = none ∧
        (counting s = true → t.ledgers.slots = { s.ledgers.slots with free := s.ledgers.slots.free - 1, fetched := s.ledgers.slots.fetched + 1 })))))

/-- Commands begin and end: NOP succeeds; a load is refused or admitted as Table 14.5 gives, with its cause, handle and
record; an unload frees a plate that is not in use; a waiting duplicate completes when its original's record is written. A
ready record goes to the ring, enters the tag history and frees its slot; a full ring is reported once; a DMA that fails
twice puts the queue in FAULT (R447 to R451, R484 to R497, R506, R507). Readings of the model it rests on: log entries 88,
89. -/
def Obligations.CommandsCompleteAndAreRecorded : Prop :=
  (∀ (k : Nat) (s : State) (c : Cmd), s.cmd k = some c → hubOn s = true → mayBegin s c = true → c.discard = false → c.cores = [] →
    (c.desc.opcode = 4 → Answers (.nopCommand k) s fun t => CompletesWith t k 0x00 ∧ t.cores = s.cores ∧ t.mem = s.mem) ∧
    (c.desc.opcode = 1 → (∀ code res slot off, admission s c.tenant c.desc.addr = .refuse code res slot off → Answers (.load k []) s fun t =>
        CompletesWith t k code ∧ (t.tenant c.tenant).plates = (s.tenant c.tenant).plates ∧ t.mem = s.mem ∧ caused t (.tenant c.tenant) 1 = true) ∧
      (∀ p, admission s c.tenant c.desc.addr = .accept p → Answers (.load k []) s fun t =>
        CompletesWith t k 0x00 ∧ plateOf t c.tenant (freeHandle s c.tenant) = some p ∧ caused t (.tenant c.tenant) 0 = true ∧
        (t.tenant c.tenant).admCode = 0 ∧ (t.tenant c.tenant).admHandle = freeHandle s c.tenant ∧ t.cores = s.cores)) ∧
    (c.desc.opcode = 2 → (plateOf s c.tenant c.desc.handle = none → Answers (.unload k) s fun t =>
        CompletesWith t k 0x03 ∧ t.mem = s.mem) ∧
      (∀ p, plateOf s c.tenant c.desc.handle = some p → plateInUse s c.tenant c.desc.handle = true → Answers (.unload k) s fun t =>
        CompletesWith t k 0x02 ∧ plateOf t c.tenant c.desc.handle = some p) ∧
      (∀ p, plateOf s c.tenant c.desc.handle = some p → plateInUse s c.tenant c.desc.handle = false → Answers (.unload k) s fun t =>
        CompletesWith t k 0x00 ∧ plateOf t c.tenant c.desc.handle = none ∧
        ∀ h, h ≠ c.desc.handle → plateOf t c.tenant h = plateOf s c.tenant h))) ∧
  (∀ (k : Nat) (s : State) (c : Cmd) (r : CompRec), s.cmd k = some c → c.ending = some r → c.st = .fetched → executes c = false → c.discard = false →
    Answers (.duplicateComplete k) s fun t => CompletesWith t k r.status ∧ (t.queue c.queue).dups = satInc (s.queue c.queue).dups 0xFFFF) ∧
  (∀ (q k : Nat) (s : State) (c : Cmd) (r : CompRec) (x : QueueSt), canWrite s q = true → firstReady s q = some (k, c, r) → s.cmd k = some c →
    x = s.queue q → Answers (.completionRecordWrite q) s fun t =>
      t.cmd k = none ∧ (t.queue q).cqTail = (x.cqTail + 1) % ringSize x ∧ (t.queue q).phase = (if (x.cqTail + 1) % ringSize x = 0 then !x.phase else x.phase) ∧
      (t.queue q).history = (if remembered r then (r :: x.history).take 64 else x.history) ∧
      .hostWrite (queueFn q) (x.cqBase.toNat + 32 * x.cqTail) (completionBytes x r) ∈ t.out ∧
      (counting s = true → c.counted = true → t.ledgers.slots.free = s.ledgers.slots.free + 1 ∧ t.ledgers.slots.completed = s.ledgers.slots.completed + 1)) ∧
  (∀ (q : Nat) (s : State), q < 258 → (s.queue q).enable = true → ringFull (s.queue q) = true → (s.queue q).fullLogged = false →
    Answers (.cqFullTimeout q) s fun t => (t.queue q) = { s.queue q with fullLogged := true } ∧ (∀ j, j ≠ q → t.queue j = s.queue j) ∧
      (logOpen s = true → newest t 0x5013 [q % 2 ^ 32, heldRecords s q % 2 ^ 32, 0, 0] = true)) ∧
  (∀ (q : Nat) (s : State) (x : QueueSt), x = s.queue q → s.host.fetching = some q →
    s.ao.l0 = true → s.host.fetchReset = false →
    (x.readFailed = false → exec (.dmaFailure q false) s = .next (emit (s.setQueue q { x with readFailed := true })
      (.hostRead (queueFn q) (x.sqBase.toNat + 64 * x.sqHead) 64))) ∧
    (x.readFailed = true → Answers (.dmaFailure q false) s fun t =>
      (t.queue q).fault = true ∧ t.host.fetching = none ∧ ∀ j, j ≠ q → t.queue j = s.queue j)) ∧
  (∀ (q k : Nat) (s : State) (c : Cmd) (r : CompRec) (x : QueueSt), x = s.queue q → canWrite s q = true → firstReady s q = some (k, c, r) →
    (x.writeFailed = false → exec (.dmaFailure q true) s = .next (s.setQueue q { x with writeFailed := true })) ∧
    (x.writeFailed = true → Answers (.dmaFailure q true) s fun t =>
      (t.queue q).fault = true ∧ t.host.cmds = s.host.cmds ∧ (∀ j, j ≠ q → t.queue j = s.queue j) ∧
      (logOpen s = true → newest t 0x5014 [q % 2 ^ 32, r.tag.toNat % 2 ^ 32, c.desc.opcode % 2 ^ 32, 0xFF] = true)))

/-! ### Link signalling (chapter 16) -/

/-- Training: a lane locks, detects, draws roles, does each phase's work and goes on when both ends are ready, up to VERIFY,
after which it is UP; every way to fail is counted and restarts it or ends in FAILED; RETRAIN starts over (R519 to R525,
R537, R543). Readings of the model it rests on: log entries 22, 61, 62. -/
def Obligations.LanesTrain : Prop :=
  (∀ (i : Nat) (s : State) (x : LaneSt), x = s.lane i →
    (x.phase = 1 → exec (.synthLock i) s = .next (s.setLane i { x with phase := 2, synth := true })) ∧
    (x.phase = 1 → (s.port (lanePort i)).st = .training → TrainFails (.synthLockTimeout i) s i 1) ∧
    (x.phase = 2 → exec (.detectPreambleSend i) s = .next (emit s (.preamble i))) ∧
    (∀ corr : List Int, wakeFound corr = false → exec (.preambleDetected i corr) s = .next s) ∧
    (∀ corr : List Int, wakeFound corr = true → x.phase = 2 → Answers (.preambleDetected i corr) s fun t =>
      (t.lane i).phase = 3 ∧ (t.lane i).detectAt = s.ao.ticks ∧ (t.lane i).draw = (Config.freeWord s.free).setWidth 16 ∧
      (t.lane i).log2nUsed = x.log2n ∧ .control i (ctrlWord 3 1 (rolePayload t i) ((x.sendSeq.toNat + 1) % 256)) ∈ t.out ∧
      (∀ j, j ≠ i → t.lane j = s.lane j) ∧ t.links.ports = s.links.ports) ∧
    (∀ corr : List Int, wakeFound corr = true → x.phase = 11 → exec (.preambleDetected i corr) s = .next (emit
      (s.setLane i { x with phase := 12, waker := false, wakeAt := none, wakeRetried := false, impSeen := false }) (.preamble i))) ∧
    (inTraining x = true → (s.port (lanePort i)).st = .training → TrainFails (.phaseBoundExpire i) s i 6) ∧
    (x.phase = 9 → x.seedSent = true → x.seedRx.isSome = true → ∀ u snr : Nat,
      (snr < 207 → (s.port (lanePort i)).st = .training → TrainFails (.verifyEnd i u snr) s i 7) ∧
      (207 ≤ snr → u ≠ 0 → (s.port (lanePort i)).st = .training → TrainFails (.verifyEnd i u snr) s i 8) ∧
      (207 ≤ snr → u = 0 → Answers (.verifyEnd i u snr) s fun t =>
        t.lane i = { x with phase := 10, attempts := 0, snr := snr % 4096, lastUs := min (usSince s x.detectAt) 0xFFFF } ∧
        caused t (.lane i) 0 = true ∧ (∀ j, j ≠ i → t.lane j = s.lane j) ∧
        ((s.port (lanePort i)).st = .training → i ∈ portLanes s (lanePort i) →
          (∀ j ∈ portLanes s (lanePort i), j ≠ i → (s.lane j).phase = 10 ∨ (s.lane j).phase = 15 ∨ (s.lane j).dropped = true) →
          (t.port (lanePort i)).st = .identify)))) ∧
  (∀ (i : Nat) (w : DWord) (s : State) (x : LaneSt), x = s.lane i →
    (x.phase = 3 → wordNew x 1 w = true → ∀ opt : Bool, opt = (s.port (lanePort i)).optical →
      (bit (cwPay w) 16 ≠ opt ∨ fld (cwPay w) 17 5 ≠ x.log2nUsed → (s.port (lanePort i)).st = .training → TrainFails (.role i w) s i 3) ∧
      (bit (cwPay w) 16 = opt → fld (cwPay w) 17 5 = x.log2nUsed →
        (fld (cwPay w) 0 16 ≠ x.draw.toNat → x.ownDone = false → Answers (.role i w) s fun t =>
          (t.lane i).follower = decide (x.draw.toNat < fld (cwPay w) 0 16) ∧ (t.lane i).phase = (if x.farReady then 4 else 3) ∧
          (x.farReady = false → (t.lane i).ownDone = true) ∧ ∀ j, j ≠ i → t.lane j = s.lane j) ∧
        (fld (cwPay w) 0 16 = x.draw.toNat → x.equalDraws < 7 → Answers (.role i w) s fun t =>
          (t.lane i).equalDraws = x.equalDraws + 1 ∧ (t.lane i).phase = 3 ∧ (t.lane i).draw = (Config.freeWord s.free).setWidth 16) ∧
        (fld (cwPay w) 0 16 = x.draw.toNat → 7 ≤ x.equalDraws → (s.port (lanePort i)).st = .training → TrainFails (.role i w) s i 2))) ∧
    (inTraining x = true → cwPhase w = x.phase → wordNew x 2 w = true → Answers (.ready i w) s fun t =>
      (t.lane i).phase = (if x.ownDone && x.phase ≤ 8 then nextPhase (s.port (lanePort i)).optical x.phase else x.phase) ∧
      (x.ownDone = false ∨ x.phase = 9 → (t.lane i).farReady = true)) ∧
    (x.phase = 8 → wordNew x 3 w = true → Answers (.presetReq i w) s fun t =>
      t.lane i = { x with
        lastSeq := some (BitVec.ofNat 8 (cwSeq w)), preset := if x.force then x.presetForce else BitVec.ofNat 3 (cwPay w) } ∧ ∀ j, j ≠ i → t.lane j = s.lane j) ∧
    (x.phase = 9 → fld (cwPay w) 0 31 ≠ 0 → wordNew x 4 w = true → Answers (.seed i w) s fun t =>
      t.lane i = { x with lastSeq := some (BitVec.ofNat 8 (cwSeq w)), seedRx := some (BitVec.ofNat 31 (cwPay w)) } ∧
      ∀ j, j ≠ i → t.lane j = s.lane j) ∧
    (inTraining x = true → wordNew x 6 w = true → (s.port (lanePort i)).st = .training → TrainFails (.abort i w) s i 9)) ∧
  (∀ (i : Nat) (m : LaneMeas) (s : State) (x : LaneSt) (opt : Bool), x = s.lane i → opt = (s.port (lanePort i)).optical → x.ownDone = false →
    (x.phase = 4 → x.follower = true → m.fofs < -25000 ∨ 25000 < m.fofs → (s.port (lanePort i)).st = .training →
      TrainFails (.trainingPhaseDone i m) s i 4) ∧
    (x.phase = 7 → opt = false → 350 < m.oneWay → (s.port (lanePort i)).st = .training → TrainFails (.trainingPhaseDone i m) s i 5) ∧
    (4 ≤ x.phase → x.phase ≤ 8 → (x.phase = 4 → x.follower = true → -25000 ≤ m.fofs ∧ m.fofs ≤ 25000) →
      (x.phase = 7 → opt = false → m.oneWay ≤ 350) → Answers (.trainingPhaseDone i m) s fun t =>
        (t.lane i).phase = (if x.farReady then nextPhase opt x.phase else x.phase) ∧ (x.farReady = false → (t.lane i).ownDone = true) ∧
        (x.phase = 4 → (t.lane i).fofs = m.fofs ∧ (t.lane i).trim = (if x.follower then m.fofs else 0)) ∧
        (x.phase = 7 → (t.lane i).oneWay = m.oneWay % 65536) ∧
        (x.phase = 8 → .control i (ctrlWord 8 3 m.bestPreset.toNat ((x.sendSeq.toNat + 1) % 256)) ∈ t.out))) ∧
  (∀ (i : Nat) (w : RegWrite) (s : State) (x : LaneSt), writeOk s (.lane i) w = true → x = s.lane i → w.ones.getLsbD 0 = true →
    (x.phase = 0 → Answers (.retrain i w) s fun t => t.links = s.links ∧ (t.hdr (.lane i)).lastRefusal = word [(0, 0x02), (8, 0x40), (24, w.master.num)]) ∧
    (x.phase ≠ 0 → x.phase ≠ 10 → x.phase ≠ 11 → x.phase ≠ 12 → Answers (.retrain i w) s fun t =>
      (t.lane i).phase = (if x.synth then 2 else 1) ∧ (t.lane i).attempts = 0 ∧ t.links.ports = s.links.ports ∧ ∀ j, j ≠ i → t.lane j = s.lane j) ∧
    (x.phase = 10 → leavesUp s i = true → Answers (.retrain i w) s fun t => LeftUp s t i ∧ caused t (.lane i) 1 = true))

/-- Data, impulses and sleep: steering moves by at most 0.1 ppm at a time and not while adaptation is held; SNR, noise floor
and decoder counts are shown; marked blocks and runs count; a degraded lane is told of, and left out where the plan asks; a
lane that loses alignment trains again; a wake names a superblock, is tried twice, and then the lane is down (R528 to R545).
Readings of the model it rests on: log entries 62, 63. -/
def Obligations.LanesCarrySleepAndWake : Prop :=
  (∀ (i : Nat) (ofs : Int) (s : State) (x : LaneSt), x = s.lane i → x.phase = 10 →
    (x.follower = false → exec (.steeringUpdate i ofs) s = .next (s.setLane i { x with fofs := ofs })) ∧
    (x.follower = true → x.holdAdapt = true ∨ 0 < x.runBlocks → exec (.steeringUpdate i ofs) s = .next s) ∧
    (x.follower = true → x.holdAdapt = false → x.runBlocks = 0 → ∀ v : Int, v = x.trim + clampI (-10) 10 ofs →
      (-25000 ≤ v → v ≤ 25000 → exec (.steeringUpdate i ofs) s = .next (s.setLane i { x with fofs := ofs, trim := v })) ∧
      (v < -25000 ∨ 25000 < v → leavesUp s i = true → Answers (.steeringUpdate i ofs) s fun t => LeftUp s t i ∧ caused t (.lane i) 1 = true))) ∧
  (∀ (i snr c u : Nat) (s : State) (x : LaneSt), x = s.lane i → x.phase = 10 →
    exec (.snrUpdate i snr c u none) s = .next (s.setLane i { x with
      snr := snr % 4096, lowSince := if snr % 4096 < 187 then some (x.lowSince.getD s.ao.ticks) else none, fecCorr := min (x.fecCorr + c) 0xFFFFFFFF, fecUncorr := min (x.fecUncorr + u) 0xFFFFFFFF })) ∧
  (∀ (i : Nat) (s : State) (x : LaneSt) (y : PortSt), x = s.lane i → y = s.port (lanePort i) → x.phase = 10 →
    (x.lowSince = none ∨ (∃ k, x.lowSince = some k ∧ withinUs s k 10000 = true) → exec (.laneDegraded i) s = .next s) ∧
    ∀ k : Nat, x.lowSince = some k → withinUs s k 10000 = false →
    (y.dropDegraded = false ∨ y.st ≠ .up → Answers (.laneDegraded i) s fun t =>
      t.lane i = { x with degraded := true } ∧ caused t (.lane i) 4 = true ∧ (∀ j, j ≠ i → t.lane j = s.lane j) ∧
      t.links.ports = s.links.ports) ∧
    (y.dropDegraded = true → leavesUp s i = true → Answers (.laneDegraded i) s fun t => LeftUp s t i ∧ caused t (.lane i) 4 = true)) ∧
  (∀ (i : Nat) (s : State) (x : LaneSt), x = s.lane i →
    (∀ q : Nat, x.phase = 9 ∨ x.phase = 10 → exec (.quietWindow i (some q)) s = .next (s.setLane i { x with qsnr := q % 4096, windows := (x.windows + 1) % 65536 })) ∧
    exec (.quietWindow i none) s = .next s ∧
    (∀ err mean : Nat, err ^ 10 ≤ 10 ^ x.impDb * mean ^ 10 → exec (.impulseBlock i err mean) s = .next s) ∧
    (∀ err mean : Nat, 10 ^ x.impDb * mean ^ 10 < err ^ 10 → inTraining x = true ∨ x.phase = 10 ∨ x.phase = 12 →
      exec (.impulseBlock i err mean) s = .next (s.setLane i { x with
      impBlocks := satInc x.impBlocks 0xFFFF, runBlocks := x.runBlocks + 1, impSeen := x.impSeen || x.phase = 12 })) ∧
    (∀ u gap : Nat, gap ≤ x.impHold → exec (.impulseRunEnd i u gap) s = .next s) ∧
    (∀ u gap : Nat, x.runBlocks ≠ 0 → x.impHold < gap → Answers (.impulseRunEnd i u gap) s fun t =>
      t.lane i = { x with runs := satInc x.runs 0xFFFF, runBlocks := 0 } ∧ caused t (.lane i) 3 = true ∧
      (∀ j, j ≠ i → t.lane j = s.lane j) ∧ t.links.ports = s.links.ports) ∧
    (∀ f : Bool, x.phase = 10 →
      (leavesUp s i = true → Answers (.alignmentLost i f) s fun t => LeftUp s t i ∧ caused t (.lane i) 1 = true ∧
        (logOpen s = true → newest t 0x6005 [i % 2 ^ 32, if f then 4 else 0, (x.count + Config.freeWord s.free).toNat, 0] = true)) ∧
      ((s.port (lanePort i)).st ≠ .training → (s.port (lanePort i)).mask.getLsbD (i % 8) = false → Answers (.alignmentLost i f) s fun t =>
        (t.lane i).phase = 3 ∧ caused t (.lane i) 1 = true ∧ t.links.ports = s.links.ports))) ∧
  (∀ (i : Nat) (w : DWord) (s : State) (x : LaneSt) (k : Nat), x = s.lane i → x.phase = 12 → wordNew x 5 w = true → k = cwPay w % 65536 →
    Answers (.wake i w) s fun t =>
      t.lane i = { x with lastSeq := some (BitVec.ofNat 8 (cwSeq w)), wakeAt := some (x.wakeAt.elim k (fun a => laterBlock a k)) } ∧
      ∀ j, j ≠ i → t.lane j = s.lane j) ∧
  (∀ (i : Nat) (s : State) (x : LaneSt), x = s.lane i → x.phase = 12 →
    (x.waker = false → x.wakeAt = none →
      exec (.wakeFalseDetect i) s = .next (s.setLane i { x with phase := 11, falses := satInc x.falses 0xFFFF })) ∧
    (∀ (seen : Bool) (a : Nat), x.wakeAt = some a →
      (seen = true → x.impSeen = false → Answers (.wakeDataResume i seen) s fun t =>
        t.lane i = { x with phase := 10, wakes := satInc x.wakes 0xFFFF, count := countReached x.count a } ∧ (∀ j, j ≠ i → t.lane j = s.lane j) ∧
        ((s.port (lanePort i)).st = .asleep → (s.port (lanePort i)).drainDue = false →
          (∀ j ∈ maskLanes (lanePort i) (s.port (lanePort i)).mask, j ≠ i → (s.lane j).phase = 10) → (t.port (lanePort i)).st = .up)) ∧
      (seen = false ∨ x.impSeen = true → x.wakeRetried = false → ∀ (n : Word) (k : Nat), n = x.count + Config.freeWord s.free →
        k = wakeName x.log2nUsed n (Config.freeWord (s.free + 1)) → Answers (.wakeDataResume i seen) s fun t =>
        t.lane i = { x with wakeRetried := true, impSeen := false, waker := true, wakeAt := some k, count := n,
                            sendSeq := x.sendSeq + 1, msg := 5, msgPay := k } ∧ .preamble i ∈ t.out ∧
        .control i (ctrlWord 12 5 k ((x.sendSeq.toNat + 1) % 256)) ∈ t.out ∧ t.links.ports = s.links.ports) ∧
      (seen = false ∨ x.impSeen = true → x.wakeRetried = true → Answers (.wakeDataResume i seen) s fun t =>
        caused t (.lane i) 1 = true ∧ caused t (.lane i) 5 = true)))

/-! ### The link layer (chapter 17) -/

/-- Flits: a submitted flit enters the replay buffer and is sent when its channel has a credit; one received in sequence is
delivered and acknowledged, one ahead asks for a replay, one far out of sequence or beyond the buffers takes the port down;
a flit for a sleeping port wakes its lanes, which name the superblock at which data resumes; ACK frees entries, NAK and the timeout resend every one, and the sixteenth time without progress the port goes down (R549 to
R557, R567, R576). Readings of the model it rests on: log entries 30, 31, 63. -/
def Obligations.FlitsAreReplayed : Prop :=
  (∀ (p : Nat) (vc : BitVec 2) (b : List Byte) (s : State) (x : PortSt), x = s.port p → vc ≠ 3 → b.length ≤ 304 → x.closing = false →
    x.farDraining = false → x.unacked.length < 256 →
    (x.st = .up ∨ x.st = .reforming ∨ x.st = .testing ∨ x.st = .asleep → Answers (.flitSubmit p vc b) s fun t =>
      (t.port p).unacked = x.unacked ++ [⟨x.nextTx, vc, b, true⟩] ∧ (t.port p).nextTx = x.nextTx + 1 ∧ (∀ j, j ≠ p → t.port j = s.port j) ∧
      (counting s = true → ∀ r : ReplayRow, r = look {} s.ledgers.replay p →
        look {} t.ledgers.replay p = { r with free := r.free - 1, unacked := r.unacked + 1, sent := r.sent + 1 }) ∧
      (x.st = .asleep → ∀ i ∈ maskLanes p x.mask, (s.lane i).phase = 11 → (t.lane i).phase = 12 ∧ (t.lane i).wakeAt =
        some (wakeName (s.lane i).log2nUsed ((s.lane i).count + Config.freeWord s.free) (Config.freeWord (s.free + 1)))) ∧
      (x.st = .up → x.unsent = 0 → x.replayHeld = false → vcCredit x vc.toNat = true → .flit p x.nextTx.toNat ∈ t.out))) ∧
  (∀ (p : Nat) (f : Flit) (s : State) (x : PortSt), x = s.port p → receiving x = true →
    (f.crcOk = false ∨ f.decoded = false → exec (.flitReceived p f) s = .next (s.setPort p { x with nak := true })) ∧
    (f.crcOk = true → f.decoded = true → ∀ d : Nat, d = (f.seq - x.rxNext).toNat →
      (256 < d → d < 32768 → PortGoesDown (.flitReceived p f) s p) ∧
      (f.null = true → d ≤ 256 ∨ 32768 ≤ d → Answers (.flitReceived p f) s fun t =>
        look 0 (t.port p).freedFar f.cvc.toNat = f.credit.toNat ∧ (t.port p).rxNext = x.rxNext ∧ (t.port p).ack = x.ack ∧
        (t.port p).unacked = x.unacked ∧ ∀ j, j ≠ p → t.port j = s.port j) ∧
      (f.null = false → d = 0 → (Config.rxBuffers f.vc.toNat).toNat ≤ look 0 x.usedVc f.vc.toNat → PortGoesDown (.flitReceived p f) s p) ∧
      (f.null = false → d = 0 → look 0 x.usedVc f.vc.toNat < (Config.rxBuffers f.vc.toNat).toNat → Answers (.flitReceived p f) s fun t =>
        (t.port p).rxNext = f.seq + 1 ∧ (t.port p).ack = f.seq ∧ (t.port p).nak = false ∧ (t.port p).unacked = x.unacked ∧
        (f.vc ≠ 3 → look 0 (t.port p).usedVc f.vc.toNat = look 0 x.usedVc f.vc.toNat + 1) ∧
        (f.vc ≠ 3 → x.st ≠ .identify → x.st ≠ .quarantine → .deliver p f.vc.toNat (f.body.take f.len) ∈ t.out)) ∧
      (f.null = false → 0 < d → d ≤ 256 → Answers (.flitReceived p f) s fun t =>
        (t.port p).nak = true ∧ (t.port p).rxNext = x.rxNext ∧ (t.port p).usedVc = x.usedVc) ∧
      (f.null = false → 32768 ≤ d → Answers (.flitReceived p f) s fun t =>
        (t.port p).nak = x.nak ∧ (t.port p).rxNext = x.rxNext ∧ (t.port p).usedVc = x.usedVc))) ∧
  (∀ (p : Nat) (k : BitVec 16) (s : State) (x : PortSt) (n : Nat), x = s.port p → n = ackPos k (x.unacked.take (x.unacked.length - x.unsent)) →
    (n = 0 → exec (.ackReceived p k) s = .next s) ∧
    (n ≠ 0 → x.st = .up → x.farDraining = false → Answers (.ackReceived p k) s fun t =>
      (t.port p).unacked = x.unacked.drop n ∧ (t.port p).resends = 0 ∧ (∀ j, j ≠ p → t.port j = s.port j) ∧
      (counting s = true → ∀ r : ReplayRow, r = look {} s.ledgers.replay p → (∀ f ∈ x.unacked.take n, f.counted = true) →
        look {} t.ledgers.replay p = { r with free := r.free + n, unacked := r.unacked - n, acked := r.acked + w32 n })) ∧
    (n = 0 → x.lastNak ≠ some k → x.unsent < x.unacked.length → sending x = true →
      (x.resends < 15 → Answers (.nakReceived p k) s fun t =>
        (t.port p).resends = x.resends + 1 ∧ (t.port p).replays = satInc x.replays 0xFFFF ∧ (t.port p).lastNak = some k ∧
        (t.port p).unacked = x.unacked ∧ ∀ f ∈ x.unacked.take (x.unacked.length - x.unsent), .flit p f.seq.toNat ∈ t.out) ∧
      (15 ≤ x.resends → PortGoesDown (.nakReceived p k) s p))) ∧
  (∀ (p : Nat) (s : State) (x : PortSt), x = s.port p → sending x = true → x.unsent < x.unacked.length →
    (x.resends < 15 → Answers (.replayTimeout p) s fun t =>
      (t.port p).resends = x.resends + 1 ∧ (t.port p).timeouts = satInc x.timeouts 0xFFFF ∧ (t.port p).unacked = x.unacked ∧
      ∀ f ∈ x.unacked.take (x.unacked.length - x.unsent), .flit p f.seq.toNat ∈ t.out) ∧
    (15 ≤ x.resends → PortGoesDown (.replayTimeout p) s p)) ∧
  (∀ (p : Nat) (vc : BitVec 2) (s : State) (x : PortSt), x = s.port p → look 0 x.usedVc vc.toNat ≠ 0 →
    exec (.receiveBufferFree p vc) s = .next (s.setPort p { x with
      usedVc := put 0 x.usedVc vc.toNat (look 0 x.usedVc vc.toNat - 1),
      freedVc := put 0 x.freedVc vc.toNat ((look 0 x.freedVc vc.toNat + 1) % 2 ^ 14) }))

/-- Ports: the far record is checked against the plan, and both verdicts bring the port UP or one brings QUARANTINE; lanes
that leave are agreed on in a reform; idle ports sleep when both agree; tests drop the lanes that fail; ENABLE trains,
disabling writes off, and a drain ends when both ends have sent everything (R558 to R570, R574). Readings of the model it
rests on: log entries 31, 61, 63. -/
def Obligations.PortsIdentifyAndServe : Prop :=
  (∀ (p : Nat) (r : IdentRec) (s : State) (x : PortSt) (c : Nat), x = s.port p → c = identCause x r → x.st = .identify → r.magic = 0x4B4E494C →
    (c ≠ 0 → Quarantines (.identity p r) s p c) ∧
    (c = 0 → x.gotMatch = false → Answers (.identity p r) s fun t =>
      (t.port p).st = .identify ∧ (t.port p).sentMatch = true ∧ (t.port p).far = some r ∧ .mgmt p 2 [1, 0] ∈ t.out) ∧
    (c = 0 → x.gotMatch = true → x.drainDue = false → Answers (.identity p r) s fun t => (t.port p).st = .up ∧ caused t (.port p) 0 = true)) ∧
  (∀ (p c : Nat) (s : State) (x : PortSt), x = s.port p → x.st = .identify →
    Quarantines (.verdict p false c) s p 5 ∧ (x.far = none → Quarantines (.identifyTimeout p) s p 7) ∧
    (x.sentMatch = false → exec (.verdict p true c) s = .next (s.setPort p { x with gotMatch := true })) ∧
    (x.sentMatch = true → x.drainDue = false → Answers (.verdict p true c) s fun t => (t.port p).st = .up ∧ caused t (.port p) 0 = true)) ∧
  (∀ (p : Nat) (m16 : BitVec 16) (s : State) (x : PortSt) (a m : BitVec 8), x = s.port p → m = a &&& m16.setWidth 8 →
    (x.st = .reforming ∧ x.reformOwn = some a) ∨ (x.st = .up ∧ x.mask = a) →
    (max 1 x.lanesMin ≤ popCount 8 m.toNat → x.drainDue = false → Answers (.reform p m16) s fun t =>
      (t.port p).st = .up ∧ (t.port p).mask = m ∧ caused t (.port p) 3 = true ∧ (x.st = .up → .mgmt p 3 ([0] ++ leBytes 2 a.toNat) ∈ t.out) ∧
      ∀ i ∈ portLanes s p, m.getLsbD (i % 8) = false → (t.lane i).phase = 0 ∧ (t.lane i).dropped = true) ∧
    (popCount 8 m.toNat < max 1 x.lanesMin → PortGoesDown (.reform p m16) s p)) ∧
  (∀ (p : Nat) (n : Word) (s : State) (x : PortSt), x = s.port p → x.st = .up →
    (x.sleepSent = true → exec (.sleepReq p n) s = .next (s.setPort p { x with sleepSent := false })) ∧
    (x.sleepSent = false → x.unacked ≠ [] → exec (.sleepReq p n) s = .next s) ∧
    (x.sleepSent = false → x.unacked = [] → Answers (.sleepReq p n) s fun t =>
      (t.port p).st = .asleep ∧ .mgmt p 5 ([0, 0, 0] ++ leBytes 4 n.toNat) ∈ t.out ∧
      ∀ i ∈ maskLanes p x.mask, (s.lane i).phase = 10 → (t.lane i).phase = 11 ∧ (t.lane i).count = n) ∧
    (x.sleepSent = true → Answers (.sleepAck p n) s fun t =>
      (t.port p).st = .asleep ∧ ∀ i ∈ maskLanes p x.mask, (s.lane i).phase = 10 → (t.lane i).phase = 11 ∧ (t.lane i).count = n) ∧
    (x.idleUs ≠ 0 → x.unacked = [] → Answers (.idleExpire p) s fun t => t.port p = { x with sleepSent := true } ∧
      .mgmt p 4 ([0, 0, 0] ++ leBytes 4 (((portCount t p).toNat + 7 + (Config.freeWord (s.free + 1)).toNat % 2 ^ 31) % 2 ^ 32)) ∈ t.out ∧
      ∀ i, (t.lane i).phase = (s.lane i).phase)) ∧
  (∀ (p : Nat) (w : RegWrite) (s : State) (x : PortSt), writeOk s (.port p) w = true → w.full = true → x = s.port p →
    (w.value.getLsbD 2 = true → w.value.getLsbD 1 = false → w.value.getLsbD 0 = false →
      (x.st = .up → Answers (.bertGo p w) s fun t => (t.port p).bertAsked = true ∧ (t.port p).st = .up ∧
        .mgmt p 6 ([0, 0, 0] ++ leBytes 4 (Config.freeWord s.free).toNat ++ leBytes 4 x.bertMs) ∈ t.out) ∧
      (x.st ≠ .up → Answers (.bertGo p w) s fun t => t.links = s.links ∧ (t.hdr (.port p)).lastRefusal = word [(0, 0x02), (8, 0x40), (24, w.master.num)])) ∧
    (w.value.getLsbD 1 = true → w.value.getLsbD 2 = false → w.value.getLsbD 0 = false → x.st = .quarantine → Answers (.recheck p w) s fun t =>
      (t.port p).st = .identify ∧ (t.port p).far = none ∧ (t.port p).sentMatch = false ∧ (t.port p).gotMatch = false ∧
      .mgmt p 1 (List.replicate 3 0 ++ identBytes (ownIdent s p)) ∈ t.out) ∧
    (w.value.getLsbD 0 = true → w.value.getLsbD 1 = false → w.value.getLsbD 2 = false →
      (x.st = .up → x.sentDrained = false → Answers (.portDrain p w) s fun t => (t.port p).st = .draining ∧ .mgmt p 8 [] ∈ t.out) ∧
      (x.st = .testing ∨ x.st = .quarantine → Answers (.portDrain p w) s fun t => t.port p = { x with drainDue := true } ∧
        t.links.lanes = s.links.lanes))) ∧
  (∀ (p : Nat) (s : State) (x : PortSt), x = s.port p →
    (x.st = .up → x.bertHours ≠ 0 → Answers (.bertHoursExpire p) s fun t => (t.port p).bertAsked = true ∧ (t.port p).st = .up) ∧
    (∀ n ms : Word, (x.st = .up → Answers (.bertReq p n ms) s fun t => (t.port p).st = .testing ∧ (t.port p).bertAsked = false ∧
        .mgmt p 7 ([0, 0, 0] ++ leBytes 4 n.toNat ++ leBytes 4 ms.toNat) ∈ t.out) ∧
      (x.st = .up → x.bertAsked = true → Answers (.bertAck p n ms) s fun t => t.port p = { x with st := .testing, bertAsked := false } ∧
        ∀ i ∈ maskLanes p x.mask, t.lane i = { s.lane i with count := n })) ∧
    (∀ (bits : Nat) (errs bad : List Nat), x.st = .testing →
      bad = (bitsOf 8 x.mask.toNat).filter (fun l => decide (bits < errs.getD l 0 * 10 ^ x.berExp)) →
      (bad = [] → x.drainDue = false → Answers (.bertEnd p bits errs) s fun t =>
        (t.port p).st = .up ∧ (t.port p).bertPass = true ∧ caused t (.port p) 4 = true) ∧
      (bad ≠ [] → (max 1 x.lanesMin ≤ (bitsOf 8 x.mask.toNat).length - bad.length → x.reformFar = none → Answers (.bertEnd p bits errs) s fun t =>
          (t.port p).st = .reforming ∧ (t.port p).bertPass = false ∧ caused t (.port p) 4 = true ∧
          ∀ l ∈ bad, (t.lane (8 * p + l)).phase = 0 ∧ (t.lane (8 * p + l)).dropped = true) ∧
        ((bitsOf 8 x.mask.toNat).length - bad.length < max 1 x.lanesMin → Quarantines (.bertEnd p bits errs) s p 6))) ∧
    (x.st = .training → (∃ i ∈ portLanes s p, (s.lane i).presetPassed = true) → Answers (.seedHoldExpire p) s fun t =>
      ∀ i ∈ portLanes s p, ((s.lane i).presetPassed = false → (t.lane i).phase = 0 ∧ (t.lane i).dropped = true) ∧
        ((s.lane i).presetPassed = true → (s.lane i).dropped = false → (s.lane i).phase = 9 → (t.lane i).seedSent = true)) ∧
    (x.closing = true → Answers (.portDisableDone p) s fun t =>
      (t.port p).st = .off ∧ (t.port p).enable = false ∧ (t.port p).closing = false ∧ (t.port p).unacked = [] ∧
      (∀ l, l < 8 → (t.lane (8 * p + l)).phase = 0) ∧ ∀ j, j ≠ p → t.port j = s.port j) ∧
    (x.st = .up → x.sentDrained = false → x.gotDrained = false → (x.unacked = [] → Answers (.drainNotice p) s fun t =>
        (t.port p).farDraining = true ∧ (t.port p).sentDrained = true ∧ (t.port p).st = .up ∧ .mgmt p 9 [] ∈ t.out) ∧
      (x.unacked ≠ [] → exec (.drainNotice p) s = .next (s.setPort p { x with farDraining := true }))) ∧
    (x.st = .up ∨ x.st = .draining → (x.sentDrained = false → exec (.drained p) s = .next (s.setPort p { x with gotDrained := true })) ∧
      (x.sentDrained = true → Answers (.drained p) s fun t => (t.port p).st = .drained ∧ caused t (.port p) 5 = true))) ∧
  (∀ (p : Nat) (w : RegWrite) (s : State) (x : PortSt) (v : Word), writeOk s (.port p) w = true → x = s.port p →
    v = w.merged (word [(0, b2n x.enable), (1, b2n (s.hdr (.port p)).freeze)]) → v.getLsbD 1 = (s.hdr (.port p)).freeze →
    (v.getLsbD 0 = true → x.enable = false ∨ x.st = .failed →
      (x.valid = true → zonesAllowLinks s = true → Answers (.portEnable p w) s fun t =>
        (t.port p).st = .training ∧ (t.port p).enable = true ∧ (∀ i ∈ portLanes s p, (t.lane i).phase = 1) ∧ ∀ j, j ≠ p → t.port j = s.port j) ∧
      (x.valid = false ∨ zonesAllowLinks s = false → Answers (.portEnable p w) s fun t =>
        t.links = s.links ∧ (t.hdr (.port p)).lastRefusal = word [(0, 0x02), (8, 0x08), (24, w.master.num)])) ∧
    (v.getLsbD 0 = false → x.enable = true → exec (.portDisable p w) s = .next (s.setPort p { x with enable := false, closing := true })))

/-! ### The side-band (chapter 18) -/

/-- Requests: one whose window holds no response to it is executed and answered, with a tag and a counter where a key is
installed, and each command has the effect and the answer of Table 18.4; BUSY, BAD_REQUEST, AUTH and DUPLICATE are answered without its effect; a fifth is dropped (R586 to R604, R607). An
unlisted OP is answered BAD_REQUEST; a key is committed and ends every session; a response leaves at a time; a bus fault is
told of, and a window error resets what is kept of its requester (R583, R587, R598, R599, R610, R611). Requests take effect
when they arrive. Readings of the model it rests on: log entries 20, 75, 76. -/
def Obligations.SideBandRequestsAreServed : Prop :=
  (∀ (i : TmbReq → Instr) (c : TmbCmd) (r : TmbReq) (s : State), IsRequest i c → reqTaken s r = true →
    (bringingUp s = true → c.op ≠ 1 → c.op ≠ 5 → Answers (i r) s fun t => SameButTmb s t ∧
      RespondsWith s t r (fun x => x.status = 0x0C ∧ x.payload = leBytes 2 (busyMs s) ∧ x.auth = false)) ∧
    (notBusy s c.op = true →
      (reqAuth r = true → c.tag = false → Answers (i r) s fun t => SameButTmb s t ∧ RespondsWith s t r (fun x => x.status = 0x0D)) ∧
      (∀ k, c.tag = true → authCause s c.op r = some k → Answers (i r) s fun t =>
        RespondsWith s t r (fun x => x.status = 0x08 ∧ x.payload = []) ∧ caused t .tmb 0 = true ∧
        t.tmb.authFail = satInc s.tmb.authFail 0xFFFF ∧ t.power = s.power ∧ t.host = s.host ∧ t.cal = s.cal) ∧
      (∀ auth : Bool, auth = (c.tag && s.tmb.key.isSome) → (c.tag = true → authCause s c.op r = none) → (c.tag = false → reqAuth r = false) →
        (∀ y, windowEntry s r = some y → Answers (i r) s fun t => SameButTmb s t ∧
          RespondsWith s t r (fun x => x.status = 0x0A ∧ x.orig = y.status ∧ x.payload = y.payload ∧ x.auth = auth)) ∧
        (windowEntry s r = none →
          (auth = true → r.ctr.toNat ≤ (s.req r.src.toNat).ctr.toNat → Answers (i r) s fun t =>
            RespondsWith s t r (fun x => x.status = 0x08) ∧ t.power = s.power ∧ t.host = s.host ∧ t.cal = s.cal) ∧
          (auth = false ∨ (s.req r.src.toNat).ctr.toNat < r.ctr.toNat →
            (headBad r = true ∨ c.bad r.payload = true → Answers (i r) s fun t => SameButTmb s t ∧
              RespondsWith s t r (fun x => x.status = 0x0D ∧ x.auth = auth)) ∧
            (headBad r = false → c.bad r.payload = false → ∀ (u : State) (o : Nat × List Byte × State),
              u = (if auth then (countFrame s).modReq r.src.toNat (fun q => { q with ctr := r.ctr }) else countFrame s) → o = c.run r u →
              Answers (i r) s fun t => SameButTmb o.2.2 t ∧ (auth = true → (t.req r.src.toNat).ctr = r.ctr) ∧
                RespondsWith s t r (fun x => x.status = o.1 ∧ x.payload = o.2.1 ∧ x.auth = auth ∧ (c.keep = true → windowEntry t r = some x)))))))) ∧
  (∀ (i : TmbReq → Instr) (c : TmbCmd) (r : TmbReq) (s : State), IsRequest i c → s.ao.vsb = true →
    (r.flags.getLsbD 0 = true → exec (i r) s = .next (countFrame s)) ∧
    (r.flags.getLsbD 0 = false → 4 ≤ s.tmb.responses.length → windowEntry s r = none → exec (i r) s = .next { s with
      tmb := { s.tmb with frames := satInc s.tmb.frames 0xFFFF, overflow := satInc s.tmb.overflow 0xFFFF, energy := none } })) ∧
  (∀ (r : TmbReq) (s : State),
    (reqRuns s cmdStatus r → r.payload = [] → Serves (.status r) s r 0
      (leBytes 1 (pkgCode s) ++
       leBytes 1 (b2n (isReady s) + 2 * b2n s.ao.hold + 4 * b2n s.trip.isSome + 8 * b2n s.tmb.key.isNone + 16 * b2n s.ao.aoLock) ++
       leBytes 4 (tileStateWord s).toNat ++ leBytes 2 (pwrResult s).toNat ++ leBytes 4 (sideVec s 0).toNat ++ leBytes 4 (sideVec s 32).toNat)
      (SameButTmb s)) ∧
    (reqRuns s cmdLatchRead r → r.payload = [] → Serves (.latchRead r) s r 0
      (leBytes 4 (readTherm s 0x6C).toNat ++ leBytes 4 (readTherm s 0x70).toNat ++ leBytes 2 (readTherm s 0x74).toNat ++ [0, 0]) (SameButTmb s)) ∧
    (∀ a : Nat, reqRuns s cmdRead r → a < 2 ^ 32 → r.payload = leBytes 4 a ++ [1, 0, 0, 0] →
      (∀ (p : PageRef) (o : Nat), a % 4 = 0 → pageAt a = some (p, o) → ∀ v u, readReg (countFrame s) p o = (v, u) →
        Serves (.read r) s r 0 (leBytes 4 a ++ [1, 0, 0, 0] ++ leBytes 4 v.toNat) (SameButTmb u)) ∧
      (a % 4 ≠ 0 ∨ 0x4000000 < a + 4 → Serves (.read r) s r 0x03 [] (SameButTmb s))) ∧
    (∀ (a v : Nat) (p : PageRef), reqRuns s cmdWrite r → isReady s = true → a < 2 ^ 32 → pageAt a = some (p, 0x14) →
      r.payload = leBytes 4 a ++ [1, 0, 0, 0] ++ leBytes 4 v →
      (writeOk s p (sideWrite v) = true → Serves (.write r) s r 0 [0] fun t => (t.hdr p).intEnable = w32 v ∧ (t.hdr p).intRaw = (s.hdr p).intRaw ∧
        t.events = s.events ∧ t.cells = s.cells ∧ t.mem = s.mem) ∧
      (p.exists = true → pageAnswers s p = true → pageMoving s p = false → ownsPage s p (.side true) = false →
        Serves (.write r) s r 0 [1] fun t => (t.hdr p).intEnable = (s.hdr p).intEnable ∧ (t.hdr p).intRaw = (s.hdr p).intRaw)) ∧
    (∀ q : Nat, reqRuns s cmdEventRead r → q < 2 ^ 32 → r.payload = leBytes 4 q ++ [1, 0, 0, 0] →
      (∀ e, recordAt s q = some e → s.events.bad.contains q = false →
        Serves (.eventRead r) s r 0 (leBytes 4 s.events.writeSeq ++ [1, 0, 0, 0] ++ eventBytes e) (SameButTmb s)) ∧
      (recordAt s q = none ∨ s.events.bad.contains q = true →
        Serves (.eventRead r) s r 0 (leBytes 4 s.events.writeSeq ++ [0, 0, 0, 0]) (SameButTmb s))) ∧
    (∀ (k n : Nat) (l : List EventRec), reqRuns s cmdRetainRead r → k ≤ 63 → 1 ≤ n → n ≤ 8 → r.payload = [BitVec.ofNat 8 k, BitVec.ofNat 8 n, 0, 0] →
      l = (s.ao.retention.drop k).take n →
      Serves (.retainRead r) s r 0 (leBytes 1 s.ao.retention.length ++ leBytes 1 l.length ++ [0, 0] ++ l.flatMap eventBytes) (SameButTmb s)) ∧
    (∀ tiles : Byte, reqRuns s cmdPower r →
      (∀ h : Nat, h ≤ 2 → r.payload = [0xF, tiles, BitVec.ofNat 8 h, 0] → Serves (.power r) s r 0 (leBytes 4 (pwrResult s).toNat) fun t =>
        t.ao = { s.ao with hold := if h = 0 then s.ao.hold else decide (h = 1) } ∧ t.power = s.power ∧ t.tiles = s.tiles) ∧
      (∀ tg : Nat, tg < 5 → r.payload = [BitVec.ofNat 8 tg, tiles, 0, 0] → reqLegal ⟨tg, tiles, 1⟩ = true → s.trip = none →
        reqCheck s ⟨tg, tiles, 1⟩ = .ok → s.power.trans.isSome = true → Answers (.power r) s fun t =>
          t.power.pending = some ⟨tg, tiles, 1⟩ ∧ t.power.trans = s.power.trans ∧ t.power.outcome = 2 ∧
          RespondsWith s t r (fun x => x.status = 0 ∧ x.payload = leBytes 4 (pwrResult t).toNat)) ∧
      (∀ tg : Nat, tg < 15 → r.payload = [BitVec.ofNat 8 tg, tiles, 0, 0] → s.trip.isSome = true →
        Serves (.power r) s r 0x09 (leBytes 4 (pwrResult s).toNat) (SameButTmb s))) ∧
    (reqRuns s cmdDrain r → isReady s = false → r.payload = [0, 0, 0, 0, 0, 0, 0, 0] → Serves (.drain r) s r 0 [] (SameButTmb s)) ∧
    (∀ (n : Nat) (mode : Bool), reqRuns s cmdDrain r → isReady s = true → n < 32 →
      r.payload = leBytes 4 (2 ^ n) ++ [0, BitVec.ofNat 8 (b2n mode), 1, 0] → pageMoving s (.tenant n) = false → (s.tenant n).go = false →
      (slotList s).all (fun e => decide (e.2.tenant ≠ n)) = true → s.host.fetching = none → s.host.fetchDrains = [] →
      Serves (.drain r) s r 0 [] fun t =>
        t.tenant n = { s.tenant n with go := true, mode := mode, done := true, aborted := 0, resetDrain := false } ∧
        caused t (.tenant n) 2 = true ∧ ∀ j, j ≠ n → t.tenant j = s.tenant j) ∧
    (reqRuns s cmdCalStore r → r.payload = [] →
      (goAccepted s = true → Serves (.calStore r) s r 0 [] fun t => t.cal = { s.cal with
        step := .check, measuring := true, startAt := s.ao.ticks, startUnlocked := !s.ao.aoLock, target := targetSlot s, gen := nextGen s,
        copy := s.cal.image }) ∧
      (goAccepted s = false → Serves (.calStore r) s r 0x02 [] (SameButTmb s))) ∧
    (∀ v : Nat, reqRuns s cmdInlet r → v < 2 ^ 16 → r.payload = leBytes 2 v ++ [0, 0] →
      (isReady s = false → Serves (.inlet r) s r 0x02 [] (SameButTmb s)) ∧
      (isReady s = true → 1023 < v → Serves (.inlet r) s r 0x03 [] (SameButTmb s)) ∧
      (writeOk s .hearth (sideWrite v) = true → 100 ≤ v → v ≤ 750 → Serves (.inlet r) s r 0 [] fun t =>
        t.hearth = { s.hearth with watts := v } ∧ caused t .hearth 0 = true ∧ t.token = s.token)) ∧
    (reqRuns s cmdOpenSession r → r.payload.length = 16 → ∃ nd, nd.length = 16 ∧ Serves (.openSession r) s r 0 nd fun t =>
      (t.req r.src.toNat).session = true ∧ (t.req r.src.toNat).nonceR = r.payload ∧ (t.req r.src.toNat).nonceD = nd ∧
      (t.req r.src.toNat).ctr = 0 ∧ (t.req r.src.toNat).window.length = 1 ∧ (∀ k, k ≠ r.src.toNat → t.req k = s.req k) ∧
      (isReady s = true → logOpen s = true → newest t 0x7012 [r.src.toNat, 0, 0, 0] = true))) ∧
  (∀ (op : Byte) (r : TmbReq) (s : State), listedOps.contains op.toNat = false → reqTaken s r = true → Answers (.unlistedOp op r) s fun t =>
    SameButTmb s t ∧ RespondsWith s t r (fun x => x.status = (if bringingUp s then 0x0C else 0x0D))) ∧
  (∀ s : State, s.ao.vsb = true →
    (∀ chips : List Int,
      (preambleFound chips = false → exec (.tmbCapture chips) s = .next s) ∧
      (preambleFound chips = true → s.tmb.energy = none →
        exec (.tmbCapture chips) s = .next { s with tmb := { s.tmb with energy := some (chipEnergy chips) } }) ∧
      (preambleFound chips = true → ∀ c, s.tmb.energy = some c →
        (stronger (chipEnergy chips) c = true → exec (.tmbCapture chips) s = .next { s with
          tmb := { s.tmb with energy := some (chipEnergy chips), captured := satInc s.tmb.captured 0xFFFF } }) ∧
        (stronger (chipEnergy chips) c = false → exec (.tmbCapture chips) s = .next s))) ∧
    exec (.frameDiscarded .crc) s = .next { s with tmb := { s.tmb with crcErr := satInc s.tmb.crcErr 0xFFFF, energy := none } } ∧
    exec (.frameDiscarded .dst) s = .next { s with tmb := { s.tmb with energy := none } } ∧
    exec (.frameDiscarded .rsp) s = .next (countFrame s) ∧ exec (.frameDiscarded .layout) s = .next (countFrame s) ∧
    (∀ x rest, s.tmb.responses = x :: rest → exec .tmbResponseSend s = .next { s with
      tmb := { s.tmb with responses := rest, busFault := false }, out := s.out ++ [.tmbFrame (tmbSymbols (responseFrame s x))] }) ∧
    (∀ ms, s.tmb.busFault = false → ms ≠ 0 → Answers (.tmbBusOccupied ms) s fun t => t.tmb = { s.tmb with busFault := true } ∧ caused t .tmb 2 = true ∧
      (isReady s = true → logOpen s = true → newest t 0x7013 [ms % 2 ^ 32, 0, 0, 0] = true)) ∧
    (∀ src : BitVec 5, Answers (.tmbWindowError src) s fun t =>
      t.req src.toNat = { authLogAt := (s.req src.toNat).authLogAt } ∧ (∀ k, k ≠ src.toNat → t.req k = s.req k) ∧
      (isReady s = true → logOpen s = true → newest t 0x7014 [src.toNat, 0, 0, 0] = true))) ∧
  (∀ (w : RegWrite) (s : State) (k : List Byte), isReady s = true → pageAnswers s .tmb = true → w.full = true → w.value.getLsbD 0 = true →
    k = lookList 0 s.tmb.staged 0 32 →
    (w.master = .host → Answers (.keyCommit w) s fun t =>
      t.tmb.key = (if k = List.replicate 32 0 then none else some k) ∧ caused t .tmb 1 = true ∧ (∀ q, q < 32 → (t.req q).session = false) ∧
      (logOpen s = true → newest t 0x7011 [b2n (decide (k ≠ List.replicate 32 0)), 0, 0, 0] = true)) ∧
    (∀ tag, w.master = .side tag → Answers (.keyCommit w) s fun t =>
      t.tmb = s.tmb ∧ t.cal = s.cal ∧ (t.hdr .tmb).lastRefusal = word [(0, 0x01), (8, 0x64), (24, 1)]))

/-! ### Calibration and test (chapters 19, 20) -/

/-- Stores and test instructions: the target slot is erased, and a store measures, programs, verifies and marks it; a step
that fails, or a hold-up below 216 mJ, ends it with its result, and only the marker commits it (R621 to R631). A test
instruction is executed in Banked and Boot failed, and BYPASS in its place elsewhere; IDCODE is always answered (R651, R652).
Readings of the model it rests on: log entries 56, 77. -/
def Obligations.CalibrationStoresAndTests : Prop :=
  (∀ s : State, s.ao.vsb = true → s.ao.vin = true → hubOn s = true → dirty s = true → s.cal.blank = false → s.cal.erasing = false → storing s = false →
    Answers .calErase s fun t =>
      t.cal.erasing = true ∧ .norErase (targetSlot s) ∈ t.out ∧ t.cal.image = s.cal.image ∧
      (targetSlot s = 0 → t.cal.validA = false ∧ t.cal.validB = s.cal.validB ∧ t.cal.genB = s.cal.genB) ∧
      (targetSlot s = 1 → t.cal.validB = false ∧ t.cal.validA = s.cal.validA ∧ t.cal.genA = s.cal.genA)) ∧
  (∀ (b : Bool) (s : State), s.cal.erasing = true →
    exec (.calEraseDone b) s = .next { s with cal := { s.cal with erasing := false, blank := b } }) ∧
  (∀ (w : RegWrite) (s : State), writeOk s .cal w = true → w.full = true →
    (w.value.getLsbD 0 = true → goAccepted s = true → exec (.storeGo w) s = .next { s with cal := { s.cal with
      step := .check, measuring := true, startAt := s.ao.ticks, startUnlocked := !s.ao.aoLock, target := targetSlot s, gen := nextGen s,
      copy := s.cal.image } }) ∧
    (w.value.getLsbD 0 = true → goAccepted s = false → Answers (.storeGo w) s fun t =>
      t.cal = s.cal ∧ (t.hdr .cal).lastRefusal = word [(0, 0x02), (8, 0x4C), (24, w.master.num)]) ∧
    (w.value.getLsbD 0 = false → w.value.getLsbD 1 = true →
      (storing s = false → exec (.measure w) s = .next { s with cal := { s.cal with measuring := true } }) ∧
      (storing s = true → Answers (.measure w) s fun t =>
        t.cal = s.cal ∧ (t.hdr .cal).lastRefusal = word [(0, 0x02), (8, 0x4C), (24, w.master.num)]))) ∧
  (∀ (ok : Bool) (s : State),
    (s.cal.step = .check → s.cal.measuring = false →
      (216 ≤ s.cal.mj → exec (.calStoreStepDone ok) s = .next { s with cal := { s.cal with step := .program } }) ∧
      (s.cal.mj < 216 → Answers (.calStoreStepDone ok) s fun t =>
        t.cal.step = .idle ∧ t.cal.result = 0x07 ∧ t.cal.selected = s.cal.selected ∧ t.cal.blank = s.cal.blank ∧ caused t .cal 1 = true)) ∧
    (s.cal.step = .program ∨ s.cal.step = .verify ∨ s.cal.step = .mark →
      (ok = false → Answers (.calStoreStepDone ok) s fun t =>
        t.cal.step = .idle ∧ t.cal.result = 0x20 ∧ t.cal.selected = s.cal.selected ∧ t.cal.blank = false ∧ caused t .cal 1 = true) ∧
      (Answers .norTimeout s fun t =>
        t.cal.step = .idle ∧ t.cal.result = 0x20 ∧ t.cal.selected = s.cal.selected ∧ t.cal.blank = false ∧ caused t .cal 1 = true)) ∧
    (s.cal.step = .program → ok = true → ∀ r : List Byte,
      r = recordBytes s.cal.factory s.cal.copy s.cal.gen (stamp s.cal.startUnlocked s.cal.startAt) →
      exec (.calStoreStepDone ok) s = .next { s with
        cal := { s.cal with step := .verify },
        out := s.out ++ [.nor (slotAddr s.cal.target + 256) (r.drop 256), .nor (slotAddr s.cal.target) (r.take 256)] }) ∧
    (s.cal.step = .verify → ok = true → exec (.calStoreStepDone ok) s = .next { s with cal := { s.cal with step := .mark } }) ∧
    (s.cal.step = .mark → ok = true → Answers (.calStoreStepDone ok) s fun t =>
      t.cal.step = .done ∧ t.cal.result = 0 ∧ t.cal.selected = s.cal.target ∧ t.cal.loaded = s.cal.copy ∧ t.cal.blank = false ∧
      t.cal.image = s.cal.image ∧ caused t .cal 0 = true ∧
      (s.cal.target = 0 → t.cal.validA = true ∧ t.cal.genA = s.cal.gen ∧ t.cal.validB = s.cal.validB ∧ t.cal.genB = s.cal.genB) ∧
      (s.cal.target = 1 → t.cal.validB = true ∧ t.cal.genB = s.cal.gen ∧ t.cal.validA = s.cal.validA ∧ t.cal.genA = s.cal.genA) ∧
      .nor (slotAddr s.cal.target + 0x3FFF0) (markerBytes s.cal.gen (crc32c (headerBytes s.cal.gen
        (crc32c (bodyBytes s.cal.factory s.cal.copy)) (stamp s.cal.startUnlocked s.cal.startAt)))) ∈ t.out)) ∧
  (∀ s : State, tapServes s = true →
    exec .extest s = .next { s with ao := { s.ao with tap := if testAllowed s then 1 else 5 } } ∧
    exec .extestPulse s = .next { s with ao := { s.ao with tap := if testAllowed s then 2 else 5 } } ∧
    exec .extestTrain s = .next { s with ao := { s.ao with tap := if testAllowed s then 3 else 5 } } ∧
    exec .clamp s = .next { s with ao := { s.ao with tap := if testAllowed s then 4 else 5 } } ∧
    exec .idcode s = .next { s with ao := { s.ao with tap := 0 }, out := s.out ++ [.tdo idcodeWord] })

/-! ### The state at reset, and what every step keeps -/

/-- At reset, before any rail is valid, no command waits, nothing has power, no log holds a record, every page has its
default owner, and the registers hold the reset values of the page tables; memory and the logs have the form that every step
keeps. What the spec gives no reset value (log entries 1, 5, 7, 8) is the model's choice. -/
def Obligations.ResetState : Prop :=
  State.reset.pending = [] ∧ State.reset.trip = none ∧ hubOn State.reset = false ∧ isReady State.reset = false ∧
  memWf State.reset = true ∧ logsBounded State.reset = true ∧ tokSum State.reset.ledgers.tok = 4928 ∧
  State.reset.ledgers.slots.free = 256 ∧ State.reset.out = [] ∧
  (∀ t, (State.reset.tile t).st = .off) ∧ (∀ n, (State.reset.net n).st = .off) ∧ (∀ k, State.reset.cmd k = none) ∧
  (∀ p : PageRef, ownerOf State.reset p = p.defaultOwner ∧ intPending State.reset p = 0) ∧
  (∀ n, State.reset.tenant n = { tokQuota := 4928, tallyQuota := 4096, slotLimit := 8 } ∧ (State.reset.part n).quantum = 2000 ∧
    (State.reset.part n).grace = 200) ∧
  (∀ q, (State.reset.queue q).enable = false ∧ (State.reset.queue q).log2 = 4 ∧ (State.reset.queue q).phase = true) ∧
  (∀ p, (State.reset.port p).st = .off ∧ (State.reset.port p).enable = false ∧ (State.reset.port p).idleUs = 20 ∧
    (State.reset.port p).bertMs = 1000 ∧ (State.reset.port p).berExp = 12) ∧
  (∀ i, (State.reset.lane i).phase = 0 ∧ (State.reset.lane i).log2n = 20 ∧ (State.reset.lane i).impDb = 12 ∧ (State.reset.lane i).impHold = 64) ∧
  (∀ a n, memRead State.reset a n = List.replicate n 0)

/-- Every step keeps the canonical form of device memory: addresses rise, and no byte that reads as an unlisted one is
listed. Readings of the model it rests on: log entry 8. -/
def Obligations.MemoryCanonical : Prop :=
  ∀ s t : State, memWf s = true → step s = .next t → memWf t = true

/-- Every step keeps the event ring at 1024 records or fewer and retention memory at 64 or fewer (R53, R99). -/
def Obligations.LogsBounded : Prop :=
  ∀ s t : State, logsBounded s = true → step s = .next t → logsBounded t = true
end

