-- ==== Sys2Proof/Laws/State.lean ====
section
/-!
SUPPORT. What each named update of `State` leaves alone, field by field and true by `rfl`, and what the indexed parts of
the state read as after an update. First the laws of the sparse maps that every indexed part is.
-/
namespace Sys2Proof.Machine
open Sys2Proof

/-! ### Sparse maps -/

theorem look_putNew {α : Type} (d : α) (m : Sparse α) (k j : Nat) (v : α) :
    look d (putNew m k v) j = if j = k then v else look d m j := by
  induction m with
  | nil => rfl
  | cons e r ih =>
    obtain ⟨k', v'⟩ := e
    unfold putNew
    split
    · rfl
    · split
      · rename_i h; subst h; simp only [look]; split <;> rfl
      · rename_i h; simp only [look, ih]
        by_cases hj : j = k'
        · simp [hj, Ne.symm h]
        · simp [hj]

theorem look_erase {α : Type} (d : α) (m : Sparse α) (k j : Nat) :
    look d (m.filter (fun e => e.1 ≠ k)) j = if j = k then d else look d m j := by
  induction m with
  | nil => simp [look]
  | cons e r ih =>
    obtain ⟨k', v'⟩ := e
    by_cases h : k' = k
    · subst h
      simp only [ne_eq, not_true_eq_false, decide_false, Bool.false_eq_true, not_false_eq_true, List.filter_cons_of_neg]
      rw [ih]; simp only [look]; split <;> rfl
    · rw [List.filter_cons_of_pos (by simpa using h)]
      simp only [look, ih]
      by_cases hj : j = k'
      · simp [hj, h]
      · simp [hj]

/-- Read after write: the index written reads the value written, every other index what it read before. -/
@[simp] theorem look_put {α : Type} [DecidableEq α] (d : α) (m : Sparse α) (k j : Nat) (v : α) :
    look d (put d m k v) j = if j = k then v else look d m j := by
  unfold put
  split
  · rename_i h; subst h; exact look_erase v m k j
  · exact look_putNew d m k j v

/-- Keys strictly rising from `lo` on, and no value equal to `d`: the canonical form, as an inductive reading of it. -/
def risesFrom {α : Type} [DecidableEq α] (d : α) : Nat → Sparse α → Bool
  | _, [] => true
  | lo, (k, v) :: r => decide (lo ≤ k) && decide (v ≠ d) && risesFrom d (k + 1) r

theorem risesFrom_mono {α : Type} [DecidableEq α] (d : α) {a b : Nat} (h : a ≤ b) (m : Sparse α) :
    risesFrom d b m = true → risesFrom d a m = true := by
  cases m with
  | nil => intro; rfl
  | cons e r =>
    simp only [risesFrom, Bool.and_eq_true, decide_eq_true_eq]
    exact fun x => ⟨⟨Nat.le_trans h x.1.1, x.1.2⟩, x.2⟩

theorem sparseWf_iff {α : Type} [DecidableEq α] (d : α) (m : Sparse α) : sparseWf d m = risesFrom d 0 m := by
  have key : ∀ (r : Sparse α) (k : Nat) (v : α), sparseWf d ((k, v) :: r) = (decide (v ≠ d) && risesFrom d (k + 1) r) := by
    intro r
    induction r with
    | nil => intro k v; simp [sparseWf, risesFrom]
    | cons e r ih =>
      intro k v
      obtain ⟨k', v'⟩ := e
      simp only [sparseWf, ih, risesFrom, Nat.succ_le_iff, Bool.and_assoc]
  cases m with
  | nil => rfl
  | cons e r => obtain ⟨k, v⟩ := e; rw [key]; simp [risesFrom]

theorem risesFrom_erase {α : Type} [DecidableEq α] (d : α) (k : Nat) (m : Sparse α) : ∀ lo,
    risesFrom d lo m = true → risesFrom d lo (m.filter (fun e => e.1 ≠ k)) = true := by
  induction m with
  | nil => intro _ h; exact h
  | cons e r ih =>
    obtain ⟨k', v'⟩ := e
    intro lo h
    simp only [risesFrom, Bool.and_eq_true, decide_eq_true_eq] at h
    by_cases hk : k' = k
    · rw [List.filter_cons_of_neg (by simpa using hk)]
      exact risesFrom_mono d (by omega) _ (ih _ h.2)
    · rw [List.filter_cons_of_pos (by simpa using hk)]
      simp only [risesFrom, Bool.and_eq_true, decide_eq_true_eq]
      exact ⟨h.1, ih _ h.2⟩

theorem risesFrom_putNew {α : Type} [DecidableEq α] (d : α) (k : Nat) (v : α) (hv : v ≠ d) (m : Sparse α) : ∀ lo, lo ≤ k →
    risesFrom d lo m = true → risesFrom d lo (putNew m k v) = true := by
  induction m with
  | nil => intro lo hl _; simp [putNew, risesFrom, hl, hv]
  | cons e r ih =>
    obtain ⟨k', v'⟩ := e
    intro lo hl h
    simp only [risesFrom, Bool.and_eq_true, decide_eq_true_eq] at h
    unfold putNew
    split
    · rename_i hk
      simp only [risesFrom, Bool.and_eq_true, decide_eq_true_eq]
      exact ⟨⟨hl, hv⟩, ⟨by omega, h.1.2⟩, h.2⟩
    · split
      · rename_i hk; subst hk
        simp only [risesFrom, Bool.and_eq_true, decide_eq_true_eq]
        exact ⟨⟨hl, hv⟩, h.2⟩
      · simp only [risesFrom, Bool.and_eq_true, decide_eq_true_eq]
        exact ⟨h.1, ih _ (by omega) h.2⟩

/-- A write keeps the canonical form. -/
theorem sparseWf_put {α : Type} [DecidableEq α] (d : α) (m : Sparse α) (k : Nat) (v : α) (h : sparseWf d m = true) :
    sparseWf d (put d m k v) = true := by
  rw [sparseWf_iff] at *
  unfold put
  split
  · exact risesFrom_erase d k m 0 h
  · rename_i hv; exact risesFrom_putNew d k v hv m 0 (Nat.zero_le _) h

/-- A write of a run of values keeps the canonical form. -/
theorem sparseWf_putList {α : Type} [DecidableEq α] (d : α) (vs : List α) : ∀ (m : Sparse α) (k : Nat), sparseWf d m = true →
    sparseWf d (putList d m k vs) = true := by
  induction vs with
  | nil => intro m k h; exact h
  | cons v vs ih => intro m k h; exact ih _ _ (sparseWf_put d m k v h)

/-- What a run of values written from `k` reads as: the values at their indexes, everything else as before. -/
theorem look_putList {α : Type} [DecidableEq α] (d : α) (vs : List α) : ∀ (m : Sparse α) (k j : Nat),
    look d (putList d m k vs) j = if k ≤ j ∧ j < k + vs.length then vs.getD (j - k) d else look d m j := by
  induction vs with
  | nil =>
    intro m k j
    have hn : ¬ (k ≤ j ∧ j < k + 0) := by omega
    simp only [putList, List.length_nil, hn, if_false]
  | cons v vs ih =>
    intro m k j
    simp only [putList, ih, look_put, List.length_cons]
    by_cases h : j = k
    · subst h
      have h1 : ¬ (j + 1 ≤ j ∧ j < j + 1 + vs.length) := by omega
      have h2 : j ≤ j ∧ j < j + (vs.length + 1) := by omega
      rw [if_neg h1, if_pos rfl, if_pos h2, Nat.sub_self, List.getD_cons_zero]
    · by_cases h3 : k + 1 ≤ j ∧ j < k + 1 + vs.length
      · have h4 : k ≤ j ∧ j < k + (vs.length + 1) := by omega
        have h5 : j - k = (j - (k + 1)) + 1 := by omega
        simp only [h3, h4, and_self, if_true, h5, List.getD_cons_succ]
      · have h4 : ¬ (k ≤ j ∧ j < k + (vs.length + 1)) := by omega
        simp only [h3, h4, h, if_false]

/-! ### Updates, field by field -/

@[simp] theorem State.setTile_pending (s : State) (t : Nat) (v : TileSt) : (s.setTile t v).pending = s.pending := rfl
@[simp] theorem State.setTile_trip (s : State) (t : Nat) (v : TileSt) : (s.setTile t v).trip = s.trip := rfl
@[simp] theorem State.setTile_ao (s : State) (t : Nat) (v : TileSt) : (s.setTile t v).ao = s.ao := rfl
@[simp] theorem State.setTile_power (s : State) (t : Nat) (v : TileSt) : (s.setTile t v).power = s.power := rfl
@[simp] theorem State.setTile_hdrs (s : State) (t : Nat) (v : TileSt) : (s.setTile t v).hdrs = s.hdrs := rfl
@[simp] theorem State.setTile_frozen (s : State) (t : Nat) (v : TileSt) : (s.setTile t v).frozen = s.frozen := rfl
@[simp] theorem State.setTile_arb (s : State) (t : Nat) (v : TileSt) : (s.setTile t v).arb = s.arb := rfl
@[simp] theorem State.setTile_events (s : State) (t : Nat) (v : TileSt) : (s.setTile t v).events = s.events := rfl
@[simp] theorem State.setTile_ledgers (s : State) (t : Nat) (v : TileSt) : (s.setTile t v).ledgers = s.ledgers := rfl
@[simp] theorem State.setTile_ledger (s : State) (t : Nat) (v : TileSt) : (s.setTile t v).ledger = s.ledger := rfl
@[simp] theorem State.setTile_nets (s : State) (t : Nat) (v : TileSt) : (s.setTile t v).nets = s.nets := rfl
@[simp] theorem State.setTile_cells (s : State) (t : Nat) (v : TileSt) : (s.setTile t v).cells = s.cells := rfl
@[simp] theorem State.setTile_loops (s : State) (t : Nat) (v : TileSt) : (s.setTile t v).loops = s.loops := rfl
@[simp] theorem State.setTile_surveys (s : State) (t : Nat) (v : TileSt) : (s.setTile t v).surveys = s.surveys := rfl
@[simp] theorem State.setTile_hearth (s : State) (t : Nat) (v : TileSt) : (s.setTile t v).hearth = s.hearth := rfl
@[simp] theorem State.setTile_token (s : State) (t : Nat) (v : TileSt) : (s.setTile t v).token = s.token := rfl
@[simp] theorem State.setTile_therm (s : State) (t : Nat) (v : TileSt) : (s.setTile t v).therm = s.therm := rfl
@[simp] theorem State.setTile_cores (s : State) (t : Nat) (v : TileSt) : (s.setTile t v).cores = s.cores := rfl
@[simp] theorem State.setTile_grid (s : State) (t : Nat) (v : TileSt) : (s.setTile t v).grid = s.grid := rfl
@[simp] theorem State.setTile_mem (s : State) (t : Nat) (v : TileSt) : (s.setTile t v).mem = s.mem := rfl
@[simp] theorem State.setTile_parts (s : State) (t : Nat) (v : TileSt) : (s.setTile t v).parts = s.parts := rfl
@[simp] theorem State.setTile_tenants (s : State) (t : Nat) (v : TileSt) : (s.setTile t v).tenants = s.tenants := rfl
@[simp] theorem State.setTile_host (s : State) (t : Nat) (v : TileSt) : (s.setTile t v).host = s.host := rfl
@[simp] theorem State.setTile_links (s : State) (t : Nat) (v : TileSt) : (s.setTile t v).links = s.links := rfl
@[simp] theorem State.setTile_tmb (s : State) (t : Nat) (v : TileSt) : (s.setTile t v).tmb = s.tmb := rfl
@[simp] theorem State.setTile_cal (s : State) (t : Nat) (v : TileSt) : (s.setTile t v).cal = s.cal := rfl
@[simp] theorem State.setTile_out (s : State) (t : Nat) (v : TileSt) : (s.setTile t v).out = s.out := rfl
@[simp] theorem State.setTile_free (s : State) (t : Nat) (v : TileSt) : (s.setTile t v).free = s.free := rfl
@[simp] theorem State.setTile_tile (s : State) (t j : Nat) (v : TileSt) : (s.setTile t v).tile j = if j = t then v else s.tile j := by
  simp [State.setTile, State.tile]
@[simp] theorem State.setTile_net (s : State) (t j : Nat) (v : TileSt) : (s.setTile t v).net j = s.net j := rfl
@[simp] theorem State.setTile_cell (s : State) (t j : Nat) (v : TileSt) : (s.setTile t v).cell j = s.cell j := rfl
@[simp] theorem State.setTile_loopE (s : State) (t j : Nat) (v : TileSt) : (s.setTile t v).loopE j = s.loopE j := rfl
@[simp] theorem State.setTile_survey (s : State) (t j : Nat) (v : TileSt) : (s.setTile t v).survey j = s.survey j := rfl
@[simp] theorem State.setTile_core (s : State) (t j : Nat) (v : TileSt) : (s.setTile t v).core j = s.core j := rfl
@[simp] theorem State.setTile_stack (s : State) (t j : Nat) (v : TileSt) : (s.setTile t v).stack j = s.stack j := rfl
@[simp] theorem State.setTile_part (s : State) (t j : Nat) (v : TileSt) : (s.setTile t v).part j = s.part j := rfl
@[simp] theorem State.setTile_tenant (s : State) (t j : Nat) (v : TileSt) : (s.setTile t v).tenant j = s.tenant j := rfl
@[simp] theorem State.setTile_queue (s : State) (t j : Nat) (v : TileSt) : (s.setTile t v).queue j = s.queue j := rfl
@[simp] theorem State.setTile_cmd (s : State) (t j : Nat) (v : TileSt) : (s.setTile t v).cmd j = s.cmd j := rfl
@[simp] theorem State.setTile_lane (s : State) (t j : Nat) (v : TileSt) : (s.setTile t v).lane j = s.lane j := rfl
@[simp] theorem State.setTile_port (s : State) (t j : Nat) (v : TileSt) : (s.setTile t v).port j = s.port j := rfl
@[simp] theorem State.setTile_hdr (s : State) (t : Nat) (v : TileSt) (pg : PageRef) : (s.setTile t v).hdr pg = s.hdr pg := rfl
@[simp] theorem State.modTile_eq (s : State) (t : Nat) (f : TileSt → TileSt) : s.modTile t f = s.setTile t (f (s.tile t)) := rfl

@[simp] theorem State.setNet_pending (s : State) (n : Nat) (v : NetSt) : (s.setNet n v).pending = s.pending := rfl
@[simp] theorem State.setNet_trip (s : State) (n : Nat) (v : NetSt) : (s.setNet n v).trip = s.trip := rfl
@[simp] theorem State.setNet_ao (s : State) (n : Nat) (v : NetSt) : (s.setNet n v).ao = s.ao := rfl
@[simp] theorem State.setNet_power (s : State) (n : Nat) (v : NetSt) : (s.setNet n v).power = s.power := rfl
@[simp] theorem State.setNet_tiles (s : State) (n : Nat) (v : NetSt) : (s.setNet n v).tiles = s.tiles := rfl
@[simp] theorem State.setNet_hdrs (s : State) (n : Nat) (v : NetSt) : (s.setNet n v).hdrs = s.hdrs := rfl
@[simp] theorem State.setNet_frozen (s : State) (n : Nat) (v : NetSt) : (s.setNet n v).frozen = s.frozen := rfl
@[simp] theorem State.setNet_arb (s : State) (n : Nat) (v : NetSt) : (s.setNet n v).arb = s.arb := rfl
@[simp] theorem State.setNet_events (s : State) (n : Nat) (v : NetSt) : (s.setNet n v).events = s.events := rfl
@[simp] theorem State.setNet_ledgers (s : State) (n : Nat) (v : NetSt) : (s.setNet n v).ledgers = s.ledgers := rfl
@[simp] theorem State.setNet_ledger (s : State) (n : Nat) (v : NetSt) : (s.setNet n v).ledger = s.ledger := rfl
@[simp] theorem State.setNet_cells (s : State) (n : Nat) (v : NetSt) : (s.setNet n v).cells = s.cells := rfl
@[simp] theorem State.setNet_loops (s : State) (n : Nat) (v : NetSt) : (s.setNet n v).loops = s.loops := rfl
@[simp] theorem State.setNet_surveys (s : State) (n : Nat) (v : NetSt) : (s.setNet n v).surveys = s.surveys := rfl
@[simp] theorem State.setNet_hearth (s : State) (n : Nat) (v : NetSt) : (s.setNet n v).hearth = s.hearth := rfl
@[simp] theorem State.setNet_token (s : State) (n : Nat) (v : NetSt) : (s.setNet n v).token = s.token := rfl
@[simp] theorem State.setNet_therm (s : State) (n : Nat) (v : NetSt) : (s.setNet n v).therm = s.therm := rfl
@[simp] theorem State.setNet_cores (s : State) (n : Nat) (v : NetSt) : (s.setNet n v).cores = s.cores := rfl
@[simp] theorem State.setNet_grid (s : State) (n : Nat) (v : NetSt) : (s.setNet n v).grid = s.grid := rfl
@[simp] theorem State.setNet_mem (s : State) (n : Nat) (v : NetSt) : (s.setNet n v).mem = s.mem := rfl
@[simp] theorem State.setNet_parts (s : State) (n : Nat) (v : NetSt) : (s.setNet n v).parts = s.parts := rfl
@[simp] theorem State.setNet_tenants (s : State) (n : Nat) (v : NetSt) : (s.setNet n v).tenants = s.tenants := rfl
@[simp] theorem State.setNet_host (s : State) (n : Nat) (v : NetSt) : (s.setNet n v).host = s.host := rfl
@[simp] theorem State.setNet_links (s : State) (n : Nat) (v : NetSt) : (s.setNet n v).links = s.links := rfl
@[simp] theorem State.setNet_tmb (s : State) (n : Nat) (v : NetSt) : (s.setNet n v).tmb = s.tmb := rfl
@[simp] theorem State.setNet_cal (s : State) (n : Nat) (v : NetSt) : (s.setNet n v).cal = s.cal := rfl
@[simp] theorem State.setNet_out (s : State) (n : Nat) (v : NetSt) : (s.setNet n v).out = s.out := rfl
@[simp] theorem State.setNet_free (s : State) (n : Nat) (v : NetSt) : (s.setNet n v).free = s.free := rfl
@[simp] theorem State.setNet_tile (s : State) (n j : Nat) (v : NetSt) : (s.setNet n v).tile j = s.tile j := rfl
@[simp] theorem State.setNet_net (s : State) (n j : Nat) (v : NetSt) : (s.setNet n v).net j = if j = n then v else s.net j := by
  simp [State.setNet, State.net]
@[simp] theorem State.setNet_cell (s : State) (n j : Nat) (v : NetSt) : (s.setNet n v).cell j = s.cell j := rfl
@[simp] theorem State.setNet_loopE (s : State) (n j : Nat) (v : NetSt) : (s.setNet n v).loopE j = s.loopE j := rfl
@[simp] theorem State.setNet_survey (s : State) (n j : Nat) (v : NetSt) : (s.setNet n v).survey j = s.survey j := rfl
@[simp] theorem State.setNet_core (s : State) (n j : Nat) (v : NetSt) : (s.setNet n v).core j = s.core j := rfl
@[simp] theorem State.setNet_stack (s : State) (n j : Nat) (v : NetSt) : (s.setNet n v).stack j = s.stack j := rfl
@[simp] theorem State.setNet_part (s : State) (n j : Nat) (v : NetSt) : (s.setNet n v).part j = s.part j := rfl
@[simp] theorem State.setNet_tenant (s : State) (n j : Nat) (v : NetSt) : (s.setNet n v).tenant j = s.tenant j := rfl
@[simp] theorem State.setNet_queue (s : State) (n j : Nat) (v : NetSt) : (s.setNet n v).queue j = s.queue j := rfl
@[simp] theorem State.setNet_cmd (s : State) (n j : Nat) (v : NetSt) : (s.setNet n v).cmd j = s.cmd j := rfl
@[simp] theorem State.setNet_lane (s : State) (n j : Nat) (v : NetSt) : (s.setNet n v).lane j = s.lane j := rfl
@[simp] theorem State.setNet_port (s : State) (n j : Nat) (v : NetSt) : (s.setNet n v).port j = s.port j := rfl
@[simp] theorem State.setNet_hdr (s : State) (n : Nat) (v : NetSt) (pg : PageRef) : (s.setNet n v).hdr pg = s.hdr pg := rfl
@[simp] theorem State.modNet_eq (s : State) (n : Nat) (f : NetSt → NetSt) : s.modNet n f = s.setNet n (f (s.net n)) := rfl

@[simp] theorem State.setCell_pending (s : State) (i : Nat) (v : CellSt) : (s.setCell i v).pending = s.pending := rfl
@[simp] theorem State.setCell_trip (s : State) (i : Nat) (v : CellSt) : (s.setCell i v).trip = s.trip := rfl
@[simp] theorem State.setCell_ao (s : State) (i : Nat) (v : CellSt) : (s.setCell i v).ao = s.ao := rfl
@[simp] theorem State.setCell_power (s : State) (i : Nat) (v : CellSt) : (s.setCell i v).power = s.power := rfl
@[simp] theorem State.setCell_tiles (s : State) (i : Nat) (v : CellSt) : (s.setCell i v).tiles = s.tiles := rfl
@[simp] theorem State.setCell_hdrs (s : State) (i : Nat) (v : CellSt) : (s.setCell i v).hdrs = s.hdrs := rfl
@[simp] theorem State.setCell_frozen (s : State) (i : Nat) (v : CellSt) : (s.setCell i v).frozen = s.frozen := rfl
@[simp] theorem State.setCell_arb (s : State) (i : Nat) (v : CellSt) : (s.setCell i v).arb = s.arb := rfl
@[simp] theorem State.setCell_events (s : State) (i : Nat) (v : CellSt) : (s.setCell i v).events = s.events := rfl
@[simp] theorem State.setCell_ledgers (s : State) (i : Nat) (v : CellSt) : (s.setCell i v).ledgers = s.ledgers := rfl
@[simp] theorem State.setCell_ledger (s : State) (i : Nat) (v : CellSt) : (s.setCell i v).ledger = s.ledger := rfl
@[simp] theorem State.setCell_nets (s : State) (i : Nat) (v : CellSt) : (s.setCell i v).nets = s.nets := rfl
@[simp] theorem State.setCell_loops (s : State) (i : Nat) (v : CellSt) : (s.setCell i v).loops = s.loops := rfl
@[simp] theorem State.setCell_surveys (s : State) (i : Nat) (v : CellSt) : (s.setCell i v).surveys = s.surveys := rfl
@[simp] theorem State.setCell_hearth (s : State) (i : Nat) (v : CellSt) : (s.setCell i v).hearth = s.hearth := rfl
@[simp] theorem State.setCell_token (s : State) (i : Nat) (v : CellSt) : (s.setCell i v).token = s.token := rfl
@[simp] theorem State.setCell_therm (s : State) (i : Nat) (v : CellSt) : (s.setCell i v).therm = s.therm := rfl
@[simp] theorem State.setCell_cores (s : State) (i : Nat) (v : CellSt) : (s.setCell i v).cores = s.cores := rfl
@[simp] theorem State.setCell_grid (s : State) (i : Nat) (v : CellSt) : (s.setCell i v).grid = s.grid := rfl
@[simp] theorem State.setCell_mem (s : State) (i : Nat) (v : CellSt) : (s.setCell i v).mem = s.mem := rfl
@[simp] theorem State.setCell_parts (s : State) (i : Nat) (v : CellSt) : (s.setCell i v).parts = s.parts := rfl
@[simp] theorem State.setCell_tenants (s : State) (i : Nat) (v : CellSt) : (s.setCell i v).tenants = s.tenants := rfl
@[simp] theorem State.setCell_host (s : State) (i : Nat) (v : CellSt) : (s.setCell i v).host = s.host := rfl
@[simp] theorem State.setCell_links (s : State) (i : Nat) (v : CellSt) : (s.setCell i v).links = s.links := rfl
@[simp] theorem State.setCell_tmb (s : State) (i : Nat) (v : CellSt) : (s.setCell i v).tmb = s.tmb := rfl
@[simp] theorem State.setCell_cal (s : State) (i : Nat) (v : CellSt) : (s.setCell i v).cal = s.cal := rfl
@[simp] theorem State.setCell_out (s : State) (i : Nat) (v : CellSt) : (s.setCell i v).out = s.out := rfl
@[simp] theorem State.setCell_free (s : State) (i : Nat) (v : CellSt) : (s.setCell i v).free = s.free := rfl
@[simp] theorem State.setCell_tile (s : State) (i j : Nat) (v : CellSt) : (s.setCell i v).tile j = s.tile j := rfl
@[simp] theorem State.setCell_net (s : State) (i j : Nat) (v : CellSt) : (s.setCell i v).net j = s.net j := rfl
@[simp] theorem State.setCell_cell (s : State) (i j : Nat) (v : CellSt) : (s.setCell i v).cell j = if j = i then v else s.cell j := by
  simp [State.setCell, State.cell]
@[simp] theorem State.setCell_loopE (s : State) (i j : Nat) (v : CellSt) : (s.setCell i v).loopE j = s.loopE j := rfl
@[simp] theorem State.setCell_survey (s : State) (i j : Nat) (v : CellSt) : (s.setCell i v).survey j = s.survey j := rfl
@[simp] theorem State.setCell_core (s : State) (i j : Nat) (v : CellSt) : (s.setCell i v).core j = s.core j := rfl
@[simp] theorem State.setCell_stack (s : State) (i j : Nat) (v : CellSt) : (s.setCell i v).stack j = s.stack j := rfl
@[simp] theorem State.setCell_part (s : State) (i j : Nat) (v : CellSt) : (s.setCell i v).part j = s.part j := rfl
@[simp] theorem State.setCell_tenant (s : State) (i j : Nat) (v : CellSt) : (s.setCell i v).tenant j = s.tenant j := rfl
@[simp] theorem State.setCell_queue (s : State) (i j : Nat) (v : CellSt) : (s.setCell i v).queue j = s.queue j := rfl
@[simp] theorem State.setCell_cmd (s : State) (i j : Nat) (v : CellSt) : (s.setCell i v).cmd j = s.cmd j := rfl
@[simp] theorem State.setCell_lane (s : State) (i j : Nat) (v : CellSt) : (s.setCell i v).lane j = s.lane j := rfl
@[simp] theorem State.setCell_port (s : State) (i j : Nat) (v : CellSt) : (s.setCell i v).port j = s.port j := rfl
@[simp] theorem State.setCell_hdr (s : State) (i : Nat) (v : CellSt) (pg : PageRef) : (s.setCell i v).hdr pg = s.hdr pg := rfl
@[simp] theorem State.modCell_eq (s : State) (i : Nat) (f : CellSt → CellSt) : s.modCell i f = s.setCell i (f (s.cell i)) := rfl

@[simp] theorem State.setLoop_pending (s : State) (d : Nat) (v : LoopSt) : (s.setLoop d v).pending = s.pending := rfl
@[simp] theorem State.setLoop_trip (s : State) (d : Nat) (v : LoopSt) : (s.setLoop d v).trip = s.trip := rfl
@[simp] theorem State.setLoop_ao (s : State) (d : Nat) (v : LoopSt) : (s.setLoop d v).ao = s.ao := rfl
@[simp] theorem State.setLoop_power (s : State) (d : Nat) (v : LoopSt) : (s.setLoop d v).power = s.power := rfl
@[simp] theorem State.setLoop_tiles (s : State) (d : Nat) (v : LoopSt) : (s.setLoop d v).tiles = s.tiles := rfl
@[simp] theorem State.setLoop_hdrs (s : State) (d : Nat) (v : LoopSt) : (s.setLoop d v).hdrs = s.hdrs := rfl
@[simp] theorem State.setLoop_frozen (s : State) (d : Nat) (v : LoopSt) : (s.setLoop d v).frozen = s.frozen := rfl
@[simp] theorem State.setLoop_arb (s : State) (d : Nat) (v : LoopSt) : (s.setLoop d v).arb = s.arb := rfl
@[simp] theorem State.setLoop_events (s : State) (d : Nat) (v : LoopSt) : (s.setLoop d v).events = s.events := rfl
@[simp] theorem State.setLoop_ledgers (s : State) (d : Nat) (v : LoopSt) : (s.setLoop d v).ledgers = s.ledgers := rfl
@[simp] theorem State.setLoop_ledger (s : State) (d : Nat) (v : LoopSt) : (s.setLoop d v).ledger = s.ledger := rfl
@[simp] theorem State.setLoop_nets (s : State) (d : Nat) (v : LoopSt) : (s.setLoop d v).nets = s.nets := rfl
@[simp] theorem State.setLoop_cells (s : State) (d : Nat) (v : LoopSt) : (s.setLoop d v).cells = s.cells := rfl
@[simp] theorem State.setLoop_surveys (s : State) (d : Nat) (v : LoopSt) : (s.setLoop d v).surveys = s.surveys := rfl
@[simp] theorem State.setLoop_hearth (s : State) (d : Nat) (v : LoopSt) : (s.setLoop d v).hearth = s.hearth := rfl
@[simp] theorem State.setLoop_token (s : State) (d : Nat) (v : LoopSt) : (s.setLoop d v).token = s.token := rfl
@[simp] theorem State.setLoop_therm (s : State) (d : Nat) (v : LoopSt) : (s.setLoop d v).therm = s.therm := rfl
@[simp] theorem State.setLoop_cores (s : State) (d : Nat) (v : LoopSt) : (s.setLoop d v).cores = s.cores := rfl
@[simp] theorem State.setLoop_grid (s : State) (d : Nat) (v : LoopSt) : (s.setLoop d v).grid = s.grid := rfl
@[simp] theorem State.setLoop_mem (s : State) (d : Nat) (v : LoopSt) : (s.setLoop d v).mem = s.mem := rfl
@[simp] theorem State.setLoop_parts (s : State) (d : Nat) (v : LoopSt) : (s.setLoop d v).parts = s.parts := rfl
@[simp] theorem State.setLoop_tenants (s : State) (d : Nat) (v : LoopSt) : (s.setLoop d v).tenants = s.tenants := rfl
@[simp] theorem State.setLoop_host (s : State) (d : Nat) (v : LoopSt) : (s.setLoop d v).host = s.host := rfl
@[simp] theorem State.setLoop_links (s : State) (d : Nat) (v : LoopSt) : (s.setLoop d v).links = s.links := rfl
@[simp] theorem State.setLoop_tmb (s : State) (d : Nat) (v : LoopSt) : (s.setLoop d v).tmb = s.tmb := rfl
@[simp] theorem State.setLoop_cal (s : State) (d : Nat) (v : LoopSt) : (s.setLoop d v).cal = s.cal := rfl
@[simp] theorem State.setLoop_out (s : State) (d : Nat) (v : LoopSt) : (s.setLoop d v).out = s.out := rfl
@[simp] theorem State.setLoop_free (s : State) (d : Nat) (v : LoopSt) : (s.setLoop d v).free = s.free := rfl
@[simp] theorem State.setLoop_tile (s : State) (d j : Nat) (v : LoopSt) : (s.setLoop d v).tile j = s.tile j := rfl
@[simp] theorem State.setLoop_net (s : State) (d j : Nat) (v : LoopSt) : (s.setLoop d v).net j = s.net j := rfl
@[simp] theorem State.setLoop_cell (s : State) (d j : Nat) (v : LoopSt) : (s.setLoop d v).cell j = s.cell j := rfl
@[simp] theorem State.setLoop_loopE (s : State) (d j : Nat) (v : LoopSt) : (s.setLoop d v).loopE j = if j = d then v else s.loopE j := by
  simp [State.setLoop, State.loopE]
@[simp] theorem State.setLoop_survey (s : State) (d j : Nat) (v : LoopSt) : (s.setLoop d v).survey j = s.survey j := rfl
@[simp] theorem State.setLoop_core (s : State) (d j : Nat) (v : LoopSt) : (s.setLoop d v).core j = s.core j := rfl
@[simp] theorem State.setLoop_stack (s : State) (d j : Nat) (v : LoopSt) : (s.setLoop d v).stack j = s.stack j := rfl
@[simp] theorem State.setLoop_part (s : State) (d j : Nat) (v : LoopSt) : (s.setLoop d v).part j = s.part j := rfl
@[simp] theorem State.setLoop_tenant (s : State) (d j : Nat) (v : LoopSt) : (s.setLoop d v).tenant j = s.tenant j := rfl
@[simp] theorem State.setLoop_queue (s : State) (d j : Nat) (v : LoopSt) : (s.setLoop d v).queue j = s.queue j := rfl
@[simp] theorem State.setLoop_cmd (s : State) (d j : Nat) (v : LoopSt) : (s.setLoop d v).cmd j = s.cmd j := rfl
@[simp] theorem State.setLoop_lane (s : State) (d j : Nat) (v : LoopSt) : (s.setLoop d v).lane j = s.lane j := rfl
@[simp] theorem State.setLoop_port (s : State) (d j : Nat) (v : LoopSt) : (s.setLoop d v).port j = s.port j := rfl
@[simp] theorem State.setLoop_hdr (s : State) (d : Nat) (v : LoopSt) (pg : PageRef) : (s.setLoop d v).hdr pg = s.hdr pg := rfl
@[simp] theorem State.modLoop_eq (s : State) (d : Nat) (f : LoopSt → LoopSt) : s.modLoop d f = s.setLoop d (f (s.loopE d)) := rfl

@[simp] theorem State.setSurvey_pending (s : State) (d : Nat) (v : SurveySt) : (s.setSurvey d v).pending = s.pending := rfl
@[simp] theorem State.setSurvey_trip (s : State) (d : Nat) (v : SurveySt) : (s.setSurvey d v).trip = s.trip := rfl
@[simp] theorem State.setSurvey_ao (s : State) (d : Nat) (v : SurveySt) : (s.setSurvey d v).ao = s.ao := rfl
@[simp] theorem State.setSurvey_power (s : State) (d : Nat) (v : SurveySt) : (s.setSurvey d v).power = s.power := rfl
@[simp] theorem State.setSurvey_tiles (s : State) (d : Nat) (v : SurveySt) : (s.setSurvey d v).tiles = s.tiles := rfl
@[simp] theorem State.setSurvey_hdrs (s : State) (d : Nat) (v : SurveySt) : (s.setSurvey d v).hdrs = s.hdrs := rfl
@[simp] theorem State.setSurvey_frozen (s : State) (d : Nat) (v : SurveySt) : (s.setSurvey d v).frozen = s.frozen := rfl
@[simp] theorem State.setSurvey_arb (s : State) (d : Nat) (v : SurveySt) : (s.setSurvey d v).arb = s.arb := rfl
@[simp] theorem State.setSurvey_events (s : State) (d : Nat) (v : SurveySt) : (s.setSurvey d v).events = s.events := rfl
@[simp] theorem State.setSurvey_ledgers (s : State) (d : Nat) (v : SurveySt) : (s.setSurvey d v).ledgers = s.ledgers := rfl
@[simp] theorem State.setSurvey_ledger (s : State) (d : Nat) (v : SurveySt) : (s.setSurvey d v).ledger = s.ledger := rfl
@[simp] theorem State.setSurvey_nets (s : State) (d : Nat) (v : SurveySt) : (s.setSurvey d v).nets = s.nets := rfl
@[simp] theorem State.setSurvey_cells (s : State) (d : Nat) (v : SurveySt) : (s.setSurvey d v).cells = s.cells := rfl
@[simp] theorem State.setSurvey_loops (s : State) (d : Nat) (v : SurveySt) : (s.setSurvey d v).loops = s.loops := rfl
@[simp] theorem State.setSurvey_hearth (s : State) (d : Nat) (v : SurveySt) : (s.setSurvey d v).hearth = s.hearth := rfl
@[simp] theorem State.setSurvey_token (s : State) (d : Nat) (v : SurveySt) : (s.setSurvey d v).token = s.token := rfl
@[simp] theorem State.setSurvey_therm (s : State) (d : Nat) (v : SurveySt) : (s.setSurvey d v).therm = s.therm := rfl
@[simp] theorem State.setSurvey_cores (s : State) (d : Nat) (v : SurveySt) : (s.setSurvey d v).cores = s.cores := rfl
@[simp] theorem State.setSurvey_grid (s : State) (d : Nat) (v : SurveySt) : (s.setSurvey d v).grid = s.grid := rfl
@[simp] theorem State.setSurvey_mem (s : State) (d : Nat) (v : SurveySt) : (s.setSurvey d v).mem = s.mem := rfl
@[simp] theorem State.setSurvey_parts (s : State) (d : Nat) (v : SurveySt) : (s.setSurvey d v).parts = s.parts := rfl
@[simp] theorem State.setSurvey_tenants (s : State) (d : Nat) (v : SurveySt) : (s.setSurvey d v).tenants = s.tenants := rfl
@[simp] theorem State.setSurvey_host (s : State) (d : Nat) (v : SurveySt) : (s.setSurvey d v).host = s.host := rfl
@[simp] theorem State.setSurvey_links (s : State) (d : Nat) (v : SurveySt) : (s.setSurvey d v).links = s.links := rfl
@[simp] theorem State.setSurvey_tmb (s : State) (d : Nat) (v : SurveySt) : (s.setSurvey d v).tmb = s.tmb := rfl
@[simp] theorem State.setSurvey_cal (s : State) (d : Nat) (v : SurveySt) : (s.setSurvey d v).cal = s.cal := rfl
@[simp] theorem State.setSurvey_out (s : State) (d : Nat) (v : SurveySt) : (s.setSurvey d v).out = s.out := rfl
@[simp] theorem State.setSurvey_free (s : State) (d : Nat) (v : SurveySt) : (s.setSurvey d v).free = s.free := rfl
@[simp] theorem State.setSurvey_tile (s : State) (d j : Nat) (v : SurveySt) : (s.setSurvey d v).tile j = s.tile j := rfl
@[simp] theorem State.setSurvey_net (s : State) (d j : Nat) (v : SurveySt) : (s.setSurvey d v).net j = s.net j := rfl
@[simp] theorem State.setSurvey_cell (s : State) (d j : Nat) (v : SurveySt) : (s.setSurvey d v).cell j = s.cell j := rfl
@[simp] theorem State.setSurvey_loopE (s : State) (d j : Nat) (v : SurveySt) : (s.setSurvey d v).loopE j = s.loopE j := rfl
@[simp] theorem State.setSurvey_survey (s : State) (d j : Nat) (v : SurveySt) : (s.setSurvey d v).survey j = if j = d then v else s.survey j := by
  simp [State.setSurvey, State.survey]
@[simp] theorem State.setSurvey_core (s : State) (d j : Nat) (v : SurveySt) : (s.setSurvey d v).core j = s.core j := rfl
@[simp] theorem State.setSurvey_stack (s : State) (d j : Nat) (v : SurveySt) : (s.setSurvey d v).stack j = s.stack j := rfl
@[simp] theorem State.setSurvey_part (s : State) (d j : Nat) (v : SurveySt) : (s.setSurvey d v).part j = s.part j := rfl
@[simp] theorem State.setSurvey_tenant (s : State) (d j : Nat) (v : SurveySt) : (s.setSurvey d v).tenant j = s.tenant j := rfl
@[simp] theorem State.setSurvey_queue (s : State) (d j : Nat) (v : SurveySt) : (s.setSurvey d v).queue j = s.queue j := rfl
@[simp] theorem State.setSurvey_cmd (s : State) (d j : Nat) (v : SurveySt) : (s.setSurvey d v).cmd j = s.cmd j := rfl
@[simp] theorem State.setSurvey_lane (s : State) (d j : Nat) (v : SurveySt) : (s.setSurvey d v).lane j = s.lane j := rfl
@[simp] theorem State.setSurvey_port (s : State) (d j : Nat) (v : SurveySt) : (s.setSurvey d v).port j = s.port j := rfl
@[simp] theorem State.setSurvey_hdr (s : State) (d : Nat) (v : SurveySt) (pg : PageRef) : (s.setSurvey d v).hdr pg = s.hdr pg := rfl
@[simp] theorem State.modSurvey_eq (s : State) (d : Nat) (f : SurveySt → SurveySt) : s.modSurvey d f = s.setSurvey d (f (s.survey d)) := rfl

@[simp] theorem State.setCore_pending (s : State) (c : Nat) (v : CoreSt) : (s.setCore c v).pending = s.pending := rfl
@[simp] theorem State.setCore_trip (s : State) (c : Nat) (v : CoreSt) : (s.setCore c v).trip = s.trip := rfl
@[simp] theorem State.setCore_ao (s : State) (c : Nat) (v : CoreSt) : (s.setCore c v).ao = s.ao := rfl
@[simp] theorem State.setCore_power (s : State) (c : Nat) (v : CoreSt) : (s.setCore c v).power = s.power := rfl
@[simp] theorem State.setCore_tiles (s : State) (c : Nat) (v : CoreSt) : (s.setCore c v).tiles = s.tiles := rfl
@[simp] theorem State.setCore_hdrs (s : State) (c : Nat) (v : CoreSt) : (s.setCore c v).hdrs = s.hdrs := rfl
@[simp] theorem State.setCore_frozen (s : State) (c : Nat) (v : CoreSt) : (s.setCore c v).frozen = s.frozen := rfl
@[simp] theorem State.setCore_arb (s : State) (c : Nat) (v : CoreSt) : (s.setCore c v).arb = s.arb := rfl
@[simp] theorem State.setCore_events (s : State) (c : Nat) (v : CoreSt) : (s.setCore c v).events = s.events := rfl
@[simp] theorem State.setCore_ledgers (s : State) (c : Nat) (v : CoreSt) : (s.setCore c v).ledgers = s.ledgers := rfl
@[simp] theorem State.setCore_ledger (s : State) (c : Nat) (v : CoreSt) : (s.setCore c v).ledger = s.ledger := rfl
@[simp] theorem State.setCore_nets (s : State) (c : Nat) (v : CoreSt) : (s.setCore c v).nets = s.nets := rfl
@[simp] theorem State.setCore_cells (s : State) (c : Nat) (v : CoreSt) : (s.setCore c v).cells = s.cells := rfl
@[simp] theorem State.setCore_loops (s : State) (c : Nat) (v : CoreSt) : (s.setCore c v).loops = s.loops := rfl
@[simp] theorem State.setCore_surveys (s : State) (c : Nat) (v : CoreSt) : (s.setCore c v).surveys = s.surveys := rfl
@[simp] theorem State.setCore_hearth (s : State) (c : Nat) (v : CoreSt) : (s.setCore c v).hearth = s.hearth := rfl
@[simp] theorem State.setCore_token (s : State) (c : Nat) (v : CoreSt) : (s.setCore c v).token = s.token := rfl
@[simp] theorem State.setCore_therm (s : State) (c : Nat) (v : CoreSt) : (s.setCore c v).therm = s.therm := rfl
@[simp] theorem State.setCore_grid (s : State) (c : Nat) (v : CoreSt) : (s.setCore c v).grid = s.grid := rfl
@[simp] theorem State.setCore_mem (s : State) (c : Nat) (v : CoreSt) : (s.setCore c v).mem = s.mem := rfl
@[simp] theorem State.setCore_parts (s : State) (c : Nat) (v : CoreSt) : (s.setCore c v).parts = s.parts := rfl
@[simp] theorem State.setCore_tenants (s : State) (c : Nat) (v : CoreSt) : (s.setCore c v).tenants = s.tenants := rfl
@[simp] theorem State.setCore_host (s : State) (c : Nat) (v : CoreSt) : (s.setCore c v).host = s.host := rfl
@[simp] theorem State.setCore_links (s : State) (c : Nat) (v : CoreSt) : (s.setCore c v).links = s.links := rfl
@[simp] theorem State.setCore_tmb (s : State) (c : Nat) (v : CoreSt) : (s.setCore c v).tmb = s.tmb := rfl
@[simp] theorem State.setCore_cal (s : State) (c : Nat) (v : CoreSt) : (s.setCore c v).cal = s.cal := rfl
@[simp] theorem State.setCore_out (s : State) (c : Nat) (v : CoreSt) : (s.setCore c v).out = s.out := rfl
@[simp] theorem State.setCore_free (s : State) (c : Nat) (v : CoreSt) : (s.setCore c v).free = s.free := rfl
@[simp] theorem State.setCore_tile (s : State) (c j : Nat) (v : CoreSt) : (s.setCore c v).tile j = s.tile j := rfl
@[simp] theorem State.setCore_net (s : State) (c j : Nat) (v : CoreSt) : (s.setCore c v).net j = s.net j := rfl
@[simp] theorem State.setCore_cell (s : State) (c j : Nat) (v : CoreSt) : (s.setCore c v).cell j = s.cell j := rfl
@[simp] theorem State.setCore_loopE (s : State) (c j : Nat) (v : CoreSt) : (s.setCore c v).loopE j = s.loopE j := rfl
@[simp] theorem State.setCore_survey (s : State) (c j : Nat) (v : CoreSt) : (s.setCore c v).survey j = s.survey j := rfl
@[simp] theorem State.setCore_core (s : State) (c j : Nat) (v : CoreSt) : (s.setCore c v).core j = if j = c then v else s.core j := by
  simp [State.setCore, State.core]
@[simp] theorem State.setCore_stack (s : State) (c j : Nat) (v : CoreSt) : (s.setCore c v).stack j = s.stack j := rfl
@[simp] theorem State.setCore_part (s : State) (c j : Nat) (v : CoreSt) : (s.setCore c v).part j = s.part j := rfl
@[simp] theorem State.setCore_tenant (s : State) (c j : Nat) (v : CoreSt) : (s.setCore c v).tenant j = s.tenant j := rfl
@[simp] theorem State.setCore_queue (s : State) (c j : Nat) (v : CoreSt) : (s.setCore c v).queue j = s.queue j := rfl
@[simp] theorem State.setCore_cmd (s : State) (c j : Nat) (v : CoreSt) : (s.setCore c v).cmd j = s.cmd j := rfl
@[simp] theorem State.setCore_lane (s : State) (c j : Nat) (v : CoreSt) : (s.setCore c v).lane j = s.lane j := rfl
@[simp] theorem State.setCore_port (s : State) (c j : Nat) (v : CoreSt) : (s.setCore c v).port j = s.port j := rfl
@[simp] theorem State.setCore_hdr (s : State) (c : Nat) (v : CoreSt) (pg : PageRef) : (s.setCore c v).hdr pg = s.hdr pg := rfl
@[simp] theorem State.modCore_eq (s : State) (c : Nat) (f : CoreSt → CoreSt) : s.modCore c f = s.setCore c (f (s.core c)) := rfl

@[simp] theorem State.setStack_pending (s : State) (t : Nat) (v : StackSt) : (s.setStack t v).pending = s.pending := rfl
@[simp] theorem State.setStack_trip (s : State) (t : Nat) (v : StackSt) : (s.setStack t v).trip = s.trip := rfl
@[simp] theorem State.setStack_ao (s : State) (t : Nat) (v : StackSt) : (s.setStack t v).ao = s.ao := rfl
@[simp] theorem State.setStack_power (s : State) (t : Nat) (v : StackSt) : (s.setStack t v).power = s.power := rfl
@[simp] theorem State.setStack_tiles (s : State) (t : Nat) (v : StackSt) : (s.setStack t v).tiles = s.tiles := rfl
@[simp] theorem State.setStack_hdrs (s : State) (t : Nat) (v : StackSt) : (s.setStack t v).hdrs = s.hdrs := rfl
@[simp] theorem State.setStack_frozen (s : State) (t : Nat) (v : StackSt) : (s.setStack t v).frozen = s.frozen := rfl
@[simp] theorem State.setStack_arb (s : State) (t : Nat) (v : StackSt) : (s.setStack t v).arb = s.arb := rfl
@[simp] theorem State.setStack_events (s : State) (t : Nat) (v : StackSt) : (s.setStack t v).events = s.events := rfl
@[simp] theorem State.setStack_ledgers (s : State) (t : Nat) (v : StackSt) : (s.setStack t v).ledgers = s.ledgers := rfl
@[simp] theorem State.setStack_ledger (s : State) (t : Nat) (v : StackSt) : (s.setStack t v).ledger = s.ledger := rfl
@[simp] theorem State.setStack_nets (s : State) (t : Nat) (v : StackSt) : (s.setStack t v).nets = s.nets := rfl
@[simp] theorem State.setStack_cells (s : State) (t : Nat) (v : StackSt) : (s.setStack t v).cells = s.cells := rfl
@[simp] theorem State.setStack_loops (s : State) (t : Nat) (v : StackSt) : (s.setStack t v).loops = s.loops := rfl
@[simp] theorem State.setStack_surveys (s : State) (t : Nat) (v : StackSt) : (s.setStack t v).surveys = s.surveys := rfl
@[simp] theorem State.setStack_hearth (s : State) (t : Nat) (v : StackSt) : (s.setStack t v).hearth = s.hearth := rfl
@[simp] theorem State.setStack_token (s : State) (t : Nat) (v : StackSt) : (s.setStack t v).token = s.token := rfl
@[simp] theorem State.setStack_therm (s : State) (t : Nat) (v : StackSt) : (s.setStack t v).therm = s.therm := rfl
@[simp] theorem State.setStack_cores (s : State) (t : Nat) (v : StackSt) : (s.setStack t v).cores = s.cores := rfl
@[simp] theorem State.setStack_grid (s : State) (t : Nat) (v : StackSt) : (s.setStack t v).grid = s.grid := rfl
@[simp] theorem State.setStack_parts (s : State) (t : Nat) (v : StackSt) : (s.setStack t v).parts = s.parts := rfl
@[simp] theorem State.setStack_tenants (s : State) (t : Nat) (v : StackSt) : (s.setStack t v).tenants = s.tenants := rfl
@[simp] theorem State.setStack_host (s : State) (t : Nat) (v : StackSt) : (s.setStack t v).host = s.host := rfl
@[simp] theorem State.setStack_links (s : State) (t : Nat) (v : StackSt) : (s.setStack t v).links = s.links := rfl
@[simp] theorem State.setStack_tmb (s : State) (t : Nat) (v : StackSt) : (s.setStack t v).tmb = s.tmb := rfl
@[simp] theorem State.setStack_cal (s : State) (t : Nat) (v : StackSt) : (s.setStack t v).cal = s.cal := rfl
@[simp] theorem State.setStack_out (s : State) (t : Nat) (v : StackSt) : (s.setStack t v).out = s.out := rfl
@[simp] theorem State.setStack_free (s : State) (t : Nat) (v : StackSt) : (s.setStack t v).free = s.free := rfl
@[simp] theorem State.setStack_tile (s : State) (t j : Nat) (v : StackSt) : (s.setStack t v).tile j = s.tile j := rfl
@[simp] theorem State.setStack_net (s : State) (t j : Nat) (v : StackSt) : (s.setStack t v).net j = s.net j := rfl
@[simp] theorem State.setStack_cell (s : State) (t j : Nat) (v : StackSt) : (s.setStack t v).cell j = s.cell j := rfl
@[simp] theorem State.setStack_loopE (s : State) (t j : Nat) (v : StackSt) : (s.setStack t v).loopE j = s.loopE j := rfl
@[simp] theorem State.setStack_survey (s : State) (t j : Nat) (v : StackSt) : (s.setStack t v).survey j = s.survey j := rfl
@[simp] theorem State.setStack_core (s : State) (t j : Nat) (v : StackSt) : (s.setStack t v).core j = s.core j := rfl
@[simp] theorem State.setStack_stack (s : State) (t j : Nat) (v : StackSt) : (s.setStack t v).stack j = if j = t then v else s.stack j := by
  simp [State.setStack, State.stack]
@[simp] theorem State.setStack_part (s : State) (t j : Nat) (v : StackSt) : (s.setStack t v).part j = s.part j := rfl
@[simp] theorem State.setStack_tenant (s : State) (t j : Nat) (v : StackSt) : (s.setStack t v).tenant j = s.tenant j := rfl
@[simp] theorem State.setStack_queue (s : State) (t j : Nat) (v : StackSt) : (s.setStack t v).queue j = s.queue j := rfl
@[simp] theorem State.setStack_cmd (s : State) (t j : Nat) (v : StackSt) : (s.setStack t v).cmd j = s.cmd j := rfl
@[simp] theorem State.setStack_lane (s : State) (t j : Nat) (v : StackSt) : (s.setStack t v).lane j = s.lane j := rfl
@[simp] theorem State.setStack_port (s : State) (t j : Nat) (v : StackSt) : (s.setStack t v).port j = s.port j := rfl
@[simp] theorem State.setStack_hdr (s : State) (t : Nat) (v : StackSt) (pg : PageRef) : (s.setStack t v).hdr pg = s.hdr pg := rfl
@[simp] theorem State.modStack_eq (s : State) (t : Nat) (f : StackSt → StackSt) : s.modStack t f = s.setStack t (f (s.stack t)) := rfl

@[simp] theorem State.setPart_pending (s : State) (n : Nat) (v : PartSt) : (s.setPart n v).pending = s.pending := rfl
@[simp] theorem State.setPart_trip (s : State) (n : Nat) (v : PartSt) : (s.setPart n v).trip = s.trip := rfl
@[simp] theorem State.setPart_ao (s : State) (n : Nat) (v : PartSt) : (s.setPart n v).ao = s.ao := rfl
@[simp] theorem State.setPart_power (s : State) (n : Nat) (v : PartSt) : (s.setPart n v).power = s.power := rfl
@[simp] theorem State.setPart_tiles (s : State) (n : Nat) (v : PartSt) : (s.setPart n v).tiles = s.tiles := rfl
@[simp] theorem State.setPart_hdrs (s : State) (n : Nat) (v : PartSt) : (s.setPart n v).hdrs = s.hdrs := rfl
@[simp] theorem State.setPart_frozen (s : State) (n : Nat) (v : PartSt) : (s.setPart n v).frozen = s.frozen := rfl
@[simp] theorem State.setPart_arb (s : State) (n : Nat) (v : PartSt) : (s.setPart n v).arb = s.arb := rfl
@[simp] theorem State.setPart_events (s : State) (n : Nat) (v : PartSt) : (s.setPart n v).events = s.events := rfl
@[simp] theorem State.setPart_ledgers (s : State) (n : Nat) (v : PartSt) : (s.setPart n v).ledgers = s.ledgers := rfl
@[simp] theorem State.setPart_ledger (s : State) (n : Nat) (v : PartSt) : (s.setPart n v).ledger = s.ledger := rfl
@[simp] theorem State.setPart_nets (s : State) (n : Nat) (v : PartSt) : (s.setPart n v).nets = s.nets := rfl
@[simp] theorem State.setPart_cells (s : State) (n : Nat) (v : PartSt) : (s.setPart n v).cells = s.cells := rfl
@[simp] theorem State.setPart_loops (s : State) (n : Nat) (v : PartSt) : (s.setPart n v).loops = s.loops := rfl
@[simp] theorem State.setPart_surveys (s : State) (n : Nat) (v : PartSt) : (s.setPart n v).surveys = s.surveys := rfl
@[simp] theorem State.setPart_hearth (s : State) (n : Nat) (v : PartSt) : (s.setPart n v).hearth = s.hearth := rfl
@[simp] theorem State.setPart_token (s : State) (n : Nat) (v : PartSt) : (s.setPart n v).token = s.token := rfl
@[simp] theorem State.setPart_therm (s : State) (n : Nat) (v : PartSt) : (s.setPart n v).therm = s.therm := rfl
@[simp] theorem State.setPart_cores (s : State) (n : Nat) (v : PartSt) : (s.setPart n v).cores = s.cores := rfl
@[simp] theorem State.setPart_grid (s : State) (n : Nat) (v : PartSt) : (s.setPart n v).grid = s.grid := rfl
@[simp] theorem State.setPart_mem (s : State) (n : Nat) (v : PartSt) : (s.setPart n v).mem = s.mem := rfl
@[simp] theorem State.setPart_tenants (s : State) (n : Nat) (v : PartSt) : (s.setPart n v).tenants = s.tenants := rfl
@[simp] theorem State.setPart_host (s : State) (n : Nat) (v : PartSt) : (s.setPart n v).host = s.host := rfl
@[simp] theorem State.setPart_links (s : State) (n : Nat) (v : PartSt) : (s.setPart n v).links = s.links := rfl
@[simp] theorem State.setPart_tmb (s : State) (n : Nat) (v : PartSt) : (s.setPart n v).tmb = s.tmb := rfl
@[simp] theorem State.setPart_cal (s : State) (n : Nat) (v : PartSt) : (s.setPart n v).cal = s.cal := rfl
@[simp] theorem State.setPart_out (s : State) (n : Nat) (v : PartSt) : (s.setPart n v).out = s.out := rfl
@[simp] theorem State.setPart_free (s : State) (n : Nat) (v : PartSt) : (s.setPart n v).free = s.free := rfl
@[simp] theorem State.setPart_tile (s : State) (n j : Nat) (v : PartSt) : (s.setPart n v).tile j = s.tile j := rfl
@[simp] theorem State.setPart_net (s : State) (n j : Nat) (v : PartSt) : (s.setPart n v).net j = s.net j := rfl
@[simp] theorem State.setPart_cell (s : State) (n j : Nat) (v : PartSt) : (s.setPart n v).cell j = s.cell j := rfl
@[simp] theorem State.setPart_loopE (s : State) (n j : Nat) (v : PartSt) : (s.setPart n v).loopE j = s.loopE j := rfl
@[simp] theorem State.setPart_survey (s : State) (n j : Nat) (v : PartSt) : (s.setPart n v).survey j = s.survey j := rfl
@[simp] theorem State.setPart_core (s : State) (n j : Nat) (v : PartSt) : (s.setPart n v).core j = s.core j := rfl
@[simp] theorem State.setPart_stack (s : State) (n j : Nat) (v : PartSt) : (s.setPart n v).stack j = s.stack j := rfl
@[simp] theorem State.setPart_part (s : State) (n j : Nat) (v : PartSt) : (s.setPart n v).part j = if j = n then v else s.part j := by
  simp [State.setPart, State.part]
@[simp] theorem State.setPart_tenant (s : State) (n j : Nat) (v : PartSt) : (s.setPart n v).tenant j = s.tenant j := rfl
@[simp] theorem State.setPart_queue (s : State) (n j : Nat) (v : PartSt) : (s.setPart n v).queue j = s.queue j := rfl
@[simp] theorem State.setPart_cmd (s : State) (n j : Nat) (v : PartSt) : (s.setPart n v).cmd j = s.cmd j := rfl
@[simp] theorem State.setPart_lane (s : State) (n j : Nat) (v : PartSt) : (s.setPart n v).lane j = s.lane j := rfl
@[simp] theorem State.setPart_port (s : State) (n j : Nat) (v : PartSt) : (s.setPart n v).port j = s.port j := rfl
@[simp] theorem State.setPart_hdr (s : State) (n : Nat) (v : PartSt) (pg : PageRef) : (s.setPart n v).hdr pg = s.hdr pg := rfl
@[simp] theorem State.modPart_eq (s : State) (n : Nat) (f : PartSt → PartSt) : s.modPart n f = s.setPart n (f (s.part n)) := rfl

@[simp] theorem State.setTenant_pending (s : State) (n : Nat) (v : TenantSt) : (s.setTenant n v).pending = s.pending := rfl
@[simp] theorem State.setTenant_trip (s : State) (n : Nat) (v : TenantSt) : (s.setTenant n v).trip = s.trip := rfl
@[simp] theorem State.setTenant_ao (s : State) (n : Nat) (v : TenantSt) : (s.setTenant n v).ao = s.ao := rfl
@[simp] theorem State.setTenant_power (s : State) (n : Nat) (v : TenantSt) : (s.setTenant n v).power = s.power := rfl
@[simp] theorem State.setTenant_tiles (s : State) (n : Nat) (v : TenantSt) : (s.setTenant n v).tiles = s.tiles := rfl
@[simp] theorem State.setTenant_hdrs (s : State) (n : Nat) (v : TenantSt) : (s.setTenant n v).hdrs = s.hdrs := rfl
@[simp] theorem State.setTenant_frozen (s : State) (n : Nat) (v : TenantSt) : (s.setTenant n v).frozen = s.frozen := rfl
@[simp] theorem State.setTenant_arb (s : State) (n : Nat) (v : TenantSt) : (s.setTenant n v).arb = s.arb := rfl
@[simp] theorem State.setTenant_events (s : State) (n : Nat) (v : TenantSt) : (s.setTenant n v).events = s.events := rfl
@[simp] theorem State.setTenant_ledgers (s : State) (n : Nat) (v : TenantSt) : (s.setTenant n v).ledgers = s.ledgers := rfl
@[simp] theorem State.setTenant_ledger (s : State) (n : Nat) (v : TenantSt) : (s.setTenant n v).ledger = s.ledger := rfl
@[simp] theorem State.setTenant_nets (s : State) (n : Nat) (v : TenantSt) : (s.setTenant n v).nets = s.nets := rfl
@[simp] theorem State.setTenant_cells (s : State) (n : Nat) (v : TenantSt) : (s.setTenant n v).cells = s.cells := rfl
@[simp] theorem State.setTenant_loops (s : State) (n : Nat) (v : TenantSt) : (s.setTenant n v).loops = s.loops := rfl
@[simp] theorem State.setTenant_surveys (s : State) (n : Nat) (v : TenantSt) : (s.setTenant n v).surveys = s.surveys := rfl
@[simp] theorem State.setTenant_hearth (s : State) (n : Nat) (v : TenantSt) : (s.setTenant n v).hearth = s.hearth := rfl
@[simp] theorem State.setTenant_token (s : State) (n : Nat) (v : TenantSt) : (s.setTenant n v).token = s.token := rfl
@[simp] theorem State.setTenant_therm (s : State) (n : Nat) (v : TenantSt) : (s.setTenant n v).therm = s.therm := rfl
@[simp] theorem State.setTenant_cores (s : State) (n : Nat) (v : TenantSt) : (s.setTenant n v).cores = s.cores := rfl
@[simp] theorem State.setTenant_grid (s : State) (n : Nat) (v : TenantSt) : (s.setTenant n v).grid = s.grid := rfl
@[simp] theorem State.setTenant_mem (s : State) (n : Nat) (v : TenantSt) : (s.setTenant n v).mem = s.mem := rfl
@[simp] theorem State.setTenant_parts (s : State) (n : Nat) (v : TenantSt) : (s.setTenant n v).parts = s.parts := rfl
@[simp] theorem State.setTenant_host (s : State) (n : Nat) (v : TenantSt) : (s.setTenant n v).host = s.host := rfl
@[simp] theorem State.setTenant_links (s : State) (n : Nat) (v : TenantSt) : (s.setTenant n v).links = s.links := rfl
@[simp] theorem State.setTenant_tmb (s : State) (n : Nat) (v : TenantSt) : (s.setTenant n v).tmb = s.tmb := rfl
@[simp] theorem State.setTenant_cal (s : State) (n : Nat) (v : TenantSt) : (s.setTenant n v).cal = s.cal := rfl
@[simp] theorem State.setTenant_out (s : State) (n : Nat) (v : TenantSt) : (s.setTenant n v).out = s.out := rfl
@[simp] theorem State.setTenant_free (s : State) (n : Nat) (v : TenantSt) : (s.setTenant n v).free = s.free := rfl
@[simp] theorem State.setTenant_tile (s : State) (n j : Nat) (v : TenantSt) : (s.setTenant n v).tile j = s.tile j := rfl
@[simp] theorem State.setTenant_net (s : State) (n j : Nat) (v : TenantSt) : (s.setTenant n v).net j = s.net j := rfl
@[simp] theorem State.setTenant_cell (s : State) (n j : Nat) (v : TenantSt) : (s.setTenant n v).cell j = s.cell j := rfl
@[simp] theorem State.setTenant_loopE (s : State) (n j : Nat) (v : TenantSt) : (s.setTenant n v).loopE j = s.loopE j := rfl
@[simp] theorem State.setTenant_survey (s : State) (n j : Nat) (v : TenantSt) : (s.setTenant n v).survey j = s.survey j := rfl
@[simp] theorem State.setTenant_core (s : State) (n j : Nat) (v : TenantSt) : (s.setTenant n v).core j = s.core j := rfl
@[simp] theorem State.setTenant_stack (s : State) (n j : Nat) (v : TenantSt) : (s.setTenant n v).stack j = s.stack j := rfl
@[simp] theorem State.setTenant_part (s : State) (n j : Nat) (v : TenantSt) : (s.setTenant n v).part j = s.part j := rfl
@[simp] theorem State.setTenant_tenant (s : State) (n j : Nat) (v : TenantSt) : (s.setTenant n v).tenant j = if j = n then v else s.tenant j := by
  simp [State.setTenant, State.tenant]
@[simp] theorem State.setTenant_queue (s : State) (n j : Nat) (v : TenantSt) : (s.setTenant n v).queue j = s.queue j := rfl
@[simp] theorem State.setTenant_cmd (s : State) (n j : Nat) (v : TenantSt) : (s.setTenant n v).cmd j = s.cmd j := rfl
@[simp] theorem State.setTenant_lane (s : State) (n j : Nat) (v : TenantSt) : (s.setTenant n v).lane j = s.lane j := rfl
@[simp] theorem State.setTenant_port (s : State) (n j : Nat) (v : TenantSt) : (s.setTenant n v).port j = s.port j := rfl
@[simp] theorem State.setTenant_hdr (s : State) (n : Nat) (v : TenantSt) (pg : PageRef) : (s.setTenant n v).hdr pg = s.hdr pg := rfl
@[simp] theorem State.modTenant_eq (s : State) (n : Nat) (f : TenantSt → TenantSt) : s.modTenant n f = s.setTenant n (f (s.tenant n)) := rfl

@[simp] theorem State.setQueue_pending (s : State) (q : Nat) (v : QueueSt) : (s.setQueue q v).pending = s.pending := rfl
@[simp] theorem State.setQueue_trip (s : State) (q : Nat) (v : QueueSt) : (s.setQueue q v).trip = s.trip := rfl
@[simp] theorem State.setQueue_ao (s : State) (q : Nat) (v : QueueSt) : (s.setQueue q v).ao = s.ao := rfl
@[simp] theorem State.setQueue_power (s : State) (q : Nat) (v : QueueSt) : (s.setQueue q v).power = s.power := rfl
@[simp] theorem State.setQueue_tiles (s : State) (q : Nat) (v : QueueSt) : (s.setQueue q v).tiles = s.tiles := rfl
@[simp] theorem State.setQueue_hdrs (s : State) (q : Nat) (v : QueueSt) : (s.setQueue q v).hdrs = s.hdrs := rfl
@[simp] theorem State.setQueue_frozen (s : State) (q : Nat) (v : QueueSt) : (s.setQueue q v).frozen = s.frozen := rfl
@[simp] theorem State.setQueue_arb (s : State) (q : Nat) (v : QueueSt) : (s.setQueue q v).arb = s.arb := rfl
@[simp] theorem State.setQueue_events (s : State) (q : Nat) (v : QueueSt) : (s.setQueue q v).events = s.events := rfl
@[simp] theorem State.setQueue_ledgers (s : State) (q : Nat) (v : QueueSt) : (s.setQueue q v).ledgers = s.ledgers := rfl
@[simp] theorem State.setQueue_ledger (s : State) (q : Nat) (v : QueueSt) : (s.setQueue q v).ledger = s.ledger := rfl
@[simp] theorem State.setQueue_nets (s : State) (q : Nat) (v : QueueSt) : (s.setQueue q v).nets = s.nets := rfl
@[simp] theorem State.setQueue_cells (s : State) (q : Nat) (v : QueueSt) : (s.setQueue q v).cells = s.cells := rfl
@[simp] theorem State.setQueue_loops (s : State) (q : Nat) (v : QueueSt) : (s.setQueue q v).loops = s.loops := rfl
@[simp] theorem State.setQueue_surveys (s : State) (q : Nat) (v : QueueSt) : (s.setQueue q v).surveys = s.surveys := rfl
@[simp] theorem State.setQueue_hearth (s : State) (q : Nat) (v : QueueSt) : (s.setQueue q v).hearth = s.hearth := rfl
@[simp] theorem State.setQueue_token (s : State) (q : Nat) (v : QueueSt) : (s.setQueue q v).token = s.token := rfl
@[simp] theorem State.setQueue_therm (s : State) (q : Nat) (v : QueueSt) : (s.setQueue q v).therm = s.therm := rfl
@[simp] theorem State.setQueue_cores (s : State) (q : Nat) (v : QueueSt) : (s.setQueue q v).cores = s.cores := rfl
@[simp] theorem State.setQueue_grid (s : State) (q : Nat) (v : QueueSt) : (s.setQueue q v).grid = s.grid := rfl
@[simp] theorem State.setQueue_mem (s : State) (q : Nat) (v : QueueSt) : (s.setQueue q v).mem = s.mem := rfl
@[simp] theorem State.setQueue_parts (s : State) (q : Nat) (v : QueueSt) : (s.setQueue q v).parts = s.parts := rfl
@[simp] theorem State.setQueue_tenants (s : State) (q : Nat) (v : QueueSt) : (s.setQueue q v).tenants = s.tenants := rfl
@[simp] theorem State.setQueue_links (s : State) (q : Nat) (v : QueueSt) : (s.setQueue q v).links = s.links := rfl
@[simp] theorem State.setQueue_tmb (s : State) (q : Nat) (v : QueueSt) : (s.setQueue q v).tmb = s.tmb := rfl
@[simp] theorem State.setQueue_cal (s : State) (q : Nat) (v : QueueSt) : (s.setQueue q v).cal = s.cal := rfl
@[simp] theorem State.setQueue_out (s : State) (q : Nat) (v : QueueSt) : (s.setQueue q v).out = s.out := rfl
@[simp] theorem State.setQueue_free (s : State) (q : Nat) (v : QueueSt) : (s.setQueue q v).free = s.free := rfl
@[simp] theorem State.setQueue_tile (s : State) (q j : Nat) (v : QueueSt) : (s.setQueue q v).tile j = s.tile j := rfl
@[simp] theorem State.setQueue_net (s : State) (q j : Nat) (v : QueueSt) : (s.setQueue q v).net j = s.net j := rfl
@[simp] theorem State.setQueue_cell (s : State) (q j : Nat) (v : QueueSt) : (s.setQueue q v).cell j = s.cell j := rfl
@[simp] theorem State.setQueue_loopE (s : State) (q j : Nat) (v : QueueSt) : (s.setQueue q v).loopE j = s.loopE j := rfl
@[simp] theorem State.setQueue_survey (s : State) (q j : Nat) (v : QueueSt) : (s.setQueue q v).survey j = s.survey j := rfl
@[simp] theorem State.setQueue_core (s : State) (q j : Nat) (v : QueueSt) : (s.setQueue q v).core j = s.core j := rfl
@[simp] theorem State.setQueue_stack (s : State) (q j : Nat) (v : QueueSt) : (s.setQueue q v).stack j = s.stack j := rfl
@[simp] theorem State.setQueue_part (s : State) (q j : Nat) (v : QueueSt) : (s.setQueue q v).part j = s.part j := rfl
@[simp] theorem State.setQueue_tenant (s : State) (q j : Nat) (v : QueueSt) : (s.setQueue q v).tenant j = s.tenant j := rfl
@[simp] theorem State.setQueue_queue (s : State) (q j : Nat) (v : QueueSt) : (s.setQueue q v).queue j = if j = q then v else s.queue j := by
  simp [State.setQueue, State.queue]
@[simp] theorem State.setQueue_cmd (s : State) (q j : Nat) (v : QueueSt) : (s.setQueue q v).cmd j = s.cmd j := rfl
@[simp] theorem State.setQueue_lane (s : State) (q j : Nat) (v : QueueSt) : (s.setQueue q v).lane j = s.lane j := rfl
@[simp] theorem State.setQueue_port (s : State) (q j : Nat) (v : QueueSt) : (s.setQueue q v).port j = s.port j := rfl
@[simp] theorem State.setQueue_hdr (s : State) (q : Nat) (v : QueueSt) (pg : PageRef) : (s.setQueue q v).hdr pg = s.hdr pg := rfl
@[simp] theorem State.modQueue_eq (s : State) (q : Nat) (f : QueueSt → QueueSt) : s.modQueue q f = s.setQueue q (f (s.queue q)) := rfl

@[simp] theorem State.setCmd_pending (s : State) (k : Nat) (v : Option Cmd) : (s.setCmd k v).pending = s.pending := rfl
@[simp] theorem State.setCmd_trip (s : State) (k : Nat) (v : Option Cmd) : (s.setCmd k v).trip = s.trip := rfl
@[simp] theorem State.setCmd_ao (s : State) (k : Nat) (v : Option Cmd) : (s.setCmd k v).ao = s.ao := rfl
@[simp] theorem State.setCmd_power (s : State) (k : Nat) (v : Option Cmd) : (s.setCmd k v).power = s.power := rfl
@[simp] theorem State.setCmd_tiles (s : State) (k : Nat) (v : Option Cmd) : (s.setCmd k v).tiles = s.tiles := rfl
@[simp] theorem State.setCmd_hdrs (s : State) (k : Nat) (v : Option Cmd) : (s.setCmd k v).hdrs = s.hdrs := rfl
@[simp] theorem State.setCmd_frozen (s : State) (k : Nat) (v : Option Cmd) : (s.setCmd k v).frozen = s.frozen := rfl
@[simp] theorem State.setCmd_arb (s : State) (k : Nat) (v : Option Cmd) : (s.setCmd k v).arb = s.arb := rfl
@[simp] theorem State.setCmd_events (s : State) (k : Nat) (v : Option Cmd) : (s.setCmd k v).events = s.events := rfl
@[simp] theorem State.setCmd_ledgers (s : State) (k : Nat) (v : Option Cmd) : (s.setCmd k v).ledgers = s.ledgers := rfl
@[simp] theorem State.setCmd_ledger (s : State) (k : Nat) (v : Option Cmd) : (s.setCmd k v).ledger = s.ledger := rfl
@[simp] theorem State.setCmd_nets (s : State) (k : Nat) (v : Option Cmd) : (s.setCmd k v).nets = s.nets := rfl
@[simp] theorem State.setCmd_cells (s : State) (k : Nat) (v : Option Cmd) : (s.setCmd k v).cells = s.cells := rfl
@[simp] theorem State.setCmd_loops (s : State) (k : Nat) (v : Option Cmd) : (s.setCmd k v).loops = s.loops := rfl
@[simp] theorem State.setCmd_surveys (s : State) (k : Nat) (v : Option Cmd) : (s.setCmd k v).surveys = s.surveys := rfl
@[simp] theorem State.setCmd_hearth (s : State) (k : Nat) (v : Option Cmd) : (s.setCmd k v).hearth = s.hearth := rfl
@[simp] theorem State.setCmd_token (s : State) (k : Nat) (v : Option Cmd) : (s.setCmd k v).token = s.token := rfl
@[simp] theorem State.setCmd_therm (s : State) (k : Nat) (v : Option Cmd) : (s.setCmd k v).therm = s.therm := rfl
@[simp] theorem State.setCmd_cores (s : State) (k : Nat) (v : Option Cmd) : (s.setCmd k v).cores = s.cores := rfl
@[simp] theorem State.setCmd_grid (s : State) (k : Nat) (v : Option Cmd) : (s.setCmd k v).grid = s.grid := rfl
@[simp] theorem State.setCmd_mem (s : State) (k : Nat) (v : Option Cmd) : (s.setCmd k v).mem = s.mem := rfl
@[simp] theorem State.setCmd_parts (s : State) (k : Nat) (v : Option Cmd) : (s.setCmd k v).parts = s.parts := rfl
@[simp] theorem State.setCmd_tenants (s : State) (k : Nat) (v : Option Cmd) : (s.setCmd k v).tenants = s.tenants := rfl
@[simp] theorem State.setCmd_links (s : State) (k : Nat) (v : Option Cmd) : (s.setCmd k v).links = s.links := rfl
@[simp] theorem State.setCmd_tmb (s : State) (k : Nat) (v : Option Cmd) : (s.setCmd k v).tmb = s.tmb := rfl
@[simp] theorem State.setCmd_cal (s : State) (k : Nat) (v : Option Cmd) : (s.setCmd k v).cal = s.cal := rfl
@[simp] theorem State.setCmd_out (s : State) (k : Nat) (v : Option Cmd) : (s.setCmd k v).out = s.out := rfl
@[simp] theorem State.setCmd_free (s : State) (k : Nat) (v : Option Cmd) : (s.setCmd k v).free = s.free := rfl
@[simp] theorem State.setCmd_tile (s : State) (k j : Nat) (v : Option Cmd) : (s.setCmd k v).tile j = s.tile j := rfl
@[simp] theorem State.setCmd_net (s : State) (k j : Nat) (v : Option Cmd) : (s.setCmd k v).net j = s.net j := rfl
@[simp] theorem State.setCmd_cell (s : State) (k j : Nat) (v : Option Cmd) : (s.setCmd k v).cell j = s.cell j := rfl
@[simp] theorem State.setCmd_loopE (s : State) (k j : Nat) (v : Option Cmd) : (s.setCmd k v).loopE j = s.loopE j := rfl
@[simp] theorem State.setCmd_survey (s : State) (k j : Nat) (v : Option Cmd) : (s.setCmd k v).survey j = s.survey j := rfl
@[simp] theorem State.setCmd_core (s : State) (k j : Nat) (v : Option Cmd) : (s.setCmd k v).core j = s.core j := rfl
@[simp] theorem State.setCmd_stack (s : State) (k j : Nat) (v : Option Cmd) : (s.setCmd k v).stack j = s.stack j := rfl
@[simp] theorem State.setCmd_part (s : State) (k j : Nat) (v : Option Cmd) : (s.setCmd k v).part j = s.part j := rfl
@[simp] theorem State.setCmd_tenant (s : State) (k j : Nat) (v : Option Cmd) : (s.setCmd k v).tenant j = s.tenant j := rfl
@[simp] theorem State.setCmd_queue (s : State) (k j : Nat) (v : Option Cmd) : (s.setCmd k v).queue j = s.queue j := rfl
@[simp] theorem State.setCmd_cmd (s : State) (k j : Nat) (v : Option Cmd) : (s.setCmd k v).cmd j = if j = k then v else s.cmd j := by
  simp [State.setCmd, State.cmd]
@[simp] theorem State.setCmd_lane (s : State) (k j : Nat) (v : Option Cmd) : (s.setCmd k v).lane j = s.lane j := rfl
@[simp] theorem State.setCmd_port (s : State) (k j : Nat) (v : Option Cmd) : (s.setCmd k v).port j = s.port j := rfl
@[simp] theorem State.setCmd_hdr (s : State) (k : Nat) (v : Option Cmd) (pg : PageRef) : (s.setCmd k v).hdr pg = s.hdr pg := rfl
@[simp] theorem State.modCmd_eq (s : State) (k : Nat) (f : Cmd → Cmd) : s.modCmd k f = s.setCmd k ((s.cmd k).map f) := rfl

@[simp] theorem State.setLane_pending (s : State) (k : Nat) (v : LaneSt) : (s.setLane k v).pending = s.pending := rfl
@[simp] theorem State.setLane_trip (s : State) (k : Nat) (v : LaneSt) : (s.setLane k v).trip = s.trip := rfl
@[simp] theorem State.setLane_ao (s : State) (k : Nat) (v : LaneSt) : (s.setLane k v).ao = s.ao := rfl
@[simp] theorem State.setLane_power (s : State) (k : Nat) (v : LaneSt) : (s.setLane k v).power = s.power := rfl
@[simp] theorem State.setLane_tiles (s : State) (k : Nat) (v : LaneSt) : (s.setLane k v).tiles = s.tiles := rfl
@[simp] theorem State.setLane_hdrs (s : State) (k : Nat) (v : LaneSt) : (s.setLane k v).hdrs = s.hdrs := rfl
@[simp] theorem State.setLane_frozen (s : State) (k : Nat) (v : LaneSt) : (s.setLane k v).frozen = s.frozen := rfl
@[simp] theorem State.setLane_arb (s : State) (k : Nat) (v : LaneSt) : (s.setLane k v).arb = s.arb := rfl
@[simp] theorem State.setLane_events (s : State) (k : Nat) (v : LaneSt) : (s.setLane k v).events = s.events := rfl
@[simp] theorem State.setLane_ledgers (s : State) (k : Nat) (v : LaneSt) : (s.setLane k v).ledgers = s.ledgers := rfl
@[simp] theorem State.setLane_ledger (s : State) (k : Nat) (v : LaneSt) : (s.setLane k v).ledger = s.ledger := rfl
@[simp] theorem State.setLane_nets (s : State) (k : Nat) (v : LaneSt) : (s.setLane k v).nets = s.nets := rfl
@[simp] theorem State.setLane_cells (s : State) (k : Nat) (v : LaneSt) : (s.setLane k v).cells = s.cells := rfl
@[simp] theorem State.setLane_loops (s : State) (k : Nat) (v : LaneSt) : (s.setLane k v).loops = s.loops := rfl
@[simp] theorem State.setLane_surveys (s : State) (k : Nat) (v : LaneSt) : (s.setLane k v).surveys = s.surveys := rfl
@[simp] theorem State.setLane_hearth (s : State) (k : Nat) (v : LaneSt) : (s.setLane k v).hearth = s.hearth := rfl
@[simp] theorem State.setLane_token (s : State) (k : Nat) (v : LaneSt) : (s.setLane k v).token = s.token := rfl
@[simp] theorem State.setLane_therm (s : State) (k : Nat) (v : LaneSt) : (s.setLane k v).therm = s.therm := rfl
@[simp] theorem State.setLane_cores (s : State) (k : Nat) (v : LaneSt) : (s.setLane k v).cores = s.cores := rfl
@[simp] theorem State.setLane_grid (s : State) (k : Nat) (v : LaneSt) : (s.setLane k v).grid = s.grid := rfl
@[simp] theorem State.setLane_mem (s : State) (k : Nat) (v : LaneSt) : (s.setLane k v).mem = s.mem := rfl
@[simp] theorem State.setLane_parts (s : State) (k : Nat) (v : LaneSt) : (s.setLane k v).parts = s.parts := rfl
@[simp] theorem State.setLane_tenants (s : State) (k : Nat) (v : LaneSt) : (s.setLane k v).tenants = s.tenants := rfl
@[simp] theorem State.setLane_host (s : State) (k : Nat) (v : LaneSt) : (s.setLane k v).host = s.host := rfl
@[simp] theorem State.setLane_tmb (s : State) (k : Nat) (v : LaneSt) : (s.setLane k v).tmb = s.tmb := rfl
@[simp] theorem State.setLane_cal (s : State) (k : Nat) (v : LaneSt) : (s.setLane k v).cal = s.cal := rfl
@[simp] theorem State.setLane_out (s : State) (k : Nat) (v : LaneSt) : (s.setLane k v).out = s.out := rfl
@[simp] theorem State.setLane_free (s : State) (k : Nat) (v : LaneSt) : (s.setLane k v).free = s.free := rfl
@[simp] theorem State.setLane_tile (s : State) (k j : Nat) (v : LaneSt) : (s.setLane k v).tile j = s.tile j := rfl
@[simp] theorem State.setLane_net (s : State) (k j : Nat) (v : LaneSt) : (s.setLane k v).net j = s.net j := rfl
@[simp] theorem State.setLane_cell (s : State) (k j : Nat) (v : LaneSt) : (s.setLane k v).cell j = s.cell j := rfl
@[simp] theorem State.setLane_loopE (s : State) (k j : Nat) (v : LaneSt) : (s.setLane k v).loopE j = s.loopE j := rfl
@[simp] theorem State.setLane_survey (s : State) (k j : Nat) (v : LaneSt) : (s.setLane k v).survey j = s.survey j := rfl
@[simp] theorem State.setLane_core (s : State) (k j : Nat) (v : LaneSt) : (s.setLane k v).core j = s.core j := rfl
@[simp] theorem State.setLane_stack (s : State) (k j : Nat) (v : LaneSt) : (s.setLane k v).stack j = s.stack j := rfl
@[simp] theorem State.setLane_part (s : State) (k j : Nat) (v : LaneSt) : (s.setLane k v).part j = s.part j := rfl
@[simp] theorem State.setLane_tenant (s : State) (k j : Nat) (v : LaneSt) : (s.setLane k v).tenant j = s.tenant j := rfl
@[simp] theorem State.setLane_queue (s : State) (k j : Nat) (v : LaneSt) : (s.setLane k v).queue j = s.queue j := rfl
@[simp] theorem State.setLane_cmd (s : State) (k j : Nat) (v : LaneSt) : (s.setLane k v).cmd j = s.cmd j := rfl
@[simp] theorem State.setLane_lane (s : State) (k j : Nat) (v : LaneSt) : (s.setLane k v).lane j = if j = k then v else s.lane j := by
  simp [State.setLane, State.lane]
@[simp] theorem State.setLane_port (s : State) (k j : Nat) (v : LaneSt) : (s.setLane k v).port j = s.port j := rfl
@[simp] theorem State.setLane_hdr (s : State) (k : Nat) (v : LaneSt) (pg : PageRef) : (s.setLane k v).hdr pg = s.hdr pg := rfl
@[simp] theorem State.modLane_eq (s : State) (k : Nat) (f : LaneSt → LaneSt) : s.modLane k f = s.setLane k (f (s.lane k)) := rfl

@[simp] theorem State.setPort_pending (s : State) (p : Nat) (v : PortSt) : (s.setPort p v).pending = s.pending := rfl
@[simp] theorem State.setPort_trip (s : State) (p : Nat) (v : PortSt) : (s.setPort p v).trip = s.trip := rfl
@[simp] theorem State.setPort_ao (s : State) (p : Nat) (v : PortSt) : (s.setPort p v).ao = s.ao := rfl
@[simp] theorem State.setPort_power (s : State) (p : Nat) (v : PortSt) : (s.setPort p v).power = s.power := rfl
@[simp] theorem State.setPort_tiles (s : State) (p : Nat) (v : PortSt) : (s.setPort p v).tiles = s.tiles := rfl
@[simp] theorem State.setPort_hdrs (s : State) (p : Nat) (v : PortSt) : (s.setPort p v).hdrs = s.hdrs := rfl
@[simp] theorem State.setPort_frozen (s : State) (p : Nat) (v : PortSt) : (s.setPort p v).frozen = s.frozen := rfl
@[simp] theorem State.setPort_arb (s : State) (p : Nat) (v : PortSt) : (s.setPort p v).arb = s.arb := rfl
@[simp] theorem State.setPort_events (s : State) (p : Nat) (v : PortSt) : (s.setPort p v).events = s.events := rfl
@[simp] theorem State.setPort_ledgers (s : State) (p : Nat) (v : PortSt) : (s.setPort p v).ledgers = s.ledgers := rfl
@[simp] theorem State.setPort_ledger (s : State) (p : Nat) (v : PortSt) : (s.setPort p v).ledger = s.ledger := rfl
@[simp] theorem State.setPort_nets (s : State) (p : Nat) (v : PortSt) : (s.setPort p v).nets = s.nets := rfl
@[simp] theorem State.setPort_cells (s : State) (p : Nat) (v : PortSt) : (s.setPort p v).cells = s.cells := rfl
@[simp] theorem State.setPort_loops (s : State) (p : Nat) (v : PortSt) : (s.setPort p v).loops = s.loops := rfl
@[simp] theorem State.setPort_surveys (s : State) (p : Nat) (v : PortSt) : (s.setPort p v).surveys = s.surveys := rfl
@[simp] theorem State.setPort_hearth (s : State) (p : Nat) (v : PortSt) : (s.setPort p v).hearth = s.hearth := rfl
@[simp] theorem State.setPort_token (s : State) (p : Nat) (v : PortSt) : (s.setPort p v).token = s.token := rfl
@[simp] theorem State.setPort_therm (s : State) (p : Nat) (v : PortSt) : (s.setPort p v).therm = s.therm := rfl
@[simp] theorem State.setPort_cores (s : State) (p : Nat) (v : PortSt) : (s.setPort p v).cores = s.cores := rfl
@[simp] theorem State.setPort_grid (s : State) (p : Nat) (v : PortSt) : (s.setPort p v).grid = s.grid := rfl
@[simp] theorem State.setPort_mem (s : State) (p : Nat) (v : PortSt) : (s.setPort p v).mem = s.mem := rfl
@[simp] theorem State.setPort_parts (s : State) (p : Nat) (v : PortSt) : (s.setPort p v).parts = s.parts := rfl
@[simp] theorem State.setPort_tenants (s : State) (p : Nat) (v : PortSt) : (s.setPort p v).tenants = s.tenants := rfl
@[simp] theorem State.setPort_host (s : State) (p : Nat) (v : PortSt) : (s.setPort p v).host = s.host := rfl
@[simp] theorem State.setPort_tmb (s : State) (p : Nat) (v : PortSt) : (s.setPort p v).tmb = s.tmb := rfl
@[simp] theorem State.setPort_cal (s : State) (p : Nat) (v : PortSt) : (s.setPort p v).cal = s.cal := rfl
@[simp] theorem State.setPort_out (s : State) (p : Nat) (v : PortSt) : (s.setPort p v).out = s.out := rfl
@[simp] theorem State.setPort_free (s : State) (p : Nat) (v : PortSt) : (s.setPort p v).free = s.free := rfl
@[simp] theorem State.setPort_tile (s : State) (p j : Nat) (v : PortSt) : (s.setPort p v).tile j = s.tile j := rfl
@[simp] theorem State.setPort_net (s : State) (p j : Nat) (v : PortSt) : (s.setPort p v).net j = s.net j := rfl
@[simp] theorem State.setPort_cell (s : State) (p j : Nat) (v : PortSt) : (s.setPort p v).cell j = s.cell j := rfl
@[simp] theorem State.setPort_loopE (s : State) (p j : Nat) (v : PortSt) : (s.setPort p v).loopE j = s.loopE j := rfl
@[simp] theorem State.setPort_survey (s : State) (p j : Nat) (v : PortSt) : (s.setPort p v).survey j = s.survey j := rfl
@[simp] theorem State.setPort_core (s : State) (p j : Nat) (v : PortSt) : (s.setPort p v).core j = s.core j := rfl
@[simp] theorem State.setPort_stack (s : State) (p j : Nat) (v : PortSt) : (s.setPort p v).stack j = s.stack j := rfl
@[simp] theorem State.setPort_part (s : State) (p j : Nat) (v : PortSt) : (s.setPort p v).part j = s.part j := rfl
@[simp] theorem State.setPort_tenant (s : State) (p j : Nat) (v : PortSt) : (s.setPort p v).tenant j = s.tenant j := rfl
@[simp] theorem State.setPort_queue (s : State) (p j : Nat) (v : PortSt) : (s.setPort p v).queue j = s.queue j := rfl
@[simp] theorem State.setPort_cmd (s : State) (p j : Nat) (v : PortSt) : (s.setPort p v).cmd j = s.cmd j := rfl
@[simp] theorem State.setPort_lane (s : State) (p j : Nat) (v : PortSt) : (s.setPort p v).lane j = s.lane j := rfl
@[simp] theorem State.setPort_port (s : State) (p j : Nat) (v : PortSt) : (s.setPort p v).port j = if j = p then v else s.port j := by
  simp [State.setPort, State.port]
@[simp] theorem State.setPort_hdr (s : State) (p : Nat) (v : PortSt) (pg : PageRef) : (s.setPort p v).hdr pg = s.hdr pg := rfl
@[simp] theorem State.modPort_eq (s : State) (p : Nat) (f : PortSt → PortSt) : s.modPort p f = s.setPort p (f (s.port p)) := rfl

/-! ### A page header -/

@[simp] theorem State.putHdr_pending (s : State) (p : PageRef) (h : PageHdr) : (s.putHdr p h).pending = s.pending := rfl
@[simp] theorem State.putHdr_trip (s : State) (p : PageRef) (h : PageHdr) : (s.putHdr p h).trip = s.trip := rfl
@[simp] theorem State.putHdr_ao (s : State) (p : PageRef) (h : PageHdr) : (s.putHdr p h).ao = s.ao := rfl
@[simp] theorem State.putHdr_power (s : State) (p : PageRef) (h : PageHdr) : (s.putHdr p h).power = s.power := rfl
@[simp] theorem State.putHdr_tiles (s : State) (p : PageRef) (h : PageHdr) : (s.putHdr p h).tiles = s.tiles := rfl
@[simp] theorem State.putHdr_frozen (s : State) (p : PageRef) (h : PageHdr) : (s.putHdr p h).frozen = s.frozen := rfl
@[simp] theorem State.putHdr_arb (s : State) (p : PageRef) (h : PageHdr) : (s.putHdr p h).arb = s.arb := rfl
@[simp] theorem State.putHdr_events (s : State) (p : PageRef) (h : PageHdr) : (s.putHdr p h).events = s.events := rfl
@[simp] theorem State.putHdr_ledgers (s : State) (p : PageRef) (h : PageHdr) : (s.putHdr p h).ledgers = s.ledgers := rfl
@[simp] theorem State.putHdr_ledger (s : State) (p : PageRef) (h : PageHdr) : (s.putHdr p h).ledger = s.ledger := rfl
@[simp] theorem State.putHdr_nets (s : State) (p : PageRef) (h : PageHdr) : (s.putHdr p h).nets = s.nets := rfl
@[simp] theorem State.putHdr_cells (s : State) (p : PageRef) (h : PageHdr) : (s.putHdr p h).cells = s.cells := rfl
@[simp] theorem State.putHdr_loops (s : State) (p : PageRef) (h : PageHdr) : (s.putHdr p h).loops = s.loops := rfl
@[simp] theorem State.putHdr_surveys (s : State) (p : PageRef) (h : PageHdr) : (s.putHdr p h).surveys = s.surveys := rfl
@[simp] theorem State.putHdr_hearth (s : State) (p : PageRef) (h : PageHdr) : (s.putHdr p h).hearth = s.hearth := rfl
@[simp] theorem State.putHdr_token (s : State) (p : PageRef) (h : PageHdr) : (s.putHdr p h).token = s.token := rfl
@[simp] theorem State.putHdr_therm (s : State) (p : PageRef) (h : PageHdr) : (s.putHdr p h).therm = s.therm := rfl
@[simp] theorem State.putHdr_cores (s : State) (p : PageRef) (h : PageHdr) : (s.putHdr p h).cores = s.cores := rfl
@[simp] theorem State.putHdr_grid (s : State) (p : PageRef) (h : PageHdr) : (s.putHdr p h).grid = s.grid := rfl
@[simp] theorem State.putHdr_mem (s : State) (p : PageRef) (h : PageHdr) : (s.putHdr p h).mem = s.mem := rfl
@[simp] theorem State.putHdr_parts (s : State) (p : PageRef) (h : PageHdr) : (s.putHdr p h).parts = s.parts := rfl
@[simp] theorem State.putHdr_tenants (s : State) (p : PageRef) (h : PageHdr) : (s.putHdr p h).tenants = s.tenants := rfl
@[simp] theorem State.putHdr_host (s : State) (p : PageRef) (h : PageHdr) : (s.putHdr p h).host = s.host := rfl
@[simp] theorem State.putHdr_links (s : State) (p : PageRef) (h : PageHdr) : (s.putHdr p h).links = s.links := rfl
@[simp] theorem State.putHdr_tmb (s : State) (p : PageRef) (h : PageHdr) : (s.putHdr p h).tmb = s.tmb := rfl
@[simp] theorem State.putHdr_cal (s : State) (p : PageRef) (h : PageHdr) : (s.putHdr p h).cal = s.cal := rfl
@[simp] theorem State.putHdr_out (s : State) (p : PageRef) (h : PageHdr) : (s.putHdr p h).out = s.out := rfl
@[simp] theorem State.putHdr_free (s : State) (p : PageRef) (h : PageHdr) : (s.putHdr p h).free = s.free := rfl
@[simp] theorem State.putHdr_tile (s : State) (p : PageRef) (h : PageHdr) (j : Nat) : (s.putHdr p h).tile j = s.tile j := rfl
@[simp] theorem State.putHdr_net (s : State) (p : PageRef) (h : PageHdr) (j : Nat) : (s.putHdr p h).net j = s.net j := rfl
@[simp] theorem State.putHdr_cell (s : State) (p : PageRef) (h : PageHdr) (j : Nat) : (s.putHdr p h).cell j = s.cell j := rfl
@[simp] theorem State.putHdr_loopE (s : State) (p : PageRef) (h : PageHdr) (j : Nat) : (s.putHdr p h).loopE j = s.loopE j := rfl
@[simp] theorem State.putHdr_survey (s : State) (p : PageRef) (h : PageHdr) (j : Nat) : (s.putHdr p h).survey j = s.survey j := rfl
@[simp] theorem State.putHdr_core (s : State) (p : PageRef) (h : PageHdr) (j : Nat) : (s.putHdr p h).core j = s.core j := rfl
@[simp] theorem State.putHdr_stack (s : State) (p : PageRef) (h : PageHdr) (j : Nat) : (s.putHdr p h).stack j = s.stack j := rfl
@[simp] theorem State.putHdr_part (s : State) (p : PageRef) (h : PageHdr) (j : Nat) : (s.putHdr p h).part j = s.part j := rfl
@[simp] theorem State.putHdr_tenant (s : State) (p : PageRef) (h : PageHdr) (j : Nat) : (s.putHdr p h).tenant j = s.tenant j := rfl
@[simp] theorem State.putHdr_queue (s : State) (p : PageRef) (h : PageHdr) (j : Nat) : (s.putHdr p h).queue j = s.queue j := rfl
@[simp] theorem State.putHdr_cmd (s : State) (p : PageRef) (h : PageHdr) (j : Nat) : (s.putHdr p h).cmd j = s.cmd j := rfl
@[simp] theorem State.putHdr_lane (s : State) (p : PageRef) (h : PageHdr) (j : Nat) : (s.putHdr p h).lane j = s.lane j := rfl
@[simp] theorem State.putHdr_port (s : State) (p : PageRef) (h : PageHdr) (j : Nat) : (s.putHdr p h).port j = s.port j := rfl
@[simp] theorem State.putHdr_hdr (s : State) (p q : PageRef) (h : PageHdr) :
    (s.putHdr p h).hdr q = if q.addr = p.addr then h else s.hdr q := by
  simp [State.putHdr, State.hdr]

/-! ### An output -/

@[simp] theorem emit_pending (s : State) (o : Output) : (emit s o).pending = s.pending := rfl
@[simp] theorem emit_trip (s : State) (o : Output) : (emit s o).trip = s.trip := rfl
@[simp] theorem emit_ao (s : State) (o : Output) : (emit s o).ao = s.ao := rfl
@[simp] theorem emit_power (s : State) (o : Output) : (emit s o).power = s.power := rfl
@[simp] theorem emit_tiles (s : State) (o : Output) : (emit s o).tiles = s.tiles := rfl
@[simp] theorem emit_hdrs (s : State) (o : Output) : (emit s o).hdrs = s.hdrs := rfl
@[simp] theorem emit_frozen (s : State) (o : Output) : (emit s o).frozen = s.frozen := rfl
@[simp] theorem emit_arb (s : State) (o : Output) : (emit s o).arb = s.arb := rfl
@[simp] theorem emit_events (s : State) (o : Output) : (emit s o).events = s.events := rfl
@[simp] theorem emit_ledgers (s : State) (o : Output) : (emit s o).ledgers = s.ledgers := rfl
@[simp] theorem emit_ledger (s : State) (o : Output) : (emit s o).ledger = s.ledger := rfl
@[simp] theorem emit_nets (s : State) (o : Output) : (emit s o).nets = s.nets := rfl
@[simp] theorem emit_cells (s : State) (o : Output) : (emit s o).cells = s.cells := rfl
@[simp] theorem emit_loops (s : State) (o : Output) : (emit s o).loops = s.loops := rfl
@[simp] theorem emit_surveys (s : State) (o : Output) : (emit s o).surveys = s.surveys := rfl
@[simp] theorem emit_hearth (s : State) (o : Output) : (emit s o).hearth = s.hearth := rfl
@[simp] theorem emit_token (s : State) (o : Output) : (emit s o).token = s.token := rfl
@[simp] theorem emit_therm (s : State) (o : Output) : (emit s o).therm = s.therm := rfl
@[simp] theorem emit_cores (s : State) (o : Output) : (emit s o).cores = s.cores := rfl
@[simp] theorem emit_grid (s : State) (o : Output) : (emit s o).grid = s.grid := rfl
@[simp] theorem emit_mem (s : State) (o : Output) : (emit s o).mem = s.mem := rfl
@[simp] theorem emit_parts (s : State) (o : Output) : (emit s o).parts = s.parts := rfl
@[simp] theorem emit_tenants (s : State) (o : Output) : (emit s o).tenants = s.tenants := rfl
@[simp] theorem emit_host (s : State) (o : Output) : (emit s o).host = s.host := rfl
@[simp] theorem emit_links (s : State) (o : Output) : (emit s o).links = s.links := rfl
@[simp] theorem emit_tmb (s : State) (o : Output) : (emit s o).tmb = s.tmb := rfl
@[simp] theorem emit_cal (s : State) (o : Output) : (emit s o).cal = s.cal := rfl
@[simp] theorem emit_free (s : State) (o : Output) : (emit s o).free = s.free := rfl
@[simp] theorem emit_out (s : State) (o : Output) : (emit s o).out = s.out ++ [o] := rfl
@[simp] theorem emit_tile (s : State) (o : Output) (j : Nat) : (emit s o).tile j = s.tile j := rfl
@[simp] theorem emit_net (s : State) (o : Output) (j : Nat) : (emit s o).net j = s.net j := rfl
@[simp] theorem emit_cell (s : State) (o : Output) (j : Nat) : (emit s o).cell j = s.cell j := rfl
@[simp] theorem emit_loopE (s : State) (o : Output) (j : Nat) : (emit s o).loopE j = s.loopE j := rfl
@[simp] theorem emit_survey (s : State) (o : Output) (j : Nat) : (emit s o).survey j = s.survey j := rfl
@[simp] theorem emit_core (s : State) (o : Output) (j : Nat) : (emit s o).core j = s.core j := rfl
@[simp] theorem emit_stack (s : State) (o : Output) (j : Nat) : (emit s o).stack j = s.stack j := rfl
@[simp] theorem emit_part (s : State) (o : Output) (j : Nat) : (emit s o).part j = s.part j := rfl
@[simp] theorem emit_tenant (s : State) (o : Output) (j : Nat) : (emit s o).tenant j = s.tenant j := rfl
@[simp] theorem emit_queue (s : State) (o : Output) (j : Nat) : (emit s o).queue j = s.queue j := rfl
@[simp] theorem emit_cmd (s : State) (o : Output) (j : Nat) : (emit s o).cmd j = s.cmd j := rfl
@[simp] theorem emit_lane (s : State) (o : Output) (j : Nat) : (emit s o).lane j = s.lane j := rfl
@[simp] theorem emit_port (s : State) (o : Output) (j : Nat) : (emit s o).port j = s.port j := rfl
@[simp] theorem emit_hdr (s : State) (o : Output) (p : PageRef) : (emit s o).hdr p = s.hdr p := rfl

end Sys2Proof.Machine
end

