-- ==== Sys2Proof/Laws/Mem.lean ====
section
/-!
SUPPORT. The canonical form of sparse maps and of device memory: what keeps it, and that memory at reset has it.
-/
namespace Sys2Proof.Machine
open Sys2Proof

/-! ### Sparse maps -/

/-- Removing entries keeps the canonical form. -/
theorem risesFrom_filter {α : Type} [DecidableEq α] (d : α) (f : Nat × α → Bool) (m : Sparse α) : ∀ lo,
    risesFrom d lo m = true → risesFrom d lo (m.filter f) = true := by
  induction m with
  | nil => intro _ h; exact h
  | cons e r ih =>
    obtain ⟨k, v⟩ := e
    intro lo h
    simp only [risesFrom, Bool.and_eq_true, decide_eq_true_eq] at h
    have hr := ih _ h.2
    cases hf : f (k, v) with
    | true =>
      rw [List.filter_cons_of_pos hf]
      simp only [risesFrom, Bool.and_eq_true, decide_eq_true_eq]
      exact ⟨h.1, hr⟩
    | false =>
      rw [List.filter_cons_of_neg (by simp [hf])]
      exact risesFrom_mono d (by omega) _ hr

theorem filter_wf {α : Type} [DecidableEq α] (d : α) (m : Sparse α) (f : Nat × α → Bool) (h : sparseWf d m = true) :
    sparseWf d (m.filter f) = true := by
  rw [sparseWf_iff] at *
  exact risesFrom_filter d f m 0 h

/-- A second write of an index replaces the first. -/
theorem putNew_putNew {α : Type} (m : Sparse α) (k : Nat) (a b : α) : putNew (putNew m k a) k b = putNew m k b := by
  induction m with
  | nil => simp [putNew]
  | cons x r ih =>
    obtain ⟨k', v'⟩ := x
    by_cases h : k < k'
    · simp [putNew, h]
    · by_cases h' : k = k'
      · subst h'; simp [putNew]
      · simp [putNew, h, h', ih]

/-! ### Device memory (R408, R421, R422, R434) -/

/-- Memory at reset has the canonical form. -/
theorem reset_memWf : memWf State.reset = true := rfl

theorem memWf_mk (s t : State) (h : memWf s = true)
    (hd : sparseWf (0 : Byte) s.mem.data = true → sparseWf (0 : Byte) t.mem.data = true)
    (hp : sparseWf (0 : Nat) s.mem.poison = true → sparseWf (0 : Nat) t.mem.poison = true) : memWf t = true := by
  unfold memWf at h ⊢
  rw [Bool.and_eq_true] at h ⊢
  exact ⟨hd h.1, hp h.2⟩

theorem clearLine_memWf (s : State) (a : Nat) (h : memWf s = true) : memWf (clearLine s a) = true := by
  unfold clearLine
  exact memWf_mk s _ h id (fun q => sparseWf_put 0 s.mem.poison a 0 q)

theorem forEach_memWf {α : Type} (l : List α) (s : State) (f : State → α → State) (hf : ∀ s a, memWf s = true → memWf (f s a) = true)
    (h : memWf s = true) : memWf (forEach l s f) = true := by
  unfold forEach
  induction l generalizing s with
  | nil => exact h
  | cons a r ih => exact ih _ (hf s a h)

/-- A write of bytes keeps the canonical form. -/
theorem memWrite_memWf (s : State) (a : Nat) (b : List Byte) (h : memWf s = true) : memWf (memWrite s a b) = true :=
  forEach_memWf _ _ _ clearLine_memWf (memWf_mk s _ h (fun q => sparseWf_putList 0 b s.mem.data a q) id)

/-- The initialisation of a stack keeps the canonical form. -/
theorem zeroStack_memWf (s : State) (t : Nat) (h : memWf s = true) : memWf (zeroStack s t) = true :=
  memWf_mk s _ h (fun q => filter_wf 0 _ _ q) (fun q => filter_wf 0 _ _ q)

/-- What is poisoned keeps the canonical form. -/
theorem poison_memWf (s : State) (a n : Nat) (h : memWf s = true) :
    memWf { s with mem := { s.mem with poison := put 0 s.mem.poison a n } } = true := memWf_mk s _ h id (fun q => sparseWf_put 0 s.mem.poison a n q)

/-- Parts of memory other than its bytes and its poisoned lines do not matter to the form. -/
theorem memWf_congr (s t : State) (hd : t.mem.data = s.mem.data) (hp : t.mem.poison = s.mem.poison) (h : memWf s = true) :
    memWf t = true := by
  unfold memWf at h ⊢
  rw [hd, hp]
  exact h

end Sys2Proof.Machine
end

