-- ==== Sys2Proof/Laws/Ops.lean ====
section
/-!
SUPPORT. What the shared operations can do: headers and interrupts, the event log, refusals, and the judgement of a write.
Each operation changes the fields its lemmas do not name, and nothing else.
-/
namespace Sys2Proof.Machine
open Sys2Proof

/-! ### Headers and interrupts -/

/-- A header change is the header's write, and at most one interrupt message at the edge of the package. -/
theorem modHdr_cases (s : State) (p : PageRef) (f : PageHdr → PageHdr) :
    s.modHdr p f = s.putHdr p (f (s.hdr p)) ∨ ∃ o, s.modHdr p f = emit (s.putHdr p (f (s.hdr p))) o := by
  unfold State.modHdr
  dsimp only
  split
  · exact .inl rfl
  · split
    · exact .inr ⟨_, rfl⟩
    · exact .inl rfl

@[simp] theorem modHdr_pending (s : State) (p : PageRef) (f : PageHdr → PageHdr) : (s.modHdr p f).pending = s.pending := by
  obtain h | ⟨o, h⟩ := modHdr_cases s p f <;> simp [h]
@[simp] theorem modHdr_trip (s : State) (p : PageRef) (f : PageHdr → PageHdr) : (s.modHdr p f).trip = s.trip := by
  obtain h | ⟨o, h⟩ := modHdr_cases s p f <;> simp [h]
@[simp] theorem modHdr_ao (s : State) (p : PageRef) (f : PageHdr → PageHdr) : (s.modHdr p f).ao = s.ao := by
  obtain h | ⟨o, h⟩ := modHdr_cases s p f <;> simp [h]
@[simp] theorem modHdr_power (s : State) (p : PageRef) (f : PageHdr → PageHdr) : (s.modHdr p f).power = s.power := by
  obtain h | ⟨o, h⟩ := modHdr_cases s p f <;> simp [h]
@[simp] theorem modHdr_tiles (s : State) (p : PageRef) (f : PageHdr → PageHdr) : (s.modHdr p f).tiles = s.tiles := by
  obtain h | ⟨o, h⟩ := modHdr_cases s p f <;> simp [h]
@[simp] theorem modHdr_frozen (s : State) (p : PageRef) (f : PageHdr → PageHdr) : (s.modHdr p f).frozen = s.frozen := by
  obtain h | ⟨o, h⟩ := modHdr_cases s p f <;> simp [h]
@[simp] theorem modHdr_arb (s : State) (p : PageRef) (f : PageHdr → PageHdr) : (s.modHdr p f).arb = s.arb := by
  obtain h | ⟨o, h⟩ := modHdr_cases s p f <;> simp [h]
@[simp] theorem modHdr_events (s : State) (p : PageRef) (f : PageHdr → PageHdr) : (s.modHdr p f).events = s.events := by
  obtain h | ⟨o, h⟩ := modHdr_cases s p f <;> simp [h]
@[simp] theorem modHdr_ledgers (s : State) (p : PageRef) (f : PageHdr → PageHdr) : (s.modHdr p f).ledgers = s.ledgers := by
  obtain h | ⟨o, h⟩ := modHdr_cases s p f <;> simp [h]
@[simp] theorem modHdr_ledger (s : State) (p : PageRef) (f : PageHdr → PageHdr) : (s.modHdr p f).ledger = s.ledger := by
  obtain h | ⟨o, h⟩ := modHdr_cases s p f <;> simp [h]
@[simp] theorem modHdr_nets (s : State) (p : PageRef) (f : PageHdr → PageHdr) : (s.modHdr p f).nets = s.nets := by
  obtain h | ⟨o, h⟩ := modHdr_cases s p f <;> simp [h]
@[simp] theorem modHdr_cells (s : State) (p : PageRef) (f : PageHdr → PageHdr) : (s.modHdr p f).cells = s.cells := by
  obtain h | ⟨o, h⟩ := modHdr_cases s p f <;> simp [h]
@[simp] theorem modHdr_loops (s : State) (p : PageRef) (f : PageHdr → PageHdr) : (s.modHdr p f).loops = s.loops := by
  obtain h | ⟨o, h⟩ := modHdr_cases s p f <;> simp [h]
@[simp] theorem modHdr_surveys (s : State) (p : PageRef) (f : PageHdr → PageHdr) : (s.modHdr p f).surveys = s.surveys := by
  obtain h | ⟨o, h⟩ := modHdr_cases s p f <;> simp [h]
@[simp] theorem modHdr_hearth (s : State) (p : PageRef) (f : PageHdr → PageHdr) : (s.modHdr p f).hearth = s.hearth := by
  obtain h | ⟨o, h⟩ := modHdr_cases s p f <;> simp [h]
@[simp] theorem modHdr_token (s : State) (p : PageRef) (f : PageHdr → PageHdr) : (s.modHdr p f).token = s.token := by
  obtain h | ⟨o, h⟩ := modHdr_cases s p f <;> simp [h]
@[simp] theorem modHdr_therm (s : State) (p : PageRef) (f : PageHdr → PageHdr) : (s.modHdr p f).therm = s.therm := by
  obtain h | ⟨o, h⟩ := modHdr_cases s p f <;> simp [h]
@[simp] theorem modHdr_cores (s : State) (p : PageRef) (f : PageHdr → PageHdr) : (s.modHdr p f).cores = s.cores := by
  obtain h | ⟨o, h⟩ := modHdr_cases s p f <;> simp [h]
@[simp] theorem modHdr_grid (s : State) (p : PageRef) (f : PageHdr → PageHdr) : (s.modHdr p f).grid = s.grid := by
  obtain h | ⟨o, h⟩ := modHdr_cases s p f <;> simp [h]
@[simp] theorem modHdr_mem (s : State) (p : PageRef) (f : PageHdr → PageHdr) : (s.modHdr p f).mem = s.mem := by
  obtain h | ⟨o, h⟩ := modHdr_cases s p f <;> simp [h]
@[simp] theorem modHdr_parts (s : State) (p : PageRef) (f : PageHdr → PageHdr) : (s.modHdr p f).parts = s.parts := by
  obtain h | ⟨o, h⟩ := modHdr_cases s p f <;> simp [h]
@[simp] theorem modHdr_tenants (s : State) (p : PageRef) (f : PageHdr → PageHdr) : (s.modHdr p f).tenants = s.tenants := by
  obtain h | ⟨o, h⟩ := modHdr_cases s p f <;> simp [h]
@[simp] theorem modHdr_host (s : State) (p : PageRef) (f : PageHdr → PageHdr) : (s.modHdr p f).host = s.host := by
  obtain h | ⟨o, h⟩ := modHdr_cases s p f <;> simp [h]
@[simp] theorem modHdr_links (s : State) (p : PageRef) (f : PageHdr → PageHdr) : (s.modHdr p f).links = s.links := by
  obtain h | ⟨o, h⟩ := modHdr_cases s p f <;> simp [h]
@[simp] theorem modHdr_tmb (s : State) (p : PageRef) (f : PageHdr → PageHdr) : (s.modHdr p f).tmb = s.tmb := by
  obtain h | ⟨o, h⟩ := modHdr_cases s p f <;> simp [h]
@[simp] theorem modHdr_cal (s : State) (p : PageRef) (f : PageHdr → PageHdr) : (s.modHdr p f).cal = s.cal := by
  obtain h | ⟨o, h⟩ := modHdr_cases s p f <;> simp [h]
@[simp] theorem modHdr_free (s : State) (p : PageRef) (f : PageHdr → PageHdr) : (s.modHdr p f).free = s.free := by
  obtain h | ⟨o, h⟩ := modHdr_cases s p f <;> simp [h]
@[simp] theorem modHdr_tile (s : State) (p : PageRef) (f : PageHdr → PageHdr) (j : Nat) : (s.modHdr p f).tile j = s.tile j := by
  simp only [State.tile, modHdr_tiles]
@[simp] theorem modHdr_net (s : State) (p : PageRef) (f : PageHdr → PageHdr) (j : Nat) : (s.modHdr p f).net j = s.net j := by
  simp only [State.net, modHdr_nets]
@[simp] theorem modHdr_cell (s : State) (p : PageRef) (f : PageHdr → PageHdr) (j : Nat) : (s.modHdr p f).cell j = s.cell j := by
  simp only [State.cell, modHdr_cells]
@[simp] theorem modHdr_loopE (s : State) (p : PageRef) (f : PageHdr → PageHdr) (j : Nat) : (s.modHdr p f).loopE j = s.loopE j := by
  simp only [State.loopE, modHdr_loops]
@[simp] theorem modHdr_survey (s : State) (p : PageRef) (f : PageHdr → PageHdr) (j : Nat) : (s.modHdr p f).survey j = s.survey j := by
  simp only [State.survey, modHdr_surveys]
@[simp] theorem modHdr_core (s : State) (p : PageRef) (f : PageHdr → PageHdr) (j : Nat) : (s.modHdr p f).core j = s.core j := by
  simp only [State.core, modHdr_cores]
@[simp] theorem modHdr_stack (s : State) (p : PageRef) (f : PageHdr → PageHdr) (j : Nat) : (s.modHdr p f).stack j = s.stack j := by
  simp only [State.stack, modHdr_mem]
@[simp] theorem modHdr_part (s : State) (p : PageRef) (f : PageHdr → PageHdr) (j : Nat) : (s.modHdr p f).part j = s.part j := by
  simp only [State.part, modHdr_parts]
@[simp] theorem modHdr_tenant (s : State) (p : PageRef) (f : PageHdr → PageHdr) (j : Nat) : (s.modHdr p f).tenant j = s.tenant j := by
  simp only [State.tenant, modHdr_tenants]
@[simp] theorem modHdr_queue (s : State) (p : PageRef) (f : PageHdr → PageHdr) (j : Nat) : (s.modHdr p f).queue j = s.queue j := by
  simp only [State.queue, modHdr_host]
@[simp] theorem modHdr_cmd (s : State) (p : PageRef) (f : PageHdr → PageHdr) (j : Nat) : (s.modHdr p f).cmd j = s.cmd j := by
  simp only [State.cmd, modHdr_host]
@[simp] theorem modHdr_lane (s : State) (p : PageRef) (f : PageHdr → PageHdr) (j : Nat) : (s.modHdr p f).lane j = s.lane j := by
  simp only [State.lane, modHdr_links]
@[simp] theorem modHdr_port (s : State) (p : PageRef) (f : PageHdr → PageHdr) (j : Nat) : (s.modHdr p f).port j = s.port j := by
  simp only [State.port, modHdr_links]
@[simp] theorem modHdr_hubOn (s : State) (p : PageRef) (f : PageHdr → PageHdr) : hubOn (s.modHdr p f) = hubOn s := by
  simp only [hubOn, modHdr_power]
@[simp] theorem modHdr_isReady (s : State) (p : PageRef) (f : PageHdr → PageHdr) : isReady (s.modHdr p f) = isReady s := by
  simp only [isReady, modHdr_power]

/-- The header written reads as written, every other header as before. -/
@[simp] theorem modHdr_hdr (s : State) (p q : PageRef) (f : PageHdr → PageHdr) :
    (s.modHdr p f).hdr q = if q.addr = p.addr then f (s.hdr p) else s.hdr q := by
  obtain h | ⟨o, h⟩ := modHdr_cases s p f <;> simp [h]

/-- Outputs are only appended. -/
theorem modHdr_out (s : State) (p : PageRef) (f : PageHdr → PageHdr) : ∃ l, (s.modHdr p f).out = s.out ++ l := by
  obtain h | ⟨o, h⟩ := modHdr_cases s p f
  · exact ⟨[], by simp [h]⟩
  · exact ⟨[o], by simp [h]⟩

@[simp] theorem raiseBits_pending (s : State) (p : PageRef) (m : Word) : (raiseBits s p m).pending = s.pending := by
  simp [raiseBits]
@[simp] theorem raiseBits_trip (s : State) (p : PageRef) (m : Word) : (raiseBits s p m).trip = s.trip := by
  simp [raiseBits]
@[simp] theorem raiseBits_ao (s : State) (p : PageRef) (m : Word) : (raiseBits s p m).ao = s.ao := by
  simp [raiseBits]
@[simp] theorem raiseBits_power (s : State) (p : PageRef) (m : Word) : (raiseBits s p m).power = s.power := by
  simp [raiseBits]
@[simp] theorem raiseBits_tiles (s : State) (p : PageRef) (m : Word) : (raiseBits s p m).tiles = s.tiles := by
  simp [raiseBits]
@[simp] theorem raiseBits_frozen (s : State) (p : PageRef) (m : Word) : (raiseBits s p m).frozen = s.frozen := by
  simp [raiseBits]
@[simp] theorem raiseBits_arb (s : State) (p : PageRef) (m : Word) : (raiseBits s p m).arb = s.arb := by
  simp [raiseBits]
@[simp] theorem raiseBits_events (s : State) (p : PageRef) (m : Word) : (raiseBits s p m).events = s.events := by
  simp [raiseBits]
@[simp] theorem raiseBits_ledgers (s : State) (p : PageRef) (m : Word) : (raiseBits s p m).ledgers = s.ledgers := by
  simp [raiseBits]
@[simp] theorem raiseBits_ledger (s : State) (p : PageRef) (m : Word) : (raiseBits s p m).ledger = s.ledger := by
  simp [raiseBits]
@[simp] theorem raiseBits_nets (s : State) (p : PageRef) (m : Word) : (raiseBits s p m).nets = s.nets := by
  simp [raiseBits]
@[simp] theorem raiseBits_cells (s : State) (p : PageRef) (m : Word) : (raiseBits s p m).cells = s.cells := by
  simp [raiseBits]
@[simp] theorem raiseBits_loops (s : State) (p : PageRef) (m : Word) : (raiseBits s p m).loops = s.loops := by
  simp [raiseBits]
@[simp] theorem raiseBits_surveys (s : State) (p : PageRef) (m : Word) : (raiseBits s p m).surveys = s.surveys := by
  simp [raiseBits]
@[simp] theorem raiseBits_hearth (s : State) (p : PageRef) (m : Word) : (raiseBits s p m).hearth = s.hearth := by
  simp [raiseBits]
@[simp] theorem raiseBits_token (s : State) (p : PageRef) (m : Word) : (raiseBits s p m).token = s.token := by
  simp [raiseBits]
@[simp] theorem raiseBits_therm (s : State) (p : PageRef) (m : Word) : (raiseBits s p m).therm = s.therm := by
  simp [raiseBits]
@[simp] theorem raiseBits_cores (s : State) (p : PageRef) (m : Word) : (raiseBits s p m).cores = s.cores := by
  simp [raiseBits]
@[simp] theorem raiseBits_grid (s : State) (p : PageRef) (m : Word) : (raiseBits s p m).grid = s.grid := by
  simp [raiseBits]
@[simp] theorem raiseBits_mem (s : State) (p : PageRef) (m : Word) : (raiseBits s p m).mem = s.mem := by
  simp [raiseBits]
@[simp] theorem raiseBits_parts (s : State) (p : PageRef) (m : Word) : (raiseBits s p m).parts = s.parts := by
  simp [raiseBits]
@[simp] theorem raiseBits_tenants (s : State) (p : PageRef) (m : Word) : (raiseBits s p m).tenants = s.tenants := by
  simp [raiseBits]
@[simp] theorem raiseBits_host (s : State) (p : PageRef) (m : Word) : (raiseBits s p m).host = s.host := by
  simp [raiseBits]
@[simp] theorem raiseBits_links (s : State) (p : PageRef) (m : Word) : (raiseBits s p m).links = s.links := by
  simp [raiseBits]
@[simp] theorem raiseBits_tmb (s : State) (p : PageRef) (m : Word) : (raiseBits s p m).tmb = s.tmb := by
  simp [raiseBits]
@[simp] theorem raiseBits_cal (s : State) (p : PageRef) (m : Word) : (raiseBits s p m).cal = s.cal := by
  simp [raiseBits]
@[simp] theorem raiseBits_free (s : State) (p : PageRef) (m : Word) : (raiseBits s p m).free = s.free := by
  simp [raiseBits]
@[simp] theorem raiseBits_tile (s : State) (p : PageRef) (m : Word) (j : Nat) : (raiseBits s p m).tile j = s.tile j := by
  simp only [State.tile, raiseBits_tiles]
@[simp] theorem raiseBits_net (s : State) (p : PageRef) (m : Word) (j : Nat) : (raiseBits s p m).net j = s.net j := by
  simp only [State.net, raiseBits_nets]
@[simp] theorem raiseBits_cell (s : State) (p : PageRef) (m : Word) (j : Nat) : (raiseBits s p m).cell j = s.cell j := by
  simp only [State.cell, raiseBits_cells]
@[simp] theorem raiseBits_loopE (s : State) (p : PageRef) (m : Word) (j : Nat) : (raiseBits s p m).loopE j = s.loopE j := by
  simp only [State.loopE, raiseBits_loops]
@[simp] theorem raiseBits_survey (s : State) (p : PageRef) (m : Word) (j : Nat) : (raiseBits s p m).survey j = s.survey j := by
  simp only [State.survey, raiseBits_surveys]
@[simp] theorem raiseBits_core (s : State) (p : PageRef) (m : Word) (j : Nat) : (raiseBits s p m).core j = s.core j := by
  simp only [State.core, raiseBits_cores]
@[simp] theorem raiseBits_stack (s : State) (p : PageRef) (m : Word) (j : Nat) : (raiseBits s p m).stack j = s.stack j := by
  simp only [State.stack, raiseBits_mem]
@[simp] theorem raiseBits_part (s : State) (p : PageRef) (m : Word) (j : Nat) : (raiseBits s p m).part j = s.part j := by
  simp only [State.part, raiseBits_parts]
@[simp] theorem raiseBits_tenant (s : State) (p : PageRef) (m : Word) (j : Nat) : (raiseBits s p m).tenant j = s.tenant j := by
  simp only [State.tenant, raiseBits_tenants]
@[simp] theorem raiseBits_queue (s : State) (p : PageRef) (m : Word) (j : Nat) : (raiseBits s p m).queue j = s.queue j := by
  simp only [State.queue, raiseBits_host]
@[simp] theorem raiseBits_cmd (s : State) (p : PageRef) (m : Word) (j : Nat) : (raiseBits s p m).cmd j = s.cmd j := by
  simp only [State.cmd, raiseBits_host]
@[simp] theorem raiseBits_lane (s : State) (p : PageRef) (m : Word) (j : Nat) : (raiseBits s p m).lane j = s.lane j := by
  simp only [State.lane, raiseBits_links]
@[simp] theorem raiseBits_port (s : State) (p : PageRef) (m : Word) (j : Nat) : (raiseBits s p m).port j = s.port j := by
  simp only [State.port, raiseBits_links]
@[simp] theorem raiseBits_hubOn (s : State) (p : PageRef) (m : Word) : hubOn (raiseBits s p m) = hubOn s := by
  simp only [hubOn, raiseBits_power]
@[simp] theorem raiseBits_isReady (s : State) (p : PageRef) (m : Word) : isReady (raiseBits s p m) = isReady s := by
  simp only [isReady, raiseBits_power]

@[simp] theorem raiseBits_hdr (s : State) (p q : PageRef) (m : Word) : (raiseBits s p m).hdr q =
    if q.addr = p.addr then { s.hdr p with intRaw := (s.hdr p).intRaw ||| m } else s.hdr q := by
  simp [raiseBits]

@[simp] theorem raise_pending (s : State) (p : PageRef) (i : Nat) : (raise s p i).pending = s.pending := by
  simp [raise]
@[simp] theorem raise_trip (s : State) (p : PageRef) (i : Nat) : (raise s p i).trip = s.trip := by
  simp [raise]
@[simp] theorem raise_ao (s : State) (p : PageRef) (i : Nat) : (raise s p i).ao = s.ao := by
  simp [raise]
@[simp] theorem raise_power (s : State) (p : PageRef) (i : Nat) : (raise s p i).power = s.power := by
  simp [raise]
@[simp] theorem raise_tiles (s : State) (p : PageRef) (i : Nat) : (raise s p i).tiles = s.tiles := by
  simp [raise]
@[simp] theorem raise_frozen (s : State) (p : PageRef) (i : Nat) : (raise s p i).frozen = s.frozen := by
  simp [raise]
@[simp] theorem raise_arb (s : State) (p : PageRef) (i : Nat) : (raise s p i).arb = s.arb := by
  simp [raise]
@[simp] theorem raise_events (s : State) (p : PageRef) (i : Nat) : (raise s p i).events = s.events := by
  simp [raise]
@[simp] theorem raise_ledgers (s : State) (p : PageRef) (i : Nat) : (raise s p i).ledgers = s.ledgers := by
  simp [raise]
@[simp] theorem raise_ledger (s : State) (p : PageRef) (i : Nat) : (raise s p i).ledger = s.ledger := by
  simp [raise]
@[simp] theorem raise_nets (s : State) (p : PageRef) (i : Nat) : (raise s p i).nets = s.nets := by
  simp [raise]
@[simp] theorem raise_cells (s : State) (p : PageRef) (i : Nat) : (raise s p i).cells = s.cells := by
  simp [raise]
@[simp] theorem raise_loops (s : State) (p : PageRef) (i : Nat) : (raise s p i).loops = s.loops := by
  simp [raise]
@[simp] theorem raise_surveys (s : State) (p : PageRef) (i : Nat) : (raise s p i).surveys = s.surveys := by
  simp [raise]
@[simp] theorem raise_hearth (s : State) (p : PageRef) (i : Nat) : (raise s p i).hearth = s.hearth := by
  simp [raise]
@[simp] theorem raise_token (s : State) (p : PageRef) (i : Nat) : (raise s p i).token = s.token := by
  simp [raise]
@[simp] theorem raise_therm (s : State) (p : PageRef) (i : Nat) : (raise s p i).therm = s.therm := by
  simp [raise]
@[simp] theorem raise_cores (s : State) (p : PageRef) (i : Nat) : (raise s p i).cores = s.cores := by
  simp [raise]
@[simp] theorem raise_grid (s : State) (p : PageRef) (i : Nat) : (raise s p i).grid = s.grid := by
  simp [raise]
@[simp] theorem raise_mem (s : State) (p : PageRef) (i : Nat) : (raise s p i).mem = s.mem := by
  simp [raise]
@[simp] theorem raise_parts (s : State) (p : PageRef) (i : Nat) : (raise s p i).parts = s.parts := by
  simp [raise]
@[simp] theorem raise_tenants (s : State) (p : PageRef) (i : Nat) : (raise s p i).tenants = s.tenants := by
  simp [raise]
@[simp] theorem raise_host (s : State) (p : PageRef) (i : Nat) : (raise s p i).host = s.host := by
  simp [raise]
@[simp] theorem raise_links (s : State) (p : PageRef) (i : Nat) : (raise s p i).links = s.links := by
  simp [raise]
@[simp] theorem raise_tmb (s : State) (p : PageRef) (i : Nat) : (raise s p i).tmb = s.tmb := by
  simp [raise]
@[simp] theorem raise_cal (s : State) (p : PageRef) (i : Nat) : (raise s p i).cal = s.cal := by
  simp [raise]
@[simp] theorem raise_free (s : State) (p : PageRef) (i : Nat) : (raise s p i).free = s.free := by
  simp [raise]
@[simp] theorem raise_tile (s : State) (p : PageRef) (i : Nat) (j : Nat) : (raise s p i).tile j = s.tile j := by
  simp only [State.tile, raise_tiles]
@[simp] theorem raise_net (s : State) (p : PageRef) (i : Nat) (j : Nat) : (raise s p i).net j = s.net j := by
  simp only [State.net, raise_nets]
@[simp] theorem raise_cell (s : State) (p : PageRef) (i : Nat) (j : Nat) : (raise s p i).cell j = s.cell j := by
  simp only [State.cell, raise_cells]
@[simp] theorem raise_loopE (s : State) (p : PageRef) (i : Nat) (j : Nat) : (raise s p i).loopE j = s.loopE j := by
  simp only [State.loopE, raise_loops]
@[simp] theorem raise_survey (s : State) (p : PageRef) (i : Nat) (j : Nat) : (raise s p i).survey j = s.survey j := by
  simp only [State.survey, raise_surveys]
@[simp] theorem raise_core (s : State) (p : PageRef) (i : Nat) (j : Nat) : (raise s p i).core j = s.core j := by
  simp only [State.core, raise_cores]
@[simp] theorem raise_stack (s : State) (p : PageRef) (i : Nat) (j : Nat) : (raise s p i).stack j = s.stack j := by
  simp only [State.stack, raise_mem]
@[simp] theorem raise_part (s : State) (p : PageRef) (i : Nat) (j : Nat) : (raise s p i).part j = s.part j := by
  simp only [State.part, raise_parts]
@[simp] theorem raise_tenant (s : State) (p : PageRef) (i : Nat) (j : Nat) : (raise s p i).tenant j = s.tenant j := by
  simp only [State.tenant, raise_tenants]
@[simp] theorem raise_queue (s : State) (p : PageRef) (i : Nat) (j : Nat) : (raise s p i).queue j = s.queue j := by
  simp only [State.queue, raise_host]
@[simp] theorem raise_cmd (s : State) (p : PageRef) (i : Nat) (j : Nat) : (raise s p i).cmd j = s.cmd j := by
  simp only [State.cmd, raise_host]
@[simp] theorem raise_lane (s : State) (p : PageRef) (i : Nat) (j : Nat) : (raise s p i).lane j = s.lane j := by
  simp only [State.lane, raise_links]
@[simp] theorem raise_port (s : State) (p : PageRef) (i : Nat) (j : Nat) : (raise s p i).port j = s.port j := by
  simp only [State.port, raise_links]
@[simp] theorem raise_hubOn (s : State) (p : PageRef) (i : Nat) : hubOn (raise s p i) = hubOn s := by
  simp only [hubOn, raise_power]
@[simp] theorem raise_isReady (s : State) (p : PageRef) (i : Nat) : isReady (raise s p i) = isReady s := by
  simp only [isReady, raise_power]

@[simp] theorem raise_hdr (s : State) (p q : PageRef) (i : Nat) : (raise s p i).hdr q =
    if q.addr = p.addr then { s.hdr p with intRaw := (s.hdr p).intRaw ||| w32 (2 ^ i) } else s.hdr q := by
  simp [raise]

/-! ### The event log -/

/-- Logging an event: nothing without hub power; else the ring takes the record, or the drop count counts it, and at most
one cause of the EVENT page is raised. -/
theorem logEvent_cases (s : State) (code sev : Nat) (p : PageRef) (a : List Nat) :
    logEvent s code sev p a = s ∨ (∃ e, logEvent s code sev p a = { s with events := e }) ∨
    (∃ e i, logEvent s code sev p a = raise { s with events := e } .event i) := by
  unfold logEvent
  dsimp only
  split
  · exact .inl rfl
  · split
    · exact .inr (.inr ⟨_, _, rfl⟩)
    · split
      · exact .inr (.inr ⟨_, _, rfl⟩)
      · exact .inr (.inl ⟨_, rfl⟩)

@[simp] theorem logEvent_pending (s : State) (code sev : Nat) (p : PageRef) (a : List Nat) : (logEvent s code sev p a).pending = s.pending := by
  obtain h | ⟨e, h⟩ | ⟨e, i, h⟩ := logEvent_cases s code sev p a <;> simp [h]
@[simp] theorem logEvent_trip (s : State) (code sev : Nat) (p : PageRef) (a : List Nat) : (logEvent s code sev p a).trip = s.trip := by
  obtain h | ⟨e, h⟩ | ⟨e, i, h⟩ := logEvent_cases s code sev p a <;> simp [h]
@[simp] theorem logEvent_ao (s : State) (code sev : Nat) (p : PageRef) (a : List Nat) : (logEvent s code sev p a).ao = s.ao := by
  obtain h | ⟨e, h⟩ | ⟨e, i, h⟩ := logEvent_cases s code sev p a <;> simp [h]
@[simp] theorem logEvent_power (s : State) (code sev : Nat) (p : PageRef) (a : List Nat) : (logEvent s code sev p a).power = s.power := by
  obtain h | ⟨e, h⟩ | ⟨e, i, h⟩ := logEvent_cases s code sev p a <;> simp [h]
@[simp] theorem logEvent_tiles (s : State) (code sev : Nat) (p : PageRef) (a : List Nat) : (logEvent s code sev p a).tiles = s.tiles := by
  obtain h | ⟨e, h⟩ | ⟨e, i, h⟩ := logEvent_cases s code sev p a <;> simp [h]
@[simp] theorem logEvent_frozen (s : State) (code sev : Nat) (p : PageRef) (a : List Nat) : (logEvent s code sev p a).frozen = s.frozen := by
  obtain h | ⟨e, h⟩ | ⟨e, i, h⟩ := logEvent_cases s code sev p a <;> simp [h]
@[simp] theorem logEvent_arb (s : State) (code sev : Nat) (p : PageRef) (a : List Nat) : (logEvent s code sev p a).arb = s.arb := by
  obtain h | ⟨e, h⟩ | ⟨e, i, h⟩ := logEvent_cases s code sev p a <;> simp [h]
@[simp] theorem logEvent_ledgers (s : State) (code sev : Nat) (p : PageRef) (a : List Nat) : (logEvent s code sev p a).ledgers = s.ledgers := by
  obtain h | ⟨e, h⟩ | ⟨e, i, h⟩ := logEvent_cases s code sev p a <;> simp [h]
@[simp] theorem logEvent_ledger (s : State) (code sev : Nat) (p : PageRef) (a : List Nat) : (logEvent s code sev p a).ledger = s.ledger := by
  obtain h | ⟨e, h⟩ | ⟨e, i, h⟩ := logEvent_cases s code sev p a <;> simp [h]
@[simp] theorem logEvent_nets (s : State) (code sev : Nat) (p : PageRef) (a : List Nat) : (logEvent s code sev p a).nets = s.nets := by
  obtain h | ⟨e, h⟩ | ⟨e, i, h⟩ := logEvent_cases s code sev p a <;> simp [h]
@[simp] theorem logEvent_cells (s : State) (code sev : Nat) (p : PageRef) (a : List Nat) : (logEvent s code sev p a).cells = s.cells := by
  obtain h | ⟨e, h⟩ | ⟨e, i, h⟩ := logEvent_cases s code sev p a <;> simp [h]
@[simp] theorem logEvent_loops (s : State) (code sev : Nat) (p : PageRef) (a : List Nat) : (logEvent s code sev p a).loops = s.loops := by
  obtain h | ⟨e, h⟩ | ⟨e, i, h⟩ := logEvent_cases s code sev p a <;> simp [h]
@[simp] theorem logEvent_surveys (s : State) (code sev : Nat) (p : PageRef) (a : List Nat) : (logEvent s code sev p a).surveys = s.surveys := by
  obtain h | ⟨e, h⟩ | ⟨e, i, h⟩ := logEvent_cases s code sev p a <;> simp [h]
@[simp] theorem logEvent_hearth (s : State) (code sev : Nat) (p : PageRef) (a : List Nat) : (logEvent s code sev p a).hearth = s.hearth := by
  obtain h | ⟨e, h⟩ | ⟨e, i, h⟩ := logEvent_cases s code sev p a <;> simp [h]
@[simp] theorem logEvent_token (s : State) (code sev : Nat) (p : PageRef) (a : List Nat) : (logEvent s code sev p a).token = s.token := by
  obtain h | ⟨e, h⟩ | ⟨e, i, h⟩ := logEvent_cases s code sev p a <;> simp [h]
@[simp] theorem logEvent_therm (s : State) (code sev : Nat) (p : PageRef) (a : List Nat) : (logEvent s code sev p a).therm = s.therm := by
  obtain h | ⟨e, h⟩ | ⟨e, i, h⟩ := logEvent_cases s code sev p a <;> simp [h]
@[simp] theorem logEvent_cores (s : State) (code sev : Nat) (p : PageRef) (a : List Nat) : (logEvent s code sev p a).cores = s.cores := by
  obtain h | ⟨e, h⟩ | ⟨e, i, h⟩ := logEvent_cases s code sev p a <;> simp [h]
@[simp] theorem logEvent_grid (s : State) (code sev : Nat) (p : PageRef) (a : List Nat) : (logEvent s code sev p a).grid = s.grid := by
  obtain h | ⟨e, h⟩ | ⟨e, i, h⟩ := logEvent_cases s code sev p a <;> simp [h]
@[simp] theorem logEvent_mem (s : State) (code sev : Nat) (p : PageRef) (a : List Nat) : (logEvent s code sev p a).mem = s.mem := by
  obtain h | ⟨e, h⟩ | ⟨e, i, h⟩ := logEvent_cases s code sev p a <;> simp [h]
@[simp] theorem logEvent_parts (s : State) (code sev : Nat) (p : PageRef) (a : List Nat) : (logEvent s code sev p a).parts = s.parts := by
  obtain h | ⟨e, h⟩ | ⟨e, i, h⟩ := logEvent_cases s code sev p a <;> simp [h]
@[simp] theorem logEvent_tenants (s : State) (code sev : Nat) (p : PageRef) (a : List Nat) : (logEvent s code sev p a).tenants = s.tenants := by
  obtain h | ⟨e, h⟩ | ⟨e, i, h⟩ := logEvent_cases s code sev p a <;> simp [h]
@[simp] theorem logEvent_host (s : State) (code sev : Nat) (p : PageRef) (a : List Nat) : (logEvent s code sev p a).host = s.host := by
  obtain h | ⟨e, h⟩ | ⟨e, i, h⟩ := logEvent_cases s code sev p a <;> simp [h]
@[simp] theorem logEvent_links (s : State) (code sev : Nat) (p : PageRef) (a : List Nat) : (logEvent s code sev p a).links = s.links := by
  obtain h | ⟨e, h⟩ | ⟨e, i, h⟩ := logEvent_cases s code sev p a <;> simp [h]
@[simp] theorem logEvent_tmb (s : State) (code sev : Nat) (p : PageRef) (a : List Nat) : (logEvent s code sev p a).tmb = s.tmb := by
  obtain h | ⟨e, h⟩ | ⟨e, i, h⟩ := logEvent_cases s code sev p a <;> simp [h]
@[simp] theorem logEvent_cal (s : State) (code sev : Nat) (p : PageRef) (a : List Nat) : (logEvent s code sev p a).cal = s.cal := by
  obtain h | ⟨e, h⟩ | ⟨e, i, h⟩ := logEvent_cases s code sev p a <;> simp [h]
@[simp] theorem logEvent_free (s : State) (code sev : Nat) (p : PageRef) (a : List Nat) : (logEvent s code sev p a).free = s.free := by
  obtain h | ⟨e, h⟩ | ⟨e, i, h⟩ := logEvent_cases s code sev p a <;> simp [h]
@[simp] theorem logEvent_tile (s : State) (code sev : Nat) (p : PageRef) (a : List Nat) (j : Nat) : (logEvent s code sev p a).tile j = s.tile j := by
  simp only [State.tile, logEvent_tiles]
@[simp] theorem logEvent_net (s : State) (code sev : Nat) (p : PageRef) (a : List Nat) (j : Nat) : (logEvent s code sev p a).net j = s.net j := by
  simp only [State.net, logEvent_nets]
@[simp] theorem logEvent_cell (s : State) (code sev : Nat) (p : PageRef) (a : List Nat) (j : Nat) : (logEvent s code sev p a).cell j = s.cell j := by
  simp only [State.cell, logEvent_cells]
@[simp] theorem logEvent_loopE (s : State) (code sev : Nat) (p : PageRef) (a : List Nat) (j : Nat) : (logEvent s code sev p a).loopE j = s.loopE j := by
  simp only [State.loopE, logEvent_loops]
@[simp] theorem logEvent_survey (s : State) (code sev : Nat) (p : PageRef) (a : List Nat) (j : Nat) : (logEvent s code sev p a).survey j = s.survey j := by
  simp only [State.survey, logEvent_surveys]
@[simp] theorem logEvent_core (s : State) (code sev : Nat) (p : PageRef) (a : List Nat) (j : Nat) : (logEvent s code sev p a).core j = s.core j := by
  simp only [State.core, logEvent_cores]
@[simp] theorem logEvent_stack (s : State) (code sev : Nat) (p : PageRef) (a : List Nat) (j : Nat) : (logEvent s code sev p a).stack j = s.stack j := by
  simp only [State.stack, logEvent_mem]
@[simp] theorem logEvent_part (s : State) (code sev : Nat) (p : PageRef) (a : List Nat) (j : Nat) : (logEvent s code sev p a).part j = s.part j := by
  simp only [State.part, logEvent_parts]
@[simp] theorem logEvent_tenant (s : State) (code sev : Nat) (p : PageRef) (a : List Nat) (j : Nat) : (logEvent s code sev p a).tenant j = s.tenant j := by
  simp only [State.tenant, logEvent_tenants]
@[simp] theorem logEvent_queue (s : State) (code sev : Nat) (p : PageRef) (a : List Nat) (j : Nat) : (logEvent s code sev p a).queue j = s.queue j := by
  simp only [State.queue, logEvent_host]
@[simp] theorem logEvent_cmd (s : State) (code sev : Nat) (p : PageRef) (a : List Nat) (j : Nat) : (logEvent s code sev p a).cmd j = s.cmd j := by
  simp only [State.cmd, logEvent_host]
@[simp] theorem logEvent_lane (s : State) (code sev : Nat) (p : PageRef) (a : List Nat) (j : Nat) : (logEvent s code sev p a).lane j = s.lane j := by
  simp only [State.lane, logEvent_links]
@[simp] theorem logEvent_port (s : State) (code sev : Nat) (p : PageRef) (a : List Nat) (j : Nat) : (logEvent s code sev p a).port j = s.port j := by
  simp only [State.port, logEvent_links]
@[simp] theorem logEvent_hubOn (s : State) (code sev : Nat) (p : PageRef) (a : List Nat) : hubOn (logEvent s code sev p a) = hubOn s := by
  simp only [hubOn, logEvent_power]
@[simp] theorem logEvent_isReady (s : State) (code sev : Nat) (p : PageRef) (a : List Nat) : isReady (logEvent s code sev p a) = isReady s := by
  simp only [isReady, logEvent_power]

/-- With hub power and fewer than 256 records in the last millisecond, the event is the newest record of the ring (R99,
R100, R102). -/
theorem logEvent_log (s : State) (code sev : Nat) (p : PageRef) (a : List Nat) (hon : hubOn s = true) (hq : recentEvents s < 256) :
    (logEvent s code sev p a).events.log = (mkRecord s code sev p a :: s.events.log).take 1024 := by
  have h1 : (!hubOn s) = false := by simp [hon]
  have h2 : ¬ 256 ≤ recentEvents s := by omega
  simp only [logEvent, h1, Bool.false_eq_true, if_false, h2]
  split <;> simp

/-- Every header but the EVENT page's is left alone by the log. -/
theorem logEvent_hdr (s : State) (code sev : Nat) (p q : PageRef) (a : List Nat) (h : q.addr ≠ PageRef.event.addr) :
    (logEvent s code sev p a).hdr q = s.hdr q := by
  obtain h' | ⟨e, h'⟩ | ⟨e, i, h'⟩ := logEvent_cases s code sev p a <;> rw [h']
  · rfl
  · rw [raise_hdr, if_neg h]; rfl

@[simp] theorem recordRefusal_pending (s : State) (p : PageRef) (off : Nat) (m : Master) (c : RefCode) : (recordRefusal s p off m c).pending = s.pending := by
  simp [recordRefusal]
@[simp] theorem recordRefusal_trip (s : State) (p : PageRef) (off : Nat) (m : Master) (c : RefCode) : (recordRefusal s p off m c).trip = s.trip := by
  simp [recordRefusal]
@[simp] theorem recordRefusal_ao (s : State) (p : PageRef) (off : Nat) (m : Master) (c : RefCode) : (recordRefusal s p off m c).ao = s.ao := by
  simp [recordRefusal]
@[simp] theorem recordRefusal_power (s : State) (p : PageRef) (off : Nat) (m : Master) (c : RefCode) : (recordRefusal s p off m c).power = s.power := by
  simp [recordRefusal]
@[simp] theorem recordRefusal_tiles (s : State) (p : PageRef) (off : Nat) (m : Master) (c : RefCode) : (recordRefusal s p off m c).tiles = s.tiles := by
  simp [recordRefusal]
@[simp] theorem recordRefusal_frozen (s : State) (p : PageRef) (off : Nat) (m : Master) (c : RefCode) : (recordRefusal s p off m c).frozen = s.frozen := by
  simp [recordRefusal]
@[simp] theorem recordRefusal_arb (s : State) (p : PageRef) (off : Nat) (m : Master) (c : RefCode) : (recordRefusal s p off m c).arb = s.arb := by
  simp [recordRefusal]
@[simp] theorem recordRefusal_events (s : State) (p : PageRef) (off : Nat) (m : Master) (c : RefCode) : (recordRefusal s p off m c).events = s.events := by
  simp [recordRefusal]
@[simp] theorem recordRefusal_ledgers (s : State) (p : PageRef) (off : Nat) (m : Master) (c : RefCode) : (recordRefusal s p off m c).ledgers = s.ledgers := by
  simp [recordRefusal]
@[simp] theorem recordRefusal_ledger (s : State) (p : PageRef) (off : Nat) (m : Master) (c : RefCode) : (recordRefusal s p off m c).ledger = s.ledger := by
  simp [recordRefusal]
@[simp] theorem recordRefusal_nets (s : State) (p : PageRef) (off : Nat) (m : Master) (c : RefCode) : (recordRefusal s p off m c).nets = s.nets := by
  simp [recordRefusal]
@[simp] theorem recordRefusal_cells (s : State) (p : PageRef) (off : Nat) (m : Master) (c : RefCode) : (recordRefusal s p off m c).cells = s.cells := by
  simp [recordRefusal]
@[simp] theorem recordRefusal_loops (s : State) (p : PageRef) (off : Nat) (m : Master) (c : RefCode) : (recordRefusal s p off m c).loops = s.loops := by
  simp [recordRefusal]
@[simp] theorem recordRefusal_surveys (s : State) (p : PageRef) (off : Nat) (m : Master) (c : RefCode) : (recordRefusal s p off m c).surveys = s.surveys := by
  simp [recordRefusal]
@[simp] theorem recordRefusal_hearth (s : State) (p : PageRef) (off : Nat) (m : Master) (c : RefCode) : (recordRefusal s p off m c).hearth = s.hearth := by
  simp [recordRefusal]
@[simp] theorem recordRefusal_token (s : State) (p : PageRef) (off : Nat) (m : Master) (c : RefCode) : (recordRefusal s p off m c).token = s.token := by
  simp [recordRefusal]
@[simp] theorem recordRefusal_therm (s : State) (p : PageRef) (off : Nat) (m : Master) (c : RefCode) : (recordRefusal s p off m c).therm = s.therm := by
  simp [recordRefusal]
@[simp] theorem recordRefusal_cores (s : State) (p : PageRef) (off : Nat) (m : Master) (c : RefCode) : (recordRefusal s p off m c).cores = s.cores := by
  simp [recordRefusal]
@[simp] theorem recordRefusal_grid (s : State) (p : PageRef) (off : Nat) (m : Master) (c : RefCode) : (recordRefusal s p off m c).grid = s.grid := by
  simp [recordRefusal]
@[simp] theorem recordRefusal_mem (s : State) (p : PageRef) (off : Nat) (m : Master) (c : RefCode) : (recordRefusal s p off m c).mem = s.mem := by
  simp [recordRefusal]
@[simp] theorem recordRefusal_parts (s : State) (p : PageRef) (off : Nat) (m : Master) (c : RefCode) : (recordRefusal s p off m c).parts = s.parts := by
  simp [recordRefusal]
@[simp] theorem recordRefusal_tenants (s : State) (p : PageRef) (off : Nat) (m : Master) (c : RefCode) : (recordRefusal s p off m c).tenants = s.tenants := by
  simp [recordRefusal]
@[simp] theorem recordRefusal_host (s : State) (p : PageRef) (off : Nat) (m : Master) (c : RefCode) : (recordRefusal s p off m c).host = s.host := by
  simp [recordRefusal]
@[simp] theorem recordRefusal_links (s : State) (p : PageRef) (off : Nat) (m : Master) (c : RefCode) : (recordRefusal s p off m c).links = s.links := by
  simp [recordRefusal]
@[simp] theorem recordRefusal_tmb (s : State) (p : PageRef) (off : Nat) (m : Master) (c : RefCode) : (recordRefusal s p off m c).tmb = s.tmb := by
  simp [recordRefusal]
@[simp] theorem recordRefusal_cal (s : State) (p : PageRef) (off : Nat) (m : Master) (c : RefCode) : (recordRefusal s p off m c).cal = s.cal := by
  simp [recordRefusal]
@[simp] theorem recordRefusal_free (s : State) (p : PageRef) (off : Nat) (m : Master) (c : RefCode) : (recordRefusal s p off m c).free = s.free := by
  simp [recordRefusal]
@[simp] theorem recordRefusal_tile (s : State) (p : PageRef) (off : Nat) (m : Master) (c : RefCode) (j : Nat) : (recordRefusal s p off m c).tile j = s.tile j := by
  simp only [State.tile, recordRefusal_tiles]
@[simp] theorem recordRefusal_net (s : State) (p : PageRef) (off : Nat) (m : Master) (c : RefCode) (j : Nat) : (recordRefusal s p off m c).net j = s.net j := by
  simp only [State.net, recordRefusal_nets]
@[simp] theorem recordRefusal_cell (s : State) (p : PageRef) (off : Nat) (m : Master) (c : RefCode) (j : Nat) : (recordRefusal s p off m c).cell j = s.cell j := by
  simp only [State.cell, recordRefusal_cells]
@[simp] theorem recordRefusal_loopE (s : State) (p : PageRef) (off : Nat) (m : Master) (c : RefCode) (j : Nat) : (recordRefusal s p off m c).loopE j = s.loopE j := by
  simp only [State.loopE, recordRefusal_loops]
@[simp] theorem recordRefusal_survey (s : State) (p : PageRef) (off : Nat) (m : Master) (c : RefCode) (j : Nat) : (recordRefusal s p off m c).survey j = s.survey j := by
  simp only [State.survey, recordRefusal_surveys]
@[simp] theorem recordRefusal_core (s : State) (p : PageRef) (off : Nat) (m : Master) (c : RefCode) (j : Nat) : (recordRefusal s p off m c).core j = s.core j := by
  simp only [State.core, recordRefusal_cores]
@[simp] theorem recordRefusal_stack (s : State) (p : PageRef) (off : Nat) (m : Master) (c : RefCode) (j : Nat) : (recordRefusal s p off m c).stack j = s.stack j := by
  simp only [State.stack, recordRefusal_mem]
@[simp] theorem recordRefusal_part (s : State) (p : PageRef) (off : Nat) (m : Master) (c : RefCode) (j : Nat) : (recordRefusal s p off m c).part j = s.part j := by
  simp only [State.part, recordRefusal_parts]
@[simp] theorem recordRefusal_tenant (s : State) (p : PageRef) (off : Nat) (m : Master) (c : RefCode) (j : Nat) : (recordRefusal s p off m c).tenant j = s.tenant j := by
  simp only [State.tenant, recordRefusal_tenants]
@[simp] theorem recordRefusal_queue (s : State) (p : PageRef) (off : Nat) (m : Master) (c : RefCode) (j : Nat) : (recordRefusal s p off m c).queue j = s.queue j := by
  simp only [State.queue, recordRefusal_host]
@[simp] theorem recordRefusal_cmd (s : State) (p : PageRef) (off : Nat) (m : Master) (c : RefCode) (j : Nat) : (recordRefusal s p off m c).cmd j = s.cmd j := by
  simp only [State.cmd, recordRefusal_host]
@[simp] theorem recordRefusal_lane (s : State) (p : PageRef) (off : Nat) (m : Master) (c : RefCode) (j : Nat) : (recordRefusal s p off m c).lane j = s.lane j := by
  simp only [State.lane, recordRefusal_links]
@[simp] theorem recordRefusal_port (s : State) (p : PageRef) (off : Nat) (m : Master) (c : RefCode) (j : Nat) : (recordRefusal s p off m c).port j = s.port j := by
  simp only [State.port, recordRefusal_links]
@[simp] theorem recordRefusal_hubOn (s : State) (p : PageRef) (off : Nat) (m : Master) (c : RefCode) : hubOn (recordRefusal s p off m c) = hubOn s := by
  simp only [hubOn, recordRefusal_power]
@[simp] theorem recordRefusal_isReady (s : State) (p : PageRef) (off : Nat) (m : Master) (c : RefCode) : isReady (recordRefusal s p off m c) = isReady s := by
  simp only [isReady, recordRefusal_power]

/-! ### The judgement of a write -/

theorem isReady_hubOn {s : State} (h : isReady s = true) : hubOn s = true := by
  have := h
  simp only [isReady, decide_eq_true_eq] at this
  simp [hubOn, this]

/-- A write that nothing turns away has its effect. -/
theorem guarded_ok (s : State) (p : PageRef) (off : Nat) (w : RegWrite) (c : Checks) (eff : State → State)
    (h : writeOk s p w = true) (hc : c.pass = true) : guarded s p off w c eff = (eff s, .ok) := by
  simp only [writeOk, Bool.and_eq_true, Bool.not_eq_true'] at h
  obtain ⟨⟨⟨⟨⟨hr, he⟩, ha⟩, hm⟩, ho⟩, hu⟩ := h
  simp only [Checks.pass, Bool.and_eq_true, Bool.not_eq_true'] at hc
  obtain ⟨⟨⟨⟨⟨⟨⟨h1, h2⟩, h3⟩, h4⟩, h5⟩, h6⟩, h7⟩, h8⟩ := hc
  have hj : judge s p w c = .ok := by
    simp [judge, hm, ho, hu, h1, h2, h3, h4, h5, h6, h7, h8]
  have hs : aoServes s p w.master = false := by simp [aoServes, isReady_hubOn hr]
  simp [guarded, hj, hs, hr, he, ha]

/-! ### Notices (R253) -/

/-- A notice leaves nothing to do, goes, or cannot be delivered. -/
theorem noticeNet_cases (s : State) (n : Nat) (fall : Bool) :
    noticeNet s n fall = s ∨ noticeNet s n fall = undeliverable s (n / 2) n ∨
    noticeNet s n fall = { s with token := { s.token with
      notices := s.token.notices ++ [(n, noticeShare n (planT s (n / 2)))],
      notified := put 0 s.token.notified n (noticeShare n (planT s (n / 2))),
      noticed := if s.token.noticed.contains n then s.token.noticed else n :: s.token.noticed } } := by
  unfold noticeNet
  dsimp only
  split
  · exact .inl rfl
  · split
    · exact .inr (.inl rfl)
    · exact .inr (.inr rfl)

@[simp] theorem undeliverable_pending (s : State) (t n : Nat) : (undeliverable s t n).pending = s.pending := by
  unfold undeliverable; split <;> simp
@[simp] theorem noticeNet_pending (s : State) (n : Nat) (fall : Bool) : (noticeNet s n fall).pending = s.pending := by
  obtain h | h | h := noticeNet_cases s n fall <;> simp [h]
@[simp] theorem noticeTile_pending (s : State) (t : Nat) (fall : Bool) : (noticeTile s t fall).pending = s.pending := by
  simp [noticeTile]
@[simp] theorem undeliverable_trip (s : State) (t n : Nat) : (undeliverable s t n).trip = s.trip := by
  unfold undeliverable; split <;> simp
@[simp] theorem noticeNet_trip (s : State) (n : Nat) (fall : Bool) : (noticeNet s n fall).trip = s.trip := by
  obtain h | h | h := noticeNet_cases s n fall <;> simp [h]
@[simp] theorem noticeTile_trip (s : State) (t : Nat) (fall : Bool) : (noticeTile s t fall).trip = s.trip := by
  simp [noticeTile]
@[simp] theorem undeliverable_ao (s : State) (t n : Nat) : (undeliverable s t n).ao = s.ao := by
  unfold undeliverable; split <;> simp
@[simp] theorem noticeNet_ao (s : State) (n : Nat) (fall : Bool) : (noticeNet s n fall).ao = s.ao := by
  obtain h | h | h := noticeNet_cases s n fall <;> simp [h]
@[simp] theorem noticeTile_ao (s : State) (t : Nat) (fall : Bool) : (noticeTile s t fall).ao = s.ao := by
  simp [noticeTile]
@[simp] theorem undeliverable_power (s : State) (t n : Nat) : (undeliverable s t n).power = s.power := by
  unfold undeliverable; split <;> simp
@[simp] theorem noticeNet_power (s : State) (n : Nat) (fall : Bool) : (noticeNet s n fall).power = s.power := by
  obtain h | h | h := noticeNet_cases s n fall <;> simp [h]
@[simp] theorem noticeTile_power (s : State) (t : Nat) (fall : Bool) : (noticeTile s t fall).power = s.power := by
  simp [noticeTile]
@[simp] theorem undeliverable_arb (s : State) (t n : Nat) : (undeliverable s t n).arb = s.arb := by
  unfold undeliverable; split <;> simp
@[simp] theorem noticeNet_arb (s : State) (n : Nat) (fall : Bool) : (noticeNet s n fall).arb = s.arb := by
  obtain h | h | h := noticeNet_cases s n fall <;> simp [h]
@[simp] theorem noticeTile_arb (s : State) (t : Nat) (fall : Bool) : (noticeTile s t fall).arb = s.arb := by
  simp [noticeTile]
@[simp] theorem undeliverable_ledgers (s : State) (t n : Nat) : (undeliverable s t n).ledgers = s.ledgers := by
  unfold undeliverable; split <;> simp
@[simp] theorem noticeNet_ledgers (s : State) (n : Nat) (fall : Bool) : (noticeNet s n fall).ledgers = s.ledgers := by
  obtain h | h | h := noticeNet_cases s n fall <;> simp [h]
@[simp] theorem noticeTile_ledgers (s : State) (t : Nat) (fall : Bool) : (noticeTile s t fall).ledgers = s.ledgers := by
  simp [noticeTile]
@[simp] theorem undeliverable_ledger (s : State) (t n : Nat) : (undeliverable s t n).ledger = s.ledger := by
  unfold undeliverable; split <;> simp
@[simp] theorem noticeNet_ledger (s : State) (n : Nat) (fall : Bool) : (noticeNet s n fall).ledger = s.ledger := by
  obtain h | h | h := noticeNet_cases s n fall <;> simp [h]
@[simp] theorem noticeTile_ledger (s : State) (t : Nat) (fall : Bool) : (noticeTile s t fall).ledger = s.ledger := by
  simp [noticeTile]
@[simp] theorem undeliverable_tiles (s : State) (t n : Nat) : (undeliverable s t n).tiles = s.tiles := by
  unfold undeliverable; split <;> simp
@[simp] theorem noticeNet_tiles (s : State) (n : Nat) (fall : Bool) : (noticeNet s n fall).tiles = s.tiles := by
  obtain h | h | h := noticeNet_cases s n fall <;> simp [h]
@[simp] theorem noticeTile_tiles (s : State) (t : Nat) (fall : Bool) : (noticeTile s t fall).tiles = s.tiles := by
  simp [noticeTile]
@[simp] theorem undeliverable_nets (s : State) (t n : Nat) : (undeliverable s t n).nets = s.nets := by
  unfold undeliverable; split <;> simp
@[simp] theorem noticeNet_nets (s : State) (n : Nat) (fall : Bool) : (noticeNet s n fall).nets = s.nets := by
  obtain h | h | h := noticeNet_cases s n fall <;> simp [h]
@[simp] theorem noticeTile_nets (s : State) (t : Nat) (fall : Bool) : (noticeTile s t fall).nets = s.nets := by
  simp [noticeTile]
@[simp] theorem undeliverable_cells (s : State) (t n : Nat) : (undeliverable s t n).cells = s.cells := by
  unfold undeliverable; split <;> simp
@[simp] theorem noticeNet_cells (s : State) (n : Nat) (fall : Bool) : (noticeNet s n fall).cells = s.cells := by
  obtain h | h | h := noticeNet_cases s n fall <;> simp [h]
@[simp] theorem noticeTile_cells (s : State) (t : Nat) (fall : Bool) : (noticeTile s t fall).cells = s.cells := by
  simp [noticeTile]
@[simp] theorem undeliverable_loops (s : State) (t n : Nat) : (undeliverable s t n).loops = s.loops := by
  unfold undeliverable; split <;> simp
@[simp] theorem noticeNet_loops (s : State) (n : Nat) (fall : Bool) : (noticeNet s n fall).loops = s.loops := by
  obtain h | h | h := noticeNet_cases s n fall <;> simp [h]
@[simp] theorem noticeTile_loops (s : State) (t : Nat) (fall : Bool) : (noticeTile s t fall).loops = s.loops := by
  simp [noticeTile]
@[simp] theorem undeliverable_surveys (s : State) (t n : Nat) : (undeliverable s t n).surveys = s.surveys := by
  unfold undeliverable; split <;> simp
@[simp] theorem noticeNet_surveys (s : State) (n : Nat) (fall : Bool) : (noticeNet s n fall).surveys = s.surveys := by
  obtain h | h | h := noticeNet_cases s n fall <;> simp [h]
@[simp] theorem noticeTile_surveys (s : State) (t : Nat) (fall : Bool) : (noticeTile s t fall).surveys = s.surveys := by
  simp [noticeTile]
@[simp] theorem undeliverable_hearth (s : State) (t n : Nat) : (undeliverable s t n).hearth = s.hearth := by
  unfold undeliverable; split <;> simp
@[simp] theorem noticeNet_hearth (s : State) (n : Nat) (fall : Bool) : (noticeNet s n fall).hearth = s.hearth := by
  obtain h | h | h := noticeNet_cases s n fall <;> simp [h]
@[simp] theorem noticeTile_hearth (s : State) (t : Nat) (fall : Bool) : (noticeTile s t fall).hearth = s.hearth := by
  simp [noticeTile]
@[simp] theorem undeliverable_therm (s : State) (t n : Nat) : (undeliverable s t n).therm = s.therm := by
  unfold undeliverable; split <;> simp
@[simp] theorem noticeNet_therm (s : State) (n : Nat) (fall : Bool) : (noticeNet s n fall).therm = s.therm := by
  obtain h | h | h := noticeNet_cases s n fall <;> simp [h]
@[simp] theorem noticeTile_therm (s : State) (t : Nat) (fall : Bool) : (noticeTile s t fall).therm = s.therm := by
  simp [noticeTile]
@[simp] theorem undeliverable_cores (s : State) (t n : Nat) : (undeliverable s t n).cores = s.cores := by
  unfold undeliverable; split <;> simp
@[simp] theorem noticeNet_cores (s : State) (n : Nat) (fall : Bool) : (noticeNet s n fall).cores = s.cores := by
  obtain h | h | h := noticeNet_cases s n fall <;> simp [h]
@[simp] theorem noticeTile_cores (s : State) (t : Nat) (fall : Bool) : (noticeTile s t fall).cores = s.cores := by
  simp [noticeTile]
@[simp] theorem undeliverable_grid (s : State) (t n : Nat) : (undeliverable s t n).grid = s.grid := by
  unfold undeliverable; split <;> simp
@[simp] theorem noticeNet_grid (s : State) (n : Nat) (fall : Bool) : (noticeNet s n fall).grid = s.grid := by
  obtain h | h | h := noticeNet_cases s n fall <;> simp [h]
@[simp] theorem noticeTile_grid (s : State) (t : Nat) (fall : Bool) : (noticeTile s t fall).grid = s.grid := by
  simp [noticeTile]
@[simp] theorem undeliverable_cal (s : State) (t n : Nat) : (undeliverable s t n).cal = s.cal := by
  unfold undeliverable; split <;> simp
@[simp] theorem noticeNet_cal (s : State) (n : Nat) (fall : Bool) : (noticeNet s n fall).cal = s.cal := by
  obtain h | h | h := noticeNet_cases s n fall <;> simp [h]
@[simp] theorem noticeTile_cal (s : State) (t : Nat) (fall : Bool) : (noticeTile s t fall).cal = s.cal := by
  simp [noticeTile]
@[simp] theorem undeliverable_tmb (s : State) (t n : Nat) : (undeliverable s t n).tmb = s.tmb := by
  unfold undeliverable; split <;> simp
@[simp] theorem noticeNet_tmb (s : State) (n : Nat) (fall : Bool) : (noticeNet s n fall).tmb = s.tmb := by
  obtain h | h | h := noticeNet_cases s n fall <;> simp [h]
@[simp] theorem noticeTile_tmb (s : State) (t : Nat) (fall : Bool) : (noticeTile s t fall).tmb = s.tmb := by
  simp [noticeTile]
@[simp] theorem undeliverable_free (s : State) (t n : Nat) : (undeliverable s t n).free = s.free := by
  unfold undeliverable; split <;> simp
@[simp] theorem noticeNet_free (s : State) (n : Nat) (fall : Bool) : (noticeNet s n fall).free = s.free := by
  obtain h | h | h := noticeNet_cases s n fall <;> simp [h]
@[simp] theorem noticeTile_free (s : State) (t : Nat) (fall : Bool) : (noticeTile s t fall).free = s.free := by
  simp [noticeTile]

end Sys2Proof.Machine
end

