-- ==== Sys2Proof/WellFormed.lean ====
section
/-!
DEFINITION. Well-formed commands: every index names a unit the package has, every payload has a length the spec allows.
-/
namespace Sys2Proof

/-- A virtual function is one of 32 (R86). -/
def masterOk (m : Master) : Bool := match m with | .vf n => n < 32 | _ => true

/-- The writer exists. -/
def writerOk (w : RegWrite) : Bool := masterOk w.master

/-- The clock exists (Table 2.4). -/
def clockOk (c : Clock) : Bool :=
  match c with
  | .hubPll => true
  | .loopClk d => d < 12
  | .tilePll t | .hbmPhy t => t < 8

/-- The function exists (R498). -/
def flrOk (f : FlrTarget) : Bool := match f with | .pf0 => true | .vf n => n < 32

/-- The access is a read, or a write by a master that exists. -/
def accessOk (a : SpineAccess) : Bool := match a with | .read => true | .write w => writerOk w

/-- The bytes lie in a slot of 256 KiB (R614). -/
def slotOk (b : SlotBytes) : Bool := b.all (fun e => e.1 < 0x40000)

/-- The link exists (Tables 1.3 and 11.5). -/
def linkOk (l : LinkRef) : Bool :=
  match l with
  | .mesh t k => t < 8 && k < 256
  | .tiles b => b < 10
  | .edge e => e < 3

/-- The urgent request names a channel of 7 bits, comes from a writer that exists, or both (R228, R232). -/
def urgentOk (r : UrgentBy) : Bool := match r with | .write w => writerOk w | .hearth ch => ch < 128 | .both ch w => ch < 128 && writerOk w

/-- The frame is at most 280 bytes long, and its tag is 16 bytes when AUTH is set (R585, Table 18.2). -/
def frameOk (r : TmbReq) : Bool :=
  if r.flags.getLsbD 1 then r.payload.length ≤ 248 && r.tag.length = 16 else r.payload.length ≤ 268

/-- A clamped sample is an end code (R218). -/
def adcOk : AdcIn → Bool
  | .code c clamped => !clamped || c = 0 || c = 0xFFF
  | .missing => true

/-- The samples are of every cell of the die, in order: all its loop ADCs sample in every frame, and a result that does not come is
marked missing (R215, R218, R241). -/
def samplesOk (d : Nat) (l : List CellSample) : Bool :=
  l.map (·.cell) = List.range (dieCount d) && l.all (fun x => adcOk x.v && adcOk x.i0 && adcOk x.i1 && adcOk x.i2 && adcOk x.i3)

/-- The column of a ledger that lost a word exists (Table 4.1). -/
def columnOk (e : Option (Nat × Nat × Nat)) : Bool :=
  match e with
  | none => true
  | some (l, r, c) => l < 5 && r < 8 && c < 8

/-- The command's operands are in range. -/
def Instr.wf (i : Instr) : Bool :=
  match i with
  | .vsbValid _ | .vsbInvalid | .vinValid | .vinLost | .vhbmValid | .vhbmLost _ | .perstNChange _
  | .aoLock | .aoLockTimeout | .bootCopyVerified _ | .deviceReady
  | .hostAbsent | .eventWindowRead _ _ | .ownershipTableError | .snapshotDone _
  | .hearthMsUpdate _ | .grantCommit | .zoneJudge | .graceExpire | .enforceStep | .relaxStep | .descriptorFetchStart
  | .tmbCapture _ | .tmbResponseSend | .tmbBusOccupied _ | .tmbWindowError _ | .calErase | .calEraseDone _
  | .holdupMeasureDone _ _ _ | .calStoreStepDone _ | .norTimeout | .extest | .extestPulse | .extestTrain | .clamp
  | .idcode | .frameDiscarded _ => true
  | .functionLevelReset fn => flrOk fn
  | .pcieLinkChange l0 rate width => !l0 || linkModeOk rate width
  | .pcieConfigRequest _ req => req.fn.all (· < 32)
  | .clockLock clk | .clockLockTimeout clk => clockOk clk
  | .calSlotsRead a b => slotOk a && slotOk b
  | .pwrReqOff w | .pwrReqBanked w | .pwrReqSmouldering w | .pwrReqKindled w | .pwrReqStoked w | .seize w
  | .release w | .cursorWrite _ _ w | .take w | .reseal w | .inletLimitWrite w | .slotLimitWrite w | .keyCommit w
  | .storeGo w | .measure w => writerOk w
  | .registerWrite addr w => addr < 2 ^ 26 + 2 ^ 16 && writerOk w
  | .ownerWrite p w | .pageFreeze p w | .intForce p w => p.exists && writerOk w
  | .spineTimeout p off acc => p.exists && off < 0x1000 && accessOk acc
  | .dieAnswer d | .surveyPeriod d | .surveyConversionDone d _ _ | .surveyTimeout d => d < 12
  | .ledgerCheck ecc => columnOk ecc
  | .targetWrite n w => n < 20 && writerOk w
  | .cellRollResume i | .rollResumeTimeout i | .inputSwitchFailed i | .pathJudge i | .pathConfirmRetry i
  | .dutyReload i => i < 428
  | .slewDone n | .netRampDone n | .netRampTimeout n _ | .netDischarged n | .outOfBand n | .netShort n => n < 20
  | .modeWrite i w | .shareWtWrite i w | .dutyWrite i _ w | .restore i w => i < 428 && writerOk w
  | .loopFrame d samples _ => d < 12 && samplesOk d samples
  | .coefDataWrite d w | .schedDataWrite d w | .coefSwap d w | .schedSwap d w | .injCtrlWrite d w | .injDataWrite d w
  | .capStart d w | .surveyStart d w | .trimDataWrite d w => d < 12 && writerOk w
  | .loopMemError d mem word cell _ => d < 12 && mem < 3 && word < 1024 && cell < 428
  | .stokeNotice n => n < 16
  | .urgent d r => d < 12 && urgentOk r
  | .stokeRequest c | .grantRelease c | .grantApply c | .issueCapStep c | .grantResend c | .tokenReturn c
  | .recallReceived c | .recallTimeout c | .coreHalt c | .add c _ | .sub c _ | .and c _ | .or c _ | .xor c _
  | .shl c _ | .shr c _ | .sra c _ | .mul c _ | .mulh c _ | .slt c _ | .sltu c _ | .min c _ | .max c _ | .aadd c _
  | .amov c _ | .ard c _ | .ld c _ | .st c _ | .lda c _ | .sta c _ | .csrr c _ | .csrw c _ _ | .beq c _ | .bne c _
  | .blt c _ | .bge c _ | .bltu c _ | .bgeu c _ | .j c _ | .jal c _ | .jr c _ | .loop c _ | .nop c _ | .scfg c _
  | .sgo c _ | .swait c _ | .sstat c _ | .sstop c _ | .mma c _ | .mmaz c _ | .accz c _ | .accrd c _ | .accwr c _
  | .accst c _ | .accld c _ | .vadd c _ | .vsub c _ | .vmul c _ | .vfma c _ | .vmax c _ | .vmin c _ | .vexp2 c _
  | .vrcp c _ | .vrsqrt c _ | .vcvt c _ | .vrsum c _ | .vrmax c _ | .vbcast c _ | .vmovs c _ | .vld c _ | .vst c _
  | .qcfg c _ | .send c _ | .recv c _ | .qcnt c _ | .tadd c _ | .twait c _ | .trd c _ | .stoke c _ | .ease c _
  | .easeR c _ | .grantw c _ | .yield c _ | .end_ c _ | .trap c _ | .fence c _ | .stalledInstructionComplete c => c < 512
  | .phaseRemove i k | .stuckHighSide i k => i < 428 && k < 4
  | .sensorReading k _ | .sensorMissing k | .hwTrip k _ => k < 128
  | .stepWrite t w | .tallyValueWrite t w | .retire t w | .lostListClear t w => t < 8 && writerOk w
  | .clockChangeDone t | .channelRetireDone t => t < 8
  | .messageDelivered src dst => src < 512 && dst < 512
  | .creditGrantArrival rcv q sender | .creditReturnArrival rcv q sender => rcv < 512 && q < 8 && sender < 512
  | .tallyAddApply c tally => c < 512 && tally < 4096
  | .queueRelease slot => slot < 768
  | .start k w | .stop k w | .resume k w | .regDataWrite k w | .lsDataWrite k w => k < 528 && writerOk w
  | .heartbeatTimeout c | .coreEccError c _ => c < 528
  | .meshFlitResend l _ => linkOk l
  | .streamEngineTransfer c e _ => c < 512 && e < 4
  | .scrub t line _ => t < 8 && line < 2 ^ 30
  | .bar2Read addr _ _ | .bar2Write addr _ => addr < 2 ^ 39
  | .commit n w | .discard n w | .partWrite n w | .tokQuotaWrite n w | .tallyQuotaWrite n w | .tenantDrainStart n w
  | .tenantDrainEnd n w => n < 32 && writerOk w
  | .commandStart part _ => part < 32
  | .quantumExpire slot | .yieldGraceExpire slot | .switchOut slot | .saveDone slot | .restoreDone slot _
  | .duplicateComplete slot | .load slot _ | .unload slot | .run slot _ | .nopCommand slot => slot < 256
  | .queueEnable q w | .queueDisable q w | .sqTail q w | .cqHead q w => q < 258 && writerOk w
  | .descriptorReceived bytes => bytes.length = 64
  | .completionRecordWrite q | .cqFullTimeout q | .dmaFailure q _ => q < 258
  | .synthLock i | .synthLockTimeout i | .detectPreambleSend i | .preambleDetected i _ | .role i _ | .ready i _
  | .trainingPhaseDone i _ | .presetReq i _ | .seed i _ | .wake i _ | .abort i _ | .phaseBoundExpire i
  | .verifyEnd i _ _ | .steeringUpdate i _ | .snrUpdate i _ _ _ _ | .laneDegraded i | .quietWindow i _
  | .impulseBlock i _ _ | .impulseRunEnd i _ _ | .alignmentLost i _ | .wakeFalseDetect i | .wakeDataResume i _ => i < 64
  | .retrain i w => i < 64 && writerOk w
  | .flitSubmit p _ body => p < 8 && body.length ≤ 304
  | .flitReceived p _ | .ackReceived p _ | .nakReceived p _ | .replayTimeout p | .receiveBufferFree p _
  | .identity p _ | .verdict p _ _ | .identifyTimeout p | .reform p _ | .sleepReq p _ | .sleepAck p _ | .idleExpire p
  | .bertHoursExpire p | .bertReq p _ _ | .bertAck p _ _ | .seedHoldExpire p | .portDisableDone p | .drainNotice p
  | .drained p => p < 8
  | .bertGo p w | .portEnable p w | .portDisable p w | .portDrain p w | .recheck p w => p < 8 && writerOk w
  | .bertEnd p _ errors => p < 8 && errors.length ≤ 8
  | .status r | .read r | .write r | .eventRead r | .latchRead r | .retainRead r | .power r | .drain r | .calStore r
  | .inlet r | .openSession r | .unlistedOp _ r => frameOk r
  | .clearingRead m p off _ => masterOk m && p.exists && off < 0x1000
  | .hbmPhyRetrainFail t ch => t < 8 && ch < 32
  | .transitionStepDone stuck => stuck.all (· < 8)

end Sys2Proof
end

