-- ==== Sys2Proof/Tests/Slice0.lean ====
section
/-!
SUPPORT. Tests of the model: an ill-formed command for each check of WellFormed.lean, effects whose results the spec's
tables give, and for every obligation with hypotheses a state and operands that meet them together (`witness_<Name>`).
-/
namespace Sys2Proof.Tests
open Sys2Proof Sys2Proof.Machine

-- one theorem at a time: checked side by side they need too much memory
set_option Elab.async false

/-! ### Small states and operands -/

/-- Every net of tiles 0 and 1 and of the edge dies and the hub is ON. -/
def netsOn : Sparse NetSt := [0, 1, 2, 3, 16, 17, 18, 19].map (fun n => (n, { st := .on }))

/-- A ready device: the rails are valid, the host's link is in L0, tile 0 is Stoked and tile 1 Kindled. -/
def rdy : State :=
  { State.reset with
    ao := { vsb := true, vin := true, vhbm := true, ticks := 5000000, aoLock := true, perst := false, l0 := true }
    power := { stage := .ready, calSlot := 0 }
    tiles := [(0, { st := .stoked, kindle := .done, settled := 4, pll := true, phy := true }),
              (1, { st := .kindled, kindle := .done, settled := 3, pll := true, phy := true })]
    nets := netsOn
    ledger := { open_ := true, first := false }
    cal := { selected := 0 }
    loops := [(0, { clk := true }), (1, { clk := true })] }

/-- The device in a stage of its start. -/
def boot (x : BootStage) : State := { rdy with power := { stage := x, calSlot := 0 } }

/-- Tile 2 on its way to Kindled. -/
def rise (k : KindleStage) : State := rdy.setTile 2 { st := .rising, kindle := k }

/-- A write of the whole register by the host, and by the side-band with a valid tag. -/
def hw (v : Word) : RegWrite := { master := .host, value := v, be := 15 }
def sw (v : Word) : RegWrite := { hw v with master := .side true }

/-- A write of the whole register by tenant `n`'s virtual function. -/
def vw (n : Nat) (v : Word) : RegWrite := { hw v with master := .vf n }

/-- A write of a number by the host. -/
def hn (v : Nat) : RegWrite := hw (w32 v)

/-- The command answers a next state of which `p` is true. -/
def after (i : Instr) (s : State) (p : State → Bool) : Bool := match exec i s with | .next t => p t | _ => false

/-- A firmware copy that verifies. -/
def goodCopy : CopyCheck := ⟨6291456, true, true, true⟩

/-! ### Ill-formed commands are refused -/

theorem test_wf_unit_out_of_range : (Instr.targetWrite 20 (hw 0)).wf = false ∧ (Instr.targetWrite 19 (hw 0)).wf = true := by decide +kernel
theorem test_wf_master : (Instr.take (vw 32 0)).wf = false ∧ (Instr.take (vw 31 0)).wf = true := by decide +kernel
theorem test_wf_clock : (Instr.clockLock (.loopClk 12)).wf = false ∧ (Instr.clockLock (.tilePll 8)).wf = false := by decide +kernel
theorem test_wf_function : (Instr.functionLevelReset (.vf 32)).wf = false := by decide +kernel
theorem test_wf_access : (Instr.spineTimeout .boot 0 (.write (vw 32 0))).wf = false ∧ (Instr.spineTimeout (.net 20) 0 .read).wf = false := by decide +kernel
theorem test_wf_slot : (Instr.calSlotsRead [(0x40000, 0)] []).wf = false := by decide +kernel
theorem test_wf_link : (Instr.meshFlitResend (.tiles 10) false).wf = false ∧ (Instr.meshFlitResend (.edge 2) false).wf = true := by decide +kernel
theorem test_wf_urgent : (Instr.urgent 0 (.hearth 128)).wf = false := by decide +kernel
theorem test_wf_frame : (Instr.status ⟨0, 0, 2, 0, 0, [], []⟩).wf = false ∧ (Instr.status ⟨0, 0, 0, 0, 0, List.replicate 269 0, []⟩).wf = false := by decide +kernel
theorem test_wf_samples : (Instr.loopFrame 8 [⟨12, .missing, .missing, .missing, .missing, .missing⟩] 0).wf = false := by decide +kernel
theorem test_wf_column : (Instr.ledgerCheck (some (5, 0, 0))).wf = false := by decide +kernel
theorem test_wf_core : (Instr.add 512 ⟨0, 0, 0, false, 0, 0⟩).wf = false ∧ (Instr.heartbeatTimeout 527).wf = true := by decide +kernel
theorem test_wf_body : (Instr.flitSubmit 0 0 (List.replicate 305 0)).wf = false := by decide +kernel

/-- No row of the table gives bits, so no word spells a command. -/
theorem test_decodeTableWord (n w : Nat) : decodeTableWord n w = none := rfl

/-! ### Witnesses: the step, rails, clocks, bring-up -/

theorem witness_StepRunsFrontCommand : ({ rdy with pending := [.stokeRequest 0, .vinValid] } : State).pending = .stokeRequest 0 :: [.vinValid] := rfl

theorem witness_IdleStepTicks : rdy.pending = [] ∧ rdy.ao.vsb = true ∧ State.reset.pending = [] ∧ State.reset.ao.vsb = false := by decide +kernel

theorem witness_RailsComeAndGo :
    State.reset.ao.vsb = false ∧ State.reset.ao.vin = false ∧
    (let s : State := { State.reset with ao := { vsb := true } };
     s.ao.vin = false ∧ (s.ao.vsb && !s.ao.hold && s.trip.isNone && decide (s.power.stage = .banked)) = true) ∧
    (State.reset.ao.vsb && !State.reset.ao.hold && State.reset.trip.isNone && decide (State.reset.power.stage = .banked)) = false ∧
    (rdy.ao.vin = true ∧ hubOn rdy = true ∧ rdy.trip = none ∧ rdy.cal.auto = false) ∧
    (∀ b ∈ [true, false], let s : State := { rdy with cal := { auto := true, present := true, selected := 3, blank := b } };
      s.ao.vsb = true ∧ s.cal.auto = true ∧ dirty s = true ∧ storing s = false ∧ s.cal.blank = b ∧ hubOn s = true ∧ s.ao.vin = true) ∧
    workingTiles State.reset = [] ∧ 0 ∈ workingTiles rdy ∧ 1 ∈ workingTiles rdy := by decide +kernel

theorem witness_ClocksLockOrFail :
    rdy.ao.vsb = true ∧ (let s : State := { rdy with ao := { rdy.ao with aoLock := false, ticks := 2097152 } };
      s.ao.vsb = true ∧ s.ao.aoLock = false ∧ withinUs s 0 500000 = false ∧ logOpen s = true ∧ s.power.stage ≠ .pll) ∧
    (let s : State := { boot .banked with ao := { rdy.ao with aoLock := false, ticks := 2097152 } };
      s.ao.vsb = true ∧ s.ao.aoLock = false ∧ withinUs s 0 500000 = false ∧ withinUs { s with ao := { s.ao with ticks := 2097151 } } 0 500000 = true ∧ hubOn s = false) ∧
    (boot .pll).power.stage = .pll ∧
    (((rise .pll).tile 2).st = .rising ∧ ((rise .pll).tile 2).kindle = .pll) ∧
    (((rise .phy).tile 2).st = .rising ∧ ((rise .phy).tile 2).kindle = .phy) ∧
    (((rise .loopClk).tile 2).st = .rising ∧ ((rise .loopClk).tile 2).kindle = .loopClk) := by decide +kernel

theorem witness_BootGoesThroughItsStages :
    ((boot .copyA).power.stage = .copyA ∧ (boot .copyB).power.stage = .copyB ∧ copyFail goodCopy = 3) ∧
    (copyFail ⟨6291457, true, true, true⟩ ≠ 3 ∧ logOpen (boot .copyA) = true) ∧
    ((boot .slots).power.stage = .slots ∧ (boot .train).power.stage = .train ∧ logOpen (boot .train) = true) ∧
    (let s : State := { boot .holdup with cal := { measuring := true } };
      s.cal.measuring = true ∧ s.power.stage = .holdup) := by decide +kernel

/-- A request of each of the five: one that is done at once, one whose first step begins, one that waits, one refused. -/
theorem witness_PowerRequestsRunWaitOrAreRefused :
    ((∀ n, (hw 0).master ≠ .vf n) ∧ (∀ v, (hw v).full = true ∧ (hw v).master = .host)) ∧
    (writeOk rdy .boot (hw 0) = true ∧ rdy.power.trans = none ∧ anyTile rdy .falling = false ∧ anyTile rdy .rising = false) ∧
    (∀ e ∈ [(0, 4, (none : Option PStep)), (0, 2, some (.off 2)), (1, 0, some (.unstoke 0)), (2, 0, some (.unstoke 0)), (3, 2, none),
        (3, 4, some (.kindle 4)), (4, 1, none), (4, 2, some (.stoke 1))],
      fld (word [(0, e.1), (8, e.2.1)]).toNat 0 4 = e.1 ∧ reqLegal ⟨e.1, BitVec.ofNat 8 e.2.1, 0⟩ = true ∧
      reqCheck rdy ⟨e.1, BitVec.ofNat 8 e.2.1, 0⟩ = .ok ∧ nextStep rdy ⟨e.1, BitVec.ofNat 8 e.2.1, 0⟩ 0 = e.2.2) ∧
    (let s : State := { rdy with power := { rdy.power with trans := some ⟨⟨3, 4, 0⟩, .kindle 4, 0, false⟩ } };
      s.power.trans.isSome = true ∧ writeOk s .boot (hw 3) = true ∧ reqLegal ⟨3, 4, 0⟩ = true) ∧
    (reqLegal ⟨5, 0, 0⟩ = false ∧ reqLegal ⟨3, 0, 0⟩ = false ∧ rdy.trip = none ∧ reqCheck rdy ⟨5, 0, 0⟩ ≠ .tripped) := by
  refine ⟨⟨nofun, fun _ => ⟨rfl, rfl⟩⟩, ?_⟩
  decide +kernel

/-- The present step of the running transition, and its request. -/
def moving (r : PwrReq) (p : PStep) : State := { rdy with power := { rdy.power with trans := some ⟨r, p, 0, false⟩ } }

theorem witness_StepsAndRampsEnd :
    (let s := (moving ⟨4, 4, 0⟩ (.stoke 2)).setTile 2 { st := .rising };
     s.power.trans = some ⟨⟨4, 4, 0⟩, .stoke 2, 0, false⟩ ∧ (s.tile 2).st = .rising ∧ isReady s = true ∧ s.power.pending = none) ∧
    (isReady (moving ⟨4, 1, 0⟩ .wake) = true ∧ nextStep (moving ⟨4, 1, 0⟩ .wake) ⟨4, 1, 0⟩ 0 = none) ∧
    ((bitsOf 8 4).all (fun k => ((moving ⟨0, 4, 0⟩ (.off 4)).tile k).st = .off) = true ∧
      nextStep (moving ⟨0, 4, 0⟩ (.off 4)) ⟨0, 4, 0⟩ 0 = none) ∧
    (∀ n ∈ [16, 18, 19], ((rdy.setNet n { st := .rising }).net n).st = .rising ∧ ((rdy.setNet n { st := .rising }).net n).attempts = 0 ∧
      ((rdy.setNet n { st := .rising, attempts := 1 }).net n).attempts = 1 ∧ ((rdy.setNet n { st := .falling }).net n).st = .falling) := by
  decide +kernel

theorem witness_HostLinkEvents :
    (dieOn rdy 10 = true ∧ rdy.ao.perst = false ∧ isReady rdy = true ∧ rdy.ao.l0 = true ∧ hubOn rdy = true) ∧
    (linkModeOk 32 16 = true) ∧
    (let s : State := { rdy with ao := { rdy.ao with absentSince := some 0, ticks := 50000000 } };
     hubOn s = true ∧ s.ao.hostAbsent = false ∧ absentLong s = true) ∧ absentLong rdy = false := by decide +kernel

/-! ### Witnesses: the regulator array and its faults -/

/-- Net 16 with its limits 90 and 160 and the set-point 100 in the lower range. -/
def tgt : State := setCalN (setCalN (setCalN rdy 0xC0 2 100) 0xC2 2 90) 0xC4 2 160

theorem witness_TargetWritesSlewOrAreRefused :
    (∀ code ∈ [90, 160], writeOk tgt (.net 16) (hn code) = true ∧ fld ((hn code).merged (readNet tgt 16 0x40)).toNat 0 9 = code ∧
      codeIn code false = true ∧ calFloor tgt 16 ≤ code ∧ code ≤ calCeil tgt 16 ∧ targetState tgt 16 = true ∧
      (tgt.net 16).st ≠ .rolling ∧ calRange tgt 16 = false ∧ (tgt.net 16).st = .on ∧ code ≠ calSetpoint tgt 16) ∧
    (let s := setCalN tgt 0xC0 2 150;
     writeOk s (.net 16) (hn 0x108C) = true ∧ (hn 0x108C).merged (readNet s 16 0x40) = 0x108C ∧ codeIn 140 true = true ∧ calFloor s 16 ≤ 140 ∧
      140 ≤ calCeil s 16 ∧ targetState s 16 = true ∧ calRange s 16 = false ∧ inOverlap 140 = true ∧ inOverlap (calSetpoint s 16) = true ∧
      (s.net 16).st = .on ∧ vsetNow s 16 ≠ 700000) ∧
    (writeOk tgt (.net 16) (hn 0x10A0) = true ∧ (hn 0x10A0).merged (readNet tgt 16 0x40) = 0x10A0 ∧ codeIn 160 true = true ∧
      inOverlap 160 = true ∧ inOverlap (calSetpoint tgt 16) = false) ∧
    (codeIn 89 false = false ∧ codeIn 161 false = false ∧ codeIn 139 true = false ∧ codeIn 210 true = true) ∧
    (let s := rdy.setNet 16 { st := .on, slew := some ⟨0, 0, 5⟩ };
     (s.net 16).slew.isSome = true ∧ (s.net 16).st ≠ .rising ∧ (s.net 16).roll = none) := by decide +kernel

/-- A write of TARGET at its lower limit moves the set-point, and one below it is refused with OUT_OF_RANGE (Table 5.12). -/
theorem test_targetWrite :
    after (.targetWrite 16 (hw 90)) tgt (fun t => calSetpoint t 16 = 90) = true ∧
    after (.targetWrite 16 (hw 89)) tgt (fun t => calSetpoint t 16 = 100 && (t.hdr (.net 16)).errCount = 1) = true := by decide +kernel

def roll0 : Roll := { range := true, slewing := false, todo := [], cur := some 384, changed := 0, skipped := 0 }

/-- Cell 384 is the one a range change of net 16 works on, and its die does not answer. -/
def rolling : State :=
  { rdy.setNet 16 { st := .rolling, roll := some roll0 } with arb := { unreachable := [8] } }

theorem witness_CellsTakeModeShareDutyAndRange :
    ((rolling.net (cellNet 384)).roll = some roll0 ∧ roll0.cur = some 384 ∧ roll0.halted = false ∧ heardLater rolling 384 = true ∧
      (rolling.cell 384).isolated = false) ∧
    (∀ v ∈ [0x11, 0xF1, 0x10], writeOk rdy (.cell 48) (hn v) = true ∧
      fld ((hn v).merged (word [(0, b2n (rdy.cell 48).manual), (4, (rdy.cell 48).shareWt)])).toNat 4 4 ≠ 0 ∧
      cellNet 48 < 16 ∧ (rdy.tile (cellDie 48)).st = .kindled) ∧
    (let s := setCalN (rdy.setCell 48 { manual := true }) (0x100 + 8 * 48) 2 4095;
     writeOk s (.cell 48) (hw 4095) = true ∧ (s.cell 48).manual = true ∧
      fld ((hw 4095).merged ((s.cell 48).dutyReg.setWidth 32)).toNat 0 12 ≤ calDutyMax s 48) ∧
    switching rdy 48 = true := by decide +kernel

/-- A manual duty waits in the shadow until DUTY_RELOAD applies it (R157, R160). -/
theorem test_dutyWrite_and_reload :
    after (.dutyWrite 48 false (hw 7)) (setCalN (rdy.setCell 48 { manual := true }) (0x100 + 8 * 48) 2 4095) (fun t =>
      (t.cell 48).applied = 0 && after (.dutyReload 48) t (fun u => (u.cell 48).applied = 7)) = true := by decide +kernel

theorem witness_HearthReportsAndPaths :
    (let s := rdy.setNet 16 { st := .on, bandFrames := 101, bandMv := 770 };
     (s.net 16).st = .on ∧ 100 < (s.net 16).bandFrames ∧ (s.net 16).bandTold = false ∧ logOpen s = true) ∧
    ((rdy.setNet 16 { st := .rolling, bandFrames := 101, bandTold := true }).net 16).bandTold = true ∧
    (hubOn rdy = true ∧ measuredCells (boot .hubNet |>.setNet 19 {}) = [] ∧
      measuredCells { rdy with nets := [], loops := [] } = [] ∧ (rdy.loopE 0).clk = true ∧ rdy.hearth.watts = 0) ∧
    (let s := (rdy.setCell 3 { sumN := 4, sumX1 := 400000, suspect := true }).setCell 384 { sumN := 1, judged := true };
     measuredCells s ≠ [] ∧ ∀ i ∈ measuredCells s, (s.cell i).suspect = false ∨ (s.cell i).judged = false) ∧
    (∀ v ∈ [1, 99, 751, 1023], writeOk rdy .hearth (hn v) = true ∧ fld ((hn v).merged (w32 rdy.hearth.watts)).toNat 0 10 = v ∧ (0 < v ∧ v < 100 ∨ 750 < v)) ∧
    (∀ v ∈ [0, 100, 750], writeOk rdy .hearth (hn v) = true ∧ fld ((hn v).merged (w32 rdy.hearth.watts)).toNat 0 10 = v) ∧
    (let s := rdy.setCell 384 { suspect := true, pathWant := [3], pathTries := 8 };
     (s.cell 384).suspect = true ∧ (s.cell 384).isolated = false ∧ (s.cell 384).judged = false ∧ (s.cell 384).pathWant ≠ [] ∧
      8 ≤ (s.cell 384).pathTries ∧ (s.cell 384).rF ≤ 2 * calPathBase s 384 ∧ logOpen s = true) ∧
    (let s := rdy.setCell 384 { suspect := true, pathWant := [3], pathTries := 7 };
     (s.cell 384).pathWant = [3] ∧ (s.cell 384).pathTries < 8 ∧ urgentPending s (cellDie 384) 3 = false ∧
      (s.survey (cellDie 384)).failed = false ∧ dieOn s (cellDie 384) = true ∧ (s.survey (cellDie 384)).urg = none ∧
      (s.survey (cellDie 384)).running = none) ∧
    (rolling.arb.unreachable.contains 8 = true) := by decide +kernel

/-- The die of a cell does not answer. -/
def deaf (d : Nat) : State := { rdy with arb := { unreachable := [d] } }

theorem witness_PhasesCellsAndNetsLeaveService :
    (∀ i ∈ [0, 427], let s := (deaf (cellDie i)).setCell i { phWatch := [(3, { idle := 64 })] };
      phaseDue (s.cell i) 3 = some 1 ∧ (s.cell i).isolated = false ∧ (s.cell i).phases = 0xF ∧
      dieOn s (cellDie i) = true ∧ heardLater s i = true ∧ freshlyRestored s i = false ∧ (s.net (cellNet i)).roll = none) ∧
    (∀ i ∈ [0, 427], let s := (deaf (cellDie i)).setCell i { phWatch := [(3, { idle := 64 })], restoredAt := some rdy.ao.ticks };
      phaseDue (s.cell i) 3 = some 1 ∧ (s.cell i).isolated = false ∧ (s.cell i).phases.getLsbD 3 = true ∧ dieOn s (cellDie i) = true ∧
      heardLater s i = true ∧ freshlyRestored s i = true) ∧
    (let s := (deaf 8).setCell 384 { phases := 0xE, phWatch := [(3, { peak := 4 })] };
     phaseDue (s.cell 384) 3 = some 0 ∧ (s.cell 384).phases.getLsbD 3 = true ∧ (s.cell 384).phases ≠ 0xF ∧ dieOn s 8 = true ∧ heardLater s 384 = true ∧
      freshlyRestored s 384 = false) ∧
    (let s := rdy.setCell 384 { isolated := true, isoCause := 2, phases := 3, savedWt := some 8 };
     writeOk s (.cell 384) (hw 0x1000000) = true ∧ (hw 0x1000000).ones.getLsbD 24 = true ∧ (s.cell 384).isolated = true ∧
      (s.cell 384).isoCause ≠ 1 ∧ (s.cell 384).permanent = false ∧ (s.net (cellNet 384)).st = .on ∧ 16 ≤ cellNet 384) ∧
    (let s := rdy.setCell 48 { isolated := true, isoCause := 2 };
     writeOk s (.cell 48) (hw 0x1000000) = true ∧ (s.cell 48).isolated = true ∧ (s.net (cellNet 48)).st = .on ∧
      (s.tile (cellNet 48 / 2)).st = .kindled) ∧
    (let c : CellSt := { phWatch := [(0, { oc := 100 }), (1, { peak := 3 }), (2, { idle := 63 })], i0Q := 50000, i1Q := 70000, i3Q := 9000 };
     phaseOpen c 2 = true ∧ 72 * 65536 < 100 * phaseQ c 0 ∧ 65536 < phaseQ c 1 ∧ 100 * phaseQ c 3 ≤ 72 * 65536 ∧ phaseOpen c 3 = true ∧
      phaseOpen {} 3 = false) ∧
    (∀ n ∈ [0, 3, 16, 18, 19], let s := rdy.setNet n { st := .on, lowFrames := 20 };
      (s.tile (n / 2)).forced = false ∧ (s.net n).dead = false ∧ (s.net n).st = .on ∧ 20 ≤ (s.net n).lowFrames) ∧
    (∀ i ∈ [0, 95, 384, 419], let s := rdy.setCell i { isolated := true, leak := 10 };
      (s.tile (cellNet i / 2)).forced = false ∧ (s.cell i).isolated = true ∧ 10 ≤ (s.cell i).leak ∧ (s.net (cellNet i)).dead = false ∧ (s.net (cellNet i)).st = .on) := by decide +kernel

/-- The first phase to leave service takes the share weight 8 to 6 (R276). -/
theorem test_phaseRemove :
    after (.phaseRemove 384 0) ((deaf 8).setCell 384 { phWatch := [(0, { oc := 101 })] }) (fun t =>
      (t.cell 384).shareWt = 6 && (t.cell 384).phases = 0xE) = true ∧
    after (.phaseRemove 384 0) ((deaf 8).setCell 384 { phWatch := [(0, { oc := 100 })] }) (fun t => (t.cell 384).phases = 0xF) = true := by
  decide +kernel

/-! ### Witnesses: pages, owners, the event log -/

theorem witness_RefusalsAreRecorded :
    isReady rdy = true ∧ PageRef.boot.exists = true ∧ pageAnswers rdy .boot = true ∧ judge rdy .boot (hw 0) { outOfRange := true } ≠ .ok := by
  decide +kernel

theorem witness_OwnerWritesFollowTheirRules :
    (∀ v ∈ [0, 1, 2, 3], writeOk rdy (.net 16) (hn v) = true ∧ (rdy.hdr (.net 16)).lock = false ∧
      fld ((hn v).merged (ownerWord rdy (.net 16))).toNat 0 2 = v) ∧
    (let s := rdy.putHdr (.net 16) { lock := true };
     (s.hdr (.net 16)).lock = true ∧ seizes s (.net 16) .host (fld ((hw 1).merged (ownerWord s (.net 16))).toNat 0 2) = false) := by
  decide +kernel

/-- OWNER 1 gives the page to the side-band, and OWNER 3 is refused (R89). -/
theorem test_ownerWrite :
    after (.ownerWrite (.net 16) (hw 1)) rdy (fun t => ownerOf t (.net 16) = 1) = true ∧
    after (.ownerWrite (.net 16) (hw 3)) rdy (fun t => ownerOf t (.net 16) = 0 && (t.hdr (.net 16)).errCount = 1) = true := by
  decide +kernel

theorem witness_IntForceSetsCauses :
    (writeOk rdy .boot (hw 5) = true ∧ (hw 5).full = true) ∧
    (writeOk rdy .boot { hw 5 with be := 7 } = true ∧ ({ hw 5 with be := 7 } : RegWrite).full = false) ∧
    (isReady rdy = true ∧ PageRef.cal.exists = true ∧ pageAnswers rdy .cal = true ∧ pageMoving rdy .cal = false ∧
      ownsPage rdy .cal (hw 5).master = false) := by decide +kernel

theorem witness_RegisterWritesReachTheirPages :
    (isReady rdy = true ∧ msixAt .host 0x1000 = none ∧ target .host 0x1000 = some (.boot, 0) ∧ target .host 0x1028 = some (.boot, 0x28) ∧ pageAnswers rdy .boot = true) ∧
    (target .host 0x7000 = none ∧ msixAt .host 0x7000 = none ∧ target (.vf 31) 0x3FFC = none ∧ msixAt (.vf 31) 0x3FFC = none) ∧
    (target .host 0x1014 = some (.boot, 0x14) ∧ msixAt .host 0x1014 = none ∧ writeOk rdy .boot (hw 1) = true) ∧
    (∀ v ∈ [0, 4], writeOk rdy .event (hn v) = true ∧ fld ((hn v).merged (w32 rdy.events.threshold)).toNat 0 3 = v ∧ v < 5) ∧
    (∀ n, (hw 4).master ≠ .vf n) ∧
    (PageRef.hostif.exists = true ∧ PageRef.hostif.die ≠ 11 ∧ pageOn rdy .hostif = true ∧ pageOn (deaf 10) .hostif = true ∧
      (deaf 10).arb.unreachable.contains PageRef.hostif.die = true ∧ logOpen rdy = true ∧ rdy.arb.unreachable = []) := by
  refine ⟨by decide +kernel, by decide +kernel, by decide +kernel, by decide +kernel, nofun, by decide +kernel⟩

/-- Every register of `plainReg` can be written by its address. -/
theorem witness_RegisterWritesReachTheirPages_plain :
    ∀ e ∈ [(PageRef.cell 427, 0x14), (.corectl 0, 0x48), (.corectl 127, 0x64), (.tenant 0, 0x58), (.tenant 31, 0x80), (.tenant 1, 0x88),
      (.tenant 1, 0x8C), (.tenant 1, 0x90), (.tenant 1, 0x94), (.port 0, 0x48), (.port 7, 0x58), (.port 1, 0x5C), (.loop 0, 0x4C),
      (.loop 11, 0x54), (.loop 8, 0x94), (.loop 8, 0x9C), (.mem 0, 0x60), (.mem 1, 0x68), (.token, 0x64), (.tally 0, 0x40), (.lane 63, 0x68),
      (.therm, 0x64), (.hostif, 0x48), (.tmb, 0x78), (.cal, 0x5C)],
      target .host ((PageRef.addr e.1 + e.2) / 4 * 4) = some e ∧ msixAt .host ((PageRef.addr e.1 + e.2) / 4 * 4) = none ∧
      (plainReg e.1 e.2).isSome = true ∧ ∃ w ∈ [hw 0xFFFFFFFF, sw 0xFFFFFFFF], writeOk rdy e.1 w = true := by decide +kernel

/-- PORT IDLE_US takes the two bytes it has (Table 17.10). -/
theorem test_registerWrite :
    after (.registerWrite (PageRef.addr (.port 1) + 0x48) (hw 0x12345678)) rdy (fun t => (t.port 1).idleUs = 0x5678) = true := by decide +kernel

theorem witness_FreezeAndClearingReads :
    (writeOk rdy .boot (hw 2) = true ∧ (rdy.hdr .boot).freeze = false ∧ ((hw 2).merged (pageCtrl rdy .boot)).getLsbD 1 = true) ∧
    (writeOk rdy (.net 16) (hw 3) = true ∧ ((hw 3).merged (pageCtrl rdy (.net 16))).getLsbD 0 = enableBit rdy (.net 16) ∧
      ∀ q, PageRef.net 16 ≠ .port q) ∧
    (isReady rdy = true ∧ canReach .host .boot = true ∧ PageRef.boot.exists = true ∧ pageAnswers rdy .boot = true ∧ isReady State.reset = false) := by
  refine ⟨by decide +kernel, ⟨by decide +kernel, by decide +kernel, nofun⟩, by decide +kernel⟩

theorem witness_SeizeAndRelease :
    (let s : State := { rdy with ao := { rdy.ao with hostAbsent := true } };
     (sw 1).master = .side true ∧ writeOk s .arbiter (sw 1) = true ∧ (sw 1).full = true ∧ s.ao.hostAbsent = true ∧ (sw 1).value.getLsbD 0 = true) ∧
    notSide (hw 1).master = true ∧ ownerOf rdy (.net 0) = 0 ∧ ownerOf rdy .cal ≠ 0 := by decide +kernel

/-- RELEASE gives a seized page back to its default owner (R93). -/
theorem test_release :
    after (.release (sw 1)) { rdy.putHdr (.net 16) { owner := some 1 } with arb := { seized := [(PageRef.net 16).addr] } }
      (fun t => ownerOf t (.net 16) = 0 && t.arb.seized = []) = true := by decide +kernel

theorem witness_OwnershipTableErrorResetsOwners : hubOn rdy = true ∧ logOpen rdy = true := by decide +kernel

/-- An event record of this instant. -/
def rec0 : EventRec := ⟨false, 5000000, 0x1010, 11, 1, 2, 0, 7, 0, 0, 0, 0⟩

theorem witness_EventLogAndCursors :
    (hubOn rdy = true ∧ recentEvents rdy < 256) ∧
    (let s : State := { rdy with events := { log := List.replicate 256 rec0 }}; hubOn s = true ∧ 256 ≤ recentEvents s) ∧
    writeOk rdy .event (hw 7) = true ∧ isReady rdy = true ∧
    (cursorOf { rdy with events := { cursor0 := { seq := 7, valid := true, window := some rec0 } } } 0).valid = true ∧
    (cursorOf rdy 1).valid = false ∧ (cursorOf rdy 1).ecc = false := by decide +kernel

/-- A cursor written with the number of a record latches it (R103). -/
theorem test_cursorWrite :
    after (.cursorWrite 1 false (hw 7)) { rdy with events := { log := [rec0] } } (fun t =>
      (cursorOf t 1).valid && (cursorOf t 1).window = some rec0) = true := by decide +kernel

/-! ### Witnesses: ledgers -/

theorem witness_SnapshotsCaptureLedgers :
    (∀ v ∈ [1, 0x11], writeOk rdy .ledger (hn v) = true ∧ (hn v).full = true ∧ (hn v).value.getLsbD 0 = true ∧
      (snapOf rdy (fld (hn v).value.toNat 4 1)).busy = false) ∧
    (let s : State := { rdy with ledger := { rdy.ledger with snap1 := { busy := true } } }; hubOn s = true ∧ (snapOf s 1).busy = true) := by
  decide +kernel

theorem witness_TakeOfBusyBufferRefused :
    (let s : State := { rdy with ledger := { rdy.ledger with snap1 := { busy := true } } };
     writeOk s .ledger (hw 0x11) = true ∧ (hw 0x11).full = true ∧ (hw 0x11).value.getLsbD 0 = true ∧
      (snapOf s (fld (hw 0x11).value.toNat 4 1)).busy = true) := by decide +kernel

theorem witness_LedgerFaultAndReseal :
    (hubOn rdy = true ∧ ledgersOk rdy.ledgers = true ∧ ledgerFaulted rdy = false) ∧
    ledgersOk { rdy.ledgers with tok := { rdy.ledgers.tok with free := 0 } } = false ∧
    (let s : State := { rdy with tiles := [] };
     writeOk s .ledger (hw 1) = true ∧ (hw 1).full = true ∧ (hw 1).value.getLsbD 0 = true ∧ s.ledger.first = false ∧
      (List.range 8).all (fun k => (s.tile k).st = .off) = true) := by decide +kernel

/-- A broken invariant freezes the ledgers and ends the epoch (R130). -/
theorem test_ledgerCheck :
    after (.ledgerCheck none) { rdy with ledgers := { rdy.ledgers with tok := { free := 4927 } } } (fun t =>
      ledgerFaulted t && !t.ledger.open_) = true := by decide +kernel

theorem witness_PoolArithmeticConserves :
    (tokOk { free := 4928 } = true ∧ tokOk { free := 4900, transit := 28 } = true ∧ tokOk { free := 4900, held := 28 } = true) ∧
    (tokSum { free := 4900, held := 28 } = 4928 ∧ (tokRetire 100 { free := 4900, held := 28 }).retired + 4828 ≤ 4928) := by decide +kernel

/-! ### Witnesses: loop engines, survey ADCs -/

/-- Loop engine 0 as it stands, changed. -/
def lp (x : LoopSt) : State := rdy.setLoop 0 { x with clk := true }

/-- An inactive schedule bank in which all 48 entries are extended in every frame: 240 slots. -/
def longBank : Sparse (Option Word) := (List.range 48).map (fun k => (k, some (word [(0, k), (14, 1), (31, 1)])))

/-- Engine 11 with one entry, of cell 420. -/
def oneEntry : State := rdy.setLoop 11 { clk := true, sched0 := [(1, some 0)] }

theorem witness_LoopMemoriesAndBanks :
    (∀ a ∈ [0, 1], writeOk (lp { coefAct := a, schedAct := a }) (.loop 0) (hn 7) = true ∧
      ((lp { coefAct := a }).loopE 0).coefRead = false ∧ ((lp { coefAct := a }).loopE 0).coefAct < 2 ∧
      ((lp { schedAct := a }).loopE 0).schedRead = false ∧ ((lp { schedAct := a }).loopE 0).schedAct < 2) ∧
    (((lp {}).loopE 0).inj.run = false ∧ ((lp { inj := { run := true } }).loopE 0).inj.run = true ∧
      writeOk (lp { inj := { run := true } }) (.loop 0) (hn 7) = true) ∧
    ((hw 0x100).ones.getLsbD 8 = true ∧ (hw 0x100).ones.getLsbD 9 = false ∧ (hw 0x200).ones.getLsbD 9 = true) ∧
    (schedShapeOk 0 (entries rdy 0 1) = true ∧ slotsMax (entries rdy 0 1) ≤ 208 ∧ (dieNets 0).all (fun n => (rdy.net n).st ≠ .rolling) = true) ∧
    ((oneEntry.loopE 11).clk = true ∧ switching oneEntry 420 = true ∧ oneEntry.hearth.late = [] ∧
      ∀ e ∈ entries oneEntry 11 0, e.cell < dieCount 11) ∧
    (writeOk oneEntry (.loop 11) (hw 0x200) = true ∧ schedShapeOk 11 (entries oneEntry 11 0) = false) ∧
    (schedShapeOk 0 (entries (lp { sched1 := longBank }) 0 1) = true ∧ 208 < slotsMax (entries (lp { sched1 := longBank }) 0 1)) := by
  decide +kernel

/-- No cell switches where no net is ON, so that a frame evaluates none: the last clause of LoopMemoriesAndBanks. -/
theorem witness_LoopMemoriesAndBanks_frame :
    (({ rdy with nets := [] } : State).loopE 0).clk = true ∧
    ∀ b, ∀ e ∈ entries { rdy with nets := [] } 0 b, switching { rdy with nets := [] } (dieFirst 0 + e.cell) = false := by
  refine ⟨by decide +kernel, fun b e _ => ?_⟩
  simp [switching, State.net, look]

theorem witness_FramesEvaluateCells :
    ((oneEntry.loopE 11).clk = true ∧ (oneEntry.loopE 11).swap = none ∧ (oneEntry.loopE 11).noteLo = none ∧
      (oneEntry.loopE 11).noteHi = none ∧ entries oneEntry 11 0 = [⟨0, 0, 1, true, 0, 0⟩] ∧ (oneEntry.loopE 11).cap.busy = false ∧
      (oneEntry.loopE 11).inj.run = false ∧ plainFrame oneEntry 11 = true ∧ dieFirst 11 + 0 = 420 ∧ switching oneEntry 420 = true ∧
      (oneEntry.cell 420).discard = false ∧ (oneEntry.cell 420).past = []) ∧
    (∀ a b : Int, isStep (oneEntry.cell 420) a b = false) := by
  refine ⟨by decide +kernel, fun a b => ?_⟩
  have h : (oneEntry.cell 420).past = [] := by decide +kernel
  simp [isStep, h]

theorem witness_InjectionCaptureNoticesAndMemoryErrors :
    (∀ v ∈ [0x400001, 0xA00F00], writeOk rdy (.loop 0) (hn v) = true ∧ (((hn v).merged (injCtrlWord (rdy.loopE 0).inj)).toNat = v) ∧
      fld v 8 6 < dieCount 0 ∧ 4 ≤ fld v 20 4 ∧ fld v 20 4 ≤ 10 ∧ (rdy.tile 0).st = .stoked) ∧
    (∀ v ∈ [0x05500003, 0x10000001, 0x00102F01], ((hn v).merged (capCtrlWord (rdy.loopE 0).cap)).toNat = v ∧ (hn v).ones.getLsbD 0 = true ∧
      (rdy.loopE 0).cap.busy = false ∧ fld v 8 6 < dieCount 0 ∧ 1 ≤ fld v 20 9 ∧ fld v 20 9 ≤ (if bit v 1 then 85 else 256)) ∧
    (∀ n ∈ [0, 15], let s : State := { rdy.setTile 7 { st := .kindled } with token := { notices := [(15, 56), (0, 56), (0, 168)] } };
     dieOn s (n / 2) = true ∧ s.token.notices.find? (fun r => r.1 = n) = some (n, 56)) ∧
    (let s : State := { rdy.setLoop 8 { clk := true } with arb := { unreachable := [8] } };
     (s.loopE 8).clk = true ∧ wordCells s 8 1 11 = [395] ∧ (s.cell 395).isolated = false ∧ cellUnreachable s 395 = true ∧
      (s.net (cellNet 395)).roll = none) := by decide +kernel

/-- A table of 3 entries is refused: TLEN runs from 4 to 10 (Table 6.21). -/
theorem test_injCtrlWrite :
    after (.injCtrlWrite 0 (hw 0x300001)) rdy (fun t => !(t.loopE 0).inj.run && (t.hdr (.loop 0)).errCount = 1) = true ∧
    after (.injCtrlWrite 0 (hw 0x400001)) rdy (fun t => (t.loopE 0).inj.run && (t.loopE 0).inj.tlen = 4) = true := by decide +kernel

/-- The survey ADC of die 0, changed. -/
def sv (x : SurveySt) : State := rdy.setSurvey 0 x

theorem witness_SurveyConversionsRunAndTrims :
    (dieOn rdy 0 = true ∧ (rdy.survey 0).failed = false ∧ (rdy.survey 0).cont = true ∧ (rdy.survey 0).urg = none ∧ (rdy.survey 0).running = none) ∧
    ((sv { urg := some ⟨0, false, 0⟩ }).survey 0).urg ≠ none ∧
    (∀ v ∈ [0x010200, 0xFF0260], writeOk rdy (.survey 0) (hn v) = true ∧
      ((hn v).merged (svCtrlWord (rdy.survey 0))).toNat = v ∧ surveyCh 0 (fld v 0 7) = true ∧ fld v 16 8 ≠ 0 ∧ (hn v).ones.getLsbD 9 = true ∧
      bit v 8 = false) ∧
    (∀ ch ∈ [0, 47, 48, 95, 96, 99], surveyCh 0 ch = true ∧ (hn (0x100 + ch)).full = true ∧ (hn (0x100 + ch)).value.getLsbD 8 = true ∧
      fld (hn (0x100 + ch)).value.toNat 0 7 = ch) ∧
    (let s := sv { running := some ⟨5, false⟩ }; (s.survey 0).running = some ⟨5, false⟩ ∧ (s.survey 0).preempt = true ∧ (s.survey 0).urgWait = none) ∧
    (((sv { urg := some ⟨99, false, 0⟩ }).survey 0).urg = some ⟨99, false, 0⟩) ∧
    (∀ g ∈ [0x3000, 0x5000, 0x2FFF, 0x5001], writeOk rdy (.survey 0) (hn (g * 65536)) = true ∧
      fld ((hn (g * 65536)).merged (trimWord rdy 0)).toNat 16 16 = g) := by decide +kernel

/-- A code of an output channel with unity gain is 0.5 mV a step, and an overrange in the upper half reads 4095 (R223, R233). -/
theorem test_surveyConversionDone :
    after (.surveyConversionDone 0 100 false) (setCalN (sv { running := some ⟨5, false⟩ }) (0x3202 + 4 * 5) 2 0x4000) (fun t => (t.survey 0).resUv = 50000) = true ∧
    after (.surveyConversionDone 0 2048 true) (sv { running := some ⟨5, false⟩ }) (fun t =>
      (t.survey 0).resCode = 0xFFF && (t.survey 0).settle = 2) = true := by decide +kernel

/-! ### Witnesses: current tokens, temperature -/

/-- Core 0 with tokens, and a request of it at the head of the queue. -/
def tokens (k : CoreTok) : State := rdy.setCore 0 { st := .running, tok := k }
def queued : State := { tokens { held := 2, cap := 2 } with token := { queue := [⟨0, 8, 0⟩] } }

theorem witness_GrantsAreCommittedAndApplied :
    (let s : State := { rdy with token := { sent := [⟨0, 8, 0⟩] } };
     s.token.sent.find? (fun x => x.core = 0) = some ⟨0, 8, 0⟩ ∧ asideFor s ⟨0, 8, 0⟩ = false ∧ asideFor (s.setTile 0 { st := .stoked, cap := 7 }) ⟨0, 8, 0⟩ = true) ∧
    (queued.token.queue = ⟨0, 8, 0⟩ :: [] ∧ 8 - coreTotal queued 0 = 6 ∧ counting queued = true ∧ asideFor queued ⟨0, 8, 0⟩ = false ∧
      queued.token.noticed = [] ∧ 6 ≤ queued.ledgers.tok.free ∧ (6 : Nat) ≤ ({ free := 6 } : TokLedger).free ∧ ({ free := 5 } : TokLedger).free < 6) ∧
    counting { rdy with ledger := { rdy.ledger with fault := some ⟨true, 0, 0, 0⟩ } } = false ∧
    (let s : State := { rdy with token := { grants := [⟨0, 6, 0, 1, false, 0, 0⟩] } };
     s.token.grants.find? (fun x => x.core = 0 && !x.released) = some ⟨0, 6, 0, 1, false, 0, 0⟩) ∧
    (∀ n ∈ [3, 4], let s : State := { rdy with token := { grants := [⟨0, 6, 0, 1, true, n, 0⟩] } };
     s.token.grants.find? (fun x => x.core = 0 && x.released) = some ⟨0, 6, 0, 1, true, n, 0⟩ ∧ (s.core 0).tok.easing = []) ∧
    (let s := tokens { held := 8, cap := 7 };
     (s.core 0).tok.clamped = false ∧ (s.core 0).tok.easing = [] ∧ (s.core 0).tok.cap < (s.core 0).tok.held) := by decide +kernel

/-- A grant waits while FREE holds one token too few, and is committed when it holds enough (R251). -/
theorem test_grantCommit :
    after .grantCommit { queued with ledgers := { tok := { free := 5 } } } (fun t => t.token.grants = []) = true ∧
    after .grantCommit { queued with ledgers := { tok := { free := 6 } } } (fun t => t.ledgers.tok.free = 0 && t.ledgers.tok.transit = 6) = true := by
  decide +kernel

/-- The 64 cores of a tile whose caps climb to 8: T is 448 and then 512, of which VCORE is told 392 and 448 (example 8.2). -/
def climbing : State :=
  { rdy with cores := (List.range 64).map (fun c => (c, { tok := { held := 8, cap := 5 } })),
             token := { plan := (List.range 64).map (fun c => (c, 5)) } }
theorem test_noticeFrame :
    (noticeFrame climbing 0).token.notices = [(0, 392), (1, 56)] ∧
    (noticeFrame (noticeFrame climbing 0) 0).token.notices = [(0, 392), (1, 56), (0, 448), (1, 64)] := by decide +kernel

theorem witness_ReturnsAndRecalls :
    (let s : State := { rdy with token := { returns := [(0, 3)] } }; s.token.returns.find? (fun r => r.1 = 0) = some (0, 3) ∧ counting s = true) ∧
    (let s := tokens { held := 8, cap := 8, recallG := some 7, seen := true };
     (recallTarget (s.core 0).tok).isSome = true ∧ recallTarget (s.core 0).tok = some 7 ∧ (s.core 0).tok.seen = true ∧
      (s.core 0).tok.clamped = false ∧ 7 < (s.core 0).tok.held ∧ logOpen s = true) := by decide +kernel

theorem witness_SensorsReadAndFail :
    (∀ k ∈ [0, 127], sensorOn rdy k = true ∧ sensorIsStack k = false ∧ (rdy.sensor k).failed = false ∧
      disagrees rdy k (-160) = false ∧ disagrees rdy k 600 = false) ∧
    (∀ k ∈ [96, 99], sensorOn rdy k = true ∧ disagrees rdy k 340 = false ∧ disagrees rdy k 600 = false ∧
      (rdy.stack (sensorDie k)).hot = false ∧ (rdy.stack (sensorDie k)).retiring = false) := by decide +kernel

/-- 150 degrees is a reading and 150.25 is a failure (R329). -/
theorem test_sensorReading :
    after (.sensorReading 0 600) rdy (fun t => (t.sensor 0).temp = some 600) = true ∧
    after (.sensorReading 0 601) rdy (fun t => (t.sensor 0).failed) = true := by decide +kernel

/-- The throttle stands in this state, zone 0 at THROTTLE. -/
def hot (x : Throttle) (cap : Nat) : State :=
  { rdy with therm := { throttle := x, levels := [(0, 2)] }, token := { thermalCap := cap } }

theorem witness_ZonesThrottleAndThermalCap :
    (hubOn rdy = true ∧ (List.range 10).all (fun z => judgeLevel rdy z < 3) = true ∧
      (List.range 10).all (fun z => judgeLevel (hot .idle 4928) z < 3) = true) ∧
    ((hot .requested 4928).therm.throttle = .requested ∧ anyHot (hot .requested 4928) = true) ∧
    ((hot .relaxing 4533).token.thermalCap + 394 < 4928 ∧ 4928 ≤ (hot .relaxing 4534).token.thermalCap + 394) := by decide +kernel

/-- The cap falls by 394 tokens, never below 1232, and relaxing ends at 4928 (R310, R314). -/
theorem test_enforceStep_relaxStep :
    after .enforceStep (hot .enforcing 1300) (fun t => t.token.thermalCap = 1232) = true ∧
    after .relaxStep (hot .relaxing 4534) (fun t => t.token.thermalCap = 4928 && t.therm.throttle = .idle) = true := by decide +kernel

/-- A latched trip. -/
def tripped : State := { rdy with trip := some ⟨false, 0, 500, false, 0⟩ }

theorem witness_HardwareTripCutsPower :
    (∀ k ∈ [0, 127], rdy.ao.vsb = true ∧ rdy.trip = none ∧ canTrip rdy k = true) ∧
    (∀ v ∈ [400, 600], canTrip (rdy.modSensor 96 (fun x => { x with temp := some v })) 96 = true) ∧ canTrip (rdy.modSensor 96 (fun x => { x with temp := some 399 })) 96 = false ∧ tripped.trip.isSome = true := by decide +kernel

theorem witness_TripStaysLatched :
    tripped.trip = some ⟨false, 0, 500, false, 0⟩ ∧ nextCommand tripped ≠ some .vsbInvalid ∧
    nextCommand { tripped with pending := [.hwTrip 0 false] } ≠ some .vsbInvalid := by decide +kernel

/-! ### Witnesses: the core grid -/

/-- Core 0 of the Stoked tile as it stands, running. -/
def rc (x : CoreSt) : State := rdy.setCore 0 { x with st := .running }

/-- Core 0 in a state, with the word that REG_SEL names. -/
def held0 (x : CoreState) (sel : Nat) : State := rdy.setCore 0 { st := x, regSel := sel }

def desc0 (op : Nat) : Desc := ⟨op, 0, 0, 0, 1, 0, List.replicate 12 0⟩

/-- A fetched command of queue 0, and a record. -/
def cmd0 (op : Nat) : Cmd :=
  { queue := 0, tenant := 0, desc := desc0 op, order := 0, st := .fetched, dupOf := none, startAt := 0, cores := [], switch := .on, expired := false, saved := [], savedQueues := [], aborting := false, ending := none, record := none, readyOrder := 0, discard := false }

def rec1 : CompRec := ⟨1, 0, false, false, false, 0, 0, 4, 0, 0, 0⟩

/-- The command in slot 0. -/
def slot0 (c : Cmd) : State := rdy.setCmd 0 (some c)

def msg0 : Msg := { src := 0, dst := 1, q := 2, len := 64, tag := 7, data := 9, id := 5 }

/-- Four credits for queue 2 of core 1 on their way to core 0. -/
def pkt0 (live : Bool) : CredPkt := { rcv := 1, q := 2, sender := 0, n := 4, live := live, id := 1 }

/-- An add of core 0 to tally 3. -/
def add0 (n : Nat) : TallyAdd := { core := 0, tally := 3, amount := n, id := 1 }

theorem witness_MessagesCreditsAndTallies :
    (let s : State := { rdy with grid := { msgs := [msg0] } }; s.grid.msgs.find? (fun m => m.src = 0 && m.dst = 1) = some msg0 ∧ pathClear s 0 1 5 = true ∧ counting s = true) ∧
    (∀ b ∈ [true, false], let s : State := { rdy with grid := { grants := [pkt0 b], returns := [pkt0 b] } };
      s.grid.grants.find? (fun p => p.rcv = 1 && p.q = 2 && p.sender = 0) = some (pkt0 b) ∧
      s.grid.returns.find? (fun p => p.rcv = 1 && p.q = 2 && p.sender = 0) = some (pkt0 b) ∧ (s.core 0).st ≠ .lost ∧ counting s = true ∧ pathClear s 1 0 1 = true) ∧
    (let s : State := { rc { wait := some (3, 9) } with grid := { adds := [add0 65535] } };
     s.grid.adds.find? (fun a => a.core = 0 && a.tally = 3) = some (add0 65535) ∧ addReady s (add0 65535) = true ∧ (s.core 0).wait = some (3, 9)) ∧
    (writeOk rdy (.tally 0) (hw 5) = true ∧ waiters rdy 0 = [] ∧ waiters (rc { wait := some (0, 9) }) 0 ≠ [] ∧
      writeOk (rc { wait := some (0, 9) }) (.tally 0) (hw 5) = true) ∧
    ((rdy.core 0).slot = none ∧ (rdy.core 0).st = .idle ∧ quiet rdy [0] = true) ∧
    (let c := { cmd0 4 with st := .running, ending := some rec1 };
     (slot0 c).cmd 0 = some c ∧ c.st = .running ∧ c.ending = some rec1 ∧ c.discard = false ∧ quiet (slot0 c) (cmdQueueCores (slot0 c) 0 c) = true) := by
  decide +kernel

/-- A tally add of 1 to 0xFFFFFFFF wraps the value, counts in WRAPS and wakes no wait above it (R353, R354). -/
theorem test_tallyAddApply :
    after (.tallyAddApply 0 3) { rc { wait := some (3, 9) } with grid := { adds := [add0 1], tallies := [(3, 0xFFFFFFFF)] } }
      (fun t => tallyVal t 3 = 0 && (t.tile 0).wraps = 1 && (t.core 0).wait = some (3, 9)) = true := by decide +kernel

theorem witness_CoresAreControlled :
    (∀ v ∈ [1, 2, 3], writeOk rdy (.corectl 0) (hn v) = true ∧ (hn v).full = true ∧ fld (hn v).value.toNat 0 2 = v) ∧
    ((rdy.core 0).st = .idle ∧ ((held0 .stopped 0).core 0).st = .stopped ∧ ((held0 .faulted 0).core 0).st = .faulted ∧
      ((held0 .lost 0).core 0).st = .lost ∧ ((rc {}).core 0).st = .running) ∧
    ((rdy.tile 0).st = .stoked ∧ inPartition rdy 0 = false ∧ ledgerFaulted rdy = false ∧ (rdy.core 0).queues = []) ∧
    (((rc { stopping := true }).core 0).stopping = true ∧ ((rc { stopping := true }).core 0).slot = none) ∧
    (∀ i ∈ [0, 1, 31, 575, 576, 580, 581, 582, 640, 1024, 3071], writeOk (held0 .stopped i) (.corectl 0) (hw 7) = true ∧
      ((held0 .stopped i).core 0).regSel = i ∧ inspectable (held0 .stopped i) 0 = true) ∧
    inspectable (held0 .faulted 0) 0 = true ∧ inspectable (rc {}) 0 = false := by decide +kernel

/-- START gives a core its entry and its argument in s1 (R357). -/
theorem test_start :
    after (.start 0 (hw 1)) (rdy.setCore 0 { startPc := 0x40, arg := 9 }) (fun t =>
      (t.core 0).st = .running && (t.core 0).pc = 0x40 && sreg (t.core 0) 1 = 9) = true := by decide +kernel

theorem witness_CoreLossClocksAndLinks :
    (coreUp rdy 0 = true ∧ coreUp (rdy.setTile 7 { st := .kindled }) 511 = true) ∧
    (∀ v ∈ [12, 32, 11, 33], writeOk rdy (.grid 0) (hn v) = true ∧ fld ((hn v).merged (word [(0, calStep rdy 0)])).toNat 0 6 = v ∧
      (rdy.tile 0).changing = none ∧ v ≠ calStep rdy 0) ∧
    (∀ v ∈ [12, 32], calVf rdy 0 v ≤ calSetpoint rdy 0 ∧ calVf rdy 0 v ≤ vsetNow rdy 0 / 5000) ∧
    ((rdy.setTile 0 { st := .stoked, changing := some (12, 0) }).tile 0).changing = some (12, 0) ∧
    (∀ l ∈ [0, 255], let s : State := { rdy with grid := { resends := [(l, 14)] } };
      (s.tile 0).st ≠ .off ∧ look 0 s.grid.resends (0 * 256 + l) < 15) := by decide +kernel

/-! ### Witnesses: core instructions -/

/-- Fields: D, A, B, I, X, IMM. -/
def fi (d a b : BitVec 5) (i : Bool) (x : BitVec 6) (imm : Word) : Fields := ⟨d, a, b, i, x, imm⟩

/-- The fields of a scalar instruction at their limits, with a register and with IMM. -/
def fReg : Fields := fi 31 31 31 false 0 0
def fImm : Fields := fi 31 31 0 true 0 0xFFFFFFFF

theorem witness_InstructionsRaiseExceptions :
    (coreGo rdy 0 = false ∧ coreGo (rc {}) 0 = true ∧ (rc {}).core 0 = { st := .running }) ∧
    (usesOk {} (fi 0 0 0 false 0 0) = true ∧ usesOk {} (fi 0 0 0 false 1 0) = false ∧ usesOk { d := 4 } (fi 4 0 0 false 0 0) = false) ∧
    (coreGo (rc { pc := 0xFFF8 }) 0 = true ∧ pcOver ((rc { pc := 0xFFF8 }).core 0) = true ∧ usesOk (usesOp fReg 32 32) fReg = true) := by
  decide +kernel

/-- An unused field that is not 0 raises ILLEGAL, ahead of every other cause (R380, R390). -/
theorem test_trap_illegal :
    after (.trap 0 (fi 0 0 0 false 0 0)) (rc {}) (fun t => (t.core 0).exc = 0xC && (t.core 0).st = .faulted) = true ∧
    after (.trap 0 (fi 0 0 0 false 0 1)) (rc {}) (fun t => (t.core 0).exc = 0x1) = true := by decide +kernel

theorem witness_ScalarInstructions :
    (coreReady (rc {}) 0 (usesOp fReg 32 32) fReg = true ∧ coreReady (rc {}) 0 (usesOp fImm 32 32) fImm = true) ∧
    (coreReady (rc {}) 0 (usesOp (fi 15 15 15 false 0 0) 16 16) (fi 15 15 15 false 0 0) = true ∧
      coreReady (rc {}) 0 { d := 16, a := 32, b := 32 } (fi 15 31 31 false 0 0) = true ∧
      coreReady (rc {}) 0 { d := 32, a := 16, x := true } (fi 31 15 0 false 63 0) = true ∧ coreReady (rc {}) 0 {} (fi 0 0 0 false 0 0) = true) ∧
    (coreReady (rc {}) 0 { d := 32, imm := true } (fi 31 0 0 false 0 255) = true ∧
      ∀ k ∈ [4, 5, 6, 7], coreReady (rc {}) 0 { a := 32, imm := true } (fi 0 31 0 false 0 (w32 k)) = true ∧ (fi 0 31 0 false 0 (w32 k)).imm.toNat % 256 = k) := by
  decide +kernel

/-- Results at the edges: the sum wraps, a shift count is taken modulo 32, SLT is signed, MULH keeps the high half, and s0 stays 0
(R382, Table 12.4). -/
theorem test_scalar :
    after (.add 0 (fi 1 2 0 true 0 1)) (rc { s := [(2, 0xFFFFFFFF)] }) (fun t => sreg (t.core 0) 1 = 0 && (t.core 0).pc = 8) = true ∧
    after (.sra 0 (fi 1 2 0 true 0 33)) (rc { s := [(2, 0x80000000)] }) (fun t => sreg (t.core 0) 1 = 0xC0000000) = true ∧
    after (.slt 0 (fi 1 2 0 true 0 1)) (rc { s := [(2, 0xFFFFFFFF)] }) (fun t => sreg (t.core 0) 1 = 1) = true ∧
    after (.mulh 0 (fi 1 2 2 false 0 0)) (rc { s := [(2, 0x80000000)] }) (fun t => sreg (t.core 0) 1 = 0x40000000) = true ∧
    after (.sub 0 (fi 0 2 0 true 0 1)) (rc { s := [(2, 5)] }) (fun t => sreg (t.core 0) 0 = 0) = true := by decide +kernel

theorem witness_LocalStoreInstructions :
    (∀ k ∈ [4, 8, 64], lsBad (0x180000 - k) k 4 = false ∧ lsBad (0x180000 - k + 4) k 4 = true) ∧ (lsBad 2 4 4 = true ∧ lsBad 4 8 8 = true ∧ lsBad 1 64 1 = false) ∧
    (addrOf ((rc {}).core 0) 15 (fi 31 15 0 false 0 0x17FFFC) = 0x17FFFC ∧ coreReady (rc {}) 0 { d := 32, a := 16, imm := true } (fi 31 15 0 false 0 0x17FFFC) = true ∧
      coreReady (rc {}) 0 { d := 16, a := 16, imm := true } (fi 15 15 0 false 0 0x17FFF8) = true ∧
      coreReady (rc {}) 0 { a := 16, b := 32, imm := true } (fi 0 15 31 false 0 0x17FFFC) = true ∧
      coreReady (rc {}) 0 { a := 16, b := 16, imm := true } (fi 0 15 15 false 0 0x17FFF8) = true) := by decide +kernel

/-- A word is stored little-endian, and an access that leaves the local store raises LS_RANGE (R7, R378). -/
theorem test_st :
    after (.st 0 (fi 0 0 2 false 0 0x17FFFC)) (rc { s := [(2, 0x04030201)] }) (fun t => lsRead (t.core 0) 0x17FFFC 4 = [1, 2, 3, 4]) = true ∧
    after (.st 0 (fi 0 0 2 false 0 0x180000)) (rc { s := [(2, 0x04030201)] }) (fun t => (t.core 0).exc = 0x6) = true := by decide +kernel

theorem witness_ControlInstructions :
    (∀ b ∈ [1, 2, 4], coreGo (rc { pc := 8, s := [(1, 1), (2, 0x80000000), (4, 1)] }) 0 = true ∧
      usesOk { a := 32, b := 32, imm := true } (fi 0 1 (BitVec.ofNat 5 b) false 0 0xFFFFFFFF) = true) ∧
    (branchTo { pc := 8 } (fi 0 0 0 false 0 0xFFFFFFFF) = 0 ∧ branchTo { pc := 0 } (fi 0 0 0 false 0 0x1FFF) = 0xFFF8 ∧
      targetBad 0 = false ∧ targetBad 0xFFF8 = false ∧ targetBad (branchTo { pc := 0 } (fi 0 0 0 false 0 0xFFFFFFFF)) = true ∧ targetBad 4 = true) ∧
    (usesOk { imm := true } (fi 0 0 0 false 0 1) = true ∧ usesOk { d := 32, imm := true } (fi 31 0 0 false 0 1) = true ∧ usesOk { a := 32 } (fi 0 31 0 false 0 0) = true) ∧
    (∀ n ∈ [0, 1, 65535], let f := fi 0 0 0 true 0 (w32 (2 * 65536 + n));
      usesOk { a := if f.i then 1 else 32, i := true, imm := f.i } f = true ∧ loopCount {} f = n ∧ loopBroken {} f = false ∧
      0 + 8 * (f.imm.toNat / 65536) ≤ 0xFFF8 ∧ (fallThrough 16 []).1 ≤ 0xFFF8) ∧
    loopBroken {} (fi 0 0 0 true 0 1) = true ∧
    (((rc {}).core 0).tok.seen = false ∧ quantumOver (rc {}) 0 = false ∧ pcOver ((rc {}).core 0) = false ∧ allLanded (rc {}) 0 = true ∧ ((rc {}).core 0).slot = none) ∧
    allLanded { rc {} with grid := { msgs := [{ msg0 with id := 0 }] } } 0 = false ∧
    (let s := (slot0 { cmd0 3 with st := .running, expired := true }).setCore 0 { st := .running, slot := some 0 };
     coreGo s 0 = true ∧ quantumOver s 0 = true) := by decide +kernel

/-- A loop of two turns: its last instruction goes back to the first, then on (R384). -/
theorem test_loop :
    after (.loop 0 (fi 0 0 0 true 0 0x10002)) (rc {}) (fun t => (t.core 0).loops = [⟨2, 8, 8⟩] &&
      after (.nop 0 (fi 0 0 0 false 0 0)) t (fun u => (u.core 0).pc = 8 && (u.core 0).loops = [⟨1, 8, 8⟩] &&
        after (.nop 0 (fi 0 0 0 false 0 0)) u (fun v => (v.core 0).pc = 16 && (v.core 0).loops = []))) = true := by decide +kernel

/-- Core 0 with stream engine 0. -/
def eng (g : EngineSt) : State := rc { engines := [(0, g)] }

theorem witness_StreamInstructions :
    (coreReady (rc {}) 0 { d := 4, a := 16, imm := true } (fi 3 15 0 false 0 0x40) = true ∧ lsBad (addrOf {} 15 (fi 3 15 0 false 0 0x40)) 64 64 = false ∧
      engBusy (engOf {} 3) = false ∧ engBusy { run := .running } = true ∧ engBusy { run := .paused } = true) ∧
    (coreReady (eng { loaded := true }) 0 { d := 4 } (fi 0 0 0 false 0 0) = true ∧
      engOf ((eng { loaded := true }).core 0) 0 = { loaded := true } ∧ (engOf {} 0).run = .idle ∧ (engOf {} 0).loaded = false) ∧
    (coreReady (eng { run := .running }) 0 { imm := true } (fi 0 0 0 false 0 15) = true ∧
      (engMask ((rc {}).core 0) 15).all (fun g => g.run = .idle) = true ∧
      (engMask ((eng { run := .running }).core 0) 15).any engBusy = true ∧ (engMask ((eng { run := .running }).core 0) 15).any (fun g => g.run = .faulted) = false ∧
      (engMask ((eng { run := .faulted, cause := 1 }).core 0) 15).any engBad = true ∧
      (engMask ((eng { run := .faulted, cause := 3 }).core 0) 15).any engBad = false ∧ (engMask ((eng { run := .faulted, cause := 3 }).core 0) 15).any engLost = true) ∧
    coreReady (rc {}) 0 { d := 32, a := 4 } (fi 31 3 0 false 0 0) = true := by decide +kernel

theorem witness_MatrixInstructions :
    (let g : EngineSt := { tiles := [[1]] };
     engOf ((eng g).core 0) 0 = g ∧ g.tiles = [1] :: [] ∧ coreReady (eng g) 0 { d := 2, a := 16, b := 4, x := true, imm := true } (fi 1 15 0 false 0 0x40) = true ∧
      mmaPair (fmtLo (fi 1 15 0 false 0 0x40)) (fmtHi (fi 1 15 0 false 0 0x40)) = true ∧
      lsBad (addrOf ((eng g).core 0) 15 (fi 1 15 0 false 0 0x40)) (1024 * (fmtBits 0 / 8)) 64 = false ∧ g.run ≠ .faulted ∧ fmtHi (fi 1 15 0 false 0 0x40) = g.outFmt) ∧
    (mmaPair 1 2 = true ∧ mmaPair 3 3 = true ∧ mmaPair (fmtLo (fi 1 15 0 false 5 0x40)) (fmtHi (fi 1 15 0 false 5 0x40)) = false) ∧
    (coreReady (rc {}) 0 { d := 2 } (fi 1 0 0 false 0 0) = true ∧ coreReady (rc {}) 0 { d := 32, a := 2, imm := true } (fi 31 1 0 false 0 63) = true ∧
      coreReady (rc {}) 0 { a := 2, b := 32, imm := true } (fi 0 1 31 false 0 63) = true) ∧
    (∀ g ∈ [0, 5], fmtHi (fi 15 1 0 false (BitVec.ofNat 6 (8 * g)) 0) = g ∧ lsBad 0 (1024 * (fmtBits g / 8)) 64 = false ∧
      coreReady (rc {}) 0 { d := 16, a := 2, x := true, imm := true } (fi 15 1 0 false (BitVec.ofNat 6 (8 * g)) 0) = true) ∧
    (lsBad (0x180000 - 4096) 4096 1 = false ∧ coreReady (rc {}) 0 { d := 2, a := 16, imm := true } (fi 1 15 0 false 0 0x17F000) = true) := by
  decide +kernel

theorem witness_VectorInstructions :
    (∀ g ∈ [0, 3, 4, 5], vFmt (fmtLo (fi 31 31 31 false (BitVec.ofNat 6 g) 0)) = true ∧
      coreReady (rc {}) 0 { d := 32, a := 32, b := 32, x := true } (fi 31 31 31 false (BitVec.ofNat 6 g) 0) = true ∧
      coreReady (rc {}) 0 { d := 32, a := 32, x := true } (fi 31 31 0 false (BitVec.ofNat 6 g) 0) = true) ∧
    vFmt (fmtLo (fi 31 31 31 false 1 0)) = false ∧ (fmtLo (fi 31 31 0 false 45 0) ≤ 5 ∧ fmtHi (fi 31 31 0 false 45 0) ≤ 5) ∧
    (coreReady (rc {}) 0 { d := 32, a := 32, x := true, imm := true } (fi 31 31 0 false 0 63) = true ∧ (fi 31 31 0 false 0 63).imm.toNat % 64 < laneCount 0) := by
  decide +kernel

/-- INT8 lanes saturate: 127 + 1 is 127, and -128 + -1 is -128 (Table 12.4). -/
theorem test_vadd_int8 :
    after (.vadd 0 (fi 1 2 3 false 0 0)) (rc { v := [(2, 0x807F), (3, 0xFF01)] }) (fun t =>
      laneAt 0 (vreg (t.core 0) 1) 0 = 0x7F && laneAt 0 (vreg (t.core 0) 1) 1 = 0x80 && laneAt 0 (vreg (t.core 0) 1) 2 = 0) = true := by decide +kernel

/-- A queue descriptor at 0: depth 1, rings at 0x1000 and 0x2000, one credit for core 0 itself. -/
def qdesc : CoreSt := { ls := putList 0 [] 0 ([1, 0, 0, 0, 0, 0x10, 0, 0, 0, 0x20, 0, 0, 1, 0, 0, 0, 0, 0, 1, 0] : List Byte) }

theorem witness_MessageTallyAndPowerInstructions_queues :
    (let x := (rc qdesc).core 0; let d := readQDesc x 0;
     coreReady (rc qdesc) 0 { d := 8, a := 16, imm := true } (fi 7 0 0 false 0 0) = true ∧ addrOf x 0 (fi 7 0 0 false 0 0) = 0 ∧ lsBad 0 16 4 = false ∧
      0 + 16 + 4 * d.n ≤ lsSize ∧ ringBad d = false ∧ qDescBad d = false ∧ d.pairs.all (fun p => (ownCores (rc qdesc) 0).contains p.1) = true ∧
      (queueOf x 7).depth = 0) ∧
    (∀ n ∈ [0, 1], let s : State := { rc { queues := [(0, ⟨1, 0, 0x1000, 0, n⟩)] } with grid := { credits := put 0 [] (credKey 0 0 0) n } };
      coreReady s 0 { a := 32, b := 32, x := true, imm := true } (fi 0 0 31 false 0 0x3F0000) = true ∧ (ownCores s 0).contains 0 = true ∧
      (queueOf (s.core 0) 0).depth ≠ 0 ∧ heldCred s 0 0 0 = n ∧ (queueOf (s.core 0) 0).count = n ∧
      coreReady s 0 { d := 32, b := 32, x := true } (fi 31 0 31 false 0 0) = true ∧ coreReady s 0 { d := 32, x := true } (fi 31 0 0 false 0 0) = true) ∧
    (ownCores (rc { s := [(1, 5)] }) 0).contains (srcA ((rc { s := [(1, 5)] }).core 0) (fi 0 1 0 false 0 0)).toNat = false := by decide +kernel

theorem witness_MessageTallyAndPowerInstructions_tallies :
    (∀ k ∈ [0, 511], let f := fi 0 0 0 true 0 (w32 (0x10000 + k));
      tallyOf ((rc {}).core 0) f = k ∧ ownTally (rc {}) 0 k = true ∧ tallyAmount ((rc {}).core 0) f = 1 ∧ ((rc {}).tile (k / 512)).st ≠ .off ∧
      coreReady (rc {}) 0 { a := 32, b := if f.i then 1 else 32, i := true, imm := true } f = true) ∧
    (coreReady (rc {}) 0 { a := 32, b := 32, imm := true } (fi 0 0 31 false 0 5) = true ∧ reached (tallyVal (rc {}) 5) 0 = true ∧ reached (tallyVal (rc {}) 5) 1 = false ∧
      coreReady (rc {}) 0 { d := 32, a := 32, imm := true } (fi 31 0 0 false 0 5) = true) ∧
    (((rc { stall := some (.twait fReg) }).core 0).stall = some (.twait fReg) ∧ ((rc { stall := some (.twait fReg) }).core 0).wait = none ∧
      ((rc { stall := some (.twait fReg), wait := some (0, 1) }).core 0).wait ≠ none) ∧
    (let f := fi 0 0 0 false 0 0; let s := rc { stall := some (.grantw f) };
     (s.core 0).st = .running ∧ (s.tile 0).st = .stoked ∧ usesOk {} f = true ∧ pcOver (s.core 0) = false ∧ grantQuiet s 0 = true ∧
      allLanded (rc { stall := some (.fence f) }) 0 = true) := by decide +kernel

theorem witness_MessageTallyAndPowerInstructions_tokens :
    (∀ h ∈ [1, 8, 0, 9], let f := fi 0 0 0 true 0 (w32 h);
      coreReady (rc {}) 0 (usesH f false) f = true ∧ coreReady (rc {}) 0 (usesH f true) f = true ∧ targetOf ((rc {}).core 0) f = h) ∧
    (requestOf (rc {}) 0 = none ∧ coreTotal (rc {}) 0 < 1 ∧ 8 ≤ coreTotal (rc { tok := { held := 8 } }) 0) ∧
    ((fi 0 0 0 true 0 2).x.getLsbD 0 = false ∧ (let f := fi 0 0 0 true 1 2; f.x.getLsbD 0 = true ∧ coreReady (rc {}) 0 (usesH f true) f = true)) ∧
    (((rc {}).core 0).tok.committed = 0 ∧ 0 < ((rc { tok := { committed := 1 } }).core 0).tok.committed ∧
      (if (({ recallG := some 3, seen := true } : CoreTok)).seen then recallTarget { recallG := some 3, seen := true } else none) = some 3) ∧
    (coreReady (rc {}) 0 {} (fi 0 0 0 false 0 0) = true ∧ grantQuiet (rc {}) 0 = true ∧ grantQuiet (rc { tok := { committed := 1 } }) 0 = false) := by
  decide +kernel

/-- EASE gives up every token above its target: they go from HELD to TRANSIT (R248, Table 4.8). -/
theorem test_ease :
    after (.ease 0 (fi 0 0 0 true 0 2)) { rc { tok := { held := 8, cap := 8 } } with ledgers := { tok := { free := 4920, held := 8 } } } (fun t =>
      (t.core 0).tok.held = 2 && t.ledgers.tok.held = 2 && t.ledgers.tok.transit = 6) = true := by decide +kernel

/-! ### Witnesses: memory stacks -/

/-- Engine 0 of core 0 running, and the line at 0 poisoned. -/
def stream (m : Nat) : State := eng { run := .running, loaded := true, mode := m }
def bad0 (s : State) : State := { s with mem := { s.mem with poison := [(0, 1)] } }

theorem witness_MemoryCommands :
    (∀ m ∈ [0, 1, 2], let g := engOf ((stream m).core 0) 0;
      g.run = .running ∧ unitAddr g = 0 ∧ stackUp (stream m) (dpaStack 0) = true ∧ ((stream m).stack (dpaStack 0)).retiring = false ∧
      mappedAll (stream m) 0 (unitBytes g) = true ∧ g.mode = m ∧ g.inFmt ≠ 6 ∧ g.tiles.length < 8 ∧ firstPoison (stream m) 0 (unitBytes g) = none ∧
      (firstPoison (bad0 (stream m)) 0 64).isSome = true) ∧
    (∀ l ∈ [0, stackMib {} * 16384 - 1], stackUp rdy 0 = true ∧ (rdy.stack 0).retiring = false ∧ 64 * l < stackMib (rdy.stack 0) * 2 ^ 20 ∧
      poisoned rdy (0 * 2 ^ 36 + 64 * l) = false ∧ (lastDay rdy (look [] (rdy.stack 0).rowErrs (rowKey (lineChannel rdy (64 * l)) 7))).length < 3 ∧ (rdy.stack 0).gone.length < 4) ∧
    (∀ g ∈ [[0, 1, 2], [0, 1, 2, 3]], let s := rdy.setStack 1 { gone := g };
      writeOk s (.mem 1) (hw 0x11F) = true ∧ (hw 0x11F).full = true ∧ (hw 0x11F).value.getLsbD 8 = true ∧ (s.tile 1).st = .kindled ∧
      plateOnTile s 1 = false ∧ (s.stack 1).gone.contains (fld (hw 0x11F).value.toNat 0 5) = false ∧ (s.stack 1).gone = g ∧
      (s.stack 1).cond = .good ∧ (s.stack 1).retiring = false) ∧
    (writeOk rdy (.mem 0) (hw 0x80000000) = true ∧ (hw 0x80000000).ones.getLsbD 31 = true) ∧
    (let s := rdy.setStack 0 { retiring := true }; (s.stack 0).retiring = true ∧ (s.stack 0).retireNext = [] ∧ (s.stack 0).hotDue = false ∧ s.power.trans = none) ∧
    ((look {} (rdy.stack 0).chans 31).phyFails = 0 ∧
      (let s := rdy.setStack 0 { chans := [(31, { phyFails := 1 })] };
       stackUp s 0 = true ∧ 1 ≤ (look {} (s.stack 0).chans 31).phyFails ∧ (s.stack 0).gone.contains 31 = false)) ∧
    (isReady State.reset = false ∧ isReady rdy = true ∧ bar2Bad rdy 0 4 = none ∧ firstPoison rdy 0 4 = none ∧
      bar2Bad (bad0 rdy) 0 4 = none ∧ (firstPoison (bad0 rdy) 0 4).isSome = true ∧
      (partialLines 0 4).any (poisoned rdy) = false ∧ (partialLines 0 4).any (poisoned (bad0 rdy)) = true) := by decide +kernel

/-- A whole line written loses its poison, and part of one is dropped (R422). -/
theorem test_bar2Write :
    after (.bar2Write 0 (List.replicate 64 7)) (bad0 rdy) (fun t => t.mem.poison = [] && memRead t 63 1 = [7]) = true ∧
    after (.bar2Write 0 [7]) (bad0 rdy) (fun t => memRead t 0 1 = [0]) = true := by decide +kernel

/-! ### Witnesses: tenants and commands -/

def plate0 : Plate := ⟨0, [⟨1, 0, 0, 0, 0, 0, 0, 1, 0⟩], 1, 0, 1, 0, [(0, 8)], none⟩

/-- Partition 0: core 0, four pages and eight tallies of tile 0. -/
def def0 (sh : Bool) : PartDef := { shared := sh, cores := [(0, 1)], memPages := [(0, 4)], tallyCount := [(0, 8)] }

/-- Tenant 0 is in partition 0 and has a plate under handle 0; the commands of the slots. -/
def ten (sh : Bool) (cs : List (Nat × Cmd)) : State :=
  { rdy with
    parts := [(0, { staged := def0 sh, active := def0 sh })]
    tenants := [(0, { assigned := true, plates := [(0, some plate0)] })]
    host := { cmds := cs.map (fun e => (e.1, some e.2)) } }

/-- A staged definition of partition 1 that overlaps partition 0, and one that does not. -/
def staged1 (d : PartDef) : State := { rdy with parts := [(0, { active := def0 false }), (1, { staged := d })] }

theorem witness_PartitionsQuotasAndDrains :
    (writeOk (staged1 {}) (.tenant 1) (hw 1) = true ∧ (hw 1).full = true ∧ (hw 1).value.getLsbD 0 = true ∧
      (hw 2).value.getLsbD 0 = false ∧ (hw 2).value.getLsbD 1 = true) ∧
    (∀ e ∈ [(({ cores := [(0, 2)] } : PartDef), false), (def0 true, true)], defBeyond (staged1 e.1) ((staged1 e.1).part 1).staged = false ∧
      platesIn (staged1 e.1) 1 = 0 ∧
      (staged1 e.1).parts.any (fun x => decide (x.1 ≠ 1) && defsMeet ((staged1 e.1).part 1).staged x.2.active) = e.2) ∧
    (platesIn (ten false []) 0 ≠ 0 ∧ defBeyond (ten false []) ((ten false []).part 0).staged = false) ∧
    (platesHeld rdy 1 = 0 ∧ ∀ v ∈ [1, 4928, 0, 4929], writeOk rdy (.tenant 1) (hn v) = true ∧
      fld ((hn v).merged (w32 (rdy.tenant 1).tokQuota)).toNat 0 13 = v ∧ largestTokens rdy 1 ≤ v) ∧
    (∀ v ∈ [0, 4096], fld ((hn v).merged (w32 (rdy.tenant 1).tallyQuota)).toNat 0 13 = v ∧ talliesHeld rdy 1 ≤ v) ∧
    (((hw 1).merged (drainWord (rdy.tenant 1))).getLsbD 0 = true ∧ (rdy.tenant 1).go = false ∧ (slotList rdy).all (fun e => decide (e.2.tenant ≠ 1)) = true) ∧
    (let s := ten false [(5, cmd0 3)];
     ((hw 3).merged (drainWord (s.tenant 0))).getLsbD 0 = true ∧ ((hw 3).merged (drainWord (s.tenant 0))).getLsbD 1 = true ∧ (s.tenant 0).go = false ∧
      s.cmd 5 = some (cmd0 3) ∧ executes (cmd0 3) = true) ∧
    (let s := rdy.setTenant 1 { go := true };
     writeOk s (.tenant 1) (hw 0) = true ∧ ((hw 0).merged (drainWord (s.tenant 1))).getLsbD 0 = false ∧ (s.tenant 1).go = true ∧
      ((hw 0).merged (drainWord (s.tenant 1))).getLsbD 1 = (s.tenant 1).mode) := by decide +kernel

/-- A running command of core 0 where it stands in its switching, another command of the plate's cores waiting. -/
def onCore (x : SwitchState) (ab : Bool) : Cmd := { cmd0 3 with st := .running, cores := [0], switch := x, aborting := ab }
def switching0 (x : SwitchState) (ab : Bool) (st : CoreState) : State :=
  (ten true [(0, onCore x ab), (1, { cmd0 3 with tenant := 1, order := 1 })]).setCore 0 { st := st, slot := some 0 }
    |>.setTenant 1 { assigned := true, plates := [(0, some plate0)] }

theorem witness_CommandsStartAndSwitch :
    (∀ sh ∈ [true, false], let s := ten sh [(0, cmd0 3)];
      s.cmd 0 = some (cmd0 3) ∧ cmdPlate s (cmd0 3) = some plate0 ∧ hubOn s = true ∧ ledgerFaulted s = false ∧ (s.part 0).active.shared = sh ∧
      runReady s (cmd0 3) = true ∧ (partTiles s 0).all (fun t => decide ((s.tile t).st = .stoked)) = true ∧ argsOk s (cmd0 3) plate0 = true ∧
      lostCore s plate0 = none ∧ plate0.codeBad = none) ∧
    (nextRun (ten true [(0, cmd0 3)]) 0 = some (0, cmd0 3) ∧ nextRun rdy 0 = none) ∧
    (let s := switching0 .on false .running;
     s.cmd 0 = some (onCore .on false) ∧ cmdPlate s (onCore .on false) = some plate0 ∧ (s.part 0).active.shared = true ∧ coresNeeded s 0 (onCore .on false) plate0 = true) ∧
    stillRunning (switching0 .leaving false .running) 0 (onCore .leaving false) ≠ [] ∧
    (let s := switching0 .leaving false .stopped; allHalted s 0 (onCore .leaving false) = true ∧ quiet s (onCore .leaving false).cores = true ∧ ledgerFaulted s = false) ∧
    ((switching0 .saving true .idle).cmd 0 = some (onCore .saving true) ∧ (switching0 .saving false .idle).cmd 0 = some (onCore .saving false) ∧
      (switching0 .restoring false .idle).cmd 0 = some (onCore .restoring false)) := by decide +kernel

/-- Nothing is poisoned in the save pages of a command whose restore is to end. -/
theorem witness_CommandsStartAndSwitch_restore : restorePoison (switching0 .restoring false .idle) plate0 = none := by
  have h (l : Nat) : poisoned (switching0 .restoring false .idle) l = false := by
    simp [poisoned, switching0, ten, rdy, State.reset, look, covered, coveredOff, State.stack, State.setTenant, State.setCore]
  simp [restorePoison, plate0, firstPoison, h]

/-- Queue `q`, changed. -/
def qs (q : Nat) (x : QueueSt) : State := rdy.setQueue q x

/-- A descriptor with this opcode and tag 1. -/
def descBytes (op : Byte) : List Byte := op :: ([0, 0, 0, 1] ++ List.replicate 59 0)

theorem witness_QueuesAndDescriptors :
    (∀ q ∈ [0, 255, 256, 257], writeOk (qs q {}) (queuePage q) (hw 1) = true ∧ writeOk (qs q { enable := true }) (queuePage q) (hw 0) = true ∧
      ((hw 1).merged (word [(0, 0), (1, b2n ((qs q {}).hdr (queuePage q)).freeze)])).getLsbD 1 = ((qs q {}).hdr (queuePage q)).freeze ∧
      ((hw 1).merged 0).getLsbD 0 = true ∧ ((hw 0).merged 1).getLsbD 0 = false ∧ (qs q {}).queue q = {} ∧ queueCmds (qs q { enable := true }) q = [] ∧
      queueCmds ((qs q { enable := true }).setCmd 3 (some { cmd0 4 with queue := q })) q ≠ []) ∧
    (∀ v ∈ [0, 15, 16], fld ((hn v).merged (w32 0)).toNat 0 12 = v ∧ ringSize { enable := true } = 16) ∧
    (∀ v ∈ [0, 3], let x : QueueSt := { cqTail := 3 }; v < ringSize x ∧
      (v + ringSize x - x.cqHead) % ringSize x ≤ (x.cqTail + ringSize x - x.cqHead) % ringSize x) ∧
    (∀ v ∈ [1, 256], writeOk rdy .hostif (hn v) = true ∧ fld ((hn v).merged (word [(0, (rdy.tenant rdy.host.tenSel).slotLimit)])).toNat 0 9 = v) ∧
    (let s := qs 3 { enable := true, sqTail := 1 };
     isReady s = true ∧ s.ao.l0 = true ∧ s.host.fetching = none ∧ (slotList s).length < 256 ∧ nextFetch s = some 3) ∧
    (∀ e ∈ [(0, some 0), (5, some 0), (4, none)], (descBytes (BitVec.ofNat 8 e.1)).length = 64 ∧
      firstOff (descRules (isAdm 3) (descOf (descBytes (BitVec.ofNat 8 e.1)))) = e.2) ∧
    (let s : State := { qs 3 { enable := true, history := [rec1] } with host := { (qs 3 { enable := true, history := [rec1] }).host with fetching := some 3 } };
     s.host.fetching = some 3 ∧ s.host.pathLost = false ∧ (s.queue 3).history.find? (fun r => r.tag = (descOf (descBytes 4)).tag) = some rec1) ∧
    (let s : State := { rdy with host := { fetching := some 3 } };
     (s.queue 3).history.find? (fun r => r.tag = (descOf (descBytes 4)).tag) = none ∧ queueCmds s 3 = [] ∧ freeSlotNo s = 0 ∧ s.cmd 0 = none) := by
  decide +kernel

/-- A descriptor with a reserved opcode completes with OUT_OF_RANGE (R485, Table 15.3). -/
theorem test_descriptorReceived :
    after (.descriptorReceived (descBytes 5)) { qs 3 { enable := true, sqTail := 1 } with host := { (qs 3 { enable := true, sqTail := 1 }).host with fetching := some 3 } }
      (fun t => (t.queue 3).refused = 1 && (t.queue 3).sqHead = 1) = true := by decide +kernel

/-- A plate file of one slot and one image of 8 bytes: the header, the slot declaration at 128, the image table at 160, the image at 176.
Bytes 12 to 15 hold the CRC, written here by hand. -/
def file0 (crc : Nat) : List Byte :=
  leBytes 4 0x45544C50 ++ leBytes 2 1 ++ leBytes 2 128 ++ leBytes 4 184 ++ leBytes 4 crc ++ leBytes 2 1 ++ leBytes 2 0 ++ leBytes 4 0 ++ leBytes 4 1 ++
  leBytes 2 1 ++ leBytes 2 0 ++ leBytes 4 128 ++ leBytes 4 160 ++ leBytes 2 1 ++ List.replicate 86 0 ++
  (leBytes 8 1 ++ leBytes 4 0 ++ leBytes 4 0 ++ leBytes 2 0 ++ leBytes 2 0 ++ List.replicate 12 0) ++
  (leBytes 4 176 ++ leBytes 4 8 ++ List.replicate 8 0) ++ List.replicate 8 0

/-- The file lies at 0, and the partition is exclusive and empty. -/
def filed : State :=
  { ten false [(0, cmd0 1)] with
    tenants := [(0, { assigned := true })]
    mem := { data := [(0, 80), (1, 76), (2, 84), (3, 69), (4, 1), (6, 128), (8, 184), (12, 128), (13, 116), (14, 138), (15, 227),
      (16, 1), (24, 1), (28, 1), (32, 128), (36, 160), (40, 1), (128, 1), (160, 176), (164, 8)] } }

theorem test_crc_of_file0 : fileCrc (file0 0xe38a7480) = 0xe38a7480 := by
  have h0 : ([80, 76, 84, 69, 1, 0, 128, 0, 184, 0, 0, 0, 0, 0, 0, 0] : List Byte).foldl crcByte 0xffffffff = 0xcc2054f2 := by decide +kernel
  have h1 : ([1, 0, 0, 0, 0, 0, 0, 0, 1, 0, 0, 0, 1, 0, 0, 0] : List Byte).foldl crcByte 0xcc2054f2 = 0xcc649ab0 := by decide +kernel
  have h2 : ([128, 0, 0, 0, 160, 0, 0, 0, 1, 0, 0, 0, 0, 0, 0, 0] : List Byte).foldl crcByte 0xcc649ab0 = 0xd3ae386b := by decide +kernel
  have h3 : (List.replicate 16 0 : List Byte).foldl crcByte 0xd3ae386b = 0x5f5734b8 := by decide +kernel
  have h4 : (List.replicate 16 0 : List Byte).foldl crcByte 0x5f5734b8 = 0x9c7579cf := by decide +kernel
  have h5 : (List.replicate 16 0 : List Byte).foldl crcByte 0x9c7579cf = 0x3b5b03b1 := by decide +kernel
  have h6 : (List.replicate 16 0 : List Byte).foldl crcByte 0x3b5b03b1 = 0x4e7a3e9f := by decide +kernel
  have h7 : (List.replicate 16 0 : List Byte).foldl crcByte 0x4e7a3e9f = 0xa51b8b41 := by decide +kernel
  have h8 : ([1, 0, 0, 0, 0, 0, 0, 0, 0, 0, 0, 0, 0, 0, 0, 0] : List Byte).foldl crcByte 0xa51b8b41 = 0x843465 := by decide +kernel
  have h9 : (List.replicate 16 0 : List Byte).foldl crcByte 0x843465 = 0xb9eefe9b := by decide +kernel
  have h10 : ([176, 0, 0, 0, 8, 0, 0, 0, 0, 0, 0, 0, 0, 0, 0, 0] : List Byte).foldl crcByte 0xb9eefe9b = 0xc5776474 := by decide +kernel
  have h11 : (List.replicate 8 0 : List Byte).foldl crcByte 0xc5776474 = 0x1c758b7f := by decide +kernel
  have e : (file0 0xe38a7480).take 12 ++ [0, 0, 0, 0] ++ (file0 0xe38a7480).drop 16 = [80, 76, 84, 69, 1, 0, 128, 0, 184, 0, 0, 0, 0, 0, 0, 0] ++ [1, 0, 0, 0, 0, 0, 0, 0, 1, 0, 0, 0, 1, 0, 0, 0] ++ [128, 0, 0, 0, 160, 0, 0, 0, 1, 0, 0, 0, 0, 0, 0, 0] ++ (List.replicate 16 0) ++ (List.replicate 16 0) ++ (List.replicate 16 0) ++ (List.replicate 16 0) ++ (List.replicate 16 0) ++ [1, 0, 0, 0, 0, 0, 0, 0, 0, 0, 0, 0, 0, 0, 0, 0] ++ (List.replicate 16 0) ++ [176, 0, 0, 0, 8, 0, 0, 0, 0, 0, 0, 0, 0, 0, 0, 0] ++ (List.replicate 8 0) := by decide +kernel
  rw [fileCrc, e, crc32c]
  simp only [List.foldl_append, h0, h1, h2, h3, h4, h5, h6, h7, h8, h9, h10, h11]
  decide +kernel

/-- What an accepted load needs, check by check (Table 14.5). -/
theorem admission_accepts (s : State) (n a p : Nat) (f : List Byte) (r : Plate) (h1 : ledgerFaulted s = false) (h2 : partOf s n = some p)
    (h3 : ∀ x ∈ partTiles s p, ¬(s.tile x).st = .kindled → (s.tile x).st = .stoked) (h4 : fileAt s p a 128 = true)
    (h5 : num (memRead s a 128) 8 4 = f.length) (h6 : 128 ≤ f.length) (h7 : fileAt s p a f.length = true) (h8 : memRead s a f.length = f)
    (h9 : fileFault f = none) (h10 : admitFile s n p f = .accept r) : admission s n a = .accept r := by
  have h : ¬ f.length < 128 := by omega
  simp [admission, h1, h2, h4, h5, h, h7, h8, h9, h10]
  exact h3

theorem fileFault_good (f : List Byte) (c : Nat) (h : fileCrc f = c)
    (hh : firstOff (([(0, num f 0 4 = 0x45544C50), (4, num f 4 2 = 1), (6, num f 6 2 = 128), (8, num f 8 4 = f.length && 128 ≤ f.length), (12, num f 12 4 = c)] : List (Nat × Bool)) ++
      (headerRules f).drop 5) = none)
    (hd : firstOff ((declsOf f).flatMap (declRules f) ++ (imagesOf f).flatMap (imageRules f)) = none) : fileFault f = none := by
  have e : firstOff (headerRules f) = none := by subst h; exact hh
  simp [fileFault, e, hd]

theorem fileFault_file0 : fileFault (file0 0xe38a7480) = none :=
  fileFault_good _ _ test_crc_of_file0 (by decide +kernel) (by decide +kernel)

theorem witness_CommandsCompleteAndAreRecorded_admission :
    filed.cmd 0 = some (cmd0 1) ∧ hubOn filed = true ∧ mayBegin filed (cmd0 1) = true ∧
    admission filed 0 0 = .accept ⟨0, [⟨1, 0, 0, 0, 0, 0, 0, 1, 0⟩], 1, 0, 1, 0, [(0, 8)], none⟩ := by
  refine ⟨by decide +kernel, by decide +kernel, by decide +kernel, ?_⟩
  exact admission_accepts filed 0 0 0 (file0 0xe38a7480) _ (by decide +kernel) (by decide +kernel) (by decide +kernel) (by decide +kernel)
    (by decide +kernel) (by decide +kernel) (by decide +kernel) (by decide +kernel) fileFault_file0 (by decide +kernel)

/-- The ring of queue 0, its command completing with a ready record. -/
def done0 (x : QueueSt) : State := (rdy.setQueue 0 x).setCmd 0 (some { cmd0 4 with st := .completing, record := some rec1 })

theorem witness_CommandsCompleteAndAreRecorded :
    (∀ op ∈ [1, 2, 4], (slot0 (cmd0 op)).cmd 0 = some (cmd0 op) ∧ hubOn (slot0 (cmd0 op)) = true ∧ mayBegin (slot0 (cmd0 op)) (cmd0 op) = true) ∧
    admission (slot0 (cmd0 1)) 0 0 = .refuse 0x02 0 0 0 ∧
    (plateOf (slot0 (cmd0 2)) 0 0 = none ∧ plateOf (ten false [(0, cmd0 2)]) 0 0 = some plate0 ∧ plateInUse (ten false [(0, cmd0 2)]) 0 0 = false ∧
      mayBegin (ten false [(0, cmd0 2)]) (cmd0 2) = true ∧
      (let s := ten false [(0, { cmd0 2 with order := 1 }), (1, { cmd0 3 with st := .running })];
       plateInUse s 0 0 = true ∧ mayBegin s { cmd0 2 with order := 1 } = true)) ∧
    (let c := { cmd0 3 with dupOf := some 1, ending := some rec1 }; (slot0 c).cmd 0 = some c ∧ c.st = .fetched ∧ executes c = false) ∧
    (∀ q ∈ [0, 15], let x : QueueSt := { enable := true, cqTail := q, cqHead := 5 };
      canWrite (done0 x) 0 = true ∧ firstReady (done0 x) 0 = some (0, { cmd0 4 with st := .completing, record := some rec1 }, rec1)) ∧
    (let s := qs 257 { enable := true, cqTail := 15 }; (s.queue 257).enable = true ∧ ringFull (s.queue 257) = true ∧ (s.queue 257).fullLogged = false) ∧
    (∀ b ∈ [true, false], let s : State := { rdy with host := { fetching := some 0, queues := [(0, { readFailed := b })] } };
      s.host.fetching = some 0 ∧ s.ao.l0 = true ∧ s.host.fetchReset = false ∧ (s.queue 0).readFailed = b) := by decide +kernel

/-- The record written to the last entry of the ring turns the phase and frees the slot (R487, R492). -/
theorem test_completionRecordWrite :
    after (.completionRecordWrite 0) (done0 { enable := true, cqTail := 15, cqHead := 5 }) (fun t =>
      t.cmd 0 = none && (t.queue 0).cqTail = 0 && !(t.queue 0).phase) = true := by decide +kernel

/-! ### Witnesses: lanes and ports -/

/-- Port 0 and its lane 0. -/
def lk (y : PortSt) (x : LaneSt) : State := { rdy with links := { lanes := [(0, x)], ports := [(0, y)] } }

/-- Port 0 trains, or is UP with lanes 0 and 1. -/
def tr (x : LaneSt) : State := lk { st := .training } x
def up2 : PortSt := { st := .up, mask := 3 }

theorem witness_LanesTrain :
    (((tr { phase := 1 }).lane 0).phase = 1 ∧ ((tr { phase := 1 }).port (lanePort 0)).st = .training ∧ ((tr { phase := 2 }).lane 0).phase = 2 ∧
      ((tr { phase := 11 }).lane 0).phase = 11 ∧ wakeFound [600, 600, 600, 600, -600] = true ∧ wakeFound [600, 600, 599, 600, -600] = false ∧ inTraining { phase := 3 } = true ∧ inTraining { phase := 9 } = true ∧ (206 : Nat) < 207) ∧
    (let x : LaneSt := { phase := 9, seedSent := true, seedRx := some 1 };
     ((tr x).lane 0).phase = 9 ∧ ((tr x).lane 0).seedSent = true ∧ ((tr x).lane 0).seedRx.isSome = true ∧ 0 ∈ portLanes (tr x) (lanePort 0)) ∧
    (let s : State := { tr { phase := 9, seedSent := true, seedRx := some 1 } with links := { (tr { phase := 9, seedSent := true, seedRx := some 1 }).links with
       lanes := (0, { phase := 9, seedSent := true, seedRx := some 1 }) :: (List.range 7).map (fun k => (k + 1, { phase := 15 })) } };
     ∀ j ∈ portLanes s 0, j ≠ 0 → (s.lane j).phase = 10 ∨ (s.lane j).phase = 15 ∨ (s.lane j).dropped = true) := by decide +kernel

theorem witness_LanesTrain_words :
    (let x : LaneSt := { phase := 3, draw := 5 };
     (∀ d ∈ [4, 5, 6], wordNew x 1 (ctrlWord 3 1 (d + 20 * 2 ^ 17) 1) = true ∧ bit (cwPay (ctrlWord 3 1 (d + 20 * 2 ^ 17) 1)) 16 = false ∧
        fld (cwPay (ctrlWord 3 1 (d + 20 * 2 ^ 17) 1)) 17 5 = 20 ∧ fld (cwPay (ctrlWord 3 1 (d + 20 * 2 ^ 17) 1)) 0 16 = d) ∧
      fld (cwPay (ctrlWord 3 1 (5 + 19 * 2 ^ 17) 1)) 17 5 ≠ x.log2nUsed ∧ bit (cwPay (ctrlWord 3 1 (2 ^ 16) 1)) 16 = true ∧ x.ownDone = false ∧
      x.equalDraws < 7 ∧ 7 ≤ ({ equalDraws := 7 } : LaneSt).equalDraws) ∧
    (∀ k ∈ [3, 8, 9], wordNew { phase := k } 2 (ctrlWord k 2 0 1) = true ∧ cwPhase (ctrlWord k 2 0 1) = k ∧ inTraining { phase := k } = true) ∧
    (wordNew { phase := 8 } 3 (ctrlWord 8 3 7 255) = true ∧ wordNew { phase := 9 } 4 (ctrlWord 9 4 1 1) = true ∧ fld (cwPay (ctrlWord 9 4 1 1)) 0 31 ≠ 0 ∧
      wordNew { phase := 5 } 6 (ctrlWord 5 6 0 1) = true ∧ wordNew { phase := 12 } 5 (ctrlWord 12 5 65535 1) = true) := by decide +kernel

theorem witness_LanesTrain_phases :
    (let m : Int → Nat → LaneMeas := fun f w => ⟨f, w, 0, 0, [], []⟩;
     (m 25001 0).fofs > 25000 ∧ (m (-25001) 0).fofs < -25000 ∧ -25000 ≤ (m 25000 0).fofs ∧ (m 25000 0).fofs ≤ 25000 ∧ 350 < (m 0 351).oneWay ∧ (m 0 350).oneWay ≤ 350) ∧
    (∀ k ∈ [4, 7, 8], ((tr { phase := k, follower := true }).lane 0).ownDone = false ∧ ((tr { phase := k, follower := true }).lane 0).phase = k ∧
      ((tr { phase := k, follower := true }).lane 0).follower = true ∧ ((tr { phase := k }).port (lanePort 0)).optical = false) ∧
    (∀ k ∈ [0, 2, 9, 15], writeOk (tr { phase := k }) (.lane 0) (hw 1) = true ∧ (hw 1).ones.getLsbD 0 = true) ∧
    (writeOk (lk up2 { phase := 10 }) (.lane 0) (hw 1) = true ∧ leavesUp (lk up2 { phase := 10 }) 0 = true) := by decide +kernel

/-- Three failed attempts in a row leave the lane FAILED (R543). -/
theorem test_phaseBoundExpire :
    after (.phaseBoundExpire 0) (tr { phase := 5, synth := true, attempts := 1 }) (fun t => (t.lane 0).phase = 2 && (t.lane 0).cause = 6) = true ∧
    after (.phaseBoundExpire 0) (tr { phase := 5, synth := true, attempts := 2 }) (fun t => (t.lane 0).phase = 15) = true := by decide +kernel

theorem witness_LanesCarrySleepAndWake :
    (∀ f ∈ [true, false], let s := lk up2 { phase := 10, follower := f, trim := 25000 };
      (s.lane 0).phase = 10 ∧ (s.lane 0).follower = f ∧ (s.lane 0).holdAdapt = false ∧ (s.lane 0).runBlocks = 0 ∧ leavesUp s 0 = true ∧
      (25000 : Int) < (s.lane 0).trim + clampI (-10) 10 11 ∧ (s.lane 0).trim + clampI (-10) 10 0 ≤ 25000) ∧
    (0 < ({ runBlocks := 1 } : LaneSt).runBlocks ∧ ({ holdAdapt := true } : LaneSt).holdAdapt = true) ∧
    (∀ n ∈ [41943, 41944], ∀ b ∈ [true, false], let s : State := { lk { up2 with dropDegraded := b } { phase := 10, lowSince := some 0 } with ao := { rdy.ao with ticks := n } };
      (s.lane 0).lowSince = some 0 ∧ withinUs s 0 10000 = decide (n = 41943) ∧ (s.port (lanePort 0)).dropDegraded = b ∧ leavesUp s 0 = true) ∧
    (let x : LaneSt := { runBlocks := 1 }; (15 : Nat) ^ 10 ≤ 10 ^ x.impDb * 1 ^ 10 ∧ 10 ^ x.impDb * 1 ^ 10 < (16 : Nat) ^ 10 ∧ x.runBlocks ≠ 0 ∧ 64 ≤ x.impHold ∧
      x.impHold < 65) ∧
    (((lk { up2 with mask := 2 } { phase := 10 }).port (lanePort 0)).st ≠ .training ∧ ((lk { up2 with mask := 2 } { phase := 10 }).port (lanePort 0)).mask.getLsbD (0 % 8) = false) ∧
    (let s := lk { up2 with st := .asleep, mask := 1 } { phase := 12, wakeAt := some 7 };
     (s.lane 0).wakeAt = some 7 ∧ (s.lane 0).impSeen = false ∧ (s.lane 0).wakeRetried = false ∧ (s.port (lanePort 0)).st = .asleep ∧
      (s.port (lanePort 0)).drainDue = false ∧ ∀ j ∈ maskLanes (lanePort 0) (s.port (lanePort 0)).mask, j ≠ 0 → (s.lane j).phase = 10) ∧
    (({ phase := 12, waker := false, wakeAt := none } : LaneSt).wakeAt = none ∧ ({ wakeRetried := true } : LaneSt).wakeRetried = true ∧
      ({ impSeen := true } : LaneSt).impSeen = true) := by decide +kernel

/-- A flit received in sequence, ahead of it, far out of it. -/
def flit (n : BitVec 16) (v : BitVec 2) : Flit := ⟨n, v, false, 1, 0, 0, [1], true, true⟩

/-- Port 0 UP, with its replay buffer. -/
def pt (x : PortSt) : State := lk { x with st := .up } {}
def tx (n : BitVec 16) : TxFlit := { seq := n, vc := 0, body := [1] }

theorem witness_FlitsAreReplayed :
    ((0 : BitVec 2) ≠ 3 ∧ (List.replicate 304 (0 : Byte)).length ≤ 304 ∧ ((pt {}).port 0).closing = false ∧ ((pt {}).port 0).farDraining = false ∧
      ((pt {}).port 0).unacked.length < 256 ∧ ((pt {}).port 0).unsent = 0 ∧ ((pt {}).port 0).replayHeld = false ∧
      vcCredit { farBufs := [(0, 1)] } 0 = true) ∧
    (receiving ((pt {}).port 0) = true ∧ ((flit 257 0).seq - 0).toNat = 257 ∧ (256 : Nat) < 257 ∧ (257 : Nat) < 32768 ∧ ((flit 256 0).seq - 0).toNat ≤ 256 ∧
      ((flit 32768 0).seq - 0).toNat = 32768 ∧ ((flit 0 0).seq - 0).toNat = 0) ∧
    (∀ n ∈ [14, 15], let x : PortSt := { st := .up, unacked := [tx 4, tx 5], resends := n };
      ackPos 5 (x.unacked.take (x.unacked.length - x.unsent)) = 2 ∧ ackPos 3 (x.unacked.take (x.unacked.length - x.unsent)) = 0 ∧ x.farDraining = false ∧
      x.lastNak ≠ some 3 ∧ x.unacked ≠ [] ∧ sending x = true ∧ x.unsent < x.unacked.length ∧ x.resends = n) ∧
    look 0 ({ usedVc := [(0, 1)] } : PortSt).usedVc 0 ≠ 0 := by decide +kernel

/-- A buffer is free or none is, however many the port has (log entry 30). -/
theorem witness_FlitsAreReplayed_buffers :
    (Config.rxBuffers 0).toNat ≤ look 0 ({ usedVc := [(0, 65536)] } : PortSt).usedVc 0 ∧
    (0 < (Config.rxBuffers 0).toNat → look 0 ({} : PortSt).usedVc 0 < (Config.rxBuffers 0).toNat) := by
  have h := (Config.rxBuffers 0).isLt
  simp only [look, if_true] at *
  exact ⟨by omega, id⟩

/-- An ACK frees the flits up to it (R554). -/
theorem test_ackReceived :
    after (.ackReceived 0 4) (pt { unacked := [tx 4, tx 5] }) (fun t => (t.port 0).unacked = [tx 5]) = true := by decide +kernel

def ident (p : Byte) : IdentRec := ⟨0x4B4E494C, 0, 0, 0, 0, 0, p, 0, 0, 0, 0, 0, 0, 0, 0⟩
def idst (b : Bool) : State := lk { st := .identify, mask := 1, gotMatch := b, sentMatch := b } {}

theorem witness_PortsIdentifyAndServe :
    (∀ b ∈ [true, false], ((idst b).port 0).st = .identify ∧ identCause ((idst b).port 0) (ident 0) = 0 ∧ identCause ((idst b).port 0) (ident 1) = 2 ∧
      ((idst b).port 0).gotMatch = b ∧ ((idst b).port 0).sentMatch = b ∧ ((idst b).port 0).drainDue = false ∧ ((idst b).port 0).far = none) ∧
    (let x : PortSt := { st := .reforming, mask := 3, reformOwn := some 3 }; x.st = .reforming ∧ x.reformOwn = some 3 ∧ x.drainDue = false ∧
      max 1 x.lanesMin ≤ popCount 8 ((3 : BitVec 8) &&& (1 : BitVec 16).setWidth 8).toNat ∧ popCount 8 ((3 : BitVec 8) &&& (4 : BitVec 16).setWidth 8).toNat < max 1 x.lanesMin) ∧
    (((pt { mask := 3 }).port 0).st = .up ∧ ((pt { mask := 3 }).port 0).mask = 3 ∧ ((pt {}).port 0).unacked = [] ∧ ((pt {}).port 0).sleepSent = false ∧
      ((pt { sleepSent := true }).port 0).sleepSent = true ∧ ((pt {}).port 0).idleUs ≠ 0 ∧ ((pt { unacked := [tx 0] }).port 0).unacked ≠ []) ∧
    (∀ v ∈ [4, 2, 1], writeOk (pt {}) (.port 0) (hn v) = true ∧ (hn v).full = true) ∧ writeOk (lk { st := .quarantine } {}) (.port 0) (hw 2) = true ∧
    (∀ x ∈ [PortState.testing, .quarantine], writeOk (lk { st := x } {}) (.port 0) (hn 1) = true) ∧
    (((pt {}).port 0).sentDrained = false ∧ ((pt {}).port 0).gotDrained = false ∧ ((pt { bertHours := 1 }).port 0).bertHours ≠ 0 ∧
      ((pt { sentDrained := true }).port 0).sentDrained = true ∧ ((pt { bertAsked := true }).port 0).bertAsked = true) := by decide +kernel

theorem witness_PortsIdentifyAndServe_tests :
    (∀ e ∈ [(1000, 0, ([] : List Nat)), (999999999999, 1, [0])], let x : PortSt := { st := .testing, mask := 3 };
      (bitsOf 8 x.mask.toNat).filter (fun l => decide (e.1 < [e.2.1, 0].getD l 0 * 10 ^ x.berExp)) = e.2.2 ∧ x.drainDue = false ∧ x.reformFar = none ∧
      (e.2.2 ≠ [] → max 1 x.lanesMin ≤ (bitsOf 8 x.mask.toNat).length - e.2.2.length ∧
        (bitsOf 8 (1 : BitVec 8).toNat).length - e.2.2.length < max 1 x.lanesMin)) ∧
    (let s := tr { phase := 9, presetPassed := true }; 0 ∈ portLanes s 0 ∧ (s.lane 0).presetPassed = true ∧ (s.lane 0).dropped = false) ∧
    (lk { st := .up, closing := true } {}).port 0 = { st := .up, closing := true } ∧
    (let s := lk { valid := true } {}; writeOk s (.port 0) (hw 1) = true ∧ ((hw 1).merged (word [(0, 0), (1, b2n (s.hdr (.port 0)).freeze)])).getLsbD 1 = (s.hdr (.port 0)).freeze ∧
      ((hw 1).merged 0).getLsbD 0 = true ∧ (s.port 0).enable = false ∧ (s.port 0).valid = true ∧ zonesAllowLinks s = true) ∧
    (zonesAllowLinks { rdy with therm := { levels := [(8, 3)] } } = false ∧ ((lk {} {}).port 0).valid = false) ∧
    (let s := lk { enable := true } {}; writeOk s (.port 0) (hw 0) = true ∧ ((hw 0).merged 1).getLsbD 0 = false ∧ (s.port 0).enable = true) := by decide +kernel

/-- ENABLE of a port whose plan is not valid is refused with WRONG_STATE (R563). -/
theorem test_portEnable :
    after (.portEnable 0 (hw 1)) (lk {} {}) (fun t => (t.port 0).st = .off && (t.hdr (.port 0)).errCount = 1) = true ∧
    after (.portEnable 0 (hw 1)) (lk { valid := true } {}) (fun t => (t.port 0).st = .training) = true := by decide +kernel

/-! ### Witnesses: the side-band, calibration and test -/

/-- A request of requester 3 without a tag, with a payload. -/
def rq (p : List Byte) : TmbReq := ⟨3, 9, 0, 0, 0, p, []⟩

/-! ### The wires: worked values of the spec and of the standards it names -/

/-- Gray code: 00, 01, 11, 10 are -3, -1, +1, +3 (R512). -/
theorem test_levels : symbolsOf [false, false, false, true, true, true, true, false] = [-3, -1, 1, 3] := by decide +kernel

/-- Worked example 18.1: byte 0x24 goes out as -3, -1, +3, -3. -/
theorem test_byteSymbols : byteSymbols 0x24 = [-3, -1, 3, -3] := by decide +kernel

/-- PRBS31 from all ones begins with 31 ones, and the next bit is the sum of stages 31 and 28: 0 (R513). -/
theorem test_guardWord : guardWord = List.replicate 31 3 ++ [-3] := by decide +kernel

/-- The generator of RS(544,514) has the 30 roots, and degree 30 (R514). -/
theorem test_rsGen : (List.range 30).all (fun j => gfEval rsGen (gfPow j) = 0) = true ∧ rsGen.length = 31 ∧ rsGen.headD 0 = 1 := by decide +kernel

/-- The preamble correlates with itself, and with its opposite it does not (R581, R582). -/
theorem test_preamble : preambleFound tmbPreamble = true ∧ preambleFound (tmbPreamble.map (fun x => -x)) = false ∧ tmbPreamble.length = 64 := by decide +kernel

/-- ACK and NAK stand in the codeword's first 20 bits (R547). -/
theorem test_codewordField : codewordField (codewordBits 0xABCD true [] []) = (0xABCD, true) := by decide +kernel

/-- FIPS 180-4's example: SHA-256 of "abc" begins BA 78 16 BF. -/
theorem test_sha256 : (sha256 [0x61, 0x62, 0x63]).take 4 = [0xBA, 0x78, 0x16, 0xBF] := by decide +kernel

/-- Payloads that each command takes. -/
theorem witness_SideBandRequestsAreServed :
    IsRequest Instr.status cmdStatus ∧ IsRequest Instr.openSession cmdOpenSession ∧
    (reqTaken rdy (rq []) = true ∧ isReady (boot .train) = false ∧ hubOn (boot .train) = true ∧ notBusy rdy 2 = true ∧ cmdRead.op ≠ 1 ∧ cmdRead.op ≠ 5 ∧
      headBad (rq []) = false ∧ headBad { rq [] with byte7 := 1 } = true ∧ windowEntry rdy (rq []) = none ∧ reqAuth (rq []) = false) ∧
    (cmdStatus.bad [] = false ∧ cmdRead.bad [0, 0, 0, 0, 64, 0, 0, 0] = false ∧ cmdWrite.bad [0, 0, 0, 0, 1, 0, 0, 0, 1, 2, 3, 4] = false ∧
      cmdEventRead.bad [0, 0, 0, 0, 8, 0, 0, 0] = false ∧ cmdLatchRead.bad [] = false ∧ cmdRetainRead.bad [63, 8, 0, 0] = false ∧
      cmdPower.bad [3, 4, 0, 0] = false ∧ cmdDrain.bad [1, 0, 0, 0, 0, 1, 1, 0] = false ∧ cmdCalStore.bad [] = false ∧ cmdInlet.bad [100, 0, 0, 0] = false ∧
      cmdOpenSession.bad (List.replicate 16 0) = false) ∧
    (cmdRead.bad [0, 0, 0, 0, 65, 0, 0, 0] = true ∧ cmdPower.bad [3] = true) ∧
    (reqAuth { rq [] with flags := 2 } = true ∧ cmdRead.tag = false ∧ cmdWrite.tag = true ∧ authCause rdy cmdWrite.op { rq [] with flags := 2 } = some 3 ∧
      authCause rdy cmdWrite.op (rq []) = none) ∧
    ({ rq [] with flags := 1 } : TmbReq).flags.getLsbD 0 = true ∧ listedOps.contains 0x30 = false := by
  refine ⟨.inl ⟨rfl, rfl⟩, ?_, ?_⟩
  · unfold IsRequest; simp
  · decide +kernel

/-- A keyed device whose requester 3 has a session: the request with the tag that the key gives is authentic. -/
def keyed : State := { rdy with tmb := { key := some [1], reqs := [(3, { session := true, ctr := 4 })] } }
def rqTag (p : List Byte) : TmbReq :=
  { rq p with flags := 2, ctr := 5, tag := frameTag [1] [] [] (frameBody keyed.ao.tmbAddr 3 2 9 (BitVec.ofNat 8 cmdPower.op) 0 true 5 p) }

theorem witness_SideBandRequestsAreServed_tags :
    (∀ p, authCause keyed cmdPower.op (rqTag p) = none) ∧
    (reqTaken keyed (rqTag []) = true ∧ (cmdPower.tag && keyed.tmb.key.isSome) = true ∧ (keyed.req 3).ctr.toNat < (rqTag []).ctr.toNat ∧
      windowEntry keyed (rqTag []) = none) ∧
    (let s : State := { keyed with tmb := { keyed.tmb with reqs := [(3, { session := true, ctr := 5 })] } }; (rqTag []).ctr.toNat ≤ (s.req 3).ctr.toNat) ∧
    (authCause keyed cmdPower.op (rq []) = some 0 ∧ authCause { keyed with tmb := { keyed.tmb with reqs := [] } } cmdPower.op { rq [] with flags := 2 } = some 2) ∧
    (let y : TmbResp := ⟨3, 9, 0, 0, false, 0, []⟩;
     windowEntry { rdy with tmb := { reqs := [(3, { window := [(9, 0, y)] })] } } (rq []) = some y) := by
  refine ⟨fun p => ?_, by decide +kernel, by decide +kernel, by decide +kernel, by decide +kernel⟩
  simp [authCause, keyed, rqTag, rq, reqAuth, State.req, look]

theorem witness_SideBandRequestsAreServed_rest :
    (let y : TmbResp := ⟨3, 1, 0, 0, false, 0, []⟩;
     let s : State := { rdy with tmb := { responses := [y, y, y, y] } };
     s.ao.vsb = true ∧ 4 ≤ s.tmb.responses.length ∧ windowEntry s (rq []) = none ∧ s.tmb.responses = y :: [y, y, y] ∧ s.tmb.busFault = false) ∧
    (isReady rdy = true ∧ pageAnswers rdy .tmb = true ∧ (hw 1).full = true ∧ (hw 1).value.getLsbD 0 = true ∧ (hw 1).master = .host ∧ (sw 1).master = .side true) := by
  decide +kernel

/-- Each command of Table 18.4 has a request that is executed. -/
theorem witness_SideBandRequestsAreServed_effects :
    (∀ e ∈ [(cmdStatus, []), (cmdLatchRead, []), (cmdRead, [0x14, 0x10, 0, 0, 1, 0, 0, 0]), (cmdRead, [0x15, 0x10, 0, 0, 1, 0, 0, 0]),
      (cmdWrite, [0x14, 0x10, 0, 0, 1, 0, 0, 0, 5, 0, 0, 0]), (cmdEventRead, [0, 0, 0, 0, 1, 0, 0, 0]), (cmdRetainRead, [63, 8, 0, 0]),
      (cmdPower, [15, 0, 1, 0]), (cmdPower, [3, 4, 0, 0]), (cmdDrain, [0, 0, 0, 128, 0, 1, 1, 0]), (cmdCalStore, []), (cmdInlet, [100, 0, 0, 0]),
      (cmdInlet, [0, 4, 0, 0]), (cmdOpenSession, List.replicate 16 0)], reqRuns rdy e.1 (rq e.2) ∧ e.1.bad e.2 = false) ∧
    reqRuns keyed cmdPower (rqTag []) ∧
    (pageAt 0x1014 = some (.boot, 0x14) ∧ writeOk rdy .boot (sideWrite 5) = true ∧ pageAt 0x11014 = some (.token, 0x14) ∧
      ownsPage rdy .token (.side true) = false ∧ PageRef.token.exists = true ∧ pageAnswers rdy .token = true ∧ pageMoving rdy .token = false) ∧
    (recordAt (logEvent rdy 0x1015 1 .boot []) 0 ≠ none ∧ recordAt rdy 0 = none) ∧
    (let q : PwrReq := ⟨3, 4, 1⟩; reqLegal q = true ∧ reqCheck rdy q = .ok ∧ rdy.trip = none) ∧
    (pageMoving rdy (.tenant 31) = false ∧ (rdy.tenant 31).go = false ∧ slotList rdy = [] ∧ rdy.host.fetching = none ∧ rdy.host.fetchDrains = []) ∧
    (isReady (boot .banked) = false ∧ notBusy (boot .banked) 0x13 = true) := by
  refine ⟨?_, ?_, by decide +kernel, by decide +kernel, by decide +kernel, by decide +kernel, by decide +kernel⟩
  · unfold reqRuns; decide +kernel
  · unfold reqRuns; decide +kernel

/-- A fifth response has no place: the request is dropped and counted (R589). -/
theorem test_tmb_overflow :
    (let y : TmbResp := ⟨3, 1, 0, 0, false, 0, []⟩;
     after (.status (rq [])) { rdy with tmb := { responses := [y, y, y, y] } } (fun t => t.tmb.overflow = 1 && t.tmb.responses.length = 4) = true) := by decide +kernel

/-- The image differs from the slot, which is slot A or B. -/
def dirt (b : Bool) (sel : Nat) (x : StoreStep) (mj : Nat) : State :=
  { rdy with cal := { present := true, selected := sel, image := [(64, some 1)], blank := b, step := x, mj := mj } }

theorem witness_CalibrationStoresAndTests :
    (∀ k ∈ [0, 1], (dirt false k .idle 0).ao.vsb = true ∧ (dirt false k .idle 0).ao.vin = true ∧ hubOn (dirt false k .idle 0) = true ∧ dirty (dirt false k .idle 0) = true ∧
      (dirt false k .idle 0).cal.blank = false ∧ (dirt false k .idle 0).cal.erasing = false ∧ storing (dirt false k .idle 0) = false ∧
      targetSlot (dirt false k .idle 0) = 1 - k) ∧
    (writeOk (dirt true 0 .idle 0) .cal (sw 1) = true ∧ (sw 1).full = true ∧ (sw 1).value.getLsbD 0 = true ∧ goAccepted (dirt true 0 .idle 0) = true ∧
      goAccepted (dirt false 0 .idle 0) = false ∧ writeOk (dirt false 0 .idle 0) .cal (sw 2) = true ∧ (sw 2).value.getLsbD 0 = false ∧ (sw 2).value.getLsbD 1 = true ∧
      storing (dirt true 0 .program 0) = true ∧ writeOk (dirt true 0 .program 0) .cal (sw 2) = true) ∧
    (∀ m ∈ [215, 216], (dirt true 0 .check m).cal.step = .check ∧ (dirt true 0 .check m).cal.measuring = false ∧ (dirt true 0 .check m).cal.mj = m) ∧
    ((dirt true 0 .program 0).cal.step = .program ∧ (dirt true 0 .verify 0).cal.step = .verify ∧ (dirt true 0 .mark 0).cal.step = .mark ∧
      ({ rdy with cal := { erasing := true } } : State).cal.erasing = true) := by decide +kernel

/-- Worked example 19.1: the samples give 272 mJ and 219.8 mF. Worked example 8.1: an inlet cap of 1548 tokens. -/
theorem test_workedExamples :
    (finishMeasure rdy 13200 33 124).cal.mj = 272 ∧ (finishMeasure rdy 13200 33 124).cal.c = 2198 ∧
    inletCapOf 450 620 1400 225 170 = 1548 := by decide +kernel

/-- A hold-up of 215 mJ ends the store with NO_RESOURCE, and 216 mJ lets it go on (R626). -/
theorem test_calStoreStepDone :
    after (.calStoreStepDone true) (dirt true 0 .check 215) (fun t => t.cal.step = .idle && t.cal.result = 7) = true ∧
    after (.calStoreStepDone true) (dirt true 0 .check 216) (fun t => t.cal.step = .program) = true := by decide +kernel

/-- EXTEST drives the lands in Banked and is BYPASS once the device is ready (R652). -/
theorem test_extest :
    after .extest (boot .banked) (fun t => t.ao.tap = 1) = true ∧ after .extest rdy (fun t => t.ao.tap = 5) = true := by decide +kernel

/-! ### Witnesses: the invariants -/

theorem witness_MemoryCanonical :
    memWf rdy = true ∧ (∃ t, step { rdy with pending := [.bar2Write 0 [1, 0, 2]] } = .next t ∧ t.mem.data = [(0, 1), (2, 2)]) :=
  ⟨by decide +kernel, _, rfl, by decide +kernel⟩

theorem witness_LogsBounded :
    logsBounded { rdy with events := { log := List.replicate 1024 rec0 }, ao := { rdy.ao with retention := List.replicate 64 rec0 } } = true := by
  decide +kernel

end Sys2Proof.Tests
end

section
/-!
SUPPORT. Chapter 03, the operations that the statements on registers go through: which page an address names, the judgement of
a write to an accessible page, what a change of a page's header leaves alone, and a loop over pages.
-/
namespace Sys2Proof.Machine
open Sys2Proof

/-! ### Pages and their addresses -/

/-- The pages of the device are pages that exist. -/
theorem exists_of_mem_allPages : ∀ p ∈ allPages, p.exists = true := by
  simp only [allPages, List.forall_mem_flatten, List.forall_mem_cons, List.forall_mem_map, List.mem_range, PageRef.exists]
  simp

/-- The BAR0 address of a page names that page (Table 3.6). -/
theorem pageAt_addr {p : PageRef} (h : p.exists = true) : pageAt p.addr = some (p, 0) := by
  cases p <;> simp only [PageRef.exists, decide_eq_true_eq] at h
  case ident | boot | event | ledger | arbiter | cal | tmb | therm | hearth | token | hostif => rfl
  case corectl k =>
    by_cases hk : k < 512
    · simp only [PageRef.addr, show corePage k = (k / 64, k % 64) from if_pos hk]
      unfold pageAt
      simp (disch := omega) only [↓if_neg, ↓if_pos, Option.some.injEq, Prod.mk.injEq, PageRef.corectl.injEq]
      omega
    · simp only [PageRef.addr, show corePage k = ((k - 512) / 2, 64 + (k - 512) % 2) from if_neg hk]
      unfold pageAt
      simp (disch := omega) only [↓if_neg, ↓if_pos, Option.some.injEq, Prod.mk.injEq, PageRef.corectl.injEq]
      omega
  all_goals
    unfold PageRef.addr pageAt
    simp (disch := omega) only [↓if_neg, ↓if_pos]
    simp only [Option.some.injEq, Prod.mk.injEq, PageRef.net.injEq, PageRef.cell.injEq, PageRef.loop.injEq, PageRef.survey.injEq,
      PageRef.grid.injEq, PageRef.tally.injEq, PageRef.mem.injEq, PageRef.tenant.injEq, PageRef.queue.injEq, PageRef.port.injEq,
      PageRef.lane.injEq, PageRef.wiring.injEq]
    omega

/-! ### A header change, a refusal -/

/-- A header change reaches nothing but the headers and what the package sends. -/
theorem modHdr_frame (s : State) (p : PageRef) (f : PageHdr → PageHdr) :
    s.modHdr p f = { s with hdrs := (s.modHdr p f).hdrs, out := (s.modHdr p f).out } := by
  obtain h | ⟨o, h⟩ := modHdr_cases s p f <;> rw [h] <;> rfl

theorem raiseBits_frame (s : State) (p : PageRef) (m : Word) :
    raiseBits s p m = { s with hdrs := (raiseBits s p m).hdrs, out := (raiseBits s p m).out } :=
  modHdr_frame s p (fun h => { h with intRaw := h.intRaw ||| m })

@[simp] theorem recordRefusal_hdr (s : State) (p q : PageRef) (off : Nat) (m : Master) (c : RefCode) :
    (recordRefusal s p off m c).hdr q = if q.addr = p.addr then
      { s.hdr p with lastRefusal := word [(0, c.num), (8, off % 0x10000), (24, m.num)], errCount := satInc (s.hdr p).errCount 0xFFFF }
      else s.hdr q := modHdr_hdr s p q _

/-! ### The judgement of a write -/

theorem writeOk_iff (s : State) (p : PageRef) (w : RegWrite) : writeOk s p w = true ↔
    isReady s = true ∧ p.exists = true ∧ pageAnswers s p = true ∧ pageMoving s p = false ∧ ownsPage s p w.master = true ∧
      w.master.untagged = false := by
  simp only [writeOk, Bool.and_eq_true, Bool.not_eq_true', and_assoc]

/-- A write to an accessible page of a ready device that fails a check is refused, and the refusal recorded (R78). -/
theorem guarded_refused {s : State} {p : PageRef} {off : Nat} {w : RegWrite} {c : Checks} {eff : State → State} {r : RefCode}
    (hr : isReady s = true) (he : p.exists = true) (ha : pageAnswers s p = true) (hj : judge s p w c = r) (hne : r ≠ .ok) :
    guarded s p off w c eff = (recordRefusal s p off w.master r, r) := by
  have hserve : aoServes s p w.master = false := by simp [aoServes, isReady_hubOn hr]
  have hsnap : snapWrite s p off = false := by simp [snapWrite, ledgerHeld, isReady_hubOn hr]
  simp [guarded, hserve, hsnap, hr, he, ha, hj, hne]

/-- A master that does not own a page at rest is refused before any other rule of the register but TRIPPED (Table 3.4). -/
theorem judge_notOwner {s : State} {p : PageRef} {w : RegWrite} {c : Checks} (hm : pageMoving s p = false)
    (ho : ownsPage s p w.master = false) (ht : c.tripped = false) (hx : c.exempt = false) : judge s p w c = .notOwner := by
  simp [judge, hm, ho, ht, hx]

/-- An owner's write that is out of range alone is refused with OUT_OF_RANGE (Table 3.4). -/
theorem judge_outOfRange {s : State} {p : PageRef} {w : RegWrite} (h : writeOk s p w = true) :
    judge s p w { outOfRange := true } = .outOfRange := by
  obtain ⟨-, -, -, hm, ho, -⟩ := (writeOk_iff s p w).mp h
  simp [judge, hm, ho]

/-! ### Sparse maps and loops -/

/-- An index that does not read as the default is listed with what it reads as. -/
theorem mem_of_look_ne {α : Type} (d : α) (m : Sparse α) (k : Nat) (h : look d m k ≠ d) : (k, look d m k) ∈ m := by
  induction m with
  | nil => exact absurd rfl h
  | cons e r ih =>
    obtain ⟨k', v⟩ := e
    by_cases hk : k = k'
    · simp [look, hk]
    · simp only [look, hk, if_false] at h ⊢
      exact List.mem_cons_of_mem _ (ih h)

/-- What every pass of a loop keeps, the loop keeps. -/
theorem forEach_keeps {α β : Type} (g : State → β) (l : List α) (f : State → α → State)
    (hf : ∀ s, ∀ a ∈ l, g (f s a) = g s) (s : State) : g (forEach l s f) = g s := by
  induction l generalizing s with
  | nil => rfl
  | cons a l ih =>
    have hl := ih (fun s b hb => hf s b (List.mem_cons_of_mem _ hb)) (f s a)
    exact hl.trans (hf s a List.mem_cons_self)

/-- A loop that makes the same change to the header of each page of `l` establishes `P` of a header that it reaches, and keeps it of
one that has it, when the change gives `P`. -/
theorem forEach_modHdr_hdr (P : PageHdr → Prop) (f : PageHdr → PageHdr) (hf : ∀ h, P (f h)) (l : List PageRef) (p : PageRef)
    (s : State) (hp : p ∈ l ∨ P (s.hdr p)) : P ((forEach l s (fun s q => s.modHdr q f)).hdr p) := by
  induction l generalizing s with
  | nil => exact hp.resolve_left (List.not_mem_nil)
  | cons q l ih =>
    refine ih (s.modHdr q f) ?_
    rw [modHdr_hdr]
    by_cases hq : p.addr = q.addr
    · rw [if_pos hq]; exact .inr (hf _)
    · rw [if_neg hq]
      refine hp.imp_left fun hm => ?_
      exact (List.mem_cons.mp hm).resolve_left fun h => hq (congrArg PageRef.addr h)

/-! ### Refusals and INT_FORCE (R78, R98) -/

/-- Settles O14: the judged write is the record of its refusal, which is a change of the page's header alone. -/
theorem refusalsAreRecorded : Obligations.RefusalsAreRecorded := by
  unfold Obligations.RefusalsAreRecorded
  intro s p off w c eff hr he ha hj
  refine ⟨_, guarded_refused hr he ha rfl hj, modHdr_frame s p _, ?_, fun q hq => ?_⟩
  · rw [recordRefusal_hdr, if_pos rfl]
  · rw [recordRefusal_hdr, if_neg hq]

/-- INT_FORCE of a page that exists is the judged write of the register at 0x1C. -/
theorem exec_intForce {p : PageRef} (he : p.exists = true) (w : RegWrite) (s : State) :
    exec (.intForce p w) s =
      .next (guarded s p 0x1C w { outOfRange := !w.full } (fun s => raiseBits s p w.value)).1 := by
  have hw : exec (.intForce p w) s = .next (writeReg p 0x1C w s).1 := rfl
  rw [hw]
  simp [writeReg, he, writeIntForce]

/-- An INT_FORCE refused with code `r` sets no bit, and the refusal is recorded at 0x1C. -/
theorem intForce_refused {p : PageRef} {w : RegWrite} {s : State} {r : RefCode} (hr : isReady s = true) (he : p.exists = true)
    (ha : pageAnswers s p = true) (hj : judge s p w { outOfRange := !w.full } = r) (hne : r ≠ .ok) :
    Answers (.intForce p w) s fun t =>
      (t.hdr p).intRaw = (s.hdr p).intRaw ∧ (t.hdr p).lastRefusal = word [(0, r.num), (8, 0x1C), (24, w.master.num)] := by
  refine ⟨_, exec_intForce he w s, ?_⟩
  rw [guarded_refused hr he ha hj hne]
  simp

/-- Settles O16: an accepted write is `raiseBits`, a header change; a partial write and one of another master are refused. -/
theorem intForceSetsCauses : Obligations.IntForceSetsCauses := by
  unfold Obligations.IntForceSetsCauses
  refine ⟨fun p w s h hfull => ?_, fun p w s h hpart => ?_, fun p w s hr he ha hm ho => ?_⟩
  · obtain ⟨-, he, -⟩ := (writeOk_iff s p w).mp h
    refine ⟨_, exec_intForce he w s, ?_⟩
    rw [guarded_ok s p _ w _ _ h (by simp [Checks.pass, hfull])]
    exact ⟨by simp, raiseBits_frame s p w.value, fun q hq => by simp [hq]⟩
  · obtain ⟨hr, he, ha, -⟩ := (writeOk_iff s p w).mp h
    refine intForce_refused (r := .outOfRange) hr he ha ?_ (by decide)
    simpa [hpart] using judge_outOfRange h
  · exact intForce_refused (r := .notOwner) hr he ha (judge_notOwner hm ho rfl rfl) (by decide)

/-! ### The ownership table (R112) -/

/-- A header at its page's default owner, with LOCK clear. -/
def PageHdr.unowned (h : PageHdr) : Prop := h.owner = none ∧ h.lock = false

/-- What an error of the ownership table makes of a header. -/
def PageHdr.disown (h : PageHdr) : PageHdr := { h with owner := none, lock := false }

/-- The pages the hub's table lists with an owner of their own or a LOCK. -/
def ownedPages (s : State) : List PageRef :=
  (s.hdrs.filter (fun e => e.2.owner.isSome || e.2.lock)).filterMap (fun e => (pageAt e.1).map (·.1))

/-- The state after an error of the ownership table, before it is logged. -/
def disowned (s : State) : State :=
  let t := forEach (ownedPages s) s (fun s p => s.modHdr p PageHdr.disown)
  { t with arb := { t.arb with seized := [] } }

theorem exec_ownershipTableError {s : State} (h : hubOn s = true) :
    exec .ownershipTableError s = .next (logEvent (disowned s) 0x7004 3 .arbiter [(ownedPages s).length, 0, 0, 0]) := by
  have he : exec .ownershipTableError s = execOwnershipTableError s := rfl
  rw [he, execOwnershipTableError, h]
  rfl

/-- A page of the device that the table does not list is at its default owner. -/
theorem mem_ownedPages_or {s : State} {p : PageRef} (he : p.exists = true) : p ∈ ownedPages s ∨ (s.hdr p).unowned := by
  by_cases h : ((s.hdr p).owner.isSome || (s.hdr p).lock) = true
  · refine .inl (List.mem_filterMap.mpr ⟨(p.addr, s.hdr p), List.mem_filter.mpr ⟨?_, h⟩, by simp [pageAt_addr he]⟩)
    refine mem_of_look_ne {} s.hdrs p.addr fun hd => ?_
    have hdef : s.hdr p = {} := hd
    rw [hdef] at h
    exact absurd h (by decide)
  · exact .inr (by simpa [PageHdr.unowned] using h)

theorem disowned_unowned {s : State} {p : PageRef} (he : p.exists = true) : ((disowned s).hdr p).unowned :=
  forEach_modHdr_hdr PageHdr.unowned PageHdr.disown (fun _ => ⟨rfl, rfl⟩) _ p s (mem_ownedPages_or he)

/-- Whether the log takes a record is a matter of power, time and the log. -/
theorem logOpen_congr {s t : State} (hp : t.power = s.power) (ha : t.ao = s.ao) (he : t.events = s.events) :
    logOpen t = logOpen s := by
  unfold logOpen hubOn recentEvents withinUs
  rw [hp, ha, he]

@[simp] theorem disowned_events (s : State) : (disowned s).events = s.events :=
  forEach_keeps State.events _ _ (fun _ _ _ => modHdr_events _ _ _) s

@[simp] theorem disowned_ao (s : State) : (disowned s).ao = s.ao :=
  forEach_keeps State.ao _ _ (fun _ _ _ => modHdr_ao _ _ _) s

@[simp] theorem disowned_power (s : State) : (disowned s).power = s.power :=
  forEach_keeps State.power _ _ (fun _ _ _ => modHdr_power _ _ _) s

@[simp] theorem logOpen_disowned (s : State) : logOpen (disowned s) = logOpen s :=
  logOpen_congr (disowned_power s) (disowned_ao s) (disowned_events s)

/-- The log changes no owner and no LOCK. -/
theorem logEvent_unowned {s : State} {q : PageRef} (code sev : Nat) (p : PageRef) (a : List Nat) (h : (s.hdr q).unowned) :
    ((logEvent s code sev p a).hdr q).unowned := by
  obtain h' | ⟨e, h'⟩ | ⟨e, i, h'⟩ := logEvent_cases s code sev p a <;> rw [h']
  · exact h
  · exact h
  · rw [raise_hdr]
    split
    · next hq => simpa only [PageHdr.unowned, State.hdr, hq] using h
    · exact h

/-- An open log has the event as its newest record. -/
theorem logEvent_newest {s : State} (h : logOpen s = true) (code sev : Nat) (p : PageRef) (a : List Nat) :
    (logEvent s code sev p a).events.log.head? = some (mkRecord s code sev p a) := by
  simp only [logOpen, Bool.and_eq_true, decide_eq_true_eq] at h
  rw [logEvent_log s code sev p a h.1 h.2]
  rfl

/-- Settles O20: the loop over the listed pages leaves every page of the device at its default owner, and the log changes no
owner. -/
theorem ownershipTableErrorResetsOwners : Obligations.OwnershipTableErrorResetsOwners := by
  unfold Obligations.OwnershipTableErrorResetsOwners
  intro s hs
  refine ⟨_, exec_ownershipTableError hs, by rw [logEvent_arb]; rfl, fun p hp => ?_, fun hlog => ?_⟩
  · obtain ⟨howner, hlock⟩ := logEvent_unowned 0x7004 3 .arbiter [(ownedPages s).length, 0, 0, 0]
      (disowned_unowned (s := s) (exists_of_mem_allPages p hp))
    exact ⟨by simp [ownerOf, howner], hlock⟩
  · rw [logEvent_newest (by rwa [logOpen_disowned])]
    rfl

end Sys2Proof.Machine
end

section
/-!
SUPPORT. FREEZE and clearing reads (R72, R73, R80). The statement O18 speaks of every state, and fails in one where a drain of a
tenant 244 waits for a descriptor read. The package has 32 tenants, and the address that Table 3.6 would give the page of a tenant
244 is that of queue page 0. `pageFreeze_holds` is the FREEZE clause for every state whose waiting drains are of tenants that the
package has; the two laws of `clearingRead` are the other clauses as they stand.
-/
namespace Sys2Proof.Machine
open Sys2Proof

/-! ### FREEZE holds what the page shows -/

/-- The held registers of page `p` as they stand in `s`, added to what other frozen pages hold. -/
def heldNow (s : State) (p : PageRef) : Sparse Word :=
  (heldRegs p).foldl (fun m e => put 0 m (p.addr + e.1) (liveReg s p e.1 &&& e.2)) s.frozen

/-- FREEZE set on a page whose FREEZE is 0 holds its registers, with PAGE_STATUS as the set FREEZE shows it. -/
theorem setFreeze_on {s : State} {p : PageRef} (h : (s.hdr p).freeze = false) :
    setFreeze p true s =
      let t := statusWord (s.modHdr p (fun h => { h with freeze := true })) p
      { t.2 with frozen := put 0 (heldNow s p) (p.addr + 0x0C) t.1 } := by
  rw [setFreeze, if_neg (by simp [h])]
  rfl

/-- FREEZE reaches the headers, the held registers, what the package sends, and the count of free values. -/
theorem setFreeze_frame {s : State} {p : PageRef} (h : (s.hdr p).freeze = false) :
    ∃ hdrs out frozen free, setFreeze p true s = { s with hdrs := hdrs, out := out, frozen := frozen, free := free } := by
  rw [setFreeze_on h, modHdr_frame]
  exact ⟨_, _, _, _, rfl⟩

theorem setFreeze_hdr {s : State} {p : PageRef} (h : (s.hdr p).freeze = false) :
    (setFreeze p true s).hdr p = { s.hdr p with freeze := true } := by
  rw [setFreeze_on h]
  exact (modHdr_hdr s p p _).trans (if_pos rfl)

/-- A run of writes at distinct offsets reads back as written. -/
theorem look_foldl_put (a : Nat) (g : Nat × Word → Word) (l : List (Nat × Word)) (hl : (l.map Prod.fst).Nodup) (m : Sparse Word)
    (j : Nat) : look 0 (l.foldl (fun m e => put 0 m (a + e.1) (g e)) m) (a + j) =
      (l.find? (fun e => e.1 = j)).elim (look 0 m (a + j)) g := by
  induction l generalizing m with
  | nil => rfl
  | cons e l ih =>
    obtain ⟨hnot, hl⟩ := List.nodup_cons.mp hl
    rw [List.foldl_cons, ih hl, List.find?_cons]
    by_cases hj : e.1 = j
    · have hnone : l.find? (fun e => e.1 = j) = none := by
        refine List.find?_eq_none.mpr fun x hx hxj => hnot ?_
        exact List.mem_map.mpr ⟨x, hx, (of_decide_eq_true hxj).trans hj.symm⟩
      simp [hj, hnone]
    · have hj' : ¬ j = e.1 := fun h => hj h.symm
      simp [hj, hj']

/-- FREEZE holds no register twice. -/
theorem heldRegs_nodup (p : PageRef) : ((heldRegs p).map Prod.fst).Nodup := by
  cases p <;> exact of_decide_eq_true rfl

/-- A held register is found by its offset, which is not that of PAGE_STATUS. -/
theorem heldRegs_find (p : PageRef) : ∀ e ∈ heldRegs p, (heldRegs p).find? (fun x => x.1 = e.1) = some e ∧ e.1 ≠ 0x0C := by
  cases p <;> exact of_decide_eq_true rfl

theorem heldBits_of_mem {p : PageRef} {e : Nat × Word} (he : e ∈ heldRegs p) : heldBits p e.1 = e.2 := by
  obtain ⟨hfind, hne⟩ := heldRegs_find p e he
  rw [heldBits, if_neg hne, hfind]
  rfl

/-- Page `p` is frozen in `t`, and its held registers are as they stood in `s`. -/
def FrozenAs (s t : State) (p : PageRef) : Prop :=
  (t.hdr p).freeze = true ∧ (t.hdr p).intRaw = (s.hdr p).intRaw ∧ pageSeen t p = true ∧
  ∀ e ∈ heldRegs p, look 0 t.frozen (p.addr + e.1) = liveReg s p e.1 &&& e.2

theorem frozenAs_setFreeze {s : State} {p : PageRef} (ha : pageAnswers s p = true) (h : (s.hdr p).freeze = false) :
    FrozenAs s (setFreeze p true s) p := by
  refine ⟨by rw [setFreeze_hdr h], by rw [setFreeze_hdr h], ?_, fun e he => ?_⟩
  · obtain ⟨_, _, _, _, hframe⟩ := setFreeze_frame h
    have hs : pageSeen s p = true := by simp [pageSeen, ha]
    rw [hframe]
    exact hs
  · obtain ⟨hfind, hne⟩ := heldRegs_find p e he
    rw [setFreeze_on h, look_put, if_neg (by omega), heldNow, look_foldl_put _ _ _ (heldRegs_nodup p), hfind]
    rfl

/-- A read of a held register gives what is held, in the bits that are held, and clears nothing where all are (R72). -/
theorem FrozenAs.readReg {s t : State} {p : PageRef} (h : FrozenAs s t p) (hp : p.exists = true) {e : Nat × Word}
    (he : e ∈ heldRegs p) : (readReg t p e.1).1 &&& e.2 = liveReg s p e.1 &&& e.2 ∧
      (e.2 = BitVec.allOnes 32 → (readReg t p e.1).2 = t) := by
  obtain ⟨hfreeze, -, hseen, hheld⟩ := h
  obtain ⟨-, hne⟩ := heldRegs_find p e he
  by_cases hm : e.2 = BitVec.allOnes 32
  · have hr : Machine.readReg t p e.1 = (liveReg s p e.1 &&& e.2, t) := by
      simp only [Machine.readReg, hp, hseen, hfreeze, heldBits_of_mem he, hm, hheld e he, Bool.not_true, Bool.false_eq_true,
        if_true, if_false]
    rw [hr]
    exact ⟨by rw [BitVec.and_assoc, BitVec.and_self], fun _ => rfl⟩
  · have hr : (Machine.readReg t p e.1).1 = (liveReg s p e.1 &&& e.2 &&& e.2) ||| (liveReg t p e.1 &&& ~~~ e.2) := by
      simp only [Machine.readReg, hp, hseen, hfreeze, heldBits_of_mem he, hm, hne, hheld e he, Bool.not_true, Bool.false_eq_true,
        if_true, if_false]
    refine ⟨?_, fun h => absurd h hm⟩
    rw [hr]
    ext i
    simp only [BitVec.getElem_and, BitVec.getElem_or, BitVec.getElem_not]
    cases e.2[i] <;> simp

/-- A read of PAGE_STATUS of a frozen page changes nothing, not even the count of free values. -/
theorem FrozenAs.readStatus {s t : State} {p : PageRef} (h : FrozenAs s t p) (hp : p.exists = true) :
    (Machine.readReg t p 0x0C).2 = t := by
  obtain ⟨hfreeze, -, hseen, -⟩ := h
  simp [Machine.readReg, hp, hseen, hfreeze, heldBits]

/-! ### What a write of a queue's ENABLE leaves of its frozen page -/

/-- What `FrozenAs` looks at for queue page `k`: its header, the held registers, and what tells whether its die answers. -/
def queueView (k : Nat) (s : State) : PageHdr × Sparse Word × PowerSt × Sparse NetSt × ArbSt :=
  (s.hdr (.queue k), s.frozen, s.power, s.nets, s.arb)

theorem FrozenAs.of_queueView {s t u : State} {k : Nat} (h : FrozenAs s t (.queue k)) (hv : queueView k u = queueView k t) :
    FrozenAs s u (.queue k) := by
  simp only [queueView, Prod.mk.injEq] at hv
  obtain ⟨hhdr, hfrozen, hpower, hnets, harb⟩ := hv
  have hseen : pageSeen u (.queue k) = pageSeen t (.queue k) := by
    simp only [pageSeen, aoPage, ledgerHeld, pageAnswers, pageOn, PageRef.die]
    unfold dieOn hubOn State.net
    rw [hpower, hnets, harb]
    simp
  simpa only [FrozenAs, hhdr, hfrozen, hseen] using h

theorem modQueue_queueView (k q : Nat) (f : QueueSt → QueueSt) (s : State) : queueView k (s.modQueue q f) = queueView k s := rfl

/-- The page of a tenant the package has is no queue's page, so the end of its drain leaves queue pages alone. -/
theorem drainCheck_queueView {k n : Nat} (hn : n < 32) (s : State) : queueView k (drainCheck s n) = queueView k s := by
  have htenant : (PageRef.queue k).addr ≠ (PageRef.tenant n).addr := by simp only [PageRef.addr]; omega
  have hevent : (PageRef.queue k).addr ≠ PageRef.event.addr := by simp only [PageRef.addr]; omega
  unfold drainCheck
  dsimp only
  split
  · simp [queueView, htenant, logEvent_hdr _ _ _ _ _ _ hevent]
  · rfl

theorem dropRead_queueView {k q : Nat} {s : State} (hd : ∀ e ∈ s.host.fetchDrains, e.1 < 32) :
    queueView k (dropRead s q) = queueView k s := by
  unfold dropRead readChecks
  split
  · refine (forEach_keeps (queueView k) _ _ (fun t n hn => drainCheck_queueView ?_ t) _).trans rfl
    obtain ⟨e, he, rfl⟩ := List.mem_map.mp hn
    exact hd e he
  · rfl

theorem disableQueue_queueView {k : Nat} {s : State} (hd : ∀ e ∈ s.host.fetchDrains, e.1 < 32) (hq : queueCmds s k = []) :
    queueView k (disableQueue s k) = queueView k s := by
  have hdiscard : discardQueue s k = s := by rw [discardQueue, hq]; rfl
  rw [disableQueue, hdiscard, ite_self]
  exact (modQueue_queueView k k _ _).trans (dropRead_queueView hd)

/-! ### PAGE_FREEZE -/

/-- An accepted write of PAGE_CTRL that sets FREEZE and leaves ENABLE as it is sets FREEZE; on a QUEUE page it is then also the
write of an ENABLE. -/
theorem writePageCtrl_freeze {p : PageRef} {w : RegWrite} {s : State} (h : writeOk s p w = true)
    (hen : (∃ n, p = .net n ∨ p = .queue n ∨ p = .port n) → (w.merged (pageCtrl s p)).getLsbD 0 = enableBit s p)
    (hport : ∀ q, p = .port q → (s.port q).st ≠ .failed) (hqueue : ∀ q, p = .queue q → queueCmds s q = [])
    (hon : (w.merged (pageCtrl s p)).getLsbD 1 = true) :
    (writePageCtrl p w s).1 = setFreeze p true s ∨
    ∃ k, p = .queue k ∧ ((writePageCtrl p w s).1 = disableQueue (setFreeze p true s) k ∨
      (writePageCtrl p w s).1 = enableQueue (setFreeze p true s) k) := by
  cases p
  case net n =>
    have hsame := hen ⟨n, .inl rfl⟩
    refine .inl ?_
    rw [writePageCtrl, hon, guarded_ok s _ _ w _ _ h (by rw [hsame]; simp [Checks.pass])]
  case port q =>
    have hsame := hen ⟨q, .inr (.inr rfl)⟩
    simp only [pageCtrl, enableBit] at hsame hon
    refine .inl ?_
    simp only [writePageCtrl, writePortEnable, hsame, hon]
    rw [guarded_ok s _ _ w _ _ h (by simp [Checks.pass, hport q rfl])]
    simp [hport q rfl]
  case queue k =>
    have hk : isAdm k = false := by
      obtain ⟨-, he, -⟩ := (writeOk_iff s _ w).mp h
      simpa [isAdm, PageRef.exists] using he
    have hpage : queuePage k = .queue k := by simp [queuePage, hk]
    have hcmds := hqueue k rfl
    simp only [pageCtrl, enableBit] at hon
    simp only [writePageCtrl, writeQueueEnable, hpage, hon, hk, hcmds]
    rw [guarded_ok s _ _ w _ _ h (by simp [Checks.pass])]
    dsimp only
    split
    · exact .inr ⟨k, rfl, .inl rfl⟩
    · split
      · exact .inr ⟨k, rfl, .inr rfl⟩
      · exact .inl rfl
  all_goals
    refine .inl ?_
    change (guarded s _ 0x08 w {} (setFreeze _ ((w.merged (pageCtrl s _)).getLsbD 1))).1 = _
    rw [hon, guarded_ok s _ _ w _ _ h rfl]

/-- FREEZE holds a page's status and counter registers and reading them clears nothing (R72), in every state whose drains that wait
for a descriptor read are of tenants the package has. -/
theorem pageFreeze_holds {p : PageRef} {w : RegWrite} {s : State} (h : writeOk s p w = true)
    (hen : (∃ n, p = .net n ∨ p = .queue n ∨ p = .port n) → (w.merged (pageCtrl s p)).getLsbD 0 = enableBit s p)
    (hport : ∀ q, p = .port q → (s.port q).st ≠ .failed) (hqueue : ∀ q, p = .queue q → queueCmds s q = [])
    (hfreeze : (s.hdr p).freeze = false) (hon : (w.merged (pageCtrl s p)).getLsbD 1 = true)
    (hdrains : ∀ e ∈ s.host.fetchDrains, e.1 < 32) : Answers (.pageFreeze p w) s fun t =>
      (t.hdr p).freeze = true ∧ (t.hdr p).intRaw = (s.hdr p).intRaw ∧ (readReg t p 0x0C).2 = t ∧
      ∀ e ∈ heldRegs p, (readReg t p e.1).1 &&& e.2 = liveReg s p e.1 &&& e.2 ∧
        (e.2 = BitVec.allOnes 32 → (readReg t p e.1).2 = t) := by
  obtain ⟨-, he, ha, -⟩ := (writeOk_iff s p w).mp h
  have hexec : exec (.pageFreeze p w) s = .next (writePageCtrl p w s).1 := by
    have hw : exec (.pageFreeze p w) s = .next (writeReg p 0x08 w s).1 := rfl
    rw [hw]
    simp [writeReg, he]
  have hset := frozenAs_setFreeze ha hfreeze
  have hfrozen : FrozenAs s (writePageCtrl p w s).1 p := by
    obtain heq | ⟨k, rfl, heq | heq⟩ := writePageCtrl_freeze h hen hport hqueue hon <;> rw [heq]
    · exact hset
    · obtain ⟨_, _, _, _, hframe⟩ := setFreeze_frame hfreeze
      have hhost : (setFreeze (.queue k) true s).host = s.host := by rw [hframe]
      have hcmds : queueCmds (setFreeze (.queue k) true s) k = [] := by
        rw [queueCmds, slotList, hhost]
        exact hqueue k rfl
      exact hset.of_queueView (disableQueue_queueView (by rwa [hhost]) hcmds)
    · exact hset.of_queueView (modQueue_queueView k k _ _)
  have ⟨hfreezeSet, hraw, _⟩ := hfrozen
  exact ⟨_, hexec, hfreezeSet, hraw, hfrozen.readStatus he, fun e hm => hfrozen.readReg he hm⟩

/-! ### Clearing reads of ERR_COUNT -/

/-- A read of ERR_COUNT of a page that is not frozen gives it and clears it. -/
theorem readReg_errCount {s : State} {p : PageRef} (he : p.exists = true) (ha : pageAnswers s p = true)
    (hf : (s.hdr p).freeze = false) :
    readReg s p 0x20 = (w32 (s.hdr p).errCount, s.modHdr p (fun h => { h with errCount := 0 })) := by
  have hs : pageSeen s p = true := by simp [pageSeen, ha]
  have hall : w32 (s.hdr p).errCount &&& BitVec.allOnes 32 = w32 (s.hdr p).errCount := BitVec.and_allOnes
  simpa [readReg, he, hs, hf, liveReg, readEffect] using hall

/-- A read of ERR_COUNT returns it and clears it, but for an increment in the same cycle (R73, R80). -/
theorem clearingRead_errCount {m : Master} {p : PageRef} {together : Bool} {s : State} (hr : isReady s = true)
    (hm : canReach m p = true) (he : p.exists = true) (ha : pageAnswers s p = true) (hf : (s.hdr p).freeze = false) :
    Answers (.clearingRead m p 0x20 together) s fun t =>
      t.out.getLast? = some (.readData (w32 (s.hdr p).errCount)) ∧ (t.hdr p).errCount = b2n together ∧
      (t.hdr p).lastRefusal = (s.hdr p).lastRefusal := by
  have hx : exec (.clearingRead m p 0x20 together) s = execClearingRead m p 0x20 together s := rfl
  have hs : pageSeen s p = true := by simp [pageSeen, ha]
  refine ⟨_, by simp only [hx, execClearingRead, hr, hm, readReg_errCount he ha hf]; rfl, ?_⟩
  cases together <;> simp [he, hs, hf, b2n]

/-- Before the device is ready the host's read is answered Unsupported Request (R48). -/
theorem clearingRead_not_ready {p : PageRef} {off : Nat} {together : Bool} {s : State} (hr : isReady s = false)
    (hl : ledgerHeld s p = false) : exec (.clearingRead .host p off together) s =
      .next (emit s (.unsupported (writtenAddr p (off / 4 * 4) .host))) := by
  have hx : exec (.clearingRead .host p off together) s = execClearingRead .host p off together s := rfl
  simp [hx, execClearingRead, hr, hl]

/-! ### A state in which the statement fails -/

/-- A ready device whose hub reads a descriptor for queue 0, which is not enabled, while a drain of a tenant 244 waits for it. -/
def strayDrain : State :=
  { State.reset with
    ao := { vsb := true, vin := true, vhbm := true, aoLock := true, perst := false, l0 := true }
    power := { stage := .ready }
    nets := [(18, { st := .on })]
    tenants := [(244, { go := true })]
    host := { fetching := some 0, fetchDrains := [(244, false)] } }

/-- FREEZE = 1 and ENABLE = 0, written by the host. -/
def freezeWrite : RegWrite := { master := .host, value := 2, be := 15 }

/-- INT_RAW of a page in the state that a command answers. -/
def rawAfter (o : Host.Outcome State Fault Refusal) (p : PageRef) : Option Word :=
  match o with
  | .next t => some (t.hdr p).intRaw
  | _ => none

/-- Refutes O18: the write of ENABLE = 0 drops the read of queue 0, the drain of tenant 244 ends, and its cause shows in INT_RAW of
queue page 0, whose address is also that of the page of a tenant 244. -/
theorem not_freezeAndClearingReads : ¬ Obligations.FreezeAndClearingReads := by
  unfold Obligations.FreezeAndClearingReads
  rintro ⟨hfreeze, -⟩
  obtain ⟨t, ht, -, hraw, -⟩ := hfreeze (.queue 0) freezeWrite strayDrain (by decide +kernel) (fun _ => by decide +kernel) nofun
    (by rintro q ⟨⟩; rfl) rfl (by decide +kernel)
  have hbit : rawAfter (exec (.pageFreeze (.queue 0) freezeWrite) strayDrain) (.queue 0) = some 4 := by decide +kernel
  rw [ht, rawAfter, hraw] at hbit
  exact absurd hbit (by decide)

end Sys2Proof.Machine
end

section
/-!
SUPPORT. Chapter 04, TAKE: the judgement of a write that comes in the wrong state, and a TAKE that is refused.
-/
namespace Sys2Proof.Machine
open Sys2Proof

/-- An owner's write in the wrong state alone is refused with WRONG_STATE (Table 3.4). -/
theorem judge_wrongState {s : State} {p : PageRef} {w : RegWrite} (h : writeOk s p w = true) :
    judge s p w { wrongState := true } = .wrongState := by
  obtain ⟨-, -, -, hm, ho, -⟩ := (writeOk_iff s p w).mp h
  simp [judge, hm, ho]

/-- TAKE is the judged write of SNAP_CTRL, which captures into the buffer it names and may not find it busy (Table 4.13). -/
theorem exec_take {w : RegWrite} (htake : w.value.getLsbD 0 = true) (s : State) :
    exec (.take w) s =
      .next (guarded s .ledger 0x4C w
        { outOfRange := !w.full, wrongState := (snapOf s (fld w.value.toNat 4 1)).busy }
        (fun s => capture s (fld w.value.toNat 4 1))).1 := by
  have hx : exec (.take w) s = .next (writeSnapCtrl w s).1 := rfl
  simp only [hx, writeSnapCtrl, htake, Bool.true_and, ↓reduceIte]

/-- Settles O23: the busy buffer is the one check that fails, so the write is the record of its refusal, which leaves the
ledgers' state alone. -/
theorem takeOfBusyBufferRefused : Obligations.TakeOfBusyBufferRefused := by
  unfold Obligations.TakeOfBusyBufferRefused
  intro w s h hfull htake hbusy
  obtain ⟨hr, he, ha, -⟩ := (writeOk_iff s .ledger w).mp h
  have hj : judge s .ledger w { outOfRange := !w.full, wrongState := (snapOf s (fld w.value.toNat 4 1)).busy } = .wrongState := by
    simpa [hfull, hbusy] using judge_wrongState h
  refine ⟨_, exec_take htake s, ?_⟩
  rw [guarded_refused hr he ha hj (by decide)]
  exact ⟨recordRefusal_ledger .., by simp [RefCode.num]⟩

end Sys2Proof.Machine
end

section
/-!
SUPPORT. Chapter 11, the mesh and the tallies: packet headers, the rows of the credit and tally ledgers, deliveries and arrivals, the
wake of waits, the write of VALUE, the release of queues, and the end of a command whose queues are released.
-/
namespace Sys2Proof.Machine
open Sys2Proof

/-! ### The header of a message and its metadata (Table 11.1, R346) -/

theorem leBytes_succ (n v : Nat) : leBytes (n + 1) v = BitVec.ofNat 8 v :: leBytes n (v / 256) := by
  simp only [leBytes, List.range_succ_eq_map, List.map_cons, List.map_map]
  congr 1
  · simp
  · refine List.map_congr_left fun k _ => ?_
    rw [Function.comp, Nat.div_div_eq_div_mul, Nat.mul_succ, Nat.pow_add, Nat.mul_comm]

/-- Little-endian bytes spell the number they were made of, modulo what they hold. -/
theorem leNat_leBytes_append (n v : Nat) (l : List Byte) :
    leNat (leBytes n v ++ l) = v % 256 ^ n + 256 ^ n * leNat l := by
  induction n generalizing v with
  | zero => simp [leBytes, Nat.mod_one]
  | succ n ih =>
    have hsplit : v % 256 ^ (n + 1) = v % 256 + 256 * (v / 256 % 256 ^ n) := by rw [Nat.pow_succ', Nat.mod_mul]
    rw [leBytes_succ, List.cons_append, leNat, ih, BitVec.toNat_ofNat, hsplit]
    ring

/-- The metadata of a queue entry: source, valid bytes less 1, tag (R346). -/
theorem metaOf_msgHeader {m : Msg} (hsrc : m.src < 512) (hlen : m.len ≤ 64) :
    metaOf (msgHeader m) = m.src + (m.len - 1) * 512 + m.tag.toNat * 65536 := by
  have htag := m.tag.isLt
  have hsource : ∃ l, (msgHeader m).drop 2 = leBytes 2 (m.src + m.tenant * 512) ++ l := ⟨_, rfl⟩
  have hvalid : ∃ l, (msgHeader m).drop 4 = leBytes 1 (m.len - 1) ++ l := ⟨_, rfl⟩
  have htags : ∃ l, (msgHeader m).drop 6 = leBytes 2 m.tag.toNat ++ l := ⟨_, rfl⟩
  obtain ⟨l₁, h₁⟩ := hsource
  obtain ⟨l₂, h₂⟩ := hvalid
  obtain ⟨l₃, h₃⟩ := htags
  simp only [metaOf, h₁, h₂, h₃, leNat_leBytes_append, fld]
  omega

/-! ### The rows of the credit and tally ledgers (R113) -/

theorem modCred_frame (s : State) (t : Nat) (f : CredRow → CredRow) :
    modCred s t f = { s with ledgers := (modCred s t f).ledgers } := by
  unfold modCred
  split <;> rfl

theorem modTally_frame (s : State) (t : Nat) (f : TallyRow → TallyRow) :
    modTally s t f = { s with ledgers := (modTally s t f).ledgers } := by
  unfold modTally
  split <;> rfl

@[simp] theorem modCred_grid (s : State) (t : Nat) (f : CredRow → CredRow) : (modCred s t f).grid = s.grid := by rw [modCred_frame]
@[simp] theorem modCred_cores (s : State) (t : Nat) (f : CredRow → CredRow) : (modCred s t f).cores = s.cores := by rw [modCred_frame]
@[simp] theorem modCred_core (s : State) (t n : Nat) (f : CredRow → CredRow) : (modCred s t f).core n = s.core n := by
  rw [modCred_frame]; rfl
@[simp] theorem modCred_host (s : State) (t : Nat) (f : CredRow → CredRow) : (modCred s t f).host = s.host := by rw [modCred_frame]
@[simp] theorem modTally_grid (s : State) (t : Nat) (f : TallyRow → TallyRow) : (modTally s t f).grid = s.grid := by rw [modTally_frame]
@[simp] theorem modTally_core (s : State) (t n : Nat) (f : TallyRow → TallyRow) : (modTally s t f).core n = s.core n := by
  rw [modTally_frame]; rfl
@[simp] theorem modTally_tile (s : State) (t n : Nat) (f : TallyRow → TallyRow) : (modTally s t f).tile n = s.tile n := by
  rw [modTally_frame]; rfl

/-- While the columns count, a movement reaches its row. -/
theorem modCred_row {s : State} (h : counting s = true) (t : Nat) (f : CredRow → CredRow) :
    look {} (modCred s t f).ledgers.cred t = f (look {} s.ledgers.cred t) := by
  simp [modCred, h, modAt]

theorem modTally_row {s : State} (h : counting s = true) (t : Nat) (f : TallyRow → TallyRow) :
    look {} (modTally s t f).ledgers.tally t = f (look {} s.ledgers.tally t) := by
  simp [modTally, h, modAt]

/-! ### Messages (R343, R346, R349) -/

/-- The queue entry of message `m` in its receiver's local store, and its place counted. -/
def enqueue (x : CoreSt) (m : Msg) : CoreSt :=
  let r := queueOf x m.q
  let k := (r.head + r.count) % r.depth
  { x with
    ls := putList 0 (putList 0 x.ls (r.base + 64 * k) (leBytes 64 m.data.toNat)) (r.meta_ + 8 * k) (leBytes 8 (metaOf (msgHeader m)))
    queues := put emptyQueue x.queues m.q { r with count := r.count + 1 } }

/-- A delivery takes the message off the mesh, writes its entry, and moves its credit. -/
theorem exec_messageDelivered {a b : Nat} {s : State} {m : Msg} (hm : s.grid.msgs.find? (fun m => m.src = a && m.dst = b) = some m)
    (hclear : pathClear s a b m.id = true) :
    ∃ t, exec (.messageDelivered a b) s = .next (modCred t (b / 64) (fun r => { r with inFlight := r.inFlight - 1, queued := r.queued + 1 })) ∧
      t.grid = { s.grid with msgs := s.grid.msgs.erase m } ∧ (∀ j, t.core j = if j = b then enqueue (s.core b) m else s.core j) ∧
      t.ledgers = s.ledgers ∧ counting t = counting s := by
  have hx : exec (.messageDelivered a b) s = execMessageDelivered a b s := rfl
  simp only [hx, execMessageDelivered, hm, hclear]
  refine ⟨_, rfl, rfl, fun j => ?_, rfl, rfl⟩
  by_cases hj : j = b
  · simp only [modQueueOf, State.modCore_eq, State.setCore_core, hj, if_true]
    rfl
  · simp only [modQueueOf, State.modCore_eq, State.setCore_core, hj, if_false]
    rfl

/-- The entry holds the source of the message, its valid bytes less 1 and its tag, beside its data (R346). -/
theorem messageDelivered_enqueues {a b : Nat} {s : State} {m : Msg} {x : RQueue} {k : Nat}
    (hm : s.grid.msgs.find? (fun m => m.src = a && m.dst = b) = some m) (hclear : pathClear s a b m.id = true) (ha : a < 512)
    (hlen : m.len ≤ 64) (hx : x = queueOf (s.core b) m.q) (hk : k = (x.head + x.count) % x.depth) :
    Answers (.messageDelivered a b) s fun t =>
      t.core b = { s.core b with
        ls := putList 0 (putList 0 (s.core b).ls (x.base + 64 * k) (leBytes 64 m.data.toNat)) (x.meta_ + 8 * k)
                (leBytes 8 (a + (m.len - 1) * 512 + m.tag.toNat * 65536)),
        queues := put emptyQueue (s.core b).queues m.q { x with count := x.count + 1 } } ∧
      t.grid = { s.grid with msgs := s.grid.msgs.erase m } ∧ (∀ j, j ≠ b → t.core j = s.core j) ∧
      (counting s = true → ∀ r : CredRow, r = look {} s.ledgers.cred (b / 64) →
        look {} t.ledgers.cred (b / 64) = { r with inFlight := r.inFlight - 1, queued := r.queued + 1 }) := by
  obtain ⟨u, hexec, hgrid, hcore, hledgers, hcount⟩ := exec_messageDelivered hm hclear
  have hends := List.find?_some hm
  simp only [Bool.and_eq_true, decide_eq_true_eq] at hends
  obtain ⟨rfl, -⟩ := hends
  refine ⟨_, hexec, ?_, by rw [modCred_grid, hgrid], fun j hj => by rw [modCred_core, hcore, if_neg hj], ?_⟩
  · rw [modCred_core, hcore, if_pos rfl, ← metaOf_msgHeader ha hlen, hk, hx]
    rfl
  · rintro hs r rfl
    rw [modCred_row (hcount.trans hs), hledgers]

/-! ### Credits (R348, R349, R370) -/

/-- Credits of a command that has ended are discarded (R370). -/
theorem creditArrives_ended {s : State} {p : CredPkt} (hlive : p.live = false) : creditArrives s p = s := by
  simp [creditArrives, hlive]

/-- Live credits whose sender is not lost come to its hands, and go from RETURNING to SENDER_HELD (R348, R349). -/
theorem creditArrives_live {s : State} {p : CredPkt} (hlive : p.live = true) (hlost : (s.core p.sender).st ≠ .lost)
    (hs : counting s = true) :
    heldCred (creditArrives s p) p.sender p.rcv p.q = heldCred s p.sender p.rcv p.q + p.n ∧ (creditArrives s p).cores = s.cores ∧
    ∀ r : CredRow, r = look {} s.ledgers.cred (p.rcv / 64) →
      look {} (creditArrives s p).ledgers.cred (p.rcv / 64) =
        { r with returning := r.returning - p.n, senderHeld := r.senderHeld + p.n } := by
  have h : creditArrives s p = modCred (setCred s p.sender p.rcv p.q (heldCred s p.sender p.rcv p.q + p.n)) (p.rcv / 64)
      (fun r => { r with returning := r.returning - p.n, senderHeld := r.senderHeld + p.n }) := by
    simp [creditArrives, hlive, hlost]
  rw [h]
  refine ⟨by simp [heldCred, setCred], by rw [modCred_cores]; rfl, ?_⟩
  rintro r rfl
  exact modCred_row (s := setCred s _ _ _ _) hs _ _

theorem creditArrives_grid (s : State) (p : CredPkt) :
    (creditArrives s p).grid = { s.grid with credits := (creditArrives s p).grid.credits } := by
  unfold creditArrives
  split
  · rfl
  · rw [modCred_grid]; rfl

/-- The arrivals of credits, each with the packets of its kind. -/
def IsArrival (e : Nat → Nat → Nat → Instr) (l : State → List CredPkt) : Prop :=
  (e = Instr.creditGrantArrival ∧ l = fun s => s.grid.grants) ∨ (e = Instr.creditReturnArrival ∧ l = fun s => s.grid.returns)

/-- An arrival takes its packet off the mesh, and its credits arrive. -/
theorem exec_arrival {e : Nat → Nat → Nat → Instr} {l : State → List CredPkt} (h : IsArrival e l) {rcv q n : Nat} {s : State}
    {p : CredPkt} (hp : (l s).find? (fun p => p.rcv = rcv && p.q = q && p.sender = n) = some p)
    (hclear : pathClear s rcv n p.id = true) :
    ∃ u, exec (e rcv q n) s = .next (creditArrives u p) ∧ l (creditArrives u p) = (l s).erase p ∧
      u.grid.credits = s.grid.credits ∧ u.cores = s.cores ∧ u.ledgers = s.ledgers ∧ counting u = counting s := by
  obtain ⟨rfl, rfl⟩ | ⟨rfl, rfl⟩ := h
  · have hx : exec (.creditGrantArrival rcv q n) s = execCreditGrantArrival rcv q n s := rfl
    simp only [hx, execCreditGrantArrival, hp, hclear]
    exact ⟨_, rfl, by rw [creditArrives_grid], rfl, rfl, rfl, rfl⟩
  · have hx : exec (.creditReturnArrival rcv q n) s = execCreditReturnArrival rcv q n s := rfl
    simp only [hx, execCreditReturnArrival, hp, hclear]
    exact ⟨_, rfl, by rw [creditArrives_grid], rfl, rfl, rfl, rfl⟩

theorem arrival_reaches_or_is_discarded {e : Nat → Nat → Nat → Instr} {l : State → List CredPkt} (h : IsArrival e l) {rcv q n : Nat}
    {s : State} {p : CredPkt} (hp : (l s).find? (fun p => p.rcv = rcv && p.q = q && p.sender = n) = some p)
    (hclear : pathClear s rcv n p.id = true) :
    (p.live = true → (s.core n).st ≠ .lost → counting s = true → Answers (e rcv q n) s fun t =>
      heldCred t n rcv q = heldCred s n rcv q + p.n ∧ l t = (l s).erase p ∧ t.cores = s.cores ∧
      ∀ r : CredRow, r = look {} s.ledgers.cred (rcv / 64) →
        look {} t.ledgers.cred (rcv / 64) = { r with returning := r.returning - p.n, senderHeld := r.senderHeld + p.n }) ∧
    (p.live = false → Answers (e rcv q n) s fun t =>
      l t = (l s).erase p ∧ t.grid.credits = s.grid.credits ∧ t.ledgers = s.ledgers ∧ t.cores = s.cores) := by
  obtain ⟨u, hexec, hlist, hcredits, hcores, hledgers, hcount⟩ := exec_arrival h hp hclear
  refine ⟨fun hlive hlost hs => ?_, fun hlive => ⟨_, hexec, hlist, ?_⟩⟩
  · have hnames := List.find?_some hp
    simp only [Bool.and_eq_true, decide_eq_true_eq] at hnames
    obtain ⟨⟨rfl, rfl⟩, rfl⟩ := hnames
    have hcore : u.core p.sender = s.core p.sender := by rw [State.core, hcores]; rfl
    obtain ⟨hheld, hkept, hrow⟩ := creditArrives_live hlive (by rwa [hcore]) (hcount.trans hs)
    refine ⟨_, hexec, ?_, hlist, hkept.trans hcores, fun r hr => hrow r (by rw [hr, hledgers])⟩
    rw [hheld, heldCred, hcredits]
    rfl
  · rw [creditArrives_ended hlive]
    exact ⟨hcredits, hledgers, hcores⟩

/-! ### Tallies (R351 to R355) -/

/-- A core after the wake of tally `y` at value `v`: its wait on the tally ends where `v` reaches the threshold (R353). -/
def woken (v : Word) (y : Nat) (x : CoreSt) : CoreSt :=
  if x.wait.any (fun w => w.1 = y && reached v w.2) then { x with wait := none } else x

/-- What the wake of tally `y` does to core `n`. -/
def wakeCore (y : Nat) (s : State) (n : Nat) : State :=
  match (s.core n).wait with
  | some w => if w.1 = y && reached (tallyVal s y) w.2 then s.modCore n (fun x => { x with wait := none }) else s
  | none => s

theorem wakeWaiters_eq (s : State) (y : Nat) : wakeWaiters s y = forEach (waiters s y) s (wakeCore y) := rfl

theorem wakeCore_frame (y : Nat) (s : State) (n : Nat) : wakeCore y s n = { s with cores := (wakeCore y s n).cores } := by
  unfold wakeCore
  split
  · split <;> rfl
  · rfl

theorem wakeCore_core (y : Nat) (s : State) (n j : Nat) :
    (wakeCore y s n).core j = if j = n then woken (tallyVal s y) y (s.core n) else s.core j := by
  by_cases hj : j = n
  · subst hj
    unfold wakeCore woken
    split
    · next w hw =>
      rw [hw, Option.any_some]
      split <;> simp
    · next hw => simp [hw]
  · unfold wakeCore
    split
    · split <;> simp [hj]
    · simp [hj]

theorem woken_woken (v : Word) (y : Nat) (x : CoreSt) : woken v y (woken v y x) = woken v y x := by
  by_cases h : x.wait.any (fun w => w.1 = y && reached v w.2) = true <;> simp [woken, h]

theorem woken_of_wait {v θ : Word} {y : Nat} {x : CoreSt} (h : x.wait = some (y, θ)) :
    (woken v y x).wait = if reached v θ then none else some (y, θ) := by
  unfold woken
  cases hr : reached v θ <;> simp [h, hr]

theorem woken_of_not_wait {v : Word} {y : Nat} {x : CoreSt} (h : ∀ θ, x.wait ≠ some (y, θ)) : woken v y x = x := by
  refine if_neg fun ha => ?_
  obtain ⟨⟨y', θ⟩, hw, hy⟩ := (Option.any_eq_true _ _).mp ha
  simp only [Bool.and_eq_true, decide_eq_true_eq] at hy
  exact h θ (by rw [hw, hy.1])

/-- A loop over steps that reach nothing but cores reaches nothing but cores. -/
theorem forEach_cores_frame {α : Type} {f : State → α → State} (hf : ∀ s a, f s a = { s with cores := (f s a).cores }) (l : List α)
    (s : State) : forEach l s f = { s with cores := (forEach l s f).cores } := by
  induction l generalizing s with
  | nil => rfl
  | cons a l ih => exact (ih (f s a)).trans (congrArg (fun u : State => { u with cores := (forEach l (f s a) f).cores }) (hf s a))

theorem wakeWaiters_frame (s : State) (y : Nat) : wakeWaiters s y = { s with cores := (wakeWaiters s y).cores } :=
  forEach_cores_frame (wakeCore_frame y) _ s

theorem forEach_wakeCore_core (y : Nat) (l : List Nat) (s : State) (j : Nat) :
    (forEach l s (wakeCore y)).core j = if j ∈ l then woken (tallyVal s y) y (s.core j) else s.core j := by
  induction l generalizing s with
  | nil => rfl
  | cons n l ih =>
    have hval : tallyVal (wakeCore y s n) y = tallyVal s y := by rw [wakeCore_frame]; rfl
    refine (ih (wakeCore y s n)).trans ?_
    rw [hval, wakeCore_core]
    by_cases hj : j = n
    · simp [hj, woken_woken]
    · simp [hj]

/-- A core with a wait on the tally is among those that the wake visits. -/
theorem mem_waiters {s : State} {n y : Nat} {θ : Word} (h : (s.core n).wait = some (y, θ)) : n ∈ waiters s y := by
  have hlisted : (n, s.core n) ∈ s.cores := by
    refine mem_of_look_ne {} s.cores n fun hd => ?_
    rw [State.core, hd] at h
    exact absurd h nofun
  exact List.mem_map.mpr ⟨_, List.mem_filter.mpr ⟨hlisted, by simp [h]⟩, rfl⟩

/-- The wake reaches every core as if it visited them all (R353). -/
theorem wakeWaiters_core (s : State) (y n : Nat) : (wakeWaiters s y).core n = woken (tallyVal s y) y (s.core n) := by
  rw [wakeWaiters_eq, forEach_wakeCore_core]
  split
  · rfl
  · next h => exact (woken_of_not_wait fun θ hθ => h (mem_waiters hθ)).symm

/-- Add `a` applied to its tally and moved in the ledger; a wrap is not yet counted, and no wait has ended. -/
def applied (s : State) (a : TallyAdd) : State :=
  modTally (setTally { s with grid := { s.grid with adds := s.grid.adds.erase a } } a.tally (w32 ((tallyVal s a.tally).toNat + a.amount)))
    (a.tally / 512) (fun r => { r with applied := r.applied + BitVec.ofNat 64 a.amount, inFlight := r.inFlight - a.amount })

/-- The count of a wrap of the tally that add `a` is for, with its event and cause (R354). -/
def countWrap (s : State) (a : TallyAdd) : State :=
  raise (logEvent (s.modTile (a.tally / 512) (fun x => { x with wraps := satInc x.wraps 0xFFFF })) 0x3004 1 (.tally (a.tally / 512))
    [a.tally, a.amount, a.core, 0]) (.tally (a.tally / 512)) 0

/-- Add `a` applied, and a wrap counted; no wait has ended. -/
def landAdd (s : State) (a : TallyAdd) : State :=
  if (tallyVal s a.tally).toNat + a.amount < 2 ^ 32 then applied s a else countWrap (applied s a) a

theorem exec_tallyAddApply {c y : Nat} {s : State} {a : TallyAdd}
    (ha : s.grid.adds.find? (fun a => a.core = c && a.tally = y) = some a) (hready : addReady s a = true) :
    exec (.tallyAddApply c y) s = .next (wakeWaiters (landAdd s a) y) := by
  have hnames := List.find?_some ha
  simp only [Bool.and_eq_true, decide_eq_true_eq] at hnames
  obtain ⟨rfl, rfl⟩ := hnames
  have hx : exec (.tallyAddApply a.core a.tally) s = execTallyAddApply a.core a.tally s := rfl
  simp only [hx, execTallyAddApply, ha, hready]
  rfl

theorem landAdd_grid (s : State) (a : TallyAdd) : (landAdd s a).grid = { s.grid with
    adds := s.grid.adds.erase a
    tallies := put 0 s.grid.tallies a.tally (w32 ((tallyVal s a.tally).toNat + a.amount)) } := by
  unfold landAdd
  split <;> simp [countWrap, applied, setTally]

theorem landAdd_tallyVal (s : State) (a : TallyAdd) (k : Nat) :
    tallyVal (landAdd s a) k = if k = a.tally then w32 ((tallyVal s a.tally).toNat + a.amount) else tallyVal s k := by
  rw [tallyVal, landAdd_grid]
  exact look_put ..

theorem applied_core (s : State) (a : TallyAdd) (n : Nat) : (applied s a).core n = s.core n := by
  rw [applied, modTally_core]
  rfl

theorem applied_tile (s : State) (a : TallyAdd) (n : Nat) : (applied s a).tile n = s.tile n := by
  rw [applied, modTally_tile]
  rfl

theorem landAdd_core (s : State) (a : TallyAdd) (n : Nat) : (landAdd s a).core n = s.core n := by
  unfold landAdd
  split <;> simp [countWrap, applied_core]

theorem landAdd_row {s : State} (h : counting s = true) (a : TallyAdd) (r : TallyRow)
    (hr : r = look {} s.ledgers.tally (a.tally / 512)) : look {} (landAdd s a).ledgers.tally (a.tally / 512) =
      { r with applied := r.applied + BitVec.ofNat 64 a.amount, inFlight := r.inFlight - a.amount } := by
  have hledgers : (landAdd s a).ledgers = (applied s a).ledgers := by
    unfold landAdd
    split <;> simp [countWrap]
  rw [hledgers, hr]
  exact modTally_row (s := setTally { s with grid := { s.grid with adds := s.grid.adds.erase a } } _ _) h _ _

/-- An add that passes 2^32 is counted in WRAPS and raises its cause (R354). -/
theorem landAdd_wraps {s : State} {a : TallyAdd} (h : 2 ^ 32 ≤ (tallyVal s a.tally).toNat + a.amount) :
    ((landAdd s a).tile (a.tally / 512)).wraps = satInc (s.tile (a.tally / 512)).wraps 0xFFFF ∧
      caused (landAdd s a) (.tally (a.tally / 512)) 0 = true := by
  have hland : landAdd s a = countWrap (applied s a) a := if_neg (by omega)
  rw [hland]
  exact ⟨by simp [countWrap, applied_tile], by simp [caused, countWrap, w32]⟩

theorem tallyAddApply_applies {c y : Nat} {s : State} {a : TallyAdd} {v : Nat}
    (ha : s.grid.adds.find? (fun a => a.core = c && a.tally = y) = some a) (hready : addReady s a = true)
    (hv : v = (tallyVal s y).toNat + a.amount) : Answers (.tallyAddApply c y) s fun t =>
      tallyVal t y = w32 v ∧ t.grid.adds = s.grid.adds.erase a ∧ (∀ k, k ≠ y → tallyVal t k = tallyVal s k) ∧
      (∀ n θ, (s.core n).wait = some (y, θ) → (t.core n).wait = (if reached (w32 v) θ then none else some (y, θ))) ∧
      (∀ n, (∀ θ, (s.core n).wait ≠ some (y, θ)) → t.core n = s.core n) ∧
      (2 ^ 32 ≤ v → (t.tile (y / 512)).wraps = satInc (s.tile (y / 512)).wraps 0xFFFF ∧ caused t (.tally (y / 512)) 0 = true) ∧
      (counting s = true → ∀ r : TallyRow, r = look {} s.ledgers.tally (y / 512) → look {} t.ledgers.tally (y / 512) =
        { r with applied := r.applied + BitVec.ofNat 64 a.amount, inFlight := r.inFlight - a.amount }) := by
  have hexec := exec_tallyAddApply ha hready
  have hnames := List.find?_some ha
  simp only [Bool.and_eq_true, decide_eq_true_eq] at hnames
  obtain ⟨-, rfl⟩ := hnames
  have hframe := wakeWaiters_frame (landAdd s a) a.tally
  have hval : ∀ k, tallyVal (wakeWaiters (landAdd s a) a.tally) k = if k = a.tally then w32 v else tallyVal s k := by
    rw [hframe, hv]
    exact landAdd_tallyVal s a
  have hcore : ∀ n, (wakeWaiters (landAdd s a) a.tally).core n = woken (w32 v) a.tally (s.core n) := fun n => by
    rw [wakeWaiters_core, landAdd_tallyVal, if_pos rfl, landAdd_core, hv]
  refine ⟨_, hexec, by rw [hval, if_pos rfl], by rw [hframe, landAdd_grid], fun k hk => by rw [hval, if_neg hk],
    fun n θ hw => by rw [hcore, woken_of_wait hw], fun n hw => by rw [hcore, woken_of_not_wait hw], fun hwrap => ?_, fun hs r hr => ?_⟩
  · rw [hframe]
    exact landAdd_wraps (hv ▸ hwrap)
  · rw [hframe]
    exact landAdd_row hs a r hr

/-! ### A write of VALUE (R355) -/

theorem exec_tallyValueWrite (k : Nat) (w : RegWrite) (s : State) :
    exec (.tallyValueWrite k w) s = .next (guarded s (.tally k) 0x44 w { wrongState := waiters s (512 * k + (s.tile k).tallySel) ≠ [] }
      (fun s' => setTally s' (512 * k + (s.tile k).tallySel) (w.merged (tallyVal s' (512 * k + (s.tile k).tallySel))))).1 := rfl

theorem tallyValueWrite_writes_or_is_refused {k : Nat} {w : RegWrite} {s : State} {y : Nat} (h : writeOk s (.tally k) w = true)
    (hy : y = 512 * k + (s.tile k).tallySel) :
    (waiters s y = [] → exec (.tallyValueWrite k w) s = .next (setTally s y (w.merged (tallyVal s y)))) ∧
    (waiters s y ≠ [] → Answers (.tallyValueWrite k w) s fun t =>
      t.grid = s.grid ∧ (t.hdr (.tally k)).lastRefusal = word [(0, 0x02), (8, 0x44), (24, w.master.num)]) := by
  subst hy
  refine ⟨fun hnone => ?_, fun hsome => ⟨_, exec_tallyValueWrite k w s, ?_⟩⟩
  · rw [exec_tallyValueWrite, guarded_ok s _ _ w _ _ h (by simp [Checks.pass, hnone])]
  · obtain ⟨hr, he, ha, -⟩ := (writeOk_iff s _ w).mp h
    rw [guarded_refused (r := .wrongState) hr he ha (by simpa [hsome] using judge_wrongState h) (by decide)]
    simp [RefCode.num]

/-! ### The release of queues (R350) -/

theorem dropQueue_host (s : State) (rcv q off : Nat) : (dropQueue s rcv q off).host = s.host := by
  simp [dropQueue, modQueueOf]

theorem dropQueue_core (s : State) (rcv q off : Nat) : (dropQueue s rcv q off).core rcv =
    { s.core rcv with queues := put emptyQueue (s.core rcv).queues q emptyQueue } := by
  rw [dropQueue, modQueueOf, State.modCore_eq, State.setCore_core, if_pos rfl]
  exact congrArg (fun x : CoreSt => { x with queues := put emptyQueue x.queues q emptyQueue }) (modCred_core s (rcv / 64) rcv _)

theorem dropQueue_queueOf (s : State) (rcv q off p : Nat) :
    queueOf ((dropQueue s rcv q off).core rcv) p = if p = q then emptyQueue else queueOf (s.core rcv) p := by
  rw [dropQueue_core]
  exact look_put emptyQueue (s.core rcv).queues q p emptyQueue

theorem releaseQueues_host (s : State) (cs : List Nat) : (releaseQueues s cs).host = s.host :=
  forEach_keeps State.host cs _ (fun s n _ => forEach_keeps State.host (ownQueues s n) _ (fun s q _ => dropQueue_host s n q 0) s) s

/-- The queues of a list are released one by one, and every other queue of the core stays. -/
theorem forEach_dropQueue_queueOf (l : List Nat) (s : State) (n p : Nat) :
    queueOf ((forEach l s (fun s q => dropQueue s n q 0)).core n) p = if p ∈ l then emptyQueue else queueOf (s.core n) p := by
  induction l generalizing s with
  | nil => rfl
  | cons q l ih =>
    refine (ih (dropQueue s n q 0)).trans ?_
    rw [dropQueue_queueOf]
    by_cases hp : p = q <;> simp [hp]

theorem mem_ownQueues {s : State} {n p : Nat} (h : queueOf (s.core n) p ≠ emptyQueue) : p ∈ ownQueues s n :=
  List.mem_map.mpr ⟨_, mem_of_look_ne emptyQueue (s.core n).queues p h, rfl⟩

/-- After the release of a core's queues none of them is configured. -/
theorem releaseQueues_queueOf (s : State) (n p : Nat) : queueOf ((releaseQueues s [n]).core n) p = emptyQueue := by
  refine (forEach_dropQueue_queueOf (ownQueues s n) s n p).trans ?_
  split
  · rfl
  · next h => exact not_not.mp fun hne => h (mem_ownQueues hne)

theorem queueRelease_of_core {n : Nat} {s : State} (hslot : (s.core n).slot = none) (hidle : (s.core n).st = .idle)
    (hquiet : quiet s [n] = true) : Answers (.queueRelease (256 + n)) s fun t => ∀ q, queueOf (t.core n) q = emptyQueue := by
  have hx : exec (.queueRelease (256 + n)) s = execQueueRelease (256 + n) s := rfl
  refine ⟨releaseQueues s [n], ?_, releaseQueues_queueOf s n⟩
  simp [hx, execQueueRelease, hslot, hidle, hquiet]

/-! ### The end of a command whose queues are released (R350, R362, R487) -/

theorem rejudge_host (s : State) : (rejudge s).host = s.host := by
  refine (forEach_keeps State.host _ _ (fun s r _ => ?_) _).trans rfl
  split
  · rfl
  · split <;> rfl

theorem modSlotOf_cmd (c : Cmd) (s : State) (f : SlotLedger → SlotLedger) (k : Nat) : (modSlotOf c s f).cmd k = s.cmd k := by
  unfold modSlotOf modSlots
  split
  · split <;> rfl
  · rfl

theorem cmd_of_cmds_put {s : State} {m : Sparse (Option Cmd)} {k : Nat} {c : Cmd} (h : s.host.cmds = put none m k (some c)) :
    s.cmd k = some c := by
  rw [State.cmd, h, look_put, if_pos rfl]

/-- A running command whose record is not to be discarded is COMPLETING with it (R487). -/
theorem completeCmd_running {s : State} {k : Nat} {c : Cmd} (r : CompRec) (hc : s.cmd k = some c) (hrun : c.st = .running)
    (hkeep : c.discard = false) :
    ∃ c', (completeCmd s k r).cmd k = some c' ∧ c'.st = .completing ∧ c'.record = some r := by
  simp only [completeCmd, hc, hrun, hkeep, Bool.false_eq_true, if_false, modSlotOf_cmd]
  split <;> exact ⟨_, cmd_of_cmds_put rfl, rfl, rfl⟩

theorem queueRelease_of_command {k : Nat} {s : State} {c : Cmd} {r : CompRec} (hk : k < 256) (hc : s.cmd k = some c)
    (hrun : c.st = .running) (hend : c.ending = some r) (hkeep : c.discard = false)
    (hquiet : quiet s (cmdQueueCores s k c) = true) : Answers (.queueRelease k) s fun t =>
      ∃ c', t.cmd k = some c' ∧ c'.st = .completing ∧ c'.record = some r := by
  have hx : exec (.queueRelease k) s = execQueueRelease k s := rfl
  refine ⟨rejudge (completeCmd (releaseQueues s (cmdQueueCores s k c)) k r), ?_, ?_⟩
  · simp [hx, execQueueRelease, hk, hc, hend, hquiet]
  · have hc' : (releaseQueues s (cmdQueueCores s k c)).cmd k = some c := by rw [State.cmd, releaseQueues_host]; exact hc
    simp only [State.cmd, rejudge_host]
    exact completeCmd_running r hc' hrun hkeep

/-- Settles O36: each event is one operation of the grid, whose laws above give what it writes and what it leaves. -/
theorem messagesCreditsAndTallies : Obligations.MessagesCreditsAndTallies := by
  unfold Obligations.MessagesCreditsAndTallies
  refine ⟨fun a b s m x k hm hclear ha hlen _ hx hk => messageDelivered_enqueues hm hclear ha hlen hx hk,
    fun e l h rcv q n s p hp hclear => arrival_reaches_or_is_discarded h hp hclear,
    fun c y s a v ha hready hv => tallyAddApply_applies ha hready hv,
    fun k w s y h hy => tallyValueWrite_writes_or_is_refused h hy,
    fun n s hslot hidle hquiet => queueRelease_of_core hslot hidle hquiet,
    fun k s c r hk hc hrun hend hkeep hquiet => queueRelease_of_command hk hc hrun hend hkeep hquiet⟩

end Sys2Proof.Machine
end

section
/-!
SUPPORT. What every command keeps. One law for each operation of the model, in the order of the model's files: from a state that
keeps to the state that the operation makes of it, by the laws of the operations it is made of. The statements on every step
follow from the law of `exec`.
-/
namespace Sys2Proof.Machine
open Sys2Proof

-- The laws are many and short: elaborated one after another they need few threads, where each in a thread of its own waits for
-- the kernel to take those before it.
set_option Elab.async false

/-! ### What every operation keeps -/

/-- The parts of a state that the laws of this section look at: the queue, the trip latch, memory, and the two logs. -/
def kept (s : State) : List Instr × Option TripRec × Sparse Byte × Sparse Nat × List EventRec × List EventRec :=
  (s.pending, s.trip, s.mem.data, s.mem.poison, s.events.log, s.ao.retention)

/-- From `s` to `t` the queue stays, a latched trip stays latched (R322), memory keeps its canonical form, and the logs stay
within their sizes (R53, R99). -/
structure Keeps (s t : State) : Prop where
  pending : t.pending = s.pending
  trip : s.trip.isSome = true → t.trip = s.trip
  mem : memWf s = true → memWf t = true
  logs : logsBounded s = true → logsBounded t = true

/-- The command answers a next state, and keeps so. -/
def Steps (s : State) (o : Host.Outcome State Fault Refusal) : Prop := ∃ t, o = .next t ∧ Keeps s t

theorem logsBounded_iff (s : State) : logsBounded s = true ↔ s.events.log.length ≤ 1024 ∧ s.ao.retention.length ≤ 64 := by
  simp [logsBounded]

section
variable {s t u : State} {i j k l m n : Nat} {b b' : Bool} {p : PageRef} {w : RegWrite} {f : Fields} {ns : List Nat} {m' : Master}

theorem Keeps.refl (s : State) : Keeps s s := ⟨rfl, fun _ => rfl, id, id⟩

/-- An update of anything else keeps. -/
theorem Keeps.congr (h : Keeps s t) (e : kept u = kept t) : Keeps s u := by
  simp only [kept, Prod.mk.injEq] at e
  obtain ⟨hp, ht, hd, hq, hl, hr⟩ := e
  refine ⟨hp.trans h.pending, fun x => ht.trans (h.trip x), fun x => memWf_congr t u hd hq (h.mem x), fun x => ?_⟩
  rw [logsBounded_iff, hl, hr]
  exact (logsBounded_iff t).mp (h.logs x)

/-- An update of a part that holds none of them keeps, and so does one of the AO domain, the event block or memory that leaves
them as they are. -/
theorem Keeps.upd (h : Keeps s t) {ao : AoSt} {power : PowerSt} {tiles : Sparse TileSt} {hdrs : Sparse PageHdr} {frozen : Sparse Word}
    {arb : ArbSt} {events : EventSt} {ledgers : Ledgers} {ledger : LedgerSt} {nets : Sparse NetSt} {cells : Sparse CellSt}
    {loops : Sparse LoopSt} {surveys : Sparse SurveySt} {hearth : HearthSt} {token : TokenSt} {therm : ThermSt} {cores : Sparse CoreSt}
    {grid : GridSt} {mem : MemSt} {parts : Sparse PartSt} {tenants : Sparse TenantSt} {host : HostSt} {links : LinkSt} {tmb : TmbSt}
    {cal : CalSt} {out : List Output} {free : Nat} (hr : ao.retention = t.ao.retention := by rfl)
    (hl : events.log = t.events.log := by rfl) (hd : mem.data = t.mem.data := by rfl) (hp : mem.poison = t.mem.poison := by rfl) :
    Keeps s { pending := t.pending, trip := t.trip, ao, power, tiles, hdrs, frozen, arb, events, ledgers, ledger, nets, cells, loops,
              surveys, hearth, token, therm, cores, grid, mem, parts, tenants, host, links, tmb, cal, out, free } :=
  h.congr (by simp only [kept, hr, hl, hd, hp])

/-- An update of memory that keeps its form, and leaves the rest, keeps. -/
theorem Keeps.ofMem (h : Keeps s t) {x : MemSt} (hx : memWf t = true → memWf { t with mem := x } = true) :
    Keeps s { t with mem := x } := ⟨h.pending, h.trip, fun y => hx (h.mem y), h.logs⟩

/-- An update of the ring that keeps it within its size keeps. -/
theorem Keeps.ofLog (h : Keeps s t) {x : EventSt} (hx : t.events.log.length ≤ 1024 → x.log.length ≤ 1024) :
    Keeps s { t with events := x } := by
  refine ⟨h.pending, h.trip, h.mem, fun y => ?_⟩
  have ht := (logsBounded_iff t).mp (h.logs y)
  exact (logsBounded_iff _).mpr ⟨hx ht.1, ht.2⟩

/-- An update of the AO domain that keeps retention memory within its size keeps. -/
theorem Keeps.ofRetention (h : Keeps s t) {x : AoSt} (hx : t.ao.retention.length ≤ 64 → x.retention.length ≤ 64) :
    Keeps s { t with ao := x } := by
  refine ⟨h.pending, h.trip, h.mem, fun y => ?_⟩
  have ht := (logsBounded_iff t).mp (h.logs y)
  exact (logsBounded_iff _).mpr ⟨ht.1, hx ht.2⟩

theorem Keeps.ite {c : Prop} [Decidable c] (ht : Keeps s t) (hu : Keeps s u) : Keeps s (if c then t else u) := by
  split
  · exact ht
  · exact hu

theorem Steps.next (h : Keeps s t) : Steps s (.next t) := ⟨t, rfl, h⟩

theorem Steps.ite {c : Prop} [Decidable c] {x y : Host.Outcome State Fault Refusal} (hx : Steps s x) (hy : Steps s y) :
    Steps s (if c then x else y) := by
  split
  · exact hx
  · exact hy

theorem keeps_forEach {α : Type} {l : List α} {f : State → α → State} (h : Keeps s t)
    (hf : ∀ {t a}, Keeps s t → Keeps s (f t a)) : Keeps s (forEach l t f) := by
  unfold forEach
  induction l generalizing t with
  | nil => exact h
  | cons a r ih => exact ih (hf h)


/-! ### What is kept: Shared operations (chapter 03) -/

theorem emit_keeps (h : Keeps s t) {x : Output} : Keeps s (emit t x) := h.upd

theorem freeVal_keeps (h : Keeps s t) : Keeps s (freeVal t).2 := h.upd

theorem State.modHdr_keeps (h : Keeps s t) {x : PageHdr → PageHdr} : Keeps s (State.modHdr t p x) := by
  simp only [State.modHdr]
  split
  · exact h.upd
  · split
    · exact emit_keeps h.upd
    · exact h.upd

theorem signalRise_keeps (h : Keeps s t) {x : State} : Keeps s (signalRise x t ns) :=
  keeps_forEach h fun h => .ite (emit_keeps h) h

theorem raiseBits_keeps (h : Keeps s t) {x : Word} : Keeps s (raiseBits t p x) := State.modHdr_keeps h

theorem raise_keeps (h : Keeps s t) : Keeps s (raise t p i) := raiseBits_keeps h

theorem logEvent_keeps (h : Keeps s t) : Keeps s (logEvent t i j p ns) := by
  simp only [logEvent]
  split
  · exact h
  · split
    · exact raise_keeps h.upd
    · have hw : Keeps s { t with events := { t.events with
          log := (mkRecord t i j p ns :: t.events.log).take 1024, writeSeq := (t.events.writeSeq + 1) % 2 ^ 32,
          bad := t.events.bad.filter (fun n => n ≠ (mkRecord t i j p ns).seq && (mkRecord t i j p ns).seq < n + 1024) } } :=
        h.ofLog fun _ => by rw [List.length_take]; exact Nat.min_le_left ..
      exact .ite (raise_keeps hw) hw

theorem logLimited_keeps (h : Keeps s t) : Keeps s (logLimited t i j k l p ns) := by
  simp only [logLimited]
  split
  · exact .upd (logEvent_keeps h)
  · split
    · exact h
    · exact .upd (logEvent_keeps h)

theorem retainEvent_keeps (h : Keeps s t) : Keeps s (retainEvent t i j p ns) :=
  h.ofRetention fun _ => by rw [List.length_drop]; omega

theorem recordRefusal_keeps (h : Keeps s t) {x : RefCode} : Keeps s (recordRefusal t p i m' x) := State.modHdr_keeps h

theorem recordUnp_keeps (h : Keeps s t) {x : RefCode} : Keeps s (recordUnp t i m' x) := raise_keeps h.upd

theorem guarded_keeps (h : Keeps s t) {x : Checks} {eff : State → State} (heff : ∀ {t}, Keeps s t → Keeps s (eff
    t)) : Keeps s (guarded t p i w x eff).1 := by
  simp only [guarded]
  split
  · split
    · exact heff h
    · exact recordRefusal_keeps h
  · split
    · split
      · exact h
      · exact emit_keeps h
    · split
      · exact recordUnp_keeps h
      · split
        · exact recordUnp_keeps h
        · split
          · exact heff h
          · exact recordRefusal_keeps h

theorem roWrite_keeps (h : Keeps s t) : Keeps s (roWrite t p i w).1 := by
  simp only [roWrite]
  split
  · exact h
  · split
    · exact guarded_keeps h fun h => h
    · exact h

theorem tickOnce_keeps (h : Keeps s t) : Keeps s (tickOnce t) := by
  simp only [tickOnce]
  split
  · exact h.upd
  · exact h


/-! ### What is kept: Ledgers (chapter 04) -/

theorem modTok_keeps (h : Keeps s t) {x : TokLedger → TokLedger} : Keeps s (modTok t x) := by
  simp only [modTok]
  split
  · exact h.upd
  · exact h

theorem modCred_keeps (h : Keeps s t) {x : CredRow → CredRow} : Keeps s (modCred t i x) := by
  simp only [modCred]
  split
  · exact h.upd
  · exact h

theorem modTally_keeps (h : Keeps s t) {x : TallyRow → TallyRow} : Keeps s (modTally t i x) := by
  simp only [modTally]
  split
  · exact h.upd
  · exact h

theorem modSlots_keeps (h : Keeps s t) {x : SlotLedger → SlotLedger} : Keeps s (modSlots t x) := by
  simp only [modSlots]
  split
  · exact h.upd
  · exact h

theorem modSlotOf_keeps (h : Keeps s t) {x : Cmd} {x1 : SlotLedger → SlotLedger} : Keeps s (modSlotOf x t x1) := by
  simp only [modSlotOf]
  split
  · exact modSlots_keeps h
  · exact h

theorem modReplay_keeps (h : Keeps s t) {x : ReplayRow → ReplayRow} : Keeps s (modReplay t i x) := by
  simp only [modReplay]
  split
  · exact h.upd
  · exact h

theorem logWriteOff_keeps (h : Keeps s t) : Keeps s (logWriteOff t i j k l) := raise_keeps (logEvent_keeps h)

theorem beginEpoch_keeps (h : Keeps s t) : Keeps s (beginEpoch t) := h.upd

theorem endEpoch_keeps (h : Keeps s t) : Keeps s (endEpoch t) := h.upd

theorem renewQuanta_keeps (h : Keeps s t) : Keeps s (renewQuanta t) := h.upd

theorem ledgerFail_keeps (h : Keeps s t) : Keeps s (ledgerFail t b i j k) := by
  simp only [ledgerFail]
  split
  · exact h
  · exact raise_keeps (logEvent_keeps (renewQuanta_keeps h.upd))

theorem execLedgerCheck_keeps (h : Keeps s t) {x : Option (Nat × Nat × Nat)} : Steps s (execLedgerCheck x t) := by
  simp only [execLedgerCheck]
  split
  · exact .next h
  · split
    · exact .next (ledgerFail_keeps h)
    · split
      · exact .next (ledgerFail_keeps h)
      · exact .next h

theorem setSnap_keeps (h : Keeps s t) {x : Snap} : Keeps s (setSnap t i x) := by
  simp only [setSnap]
  split <;> exact h.upd

theorem capture_keeps (h : Keeps s t) : Keeps s (capture t i) := setSnap_keeps h

theorem writeSnapCtrl_keeps (h : Keeps s t) : Keeps s (writeSnapCtrl w t).1 := by
  simp only [writeSnapCtrl]
  exact guarded_keeps h fun h => .ite (capture_keeps h) h

theorem execSnapshotDone_keeps (h : Keeps s t) {x : Fin 2} : Steps s (execSnapshotDone x t) := by
  simp only [execSnapshotDone]
  split
  · exact .next (raise_keeps (setSnap_keeps h))
  · exact .next h

theorem resealUnits_keeps (h : Keeps s t) : Keeps s (resealUnits t) := by
  simp only [resealUnits]
  exact keeps_forEach (keeps_forEach h.upd fun h => h.upd) fun h => h.upd


/-! ### What is kept: Device memory (chapter 13) -/

theorem clearLine_keeps (h : Keeps s t) : Keeps s (clearLine t i) := h.ofMem (clearLine_memWf t i)

theorem memWrite_keeps (h : Keeps s t) {x : List Byte} : Keeps s (memWrite t i x) :=
  keeps_forEach (h.ofMem fun hm => memWf_mk t _ hm (sparseWf_putList 0 x t.mem.data i) id) fun h => clearLine_keeps h

theorem zeroStack_keeps (h : Keeps s t) : Keeps s (zeroStack t i) := h.ofMem (zeroStack_memWf t i)

theorem stackEnter_keeps (h : Keeps s t) : Keeps s (stackEnter t i) := .upd (.ite h (zeroStack_keeps h))

theorem freeBytes_keeps (h : Keeps s t) : Keeps s (freeBytes t i).2 := h.upd

theorem latchCode_keeps (h : Keeps s t) {x : Plate → Option Nat} : Keeps s (latchCode t x) := h.upd

theorem stackLost_keeps (h : Keeps s t) : Keeps s (stackLost t i j) :=
  raise_keeps (logEvent_keeps (zeroStack_keeps h.upd))

theorem outOfService_keeps (h : Keeps s t) : Keeps s (outOfService t i) :=
  logEvent_keeps (raise_keeps (logEvent_keeps (zeroStack_keeps h.upd)))

theorem retireChannel_keeps (h : Keeps s t) : Keeps s (retireChannel t i j k) := by
  simp only [retireChannel]
  split
  · exact h
  · split
    · split
      · exact h
      · exact h.upd
    · split
      · exact outOfService_keeps h
      · exact raise_keeps (logEvent_keeps (latchCode_keeps (.upd h.upd)))

theorem retireEnd_keeps (h : Keeps s t) : Keeps s (retireEnd t i) := by
  simp only [retireEnd]
  split
  · exact h
  · split
    · exact h.upd
    · exact retireChannel_keeps h.upd

theorem modChan_keeps (h : Keeps s t) {x : ChanSt → ChanSt} : Keeps s (modChan t i j x) := h.upd

theorem markPoison_keeps (h : Keeps s t) : Keeps s (markPoison t i j k) :=
  raise_keeps (logEvent_keeps (latchCode_keeps (modChan_keeps (.upd (h.ofMem (poison_memWf t i (rowKey (lineChannel t i) k +
      1)))))))

theorem rowRepair_keeps (h : Keeps s t) : Keeps s (rowRepair t i j k b ns) := by
  simp only [rowRepair]
  split
  · exact raise_keeps (logEvent_keeps (.upd (modChan_keeps (keeps_forEach h fun h => .ite h (markPoison_keeps h)))))
  · split
    · exact h
    · exact .upd (modChan_keeps h)

theorem channelJudge_keeps (h : Keeps s t) : Keeps s (channelJudge t i j) := by
  simp only [channelJudge]
  split
  · exact retireChannel_keeps h
  · split
    · exact retireChannel_keeps h
    · exact h

theorem poisonLine_keeps (h : Keeps s t) : Keeps s (poisonLine t i j k b ns) :=
  channelJudge_keeps (rowRepair_keeps (markPoison_keeps h))

theorem eccRead_keeps (h : Keeps s t) {x : EccRead} : Keeps s (eccRead t i j x) := by
  simp only [eccRead]
  split
  · exact h
  · split
    · exact h
    · split
      · exact channelJudge_keeps (rowRepair_keeps h.upd)
      · exact h.upd
    · exact poisonLine_keeps h

theorem eccFound_keeps (h : Keeps s t) {x : Nat → Bool} {x1 : EccFound} : Keeps s (eccFound t x x1) :=
  keeps_forEach h fun h => eccRead_keeps h


/-! ### What is kept: Command slots (chapter 15) -/

theorem raiseQueue_keeps (h : Keeps s t) : Keeps s (raiseQueue t i j) := by
  simp only [raiseQueue]
  split
  · split
    · exact emit_keeps h.upd
    · exact h.upd
  · exact raise_keeps h

theorem drainCheck_keeps (h : Keeps s t) : Keeps s (drainCheck t i) := by
  simp only [drainCheck]
  split
  · exact raise_keeps (logEvent_keeps h.upd)
  · exact h

theorem drainReads_keeps (h : Keeps s t) : Keeps s (drainReads t i b) := by
  simp only [drainReads]
  split
  · exact h.upd
  · exact h

theorem readOver_keeps (h : Keeps s t) : Keeps s (readOver t) := h.upd

theorem freeSlot_keeps (h : Keeps s t) : Keeps s (freeSlot t i) := by
  simp only [freeSlot]
  split
  · exact drainCheck_keeps (modSlotOf_keeps h.upd)
  · exact h

theorem completeCmd_keeps (h : Keeps s t) {x : CompRec} : Keeps s (completeCmd t i x) := by
  simp only [completeCmd]
  split
  · exact h
  · split
    · exact h
    · split
      · exact freeSlot_keeps (modSlotOf_keeps (.ite (.upd (.upd (.upd (keeps_forEach h fun h => h.upd)))) (.upd (.upd
            (keeps_forEach h fun h => h.upd)))))
      · exact modSlotOf_keeps (.ite (.upd (.upd (.upd (keeps_forEach h fun h => h.upd)))) (.upd (.upd (keeps_forEach h fun h =>
            h.upd))))

theorem completePlain_keeps (h : Keeps s t) : Keeps s (completePlain t i j k l) := by
  simp only [completePlain]
  split
  · exact h
  · exact completeCmd_keeps h

theorem beginCmd_keeps (h : Keeps s t) : Keeps s (beginCmd t i) := by
  simp only [beginCmd]
  split
  · split
    · exact modSlotOf_keeps h.upd
    · exact h
  · exact h


/-! ### What is kept: Calibration (chapter 19) -/

theorem setCalN_keeps (h : Keeps s t) : Keeps s (setCalN t i j k) := by
  simp only [setCalN]
  split
  · exact raise_keeps h.upd
  · exact h.upd

theorem setCalTarget_keeps (h : Keeps s t) : Keeps s (setCalTarget t i j b) := setCalN_keeps h

theorem setCalKey_keeps (h : Keeps s t) {x : List Byte} : Keeps s (setCalKey t x) := setCalN_keeps h

theorem logBadSlot_keeps (h : Keeps s t) {x : SlotBytes} : Keeps s (logBadSlot t i x b b') := by
  simp only [logBadSlot]
  split
  · exact h
  · split <;> exact logEvent_keeps h

theorem selectCal_keeps (h : Keeps s t) {x x1 : SlotBytes} : Keeps s (selectCal t x x1) := by
  simp only [selectCal]
  split
  · exact raise_keeps (logEvent_keeps (.upd (logBadSlot_keeps (logBadSlot_keeps h))))
  · exact .upd (logBadSlot_keeps (logBadSlot_keeps h))

theorem logCal_keeps (h : Keeps s t) : Keeps s (logCal t i j ns) := by
  simp only [logCal]
  split
  · exact logEvent_keeps h
  · exact retainEvent_keeps h

theorem execCalErase_keeps (h : Keeps s t) : Steps s (execCalErase t) := by
  simp only [execCalErase]
  split
  · exact .next (emit_keeps h.upd)
  · exact .next h

theorem execCalEraseDone_keeps (h : Keeps s t) : Steps s (execCalEraseDone b t) := by
  simp only [execCalEraseDone]
  split
  · exact .next h.upd
  · exact .next h

theorem startStore_keeps (h : Keeps s t) : Keeps s (startStore t) := h.upd

theorem startMeasure_keeps (h : Keeps s t) : Keeps s (startMeasure t) := h.upd

theorem writeStore_keeps (h : Keeps s t) : Keeps s (writeStore w t).1 :=
  guarded_keeps h fun h => .ite (startStore_keeps h) (.ite (startMeasure_keeps h) h)

theorem finishMeasure_keeps (h : Keeps s t) : Keeps s (finishMeasure t i j k) := by
  simp only [finishMeasure]
  exact logCal_keeps (.upd (freeVal_keeps (freeVal_keeps h)))

theorem storeFail_keeps (h : Keeps s t) : Keeps s (storeFail t i j b) := raise_keeps (logCal_keeps h.upd)

theorem storeCommit_keeps (h : Keeps s t) : Keeps s (storeCommit t) :=
  .ite (raise_keeps (raise_keeps (logCal_keeps h.upd))) (raise_keeps (logCal_keeps h.upd))

theorem execCalStoreStepDone_keeps (h : Keeps s t) : Steps s (execCalStoreStepDone b t) := by
  simp only [execCalStoreStepDone]
  split
  · split
    · exact .next h
    · split
      · exact .next (storeFail_keeps h)
      · exact .next h.upd
  · split
    · exact .next (emit_keeps (emit_keeps h.upd))
    · exact .next (storeFail_keeps h)
  · split
    · exact .next h.upd
    · exact .next (storeFail_keeps h)
  · split
    · exact .next (storeCommit_keeps (emit_keeps h))
    · exact .next (storeFail_keeps h)
  · exact .next h

theorem execNorTimeout_keeps (h : Keeps s t) : Steps s (execNorTimeout t) := by
  simp only [execNorTimeout]
  split
  · exact .next (storeFail_keeps h)
  · exact .next (storeFail_keeps h)
  · exact .next (storeFail_keeps h)
  · split
    · exact .next h.upd
    · exact .next h

theorem autoStore_keeps (h : Keeps s t) : Keeps s (autoStore t) := by
  simp only [autoStore]
  split
  · split
    · split
      · exact h
      · exact startStore_keeps h
    · exact raise_keeps (retainEvent_keeps h.upd)
  · exact h

theorem writeCal_keeps (h : Keeps s t) : Keeps s (writeCal i w t).1 := by
  simp only [writeCal]
  split
  · exact writeStore_keeps h
  · exact guarded_keeps h fun h => h.upd
  · exact roWrite_keeps h


/-! ### What is kept: Tokens (chapter 08) -/

theorem modTokOf_keeps (h : Keeps s t) {x : CoreTok → CoreTok} : Keeps s (modTokOf t i x) := h.upd

theorem planRise_keeps (h : Keeps s t) : Keeps s (planRise t i) := by
  simp only [planRise]
  split
  · exact h
  · exact h.upd

theorem planFall_keeps (h : Keeps s t) : Keeps s (planFall t i j) := h.upd

theorem undeliverable_keeps (h : Keeps s t) : Keeps s (undeliverable t i j) := by
  simp only [undeliverable]
  split
  · exact h
  · exact logEvent_keeps h.upd

theorem noticeNet_keeps (h : Keeps s t) : Keeps s (noticeNet t i b) := by
  simp only [noticeNet]
  split
  · exact h
  · split
    · exact undeliverable_keeps h
    · exact h.upd

theorem noticeTile_keeps (h : Keeps s t) : Keeps s (noticeTile t i b) := noticeNet_keeps (noticeNet_keeps h)

theorem noticeFrame_keeps (h : Keeps s t) : Keeps s (noticeFrame t i) :=
  noticeTile_keeps (.upd (keeps_forEach h fun h => .ite h (planRise_keeps h)))

theorem liftClamp_keeps (h : Keeps s t) : Keeps s (liftClamp t i) := by
  simp only [liftClamp]
  split
  · exact logEvent_keeps (modTokOf_keeps h)
  · exact h

theorem meetRecall_keeps (h : Keeps s t) : Keeps s (meetRecall t i) := by
  simp only [meetRecall]
  split
  · exact h
  · split
    · exact liftClamp_keeps (modTokOf_keeps h)
    · exact h

theorem withdrawGlobal_keeps (h : Keeps s t) : Keeps s (withdrawGlobal t) :=
  .upd (keeps_forEach h fun h => .ite (.ite (liftClamp_keeps (modTokOf_keeps h)) (modTokOf_keeps h)) h)

theorem withdrawTile_keeps (h : Keeps s t) : Keeps s (withdrawTile t i) :=
  keeps_forEach h fun h => .ite (.ite (liftClamp_keeps (modTokOf_keeps h)) (modTokOf_keeps h)) h

theorem setRecall_keeps (h : Keeps s t) : Keeps s (setRecall t i j b) := modTokOf_keeps h

theorem recallGlobal_keeps (h : Keeps s t) : Keeps s (recallGlobal t i) := by
  simp only [recallGlobal]
  split
  · exact h
  · exact raise_keeps (logEvent_keeps (.upd (keeps_forEach (.ite (raise_keeps (logEvent_keeps h.upd)) h) fun h => setRecall_keeps
        h)))

theorem tileRecall_keeps (h : Keeps s t) : Keeps s (tileRecall t i) := by
  simp only [tileRecall]
  split
  · split
    · exact withdrawTile_keeps h
    · exact h
  · exact raise_keeps (logEvent_keeps (keeps_forEach h fun h => setRecall_keeps h))

theorem tileCheck_keeps (h : Keeps s t) : Keeps s (tileCheck t i) := by
  simp only [tileCheck]
  split
  · exact withdrawTile_keeps h
  · exact h

theorem setAside_keeps (h : Keeps s t) {x : TokReq} : Keeps s (setAside t x) := by
  simp only [setAside]
  split
  · exact undeliverable_keeps h.upd
  · exact h.upd

theorem rejudge_keeps (h : Keeps s t) : Keeps s (rejudge t) := keeps_forEach h.upd fun h => .ite h (.ite h.upd h.upd)

theorem withdrawReq_keeps (h : Keeps s t) : Keeps s (withdrawReq t i) := h.upd

theorem retarget_keeps (h : Keeps s t) : Keeps s (retarget t i j) := h.upd

theorem stokeTo_keeps (h : Keeps s t) : Keeps s (stokeTo t i j) := by
  simp only [stokeTo]
  split
  · split
    · exact withdrawReq_keeps h
    · exact retarget_keeps h
  · split
    · exact h
    · exact h.upd

theorem easeNow_keeps (h : Keeps s t) : Keeps s (easeNow t i j) :=
  tileCheck_keeps (meetRecall_keeps (.ite (.ite (noticeTile_keeps (planFall_keeps (modTokOf_keeps h))) (modTok_keeps (.upd
      (noticeTile_keeps (planFall_keeps (modTokOf_keeps h)))))) h))

theorem easeTo_keeps (h : Keeps s t) : Keeps s (easeTo t i j) := by
  simp only [easeTo]
  split
  · exact noticeTile_keeps (planFall_keeps (modTokOf_keeps (withdrawReq_keeps h)))
  · exact easeNow_keeps (withdrawReq_keeps h)

theorem settleEasing_keeps (h : Keeps s t) : Keeps s (settleEasing t i) :=
  keeps_forEach (modTokOf_keeps h) fun h => easeNow_keeps h

theorem easeStopped_keeps (h : Keeps s t) : Keeps s (easeStopped t i) := by
  simp only [easeStopped]
  split
  · exact h
  · exact liftClamp_keeps (easeTo_keeps h)

theorem execStokeRequest_keeps (h : Keeps s t) : Steps s (execStokeRequest i t) := by
  simp only [execStokeRequest]
  split
  · exact .next h
  · refine .next ?_
    split
    · exact setAside_keeps h.upd
    · exact h.upd

theorem asideTile_keeps (h : Keeps s t) : Keeps s (asideTile t i) := keeps_forEach h.upd fun h => setAside_keeps h

theorem commitGrant_keeps (h : Keeps s t) {x : TokReq} : Keeps s (commitGrant t x i) := by
  simp only [commitGrant]
  exact modTok_keeps (noticeTile_keeps (.upd (planRise_keeps (modTokOf_keeps h.upd))))

theorem execGrantCommit_keeps (h : Keeps s t) : Steps s (execGrantCommit t) := by
  simp only [execGrantCommit]
  split
  · exact .next h
  · split
    · exact .next h
    · split
      · exact .next h.upd
      · split
        · exact .next (asideTile_keeps h)
        · split
          · exact .next (setAside_keeps h.upd)
          · split
            · exact .next h
            · exact .next (commitGrant_keeps h.upd)

theorem modGrant_keeps (h : Keeps s t) {x : Grant → Bool} {x1 : Grant → Grant} : Keeps s (modGrant t i x x1) := by
  simp only [modGrant]
  split
  · exact h
  · exact h.upd

theorem execGrantRelease_keeps (h : Keeps s t) : Steps s (execGrantRelease i t) := by
  simp only [execGrantRelease]
  split
  · exact .next h
  · exact .next (modGrant_keeps h)

theorem execGrantApply_keeps (h : Keeps s t) : Steps s (execGrantApply i t) := by
  simp only [execGrantApply]
  split
  · exact .next h
  · refine .next ?_
    split
    · exact modTok_keeps (modTokOf_keeps h.upd)
    · exact rejudge_keeps (settleEasing_keeps (modTok_keeps (modTokOf_keeps h.upd)))

theorem execIssueCapStep_keeps (h : Keeps s t) : Steps s (execIssueCapStep i t) := by
  simp only [execIssueCapStep]
  split
  · exact .next h
  · exact .next (modTokOf_keeps h)

theorem afterCredit_keeps (h : Keeps s t) : Keeps s (afterCredit t i) := by
  simp only [afterCredit]
  split
  · exact withdrawGlobal_keeps h
  · exact h

theorem execTokenReturn_keeps (h : Keeps s t) : Steps s (execTokenReturn i t) := by
  simp only [execTokenReturn]
  split
  · exact .next h
  · split
    · exact .next h
    · exact .next (afterCredit_keeps (modTok_keeps h.upd))

theorem execRecallReceived_keeps (h : Keeps s t) : Steps s (execRecallReceived i t) := by
  simp only [execRecallReceived]
  split
  · exact .next (modTokOf_keeps h)
  · exact .next h

theorem execRecallTimeout_keeps (h : Keeps s t) : Steps s (execRecallTimeout i t) := by
  simp only [execRecallTimeout]
  split
  · split
    · exact .next (raise_keeps (logEvent_keeps (.upd (noticeTile_keeps (planFall_keeps (modTokOf_keeps h))))))
    · exact .next h
  · exact .next h

theorem chargeBase_keeps (h : Keeps s t) : Keeps s (chargeBase t i) :=
  modTok_keeps (noticeTile_keeps (keeps_forEach h fun h => h.upd))

theorem dropTokens_keeps (h : Keeps s t) : Keeps s (dropTokens t i).1 := by
  simp only [dropTokens]
  exact modTokOf_keeps (.upd (withdrawReq_keeps h))

theorem givePool_keeps (h : Keeps s t) : Keeps s (givePool t i j) := afterCredit_keeps (modTok_keeps h)

theorem returnAll_keeps (h : Keeps s t) : Keeps s (returnAll t i) :=
  givePool_keeps (dropTokens_keeps (liftClamp_keeps h))

theorem baseCovered_keeps (h : Keeps s t) : Keeps s (baseCovered t) := by
  simp only [baseCovered]
  split
  · exact h.upd
  · exact h

theorem releaseBase_keeps (h : Keeps s t) : Keeps s (releaseBase t i) :=
  baseCovered_keeps (noticeTile_keeps (keeps_forEach h fun h => returnAll_keeps h))

theorem clampCores_keeps (h : Keeps s t) : Keeps s (clampCores t) := keeps_forEach h.upd fun h => noticeTile_keeps h

theorem budgetMoved_keeps (h : Keeps s t) : Keeps s (budgetMoved t) := by
  simp only [budgetMoved]
  split
  · exact h
  · exact raise_keeps (logEvent_keeps h.upd)

theorem budgetUpdate_keeps (h : Keeps s t) : Keeps s (budgetUpdate t i) := by
  simp only [budgetUpdate]
  split
  · split
    · exact clampCores_keeps (budgetMoved_keeps h)
    · exact budgetMoved_keeps h
  · split
    · exact recallGlobal_keeps (baseCovered_keeps (modTok_keeps (budgetMoved_keeps h)))
    · split
      · exact withdrawGlobal_keeps (baseCovered_keeps (modTok_keeps (budgetMoved_keeps h)))
      · exact baseCovered_keeps (modTok_keeps (budgetMoved_keeps h))

theorem setThermalCap_keeps (h : Keeps s t) : Keeps s (setThermalCap t i) := budgetUpdate_keeps h.upd

theorem setRetired_keeps (h : Keeps s t) : Keeps s (setRetired t i) := by
  simp only [setRetired]
  split
  · exact h
  · exact budgetUpdate_keeps h.upd

theorem inletUpdate_keeps (h : Keeps s t) : Keeps s (inletUpdate t) := by
  have hw : Keeps s (if calWtok t = 0 then freeVal t else (0, t)).2 := by
    split
    · exact freeVal_keeps h
    · exact h
  exact .ite (.upd hw) (budgetUpdate_keeps (.upd (.upd hw)))

theorem resealNow_keeps (h : Keeps s t) : Keeps s (resealNow i t) := by
  simp only [resealNow]
  exact budgetMoved_keeps (logEvent_keeps (beginEpoch_keeps (.upd (resealUnits_keeps h.upd))))

theorem writeToken_keeps (h : Keeps s t) : Keeps s (writeToken i w t).1 := by
  simp only [writeToken]
  split
  · exact guarded_keeps h fun h => h.upd
  · exact guarded_keeps h fun h => setCalN_keeps h
  · exact guarded_keeps h fun h => h.upd
  · exact roWrite_keeps h


/-! ### What is kept: Nets (chapter 05) -/

theorem startSlew_keeps (h : Keeps s t) : Keeps s (startSlew t i) := h.upd

theorem netEnable_keeps (h : Keeps s t) : Keeps s (netEnable t i) :=
  .upd (keeps_forEach (keeps_forEach h fun h => h.upd) fun h => h.upd)

theorem netCellsOff_keeps (h : Keeps s t) : Keeps s (netCellsOff t i) := keeps_forEach h fun h => h.upd

theorem netDisable_keeps (h : Keeps s t) : Keeps s (netDisable t i) := by
  simp only [netDisable]
  split
  · exact h
  · exact h
  · refine .upd (.ite ?_ (netCellsOff_keeps ?_))
    all_goals repeat' split
    all_goals exact h.upd

theorem netHalt_keeps (h : Keeps s t) : Keeps s (netHalt t i) := by
  simp only [netHalt]
  split
  · exact h.upd
  · exact h.upd
  · exact h

theorem netOff_keeps (h : Keeps s t) : Keeps s (netOff t i) := .upd (netCellsOff_keeps h)

theorem netOn_keeps (h : Keeps s t) : Keeps s (netOn t i) := h.upd

theorem rollNext_keeps (h : Keeps s t) : Keeps s (rollNext t i ns j k b) := by
  induction ns generalizing k with
  | nil => exact raise_keeps (logEvent_keeps h.upd)
  | cons a r ih => exact .ite ih h.upd

theorem startRoll_keeps (h : Keeps s t) : Keeps s (startRoll t i b) := by
  simp only [startRoll]
  split
  · exact rollNext_keeps h.upd
  · exact .upd (startSlew_keeps h)

theorem cellResumed_keeps (h : Keeps s t) {x : Roll} : Keeps s (cellResumed t i j x) := rollNext_keeps h.upd

theorem writeTarget_keeps (h : Keeps s t) : Keeps s (writeTarget i w t).1 :=
  guarded_keeps h fun h => .ite (.ite (startRoll_keeps (setCalTarget_keeps (.ite (startSlew_keeps h) h))) (.ite (startSlew_keeps
      (setCalTarget_keeps (.ite (startSlew_keeps h) h))) (setCalTarget_keeps (.ite (startSlew_keeps h) h)))) (setCalTarget_keeps
          (.ite (startSlew_keeps h) h))

theorem execSlewDone_keeps (h : Keeps s t) : Steps s (execSlewDone i t) := by
  simp only [execSlewDone]
  split
  · exact .next h
  · split
    · refine .next ?_
      split
      · exact rollNext_keeps (raise_keeps h.upd)
      · exact raise_keeps h.upd
    · exact .next (raise_keeps h.upd)

theorem execCellRollResume_keeps (h : Keeps s t) : Steps s (execCellRollResume i t) := by
  simp only [execCellRollResume]
  split
  · split
    · exact .next (cellResumed_keeps h)
    · exact .next h
  · exact .next h

theorem execOutOfBand_keeps (h : Keeps s t) : Steps s (execOutOfBand i t) := by
  simp only [execOutOfBand]
  split
  · exact .next (raise_keeps (logEvent_keeps h.upd))
  · exact .next h

theorem writeNet_keeps (h : Keeps s t) : Keeps s (writeNet i j w t).1 := by
  simp only [writeNet]
  split
  · exact writeTarget_keeps h
  · exact guarded_keeps h fun h => h.upd
  · exact guarded_keeps h fun h => setCalN_keeps h
  · exact roWrite_keeps h

theorem writeCellCtrl_keeps (h : Keeps s t) : Keeps s (writeCellCtrl i w t).1 :=
  guarded_keeps h fun h => .ite h.upd (raise_keeps (logEvent_keeps (.upd h.upd)))

theorem writeDuty_keeps (h : Keeps s t) : Keeps s (writeDuty i b w t).1 := guarded_keeps h fun h => h.upd

theorem execDutyReload_keeps (h : Keeps s t) : Steps s (execDutyReload i t) := by
  simp only [execDutyReload]
  split
  · exact .next h.upd
  · exact .next h


/-! ### What is kept: Loop engines (chapter 06) -/

theorem writeCoefData_keeps (h : Keeps s t) : Keeps s (writeCoefData i w t).1 :=
  guarded_keeps h fun h => setCalN_keeps h.upd

theorem writeSchedData_keeps (h : Keeps s t) : Keeps s (writeSchedData i w t).1 := guarded_keeps h fun h => h.upd

theorem writeBanks_keeps (h : Keeps s t) : Keeps s (writeBanks i w t).1 := guarded_keeps h fun h => .ite h h.upd

theorem writeInjCtrl_keeps (h : Keeps s t) : Keeps s (writeInjCtrl i w t).1 := guarded_keeps h fun h => h.upd

theorem writeInjData_keeps (h : Keeps s t) : Keeps s (writeInjData i w t).1 := guarded_keeps h fun h => h.upd

theorem writeCapCtrl_keeps (h : Keeps s t) : Keeps s (writeCapCtrl i w t).1 := guarded_keeps h fun h => h.upd

theorem writeLoop_keeps (h : Keeps s t) : Keeps s (writeLoop i j w t).1 := by
  simp only [writeLoop]
  split
  · exact writeBanks_keeps h
  · exact guarded_keeps h fun h => h.upd
  · exact writeCoefData_keeps h
  · exact guarded_keeps h fun h => h.upd
  · exact writeSchedData_keeps h
  · exact guarded_keeps h fun h => h.upd
  · exact writeInjCtrl_keeps h
  · exact writeCapCtrl_keeps h
  · exact guarded_keeps h fun h => h.upd
  · exact writeInjData_keeps h
  · exact guarded_keeps h fun h => h.upd
  · exact roWrite_keeps h

theorem loopReadEffect_keeps (h : Keeps s t) : Keeps s (loopReadEffect t i j) := by
  simp only [loopReadEffect]
  split
  · exact h.upd
  · exact h.upd
  · exact h.upd
  · exact h.upd
  · exact h

theorem execStokeNotice_keeps (h : Keeps s t) : Steps s (execStokeNotice i t) := by
  simp only [execStokeNotice]
  split
  · exact .next h
  · split
    · exact .next h.upd
    · exact .next (.upd h.upd)


/-! ### What is kept: The core grid (chapter 11) -/

theorem setCred_keeps (h : Keeps s t) : Keeps s (setCred t i j k l) := h.upd

theorem modQueueOf_keeps (h : Keeps s t) {x : RQueue → RQueue} : Keeps s (modQueueOf t i j x) := h.upd

theorem sendGrants_keeps (h : Keeps s t) {x : List (Nat × Nat)} : Keeps s (sendGrants t i j x) := h.upd

theorem dropQueue_keeps (h : Keeps s t) : Keeps s (dropQueue t i j k) := by
  simp only [dropQueue]
  exact modQueueOf_keeps (.upd (modCred_keeps h))

theorem releaseQueues_keeps (h : Keeps s t) : Keeps s (releaseQueues t ns) :=
  keeps_forEach h fun h => keeps_forEach h fun h => dropQueue_keeps h

theorem execMessageDelivered_keeps (h : Keeps s t) : Steps s (execMessageDelivered i j t) := by
  simp only [execMessageDelivered]
  split
  · exact .next h
  · split
    · exact .next h
    · exact .next (modCred_keeps (modQueueOf_keeps (.upd h.upd)))

theorem creditArrives_keeps (h : Keeps s t) {x : CredPkt} : Keeps s (creditArrives t x) := by
  simp only [creditArrives]
  split
  · exact h
  · exact modCred_keeps (setCred_keeps h)

theorem execCreditGrantArrival_keeps (h : Keeps s t) : Steps s (execCreditGrantArrival i j k t) := by
  simp only [execCreditGrantArrival]
  split
  · exact .next h
  · split
    · exact .next h
    · exact .next (creditArrives_keeps h.upd)

theorem execCreditReturnArrival_keeps (h : Keeps s t) : Steps s (execCreditReturnArrival i j k t) := by
  simp only [execCreditReturnArrival]
  split
  · exact .next h
  · split
    · exact .next h
    · exact .next (creditArrives_keeps h.upd)

theorem setTally_keeps (h : Keeps s t) {x : Word} : Keeps s (setTally t i x) := h.upd

theorem wakeWaiters_keeps (h : Keeps s t) : Keeps s (wakeWaiters t i) :=
  keeps_forEach h fun h => by split; exacts [.ite h.upd h, h]

theorem execTallyAddApply_keeps (h : Keeps s t) : Steps s (execTallyAddApply i j t) := by
  simp only [execTallyAddApply]
  split
  · exact .next h
  · split
    · exact .next h
    · exact .next (wakeWaiters_keeps (.ite (modTally_keeps (setTally_keeps h.upd)) (raise_keeps (logEvent_keeps (.upd
          (modTally_keeps (setTally_keeps h.upd)))))))

theorem writeTallyValue_keeps (h : Keeps s t) : Keeps s (writeTallyValue i w t).1 := guarded_keeps h fun h => setTally_keeps h

theorem writeTally_keeps (h : Keeps s t) : Keeps s (writeTally i j w t).1 := by
  simp only [writeTally]
  split
  · exact guarded_keeps h fun h => h.upd
  · exact writeTallyValue_keeps h
  · exact roWrite_keeps h

theorem haltCore_keeps (h : Keeps s t) {x : CoreState} : Keeps s (haltCore t i x) := easeStopped_keeps h.upd

theorem endCmd_keeps (h : Keeps s t) : Keeps s (endCmd t i j k l) := by
  simp only [endCmd]
  split
  · exact h
  · split
    · exact h
    · exact completePlain_keeps h
    · split
      · exact h
      · split
        · exact .upd (keeps_forEach h fun h => .ite (haltCore_keeps h) h)
        · exact completeCmd_keeps (keeps_forEach h fun h => .ite (haltCore_keeps h) h)

theorem poisonEnd_keeps (h : Keeps s t) {x : Cmd} : Keeps s (poisonEnd t i x j) := endCmd_keeps (logEvent_keeps h)

theorem codeEnd_keeps (h : Keeps s t) : Keeps s (codeEnd t) := by
  simp only [codeEnd]
  split
  · exact h
  · exact rejudge_keeps (keeps_forEach h fun h => poisonEnd_keeps h)

theorem execQueueRelease_keeps (h : Keeps s t) : Steps s (execQueueRelease i t) := by
  simp only [execQueueRelease]
  split
  · split
    · split
      · split
        · exact .next (rejudge_keeps (completeCmd_keeps (releaseQueues_keeps h)))
        · exact .next h
      · exact .next h
    · exact .next h
  · split
    · exact .next (releaseQueues_keeps h)
    · exact .next h

theorem faultCore_keeps (h : Keeps s t) : Keeps s (faultCore t i j) := by
  refine rejudge_keeps ?_
  split
  · exact endCmd_keeps (raise_keeps (logEvent_keeps (haltCore_keeps h.upd)))
  · exact raise_keeps (logEvent_keeps (haltCore_keeps h.upd))

theorem orphanCredits_keeps (h : Keeps s t) : Keeps s (orphanCredits t i) := .upd (keeps_forEach h fun h => modCred_keeps h)

theorem writeOffQueues_keeps (h : Keeps s t) : Keeps s (writeOffQueues t i) :=
  keeps_forEach h fun h => .ite (dropQueue_keeps h) (logWriteOff_keeps (dropQueue_keeps h))

theorem loseSpare_keeps (h : Keeps s t) : Keeps s (loseSpare t i j) := h.upd

theorem logLost_keeps (h : Keeps s t) : Keeps s (logLost t i j k l m) := raise_keeps (raise_keeps (logEvent_keeps h))

theorem loseCore_keeps (h : Keeps s t) : Keeps s (loseCore t i j) := by
  have hspare : Keeps s (match servedBy t i with | some k => loseSpare t (i / 64) k | none => t) := by
    split
    · exact loseSpare_keeps h
    · exact h
  have hback {u : State} (h : Keeps s u) : Keeps s (baseCovered (noticeTile (returnAll u i) (i / 64) true)) :=
    baseCovered_keeps (noticeTile_keeps (returnAll_keeps h))
  unfold loseCore
  refine .ite h ?_
  dsimp only
  split
  · exact endCmd_keeps (logLost_keeps (orphanCredits_keeps (.ite (hback (.upd hspare)) (writeOffQueues_keeps (hback (.upd
        hspare))))))
  · exact logLost_keeps (orphanCredits_keeps (.ite (hback (.upd hspare)) (writeOffQueues_keeps (hback (.upd hspare)))))

theorem declareLost_keeps (h : Keeps s t) : Keeps s (declareLost t i j) := by
  unfold declareLost
  refine .ite (loseCore_keeps h) ?_
  dsimp only
  generalize (if (i - 512) % 2 = 0 then (t.tile ((i - 512) / 2)).spare0 else (t.tile ((i - 512) / 2)).spare1) = spare
  cases spare with
  | some c => exact loseCore_keeps h
  | none => exact .ite h (logLost_keeps (loseSpare_keeps h))

theorem execHeartbeatTimeout_keeps (h : Keeps s t) : Steps s (execHeartbeatTimeout i t) := by
  simp only [execHeartbeatTimeout]
  split
  · exact .next (rejudge_keeps (declareLost_keeps h))
  · exact .next h

theorem execCoreEccError_keeps (h : Keeps s t) : Steps s (execCoreEccError i b t) := by
  simp only [execCoreEccError]
  split
  · exact .next h
  · split
    · exact .next (rejudge_keeps (declareLost_keeps h))
    · exact .next h.upd

theorem execGrantResend_keeps (h : Keeps s t) : Steps s (execGrantResend i t) := by
  simp only [execGrantResend]
  split
  · exact .next h
  · split
    · exact .next (modGrant_keeps h)
    · exact .next (rejudge_keeps (loseCore_keeps (logEvent_keeps h)))

theorem mapSpare_keeps (h : Keeps s t) : Keeps s (mapSpare t i) := by
  simp only [mapSpare]
  split
  · exact h
  · exact raise_keeps (logEvent_keeps (.ite (modTok_keeps (.upd (.upd h.upd))) (.upd h.upd)))

theorem tileReset_keeps (h : Keeps s t) : Keeps s (tileReset t i) := by
  simp only [tileReset]
  exact modTally_keeps (modCred_keeps (.upd (keeps_forEach h fun h => h.upd)))

theorem writeClock_keeps (h : Keeps s t) : Keeps s (writeClock i w t).1 :=
  guarded_keeps h fun h => .ite h (.upd (setCalN_keeps h))

theorem execClockChangeDone_keeps (h : Keeps s t) : Steps s (execClockChangeDone i t) := by
  simp only [execClockChangeDone]
  split
  · exact .next h
  · exact .next (raise_keeps (logEvent_keeps h.upd))

theorem startHand_keeps (h : Keeps s t) : Keeps s (startHand t i) := .upd (releaseQueues_keeps h)

theorem stopCore_keeps (h : Keeps s t) : Keeps s (stopCore t i) := h.upd

theorem resumeCore_keeps (h : Keeps s t) : Keeps s (resumeCore t i) := stokeTo_keeps h.upd

theorem writeOp_keeps (h : Keeps s t) : Keeps s (writeOp i w t).1 :=
  guarded_keeps h fun h => .ite (startHand_keeps h) (.ite (stopCore_keeps h) (resumeCore_keeps h))

theorem abortCheck_keeps (h : Keeps s t) : Keeps s (abortCheck t i) := by
  simp only [abortCheck]
  split
  · split
    · exact endCmd_keeps h
    · exact h
  · exact h

theorem execCoreHalt_keeps (h : Keeps s t) : Steps s (execCoreHalt i t) := by
  refine .ite (.next (rejudge_keeps ?_)) (.next h)
  split
  · exact abortCheck_keeps (raise_keeps (haltCore_keeps h))
  · exact raise_keeps (haltCore_keeps h)

theorem csrFree_keeps (h : Keeps s t) : Keeps s (csrFree t i j) := by
  simp only [csrFree]
  split
  · exact .upd h.upd
  · exact h

theorem writeRegData_keeps (h : Keeps s t) : Keeps s (writeRegData i w t).1 := guarded_keeps h fun h => h.upd

theorem writeLsData_keeps (h : Keeps s t) : Keeps s (writeLsData i w t).1 := guarded_keeps h fun h => h.upd

theorem coreReadEffect_keeps (h : Keeps s t) : Keeps s (coreReadEffect t i j) := by
  simp only [coreReadEffect]
  split
  · exact h.upd
  · split
    · exact csrFree_keeps h
    · exact h
  · exact h

theorem writeCore_keeps (h : Keeps s t) : Keeps s (writeCore i j w t).1 := by
  simp only [writeCore]
  split
  · exact writeOp_keeps h
  · exact guarded_keeps h fun h => h.upd
  · exact guarded_keeps h fun h => h.upd
  · exact guarded_keeps h fun h => h.upd
  · exact writeRegData_keeps h
  · exact guarded_keeps h fun h => h.upd
  · exact writeLsData_keeps h
  · exact guarded_keeps h fun h => h.upd
  · exact roWrite_keeps h

theorem writeGrid_keeps (h : Keeps s t) : Keeps s (writeGrid i j w t).1 := by
  simp only [writeGrid]
  split
  · exact writeClock_keeps h
  · exact guarded_keeps h fun h => h.upd
  · exact roWrite_keeps h


/-! ### What is kept: Core instructions (chapter 12) -/

theorem settle_keeps (h : Keeps s t) {x : List (Nat × Bool)} {eff : State → State} (heff : ∀ {t}, Keeps s t → Keeps
    s (eff t)) : Keeps s (settle i x eff t) := by
  simp only [settle]
  split
  · exact faultCore_keeps h
  · exact heff h

theorem runInstr_keeps (h : Keeps s t) {x : Uses} {x1 : CoreSt → List (Nat × Bool)} {eff : State → State} (heff : ∀
    {t}, Keeps s t → Keeps s (eff t)) : Steps s (runInstr i x f x1 eff t) := by
  simp only [runInstr]
  split
  · exact .next h
  · exact .next (settle_keeps h fun h => .upd (heff h))

theorem runCore_keeps (h : Keeps s t) {x : Uses} {x1 : CoreSt → List (Nat × Bool)} {x2 : CoreSt → CoreSt} : Steps s (runCore i x f
    x1 x2 t) :=
  runInstr_keeps h fun h => h.upd

theorem runStall_keeps (h : Keeps s t) {x : Uses} {x1 : CoreSt → List (Nat × Bool)} {x2 : Stall} {x3 : State → Bool} {eff :
    State → State} (heff : ∀ {t}, Keeps s t → Keeps s (eff t)) : Steps s (runStall i x f x1 x2 x3 eff t) := by
  simp only [runStall]
  split
  · exact .next h
  · exact .next (settle_keeps h fun h => .ite (.upd (heff h)) h.upd)


/-! ### What is kept: Scalar instructions -/

theorem scalarOp_keeps (h : Keeps s t) {x : Word → Word → Word} : Steps s (scalarOp x i f t) := runCore_keeps h

theorem execAdd_keeps (h : Keeps s t) : Steps s (execAdd i f t) := scalarOp_keeps h

theorem execSub_keeps (h : Keeps s t) : Steps s (execSub i f t) := scalarOp_keeps h

theorem execAnd_keeps (h : Keeps s t) : Steps s (execAnd i f t) := scalarOp_keeps h

theorem execOr_keeps (h : Keeps s t) : Steps s (execOr i f t) := scalarOp_keeps h

theorem execXor_keeps (h : Keeps s t) : Steps s (execXor i f t) := scalarOp_keeps h

theorem execShl_keeps (h : Keeps s t) : Steps s (execShl i f t) := scalarOp_keeps h

theorem execShr_keeps (h : Keeps s t) : Steps s (execShr i f t) := scalarOp_keeps h

theorem execSra_keeps (h : Keeps s t) : Steps s (execSra i f t) := scalarOp_keeps h

theorem execMul_keeps (h : Keeps s t) : Steps s (execMul i f t) := scalarOp_keeps h

theorem execMulh_keeps (h : Keeps s t) : Steps s (execMulh i f t) := scalarOp_keeps h

theorem execSlt_keeps (h : Keeps s t) : Steps s (execSlt i f t) := scalarOp_keeps h

theorem execSltu_keeps (h : Keeps s t) : Steps s (execSltu i f t) := scalarOp_keeps h

theorem execMin_keeps (h : Keeps s t) : Steps s (execMin i f t) := scalarOp_keeps h

theorem execMax_keeps (h : Keeps s t) : Steps s (execMax i f t) := scalarOp_keeps h

theorem execAadd_keeps (h : Keeps s t) : Steps s (execAadd i f t) := runCore_keeps h

theorem execAmov_keeps (h : Keeps s t) : Steps s (execAmov i f t) := runCore_keeps h

theorem execArd_keeps (h : Keeps s t) : Steps s (execArd i f t) := runCore_keeps h

theorem execLd_keeps (h : Keeps s t) : Steps s (execLd i f t) := runCore_keeps h

theorem execSt_keeps (h : Keeps s t) : Steps s (execSt i f t) := runCore_keeps h

theorem execLda_keeps (h : Keeps s t) : Steps s (execLda i f t) := runCore_keeps h

theorem execSta_keeps (h : Keeps s t) : Steps s (execSta i f t) := runCore_keeps h

theorem execCsrr_keeps (h : Keeps s t) : Steps s (execCsrr i f t) := runInstr_keeps h fun h => .upd (csrFree_keeps h)

theorem execCsrw_keeps (h : Keeps s t) {x : BitVec 4} : Steps s (execCsrw i f x t) := runCore_keeps h

theorem branch_keeps (h : Keeps s t) {x : Word → Word → Bool} : Steps s (branch x i f t) := by
  simp only [branch]
  split
  · exact .next h
  · exact .next (settle_keeps h fun h => h.upd)

theorem execBeq_keeps (h : Keeps s t) : Steps s (execBeq i f t) := branch_keeps h

theorem execBne_keeps (h : Keeps s t) : Steps s (execBne i f t) := branch_keeps h

theorem execBlt_keeps (h : Keeps s t) : Steps s (execBlt i f t) := branch_keeps h

theorem execBge_keeps (h : Keeps s t) : Steps s (execBge i f t) := branch_keeps h

theorem execBltu_keeps (h : Keeps s t) : Steps s (execBltu i f t) := branch_keeps h

theorem execBgeu_keeps (h : Keeps s t) : Steps s (execBgeu i f t) := branch_keeps h

theorem jump_keeps (h : Keeps s t) {x : Uses} {x1 : CoreSt → Int} {x2 : CoreSt → CoreSt} : Steps s (jump i x f x1 x2 t) := by
  simp only [jump]
  split
  · exact .next h
  · exact .next (settle_keeps h fun h => h.upd)

theorem execJ_keeps (h : Keeps s t) : Steps s (execJ i f t) := jump_keeps h

theorem execJal_keeps (h : Keeps s t) : Steps s (execJal i f t) := jump_keeps h

theorem execJr_keeps (h : Keeps s t) : Steps s (execJr i f t) := jump_keeps h

theorem execLoop_keeps (h : Keeps s t) : Steps s (execLoop i f t) := by
  simp only [execLoop]
  split
  · exact .next h
  · exact .next (settle_keeps h fun h => h.upd)

theorem execNop_keeps (h : Keeps s t) : Steps s (execNop i f t) := runCore_keeps h


/-! ### What is kept: Matrix and stream instructions -/

theorem scfg_keeps (h : Keeps s t) : Steps s (scfg i f t) := runStall_keeps h fun h => h.upd

theorem execScfg_keeps (h : Keeps s t) : Steps s (execScfg i f t) := scfg_keeps h

theorem execSgo_keeps (h : Keeps s t) : Steps s (execSgo i f t) := runInstr_keeps h fun h => .ite h (.upd h.upd)

theorem swait_keeps (h : Keeps s t) : Steps s (swait i f t) := by
  simp only [swait]
  exact runStall_keeps h fun h => h

theorem execSwait_keeps (h : Keeps s t) : Steps s (execSwait i f t) := swait_keeps h

theorem execSstat_keeps (h : Keeps s t) : Steps s (execSstat i f t) := runCore_keeps h

theorem execSstop_keeps (h : Keeps s t) : Steps s (execSstop i f t) := runCore_keeps h

theorem engFault_keeps (h : Keeps s t) : Keeps s (engFault t i j k) := h.upd

theorem execStreamEngineTransfer_keeps (h : Keeps s t) {x : EccFound} : Steps s (execStreamEngineTransfer i j x t) :=
  .ite (.next h) (.ite (.next (engFault_keeps h)) (.ite (.next h) (.ite (.next (engFault_keeps h)) (.ite (.next (.upd
      (memWrite_keeps h))) (.ite (.next (codeEnd_keeps (eccFound_keeps h))) (.ite (.next (engFault_keeps (codeEnd_keeps
          (eccFound_keeps h)))) (.ite (.next (.upd (codeEnd_keeps (eccFound_keeps h)))) (.next (.upd (.upd (codeEnd_keeps
              (eccFound_keeps h))))))))))))

theorem mma_keeps (h : Keeps s t) : Steps s (mma b i f t) := runStall_keeps h fun h => .upd h.upd

theorem execMma_keeps (h : Keeps s t) : Steps s (execMma i f t) := mma_keeps h

theorem execMmaz_keeps (h : Keeps s t) : Steps s (execMmaz i f t) := mma_keeps h

theorem execAccz_keeps (h : Keeps s t) : Steps s (execAccz i f t) := runCore_keeps h

theorem execAccrd_keeps (h : Keeps s t) : Steps s (execAccrd i f t) := runCore_keeps h

theorem execAccwr_keeps (h : Keeps s t) : Steps s (execAccwr i f t) := runCore_keeps h

theorem execAccst_keeps (h : Keeps s t) : Steps s (execAccst i f t) := by
  simp only [execAccst]
  exact runInstr_keeps h fun h => .upd h.upd

theorem execAccld_keeps (h : Keeps s t) : Steps s (execAccld i f t) := runCore_keeps h


/-! ### What is kept: Vector instructions -/

theorem runFree_keeps (h : Keeps s t) {x : Uses} {x1 : CoreSt → List (Nat × Bool)} {x2 : Nat → CoreSt → CoreSt} : Steps s (runFree i
    x f x1 x2 t) :=
  runInstr_keeps h fun h => .upd h.upd

theorem vectorOp_keeps (h : Keeps s t) {x : VOp} : Steps s (vectorOp x i f t) := by
  simp only [vectorOp]
  exact runFree_keeps h

theorem execVadd_keeps (h : Keeps s t) : Steps s (execVadd i f t) := vectorOp_keeps h

theorem execVsub_keeps (h : Keeps s t) : Steps s (execVsub i f t) := vectorOp_keeps h

theorem execVmul_keeps (h : Keeps s t) : Steps s (execVmul i f t) := vectorOp_keeps h

theorem execVfma_keeps (h : Keeps s t) : Steps s (execVfma i f t) := vectorOp_keeps h

theorem execVmax_keeps (h : Keeps s t) : Steps s (execVmax i f t) := vectorOp_keeps h

theorem execVmin_keeps (h : Keeps s t) : Steps s (execVmin i f t) := vectorOp_keeps h

theorem vectorFn_keeps (h : Keeps s t) {x : Nat → Rnd → Src → Nat → LaneOut} : Steps s (vectorFn i x j f t) := by
  simp only [vectorFn]
  exact runFree_keeps h

theorem execVexp2_keeps (h : Keeps s t) : Steps s (execVexp2 i f t) := vectorFn_keeps h

theorem execVrcp_keeps (h : Keeps s t) : Steps s (execVrcp i f t) := vectorFn_keeps h

theorem execVrsqrt_keeps (h : Keeps s t) : Steps s (execVrsqrt i f t) := vectorFn_keeps h

theorem execVcvt_keeps (h : Keeps s t) : Steps s (execVcvt i f t) := by
  simp only [execVcvt]
  exact runFree_keeps h

theorem execVrsum_keeps (h : Keeps s t) : Steps s (execVrsum i f t) := by
  simp only [execVrsum]
  exact runFree_keeps h

theorem execVrmax_keeps (h : Keeps s t) : Steps s (execVrmax i f t) := by
  simp only [execVrmax]
  exact runFree_keeps h

theorem execVbcast_keeps (h : Keeps s t) : Steps s (execVbcast i f t) := runCore_keeps h

theorem execVmovs_keeps (h : Keeps s t) : Steps s (execVmovs i f t) := runCore_keeps h

theorem execVld_keeps (h : Keeps s t) : Steps s (execVld i f t) := runCore_keeps h

theorem execVst_keeps (h : Keeps s t) : Steps s (execVst i f t) := runCore_keeps h


/-! ### What is kept: System instructions -/

theorem configQueue_keeps (h : Keeps s t) {x : QDesc} : Keeps s (configQueue t i j x) :=
  sendGrants_keeps (modCred_keeps (modQueueOf_keeps h))

theorem execQcfg_keeps (h : Keeps s t) : Steps s (execQcfg i f t) := by
  simp only [execQcfg]
  exact runInstr_keeps h fun h => configQueue_keeps h

theorem sendMsg_keeps (h : Keeps s t) : Keeps s (sendMsg t i j k f) := by
  simp only [sendMsg]
  exact modCred_keeps (.upd (setCred_keeps h))

theorem sendOp_keeps (h : Keeps s t) : Steps s (sendOp i f t) := by
  simp only [sendOp]
  exact runStall_keeps h fun h => sendMsg_keeps h

theorem execSend_keeps (h : Keeps s t) : Steps s (execSend i f t) := sendOp_keeps h

theorem takeHead_keeps (h : Keeps s t) : Keeps s (takeHead t i j f) := by
  simp only [takeHead]
  exact modCred_keeps (.upd (modQueueOf_keeps h.upd))

theorem recvOp_keeps (h : Keeps s t) : Steps s (recvOp i f t) := by
  simp only [recvOp]
  exact runStall_keeps h fun h => takeHead_keeps h

theorem execRecv_keeps (h : Keeps s t) : Steps s (execRecv i f t) := recvOp_keeps h

theorem execQcnt_keeps (h : Keeps s t) : Steps s (execQcnt i f t) := runCore_keeps h

theorem issueAdd_keeps (h : Keeps s t) : Keeps s (issueAdd t i j k) := by
  simp only [issueAdd]
  split
  · exact h
  · exact modTally_keeps h.upd

theorem execTadd_keeps (h : Keeps s t) : Steps s (execTadd i f t) := by
  simp only [execTadd]
  exact runInstr_keeps h fun h => issueAdd_keeps h

theorem twaitOp_keeps (h : Keeps s t) : Steps s (twaitOp i f t) := by
  simp only [twaitOp]
  split
  · exact .next h
  · exact .next (settle_keeps h fun h => .ite h.upd h.upd)

theorem execTwait_keeps (h : Keeps s t) : Steps s (execTwait i f t) := twaitOp_keeps h

theorem execTrd_keeps (h : Keeps s t) : Steps s (execTrd i f t) := by
  simp only [execTrd]
  exact runInstr_keeps h fun h => h.upd

theorem execStoke_keeps (h : Keeps s t) : Steps s (execStoke i f t) := runInstr_keeps h fun h => stokeTo_keeps h

theorem easeRecall_keeps (h : Keeps s t) : Keeps s (easeRecall t i) := by
  simp only [easeRecall]
  split
  · split
    · exact easeTo_keeps h
    · exact h
  · exact h

theorem easeOp_keeps (h : Keeps s t) : Steps s (easeOp i f t) := by
  simp only [easeOp]
  exact runInstr_keeps h fun h => rejudge_keeps (.ite (easeRecall_keeps h) (easeTo_keeps h))

theorem execEase_keeps (h : Keeps s t) : Steps s (execEase i f t) := easeOp_keeps h

theorem execEaseR_keeps (h : Keeps s t) : Steps s (execEaseR i f t) := easeOp_keeps h

theorem grantwOp_keeps (h : Keeps s t) : Steps s (grantwOp i f t) := runStall_keeps h fun h => h

theorem execGrantw_keeps (h : Keeps s t) : Steps s (execGrantw i f t) := grantwOp_keeps h

theorem execYield_keeps (h : Keeps s t) : Steps s (execYield i f t) := by
  simp only [execYield]
  split
  · exact .next h
  · exact .next (settle_keeps h fun h => rejudge_keeps (.ite (.upd (haltCore_keeps (.upd (easeRecall_keeps h)))) (.upd
        (easeRecall_keeps h))))

theorem endCore_keeps (h : Keeps s t) : Keeps s (endCore t i) := by
  simp only [endCore]
  split
  · exact .upd (haltCore_keeps h)
  · split
    · exact .upd (haltCore_keeps h)
    · split
      · exact endCmd_keeps (.upd (haltCore_keeps h))
      · exact abortCheck_keeps (.upd (haltCore_keeps h))

theorem execEnd_keeps (h : Keeps s t) : Steps s (execEnd_ i f t) := by
  simp only [execEnd_]
  split
  · exact .next h
  · exact .next (settle_keeps h fun h => rejudge_keeps (endCore_keeps h))

theorem execTrap_keeps (h : Keeps s t) : Steps s (execTrap i f t) := by
  simp only [execTrap]
  split
  · exact .next h
  · exact .next (settle_keeps h fun h => h)

theorem fenceOp_keeps (h : Keeps s t) : Steps s (fenceOp i f t) := runStall_keeps h fun h => h

theorem execFence_keeps (h : Keeps s t) : Steps s (execFence i f t) := fenceOp_keeps h

theorem execStalledInstructionComplete_keeps (h : Keeps s t) : Steps s (execStalledInstructionComplete i t) := by
  simp only [execStalledInstructionComplete]
  split
  · exact .next h
  · split
    · exact .next h
    · exact sendOp_keeps h.upd
    · exact recvOp_keeps h.upd
    · split
      · exact .next (.upd h.upd)
      · exact .next h
    · exact swait_keeps h.upd
    · exact grantwOp_keeps h.upd
    · exact fenceOp_keeps h.upd
    · exact scfg_keeps h.upd
    · exact mma_keeps h.upd


/-! ### What is kept: Test access port (chapter 20) -/

theorem tapLoad_keeps (h : Keeps s t) : Keeps s (tapLoad i t) := by
  simp only [tapLoad]
  split
  · exact h.upd
  · exact h

theorem execIdcode_keeps (h : Keeps s t) : Steps s (execIdcode t) := by
  simp only [execIdcode]
  split
  · exact .next (emit_keeps h.upd)
  · exact .next h


/-! ### What is kept: Links (chapters 16, 17) -/

theorem sendWord_keeps (h : Keeps s t) : Keeps s (sendWord t i j k) := emit_keeps h.upd

theorem laneOff_keeps (h : Keeps s t) : Keeps s (laneOff t i) := h.upd

theorem laneStart_keeps (h : Keeps s t) : Keeps s (laneStart t i) := h.upd

theorem laneDetect_keeps (h : Keeps s t) : Keeps s (laneDetect t i) := h.upd

theorem sendRole_keeps (h : Keeps s t) : Keeps s (sendRole t i) := sendWord_keeps (.upd (freeVal_keeps h))

theorem laneRole_keeps (h : Keeps s t) : Keeps s (laneRole t i) := sendRole_keeps h.upd

theorem sendSeed_keeps (h : Keeps s t) : Keeps s (sendSeed t i) := by
  simp only [sendSeed]
  split
  · exact sendWord_keeps (.upd (freeVal_keeps h))
  · exact h

theorem seedCheck_keeps (h : Keeps s t) : Keeps s (seedCheck t i) := by
  simp only [seedCheck]
  split
  · exact keeps_forEach h fun h => sendSeed_keeps h
  · exact h

theorem pump_keeps (h : Keeps s t) : Keeps s (pump t i j) := by
  induction j generalizing t with
  | zero => exact h
  | succ n ih =>
    simp only [pump]
    split
    · exact h
    · exact .ite h (ih (emit_keeps h.upd))

theorem pushFlit_keeps (h : Keeps s t) {x : BitVec 2} {x1 : List Byte} : Keeps s (pushFlit t i x x1) :=
  pump_keeps (modReplay_keeps h.upd)

theorem sendMgmt_keeps (h : Keeps s t) {x : List Byte} : Keeps s (sendMgmt t i j x) := by
  simp only [sendMgmt]
  split
  · exact pushFlit_keeps (emit_keeps h)
  · exact emit_keeps h

theorem resendAll_keeps (h : Keeps s t) : Keeps s (resendAll t i) := keeps_forEach h fun h => emit_keeps h

theorem writeOffFlits_keeps (h : Keeps s t) {x : TxFlit → Bool} : Keeps s (writeOffFlits t i x) := by
  simp only [writeOffFlits]
  split
  · exact h
  · split
    · exact modReplay_keeps h.upd
    · exact logWriteOff_keeps (modReplay_keeps h.upd)

theorem enterIdentify_keeps (h : Keeps s t) : Keeps s (enterIdentify t i b) := sendMgmt_keeps h.upd

theorem trainedCheck_keeps (h : Keeps s t) : Keeps s (trainedCheck t i) := by
  simp only [trainedCheck]
  split
  · exact enterIdentify_keeps h.upd
  · exact h

theorem portTime_keeps (h : Keeps s t) : Keeps s (portTime t i) :=
  keeps_forEach (freeVal_keeps h) fun h => .ite h.upd h

theorem countTo_keeps (h : Keeps s t) {x : Word} : Keeps s (countTo t i x) := keeps_forEach h fun h => h.upd

theorem laneWake_keeps (h : Keeps s t) {x : Option Nat} : Keeps s (laneWake t i x) := by
  simp only [laneWake]
  split
  · exact h
  · split
    · exact sendWord_keeps (emit_keeps h.upd)
    · exact emit_keeps h.upd

theorem portWake_keeps (h : Keeps s t) : Keeps s (portWake t i) :=
  keeps_forEach (freeVal_keeps (portTime_keeps h)) fun h => laneWake_keeps h

theorem drainStep_keeps (h : Keeps s t) : Keeps s (drainStep t i) := by
  simp only [drainStep]
  split
  · exact sendMgmt_keeps h.upd
  · exact h

theorem drainedCheck_keeps (h : Keeps s t) : Keeps s (drainedCheck t i) := by
  simp only [drainedCheck]
  split
  · exact raise_keeps (logEvent_keeps h.upd)
  · exact h

theorem startDrain_keeps (h : Keeps s t) : Keeps s (startDrain t i) :=
  drainedCheck_keeps (drainStep_keeps (sendMgmt_keeps h.upd))

theorem lanesOff_keeps (h : Keeps s t) : Keeps s (lanesOff t i) := keeps_forEach h fun h => laneOff_keeps h

theorem portOff_keeps (h : Keeps s t) : Keeps s (portOff t i) := lanesOff_keeps (.upd (writeOffFlits_keeps h))

theorem portTrain_keeps (h : Keeps s t) : Keeps s (portTrain t i) := by
  simp only [portTrain]
  split
  · exact portOff_keeps h
  · exact keeps_forEach (lanesOff_keeps h.upd) fun h => laneStart_keeps h

theorem portDown_keeps (h : Keeps s t) : Keeps s (portDown t i j) := by
  simp only [portDown]
  split
  · exact portOff_keeps (.upd (raise_keeps (logEvent_keeps (writeOffFlits_keeps h))))
  · split
    · exact lanesOff_keeps (.upd (.upd (raise_keeps (logEvent_keeps (writeOffFlits_keeps h)))))
    · exact portTrain_keeps (.upd (raise_keeps (logEvent_keeps (writeOffFlits_keeps h))))

theorem reformDone_keeps (h : Keeps s t) : Keeps s (reformDone t i) := by
  simp only [reformDone]
  split
  · split
    · exact portDown_keeps (.upd (keeps_forEach h fun h => .upd (laneOff_keeps h)))
    · split
      · exact startDrain_keeps (pump_keeps (resendAll_keeps (raise_keeps (logEvent_keeps (.upd (.upd (keeps_forEach h fun h =>
            .upd (laneOff_keeps h))))))))
      · exact pump_keeps (resendAll_keeps (raise_keeps (logEvent_keeps (.upd (.upd (keeps_forEach h fun h => .upd (laneOff_keeps
            h)))))))
  · exact h

theorem startReform_keeps (h : Keeps s t) {x x1 : BitVec 8} : Keeps s (startReform t i x x1) :=
  reformDone_keeps (sendMgmt_keeps h.upd)

theorem laneLeaves_keeps (h : Keeps s t) : Keeps s (laneLeaves t i) := by
  simp only [laneLeaves]
  split
  · exact trainedCheck_keeps h
  · split
    · exact h
    · split
      · exact portDown_keeps (.upd (laneOff_keeps h))
      · split
        · exact portDown_keeps (.upd (laneOff_keeps h))
        · split
          · exact startReform_keeps (.upd (laneOff_keeps h))
          · split
            · exact startReform_keeps (portWake_keeps (.upd (laneOff_keeps h)))
            · exact .upd (.upd (laneOff_keeps h))

theorem askBert_keeps (h : Keeps s t) : Keeps s (askBert t i) := sendMgmt_keeps (.upd (freeVal_keeps h))

theorem portServes_keeps (h : Keeps s t) : Keeps s (portServes t i) := by
  simp only [portServes]
  split
  · exact startDrain_keeps h.upd
  · exact pump_keeps h.upd

theorem portUp_keeps (h : Keeps s t) : Keeps s (portUp t i) :=
  .ite (startDrain_keeps (.ite (askBert_keeps (.upd (raise_keeps (logEvent_keeps h.upd)))) (raise_keeps (logEvent_keeps h.upd))))
      (.ite (askBert_keeps (.upd (raise_keeps (logEvent_keeps h.upd)))) (raise_keeps (logEvent_keeps h.upd)))

theorem quarantine_keeps (h : Keeps s t) : Keeps s (quarantine t i j) := by
  simp only [quarantine]
  split
  · exact raise_keeps (raise_keeps (logEvent_keeps (.upd (writeOffFlits_keeps h))))
  · exact raise_keeps (logEvent_keeps (.upd (writeOffFlits_keeps h)))

theorem portSleep_keeps (h : Keeps s t) {x : Word} : Keeps s (portSleep t i x) :=
  keeps_forEach (.upd (countTo_keeps h)) fun h => h.upd

theorem awakeCheck_keeps (h : Keeps s t) : Keeps s (awakeCheck t i) := by
  simp only [awakeCheck]
  split
  · exact portServes_keeps h
  · exact h

theorem drainPort_keeps (h : Keeps s t) : Keeps s (drainPort t i) := by
  simp only [drainPort]
  split
  · exact h
  · exact h
  · exact h
  · exact h
  · exact startDrain_keeps h
  · exact portWake_keeps h.upd
  · exact h.upd


/-! ### What is kept: Lanes: data -/

theorem trainFail_keeps (h : Keeps s t) : Keeps s (trainFail t i j b) := by
  simp only [trainFail]
  split
  · exact laneLeaves_keeps (.upd (raise_keeps (logEvent_keeps (.upd (.ite (sendWord_keeps h) h)))))
  · exact laneDetect_keeps (raise_keeps (logEvent_keeps (.upd (.ite (sendWord_keeps h) h))))

theorem laneAdvance_keeps (h : Keeps s t) : Keeps s (laneAdvance t i) := by
  simp only [laneAdvance]
  split
  · split
    · exact seedCheck_keeps h.upd
    · exact h.upd
  · exact h

theorem laneWorkDone_keeps (h : Keeps s t) : Keeps s (laneWorkDone t i) := laneAdvance_keeps (sendWord_keeps h.upd)

theorem execSynthLock_keeps (h : Keeps s t) : Steps s (execSynthLock i t) := by
  simp only [execSynthLock]
  split
  · exact .next h.upd
  · exact .next h

theorem execSynthLockTimeout_keeps (h : Keeps s t) : Steps s (execSynthLockTimeout i t) := by
  simp only [execSynthLockTimeout]
  split
  · exact .next (trainFail_keeps h)
  · exact .next h

theorem execDetectPreambleSend_keeps (h : Keeps s t) : Steps s (execDetectPreambleSend i t) := by
  simp only [execDetectPreambleSend]
  split
  · exact .next (emit_keeps h)
  · exact .next h

theorem execPreambleDetected_keeps (h : Keeps s t) {x : List Int} : Steps s (execPreambleDetected i x t) := by
  simp only [execPreambleDetected]
  split
  · exact .next h
  · split
    · exact .next (laneRole_keeps h)
    · split
      · exact .next (laneWake_keeps h)
      · exact .next h

theorem takeWord_keeps (h : Keeps s t) {x : DWord} (hu : takeWord t i j x = some u) : Keeps s u := by
  unfold takeWord at hu
  split at hu
  · cases hu
    exact h.upd
  · cases hu

theorem execRole_keeps (h : Keeps s t) {x : DWord} : Steps s (execRole i x t) := by
  unfold execRole
  refine .ite (.next h) ?_
  split
  · exact .next h
  · rename_i u hu
    have hw := takeWord_keeps h hu
    exact .ite (.next (trainFail_keeps hw)) (.ite (.ite (.next (trainFail_keeps hw)) (.next (sendRole_keeps hw.upd)))
      (.ite (.next hw) (.next (laneWorkDone_keeps hw.upd))))

theorem execReady_keeps (h : Keeps s t) {x : DWord} : Steps s (execReady i x t) := by
  unfold execReady
  refine .ite (.next h) ?_
  split
  · exact .next h
  · rename_i u hu
    exact .next (laneAdvance_keeps (.upd (takeWord_keeps h hu)))

theorem execTrainingPhaseDone_keeps (h : Keeps s t) {x : LaneMeas} : Steps s (execTrainingPhaseDone i x t) := by
  simp only [execTrainingPhaseDone]
  split
  · exact .next (laneAdvance_keeps h)
  · split
    · exact .next h
    · split
      · exact .next (laneAdvance_keeps h)
      · split
        · exact .next (trainFail_keeps h)
        · split
          · exact .next (trainFail_keeps h)
          · exact .next (laneWorkDone_keeps (.ite (sendWord_keeps h.upd) h.upd))

theorem execPresetReq_keeps (h : Keeps s t) {x : DWord} : Steps s (execPresetReq i x t) := by
  unfold execPresetReq
  refine .ite (.next h) ?_
  split
  · exact .next h
  · rename_i u hu
    exact .next (.upd (takeWord_keeps h hu))

theorem execSeed_keeps (h : Keeps s t) {x : DWord} : Steps s (execSeed i x t) := by
  unfold execSeed
  refine .ite (.next h) ?_
  split
  · exact .next h
  · rename_i u hu
    exact .next (.upd (takeWord_keeps h hu))

theorem execWake_keeps (h : Keeps s t) {x : DWord} : Steps s (execWake i x t) := by
  unfold execWake
  refine .ite (.next h) ?_
  split
  · exact .next h
  · rename_i u hu
    exact .next (.upd (takeWord_keeps h hu))

theorem execAbort_keeps (h : Keeps s t) {x : DWord} : Steps s (execAbort i x t) := by
  unfold execAbort
  refine .ite (.next h) ?_
  split
  · exact .next h
  · rename_i u hu
    have hw := takeWord_keeps h hu
    exact .next (.ite (laneLeaves_keeps (trainFail_keeps (raise_keeps hw))) (trainFail_keeps hw))

theorem execPhaseBoundExpire_keeps (h : Keeps s t) : Steps s (execPhaseBoundExpire i t) := by
  simp only [execPhaseBoundExpire]
  split
  · exact .next (trainFail_keeps h)
  · exact .next h

theorem execVerifyEnd_keeps (h : Keeps s t) : Steps s (execVerifyEnd i j k t) := by
  simp only [execVerifyEnd]
  split
  · exact .next h
  · split
    · exact .next (trainFail_keeps h.upd)
    · split
      · exact .next (trainFail_keeps h.upd)
      · exact .next (trainedCheck_keeps (raise_keeps (logEvent_keeps (.upd h.upd))))

theorem laneFalls_keeps (h : Keeps s t) : Keeps s (laneFalls t i) := laneLeaves_keeps (raise_keeps h)

theorem writeLaneCtrl_keeps (h : Keeps s t) : Keeps s (writeLaneCtrl i w t).1 :=
  guarded_keeps h fun h => .ite (.ite (laneFalls_keeps (laneDetect_keeps (.upd h.upd))) (laneDetect_keeps (.upd h.upd))) h.upd

theorem alignmentLost_keeps (h : Keeps s t) : Keeps s (alignmentLost t i j) :=
  laneFalls_keeps (laneRole_keeps (logEvent_keeps (portTime_keeps h)))

theorem steerTraining_keeps (h : Keeps s t) {x : Int} : Keeps s (steerTraining t i x) := by
  simp only [steerTraining]
  split
  · exact h.upd
  · split
    · exact h
    · split
      · exact trainFail_keeps h
      · exact h.upd

theorem execSteeringUpdate_keeps (h : Keeps s t) {x : Int} : Steps s (execSteeringUpdate i x t) := by
  simp only [execSteeringUpdate]
  split
  · exact .next (steerTraining_keeps h)
  · split
    · exact .next h
    · split
      · exact .next h.upd
      · split
        · exact .next h
        · split
          · exact .next (alignmentLost_keeps h)
          · exact .next h.upd

theorem execSnrUpdate_keeps (h : Keeps s t) {x : Option Adapted} : Steps s (execSnrUpdate i j k l x t) := by
  simp only [execSnrUpdate]
  split
  · exact .next h.upd
  · exact .next h

theorem execLaneDegraded_keeps (h : Keeps s t) : Steps s (execLaneDegraded i t) := by
  simp only [execLaneDegraded]
  split
  · exact .next h
  · refine .next ?_
    split
    · exact laneLeaves_keeps (logLimited_keeps (raise_keeps h.upd))
    · exact logLimited_keeps (raise_keeps h.upd)

theorem execQuietWindow_keeps (h : Keeps s t) {x : Option Nat} : Steps s (execQuietWindow i x t) := by
  simp only [execQuietWindow]
  split
  · split
    · exact .next h.upd
    · exact .next h
  · exact .next h

theorem execImpulseBlock_keeps (h : Keeps s t) : Steps s (execImpulseBlock i j k t) := by
  simp only [execImpulseBlock]
  split
  · exact .next h.upd
  · exact .next h

theorem execImpulseRunEnd_keeps (h : Keeps s t) : Steps s (execImpulseRunEnd i j k t) := by
  simp only [execImpulseRunEnd]
  split
  · exact .next h
  · exact .next (logLimited_keeps (raise_keeps h.upd))

theorem execAlignmentLost_keeps (h : Keeps s t) : Steps s (execAlignmentLost i b t) := by
  simp only [execAlignmentLost]
  split
  · exact .next (alignmentLost_keeps h)
  · exact .next h

theorem execWakeFalseDetect_keeps (h : Keeps s t) : Steps s (execWakeFalseDetect i t) := by
  simp only [execWakeFalseDetect]
  split
  · exact .next h.upd
  · exact .next h

theorem execWakeDataResume_keeps (h : Keeps s t) : Steps s (execWakeDataResume i b t) := by
  simp only [execWakeDataResume]
  split
  · exact .next h
  · split
    · exact .next (awakeCheck_keeps h.upd)
    · split
      · exact .next (sendWord_keeps (emit_keeps (.upd (freeVal_keeps (portTime_keeps h)))))
      · exact .next (laneFalls_keeps (laneRole_keeps (raise_keeps (logEvent_keeps h))))

theorem writeLane_keeps (h : Keeps s t) : Keeps s (writeLane i j w t).1 := by
  simp only [writeLane]
  split
  · exact writeLaneCtrl_keeps h
  · exact guarded_keeps h fun h => h.upd
  · exact guarded_keeps h fun h => h.upd
  · exact guarded_keeps h fun h => h.upd
  · exact guarded_keeps h fun h => h.upd
  · exact guarded_keeps h fun h => setCalN_keeps h
  · exact roWrite_keeps h


/-! ### What is kept: Ports (chapter 17) -/

theorem execFlitSubmit_keeps (h : Keeps s t) {x : BitVec 2} {x1 : List Byte} : Steps s (execFlitSubmit i x x1 t) := by
  simp only [execFlitSubmit]
  split
  · exact .next h
  · split
    · exact .next (pushFlit_keeps h.upd)
    · exact .next (pushFlit_keeps h.upd)
    · exact .next (pushFlit_keeps h.upd)
    · exact .next (portWake_keeps (pushFlit_keeps h))
    · exact .next h

theorem acceptFlit_keeps (h : Keeps s t) {x : Flit} : Keeps s (acceptFlit t i x) := by
  simp only [acceptFlit]
  split
  · exact portDown_keeps h
  · split
    · exact h.upd
    · split
      · exact h.upd
      · exact emit_keeps h.upd

theorem execFlitReceived_keeps (h : Keeps s t) {x : Flit} : Steps s (execFlitReceived i x t) := by
  simp only [execFlitReceived]
  split
  · exact .next h
  · split
    · exact .next h.upd
    · split
      · exact .next (portDown_keeps h.upd)
      · split
        · exact .next (pump_keeps h.upd)
        · split
          · exact .next (pump_keeps (acceptFlit_keeps h.upd))
          · split
            · exact .next (pump_keeps (.upd h.upd))
            · exact .next (pump_keeps h.upd)

theorem takeAck_keeps (h : Keeps s t) {x : BitVec 16} : Keeps s (takeAck t i x) := by
  simp only [takeAck]
  split
  · exact h
  · exact drainedCheck_keeps (drainStep_keeps (modReplay_keeps h.upd))

theorem startReplay_keeps (h : Keeps s t) : Keeps s (startReplay t i b) := by
  simp only [startReplay]
  split
  · exact portDown_keeps h.upd
  · exact pump_keeps (resendAll_keeps h.upd)

theorem execNakReceived_keeps (h : Keeps s t) {x : BitVec 16} : Steps s (execNakReceived i x t) := by
  simp only [execNakReceived]
  split
  · exact .next (takeAck_keeps h)
  · exact .next (startReplay_keeps (.upd (takeAck_keeps h)))

theorem execReplayTimeout_keeps (h : Keeps s t) : Steps s (execReplayTimeout i t) := by
  simp only [execReplayTimeout]
  split
  · exact .next h
  · exact .next (startReplay_keeps h)

theorem execReceiveBufferFree_keeps (h : Keeps s t) {x : BitVec 2} : Steps s (execReceiveBufferFree i x t) := by
  simp only [execReceiveBufferFree]
  split
  · exact .next h
  · exact .next h.upd

theorem execIdentity_keeps (h : Keeps s t) {x : IdentRec} : Steps s (execIdentity i x t) :=
  .ite (.next h) (.ite (.next (quarantine_keeps (sendMgmt_keeps h.upd))) (.ite (.next (portUp_keeps (sendMgmt_keeps h.upd)))
      (.next (sendMgmt_keeps h.upd))))

theorem execVerdict_keeps (h : Keeps s t) : Steps s (execVerdict i b j t) :=
  .ite (.next h) (.ite (.next (quarantine_keeps h)) (.ite (.next (portUp_keeps h.upd)) (.next h.upd)))

theorem execIdentifyTimeout_keeps (h : Keeps s t) : Steps s (execIdentifyTimeout i t) := by
  simp only [execIdentifyTimeout]
  split
  · exact .next (quarantine_keeps h)
  · exact .next h

theorem execReform_keeps (h : Keeps s t) {x : BitVec 16} : Steps s (execReform i x t) := by
  simp only [execReform]
  split
  · exact .next (startReform_keeps h.upd)
  · exact .next (reformDone_keeps h.upd)
  · exact .next h

theorem execSleepReq_keeps (h : Keeps s t) {x : Word} : Steps s (execSleepReq i x t) := by
  simp only [execSleepReq]
  split
  · exact .next h
  · split
    · exact .next h.upd
    · split
      · exact .next (portSleep_keeps (emit_keeps h))
      · exact .next h

theorem execSleepAck_keeps (h : Keeps s t) {x : Word} : Steps s (execSleepAck i x t) := by
  simp only [execSleepAck]
  split
  · exact .next (portSleep_keeps h)
  · exact .next h

theorem execIdleExpire_keeps (h : Keeps s t) : Steps s (execIdleExpire i t) := by
  simp only [execIdleExpire]
  split
  · exact .next (emit_keeps (.upd (freeVal_keeps (portTime_keeps h))))
  · exact .next h

theorem writePortCtrl_keeps (h : Keeps s t) : Keeps s (writePortCtrl i w t).1 :=
  guarded_keeps h fun h => .ite (drainPort_keeps (.ite (enterIdentify_keeps (.ite (askBert_keeps h) h)) (.ite (askBert_keeps h)
      h))) (.ite (enterIdentify_keeps (.ite (askBert_keeps h) h)) (.ite (askBert_keeps h) h))

theorem execBertHoursExpire_keeps (h : Keeps s t) : Steps s (execBertHoursExpire i t) := by
  simp only [execBertHoursExpire]
  split
  · exact .next (askBert_keeps h)
  · exact .next h

theorem execBertReq_keeps (h : Keeps s t) {x x1 : Word} : Steps s (execBertReq i x x1 t) := by
  simp only [execBertReq]
  split
  · exact .next (.upd (countTo_keeps (sendMgmt_keeps h)))
  · exact .next h

theorem execBertAck_keeps (h : Keeps s t) {x x1 : Word} : Steps s (execBertAck i x x1 t) := by
  simp only [execBertAck]
  split
  · exact .next (.upd (countTo_keeps h))
  · exact .next h

theorem execBertEnd_keeps (h : Keeps s t) : Steps s (execBertEnd i j ns t) := by
  simp only [execBertEnd]
  split
  · exact .next h
  · split
    · exact .next (portServes_keeps (raise_keeps (logEvent_keeps h.upd)))
    · split
      · exact .next (quarantine_keeps (.upd (keeps_forEach (raise_keeps (logEvent_keeps h.upd)) fun h => .upd (laneOff_keeps h))))
      · exact .next (startReform_keeps (keeps_forEach (raise_keeps (logEvent_keeps h.upd)) fun h => .upd (laneOff_keeps h)))

theorem writePortEnable_keeps (h : Keeps s t) {freeze : Bool → State → State} (hfreeze : ∀ {a0 t}, Keeps s t →
    Keeps s (freeze a0 t)) : Keeps s (writePortEnable i freeze w t).1 :=
  guarded_keeps h fun h => .ite (portTrain_keeps (.upd (.ite (portOff_keeps (hfreeze h)) (hfreeze h)))) (.ite (.upd (hfreeze h))
      (hfreeze h))

theorem execSeedHoldExpire_keeps (h : Keeps s t) : Steps s (execSeedHoldExpire i t) := by
  simp only [execSeedHoldExpire]
  split
  · exact .next (trainedCheck_keeps (seedCheck_keeps (keeps_forEach h fun h => .upd (laneOff_keeps h))))
  · exact .next h

theorem execPortDisableDone_keeps (h : Keeps s t) : Steps s (execPortDisableDone i t) := by
  simp only [execPortDisableDone]
  split
  · exact .next (portOff_keeps h)
  · exact .next h

theorem execDrainNotice_keeps (h : Keeps s t) : Steps s (execDrainNotice i t) := by
  simp only [execDrainNotice]
  split
  · exact .next (drainedCheck_keeps (drainStep_keeps h.upd))
  · exact .next h

theorem execDrained_keeps (h : Keeps s t) : Steps s (execDrained i t) := by
  simp only [execDrained]
  split
  · exact .next (drainedCheck_keeps h.upd)
  · exact .next h

theorem writePort_keeps (h : Keeps s t) : Keeps s (writePort i j w t).1 := by
  simp only [writePort]
  split
  · exact writePortCtrl_keeps h
  · exact guarded_keeps h fun h => h.upd
  · exact guarded_keeps h fun h => h.upd
  · exact guarded_keeps h fun h => h.upd
  · exact guarded_keeps h fun h => h.upd
  · exact roWrite_keeps h

theorem writeWiring_keeps (h : Keeps s t) : Keeps s (writeWiring i j w t).1 := by
  simp only [writeWiring]
  split
  · exact guarded_keeps h fun h => h.upd
  · exact guarded_keeps h fun h => .upd (.ite h (portOff_keeps h))
  · exact guarded_keeps h fun h => h.upd
  · exact guarded_keeps h fun h => h.upd
  · exact guarded_keeps h fun h => h.upd
  · exact roWrite_keeps h


/-! ### What is kept: Survey engines (chapter 07) -/

theorem trimsSettle_keeps (h : Keeps s t) : Keeps s (trimsSettle t i b) := by
  simp only [trimsSettle]
  split
  · exact h
  · exact h.upd

theorem urgentDrop_keeps (h : Keeps s t) {x : UrgReq} : Keeps s (urgentDrop t i x) :=
  logLimited_keeps (raise_keeps h.upd)

theorem urgentReq_keeps (h : Keeps s t) {x : UrgReq} : Keeps s (urgentReq t i x).1 := by
  simp only [urgentReq]
  split
  · exact urgentDrop_keeps h
  · split
    · split
      · exact h.upd
      · exact urgentDrop_keeps h
    · exact h.upd
    · split
      · exact h.upd
      · exact urgentDrop_keeps h

theorem hearthUrgent_keeps (h : Keeps s t) : Keeps s (hearthUrgent t i j).1 := urgentReq_keeps h

theorem writeUrgent_keeps (h : Keeps s t) : Keeps s (writeUrgent i w t).1 :=
  guarded_keeps h fun h => .ite (urgentReq_keeps h) h

theorem hearthAsks_keeps (h : Keeps s t) : Keeps s (hearthAsks t i j) := by
  simp only [hearthAsks]
  split
  · exact hearthUrgent_keeps h
  · exact h

theorem execUrgent_keeps (h : Keeps s t) {x : UrgentBy} : Steps s (execUrgent i x t) := by
  simp only [execUrgent]
  split
  · exact .next (writeUrgent_keeps h)
  · exact .next (hearthAsks_keeps h)
  · exact .next (writeUrgent_keeps (hearthAsks_keeps h))

theorem execSurveyPeriod_keeps (h : Keeps s t) : Steps s (execSurveyPeriod i t) := by
  simp only [execSurveyPeriod]
  split
  · exact .next h
  · split
    · exact .next h.upd
    · refine .next ?_
      split
      · exact h.upd
      · exact h
    · exact .next h.upd

theorem writeSvCtrl_keeps (h : Keeps s t) : Keeps s (writeSvCtrl i w t).1 := guarded_keeps h fun h => h.upd

theorem dieFeed_keeps (h : Keeps s t) {x : Int} : Keeps s (dieFeed t i x) := by
  simp only [dieFeed]
  split
  · split
    · exact logEvent_keeps h.upd
    · exact h.upd
  · exact h.upd

theorem pathTake_keeps (h : Keeps s t) {x : Int} : Keeps s (pathTake t i j x) := by
  simp only [pathTake]
  split
  · exact h
  · split
    · exact h.upd
    · exact hearthUrgent_keeps h.upd

theorem surveyNext_keeps (h : Keeps s t) : Keeps s (surveyNext t i) := h.upd

theorem overrange_keeps (h : Keeps s t) : Keeps s (overrange t i j k b) := logLimited_keeps (raise_keeps h.upd)

theorem execSurveyConversionDone_keeps (h : Keeps s t) {x : BitVec 12} : Steps s (execSurveyConversionDone i x b t) := by
  simp only [execSurveyConversionDone]
  split
  · exact .next h
  · split
    · exact .next (trimsSettle_keeps (surveyNext_keeps (.ite (pathTake_keeps (.ite (dieFeed_keeps (raise_keeps (.ite
          (overrange_keeps h.upd) h.upd))) (raise_keeps (.ite (overrange_keeps h.upd) h.upd)))) (.ite (dieFeed_keeps (raise_keeps
              (.ite (overrange_keeps h.upd) h.upd))) (raise_keeps (.ite (overrange_keeps h.upd) h.upd))))))
    · exact .next (trimsSettle_keeps (surveyNext_keeps (.ite (dieFeed_keeps (raise_keeps (.ite (overrange_keeps h.upd) h.upd)))
          (raise_keeps (.ite (overrange_keeps h.upd) h.upd)))))
    · exact .next h

theorem execSurveyTimeout_keeps (h : Keeps s t) : Steps s (execSurveyTimeout i t) := by
  simp only [execSurveyTimeout]
  split
  · exact .next h
  · split
    · refine .next ?_
      split
      · exact urgentDrop_keeps (logEvent_keeps h.upd)
      · exact logEvent_keeps h.upd
    · refine .next ?_
      split
      · exact urgentDrop_keeps (logEvent_keeps h.upd)
      · exact logEvent_keeps h.upd
    · exact .next h

theorem surveyOff_keeps (h : Keeps s t) : Keeps s (surveyOff t i) := h.upd

theorem writeTrimData_keeps (h : Keeps s t) : Keeps s (writeTrimData i w t).1 :=
  guarded_keeps h fun h => setCalN_keeps (setCalN_keeps (.ite h.upd h))

theorem clearOvr_keeps (h : Keeps s t) : Keeps s (clearOvr i j w t) := h.upd

theorem writeSurvey_keeps (h : Keeps s t) : Keeps s (writeSurvey i j w t).1 := by
  simp only [writeSurvey]
  split
  · exact writeSvCtrl_keeps h
  · exact writeUrgent_keeps h
  · exact guarded_keeps h fun h => clearOvr_keeps h
  · exact guarded_keeps h fun h => clearOvr_keeps h
  · exact guarded_keeps h fun h => clearOvr_keeps h
  · exact guarded_keeps h fun h => clearOvr_keeps h
  · exact guarded_keeps h fun h => h.upd
  · exact writeTrimData_keeps h
  · exact roWrite_keeps h


/-! ### What is kept: Power operations (chapter 02) -/

theorem noted_keeps (h : Keeps s t) {x : State} : Keeps s (noted x t) := by
  simp only [noted]
  split
  · exact raise_keeps h
  · exact h

theorem tileSettle_keeps (h : Keeps s t) {x : TileState} : Keeps s (tileSettle t i x) := by
  simp only [tileSettle]
  split
  · exact h.upd
  · exact logEvent_keeps (.upd h.upd)

theorem setResult_keeps (h : Keeps s t) : Keeps s (setResult t i j k l) := by
  simp only [setResult]
  split
  · exact raise_keeps h.upd
  · exact h.upd

theorem absence_keeps (h : Keeps s t) : Keeps s (absence t) := by
  simp only [absence]
  split <;> exact h.upd

theorem linkSet_keeps (h : Keeps s t) : Keeps s (linkSet t b i j) :=
  raise_keeps (logEvent_keeps (absence_keeps h.upd))

theorem hubLost_keeps (h : Keeps s t) {x : BootStage} : Keeps s (hubLost t x) :=
  absence_keeps ⟨h.pending, h.trip, fun _ => rfl, fun y => (logsBounded_iff _).mpr ⟨Nat.zero_le _, ((logsBounded_iff t).mp
      (h.logs y)).2⟩⟩

theorem keepRecords_keeps (h : Keeps s t) : Keeps s (keepRecords t) :=
  h.ofRetention fun _ => by rw [List.length_reverse, List.length_take]; exact Nat.min_le_left ..

theorem hubStart_keeps (h : Keeps s t) : Keeps s (hubStart t) := by
  obtain ⟨hp, ht, hm, hl⟩ := hubLost_keeps (x := .pll) h
  exact beginEpoch_keeps ⟨hp, ht, hm, fun x => (logsBounded_iff _).mpr ⟨((logsBounded_iff _).mp (hl x)).1, Nat.zero_le _⟩⟩

theorem autoWake_keeps (h : Keeps s t) : Keeps s (autoWake t) := by
  simp only [autoWake]
  split
  · exact hubStart_keeps h
  · exact h

theorem clearLocks_keeps (h : Keeps s t) : Keeps s (clearLocks t i) := h.upd

theorem sensorsOff_keeps (h : Keeps s t) : Keeps s (sensorsOff t i) := h.upd

theorem tileAtOff_keeps (h : Keeps s t) : Keeps s (tileAtOff t i) :=
  clearLocks_keeps (tileSettle_keeps (sensorsOff_keeps (surveyOff_keeps (.upd (.upd (tileReset_keeps h))))))

theorem tileFallStep_keeps (h : Keeps s t) : Keeps s (tileFallStep t i) := by
  simp only [tileFallStep]
  split
  · exact h
  · split
    · exact netDisable_keeps h
    · split
      · exact netDisable_keeps h
      · exact tileAtOff_keeps h

theorem stackRest_keeps (h : Keeps s t) : Keeps s (stackRest t i) := by
  simp only [stackRest]
  split
  · exact h.upd
  · exact h

theorem tileFall_keeps (h : Keeps s t) : Keeps s (tileFall t i) :=
  tileFallStep_keeps (.upd (netHalt_keeps (netHalt_keeps (stackRest_keeps h))))

theorem tileFail_keeps (h : Keeps s t) : Keeps s (tileFail t i j) := tileFall_keeps (logEvent_keeps h)

theorem forceCores_keeps (h : Keeps s t) {x : ForceOff} : Keeps s (forceCores t i x) := by
  simp only [forceCores]
  split
  · exact keeps_forEach (keeps_forEach h fun h => endCmd_keeps h) fun h => .ite (haltCore_keeps h) h
  · exact declareLost_keeps (declareLost_keeps (keeps_forEach h fun h => loseCore_keeps h))

theorem forceOff_keeps (h : Keeps s t) {x : ForceOff} : Keeps s (forceOff t i x) :=
  .ite h (.ite (.ite (.ite (stackLost_keeps h) (.ite h (stackRest_keeps h))) (forceCores_keeps (.ite (stackLost_keeps h) (.ite h
      (stackRest_keeps h))))) (tileFall_keeps (.upd (.upd (releaseBase_keeps (.ite (.ite (stackLost_keeps h) (.ite h
          (stackRest_keeps h))) (forceCores_keeps (.ite (stackLost_keeps h) (.ite h (stackRest_keeps h))))))))))

theorem barTile_keeps (h : Keeps s t) : Keeps s (barTile t i) := h.upd

theorem beginStep_keeps (h : Keeps s t) {x : PStep} : Keeps s (beginStep t x) := by
  simp only [beginStep]
  split
  · exact hubStart_keeps h
  · exact signalRise_keeps (keeps_forEach h fun h => h.upd)
  · exact .upd (chargeBase_keeps h)
  · exact h.upd
  · exact keeps_forEach h fun h => tileFall_keeps h
  · exact h

theorem startReq_keeps (h : Keeps s t) {x : PwrReq} : Keeps s (startReq t x) := by
  simp only [startReq]
  split
  · exact setResult_keeps h
  · split
    · exact setResult_keeps (beginStep_keeps h.upd)
    · exact setResult_keeps h

theorem settleLost_keeps (h : Keeps s t) {x : PwrReq} {x1 : RefCode} : Keeps s (settleLost t x x1) := by
  simp only [settleLost]
  split <;> exact setResult_keeps h

theorem cutRequest_keeps (h : Keeps s t) {x : State} {x1 : RefCode} : Keeps s (cutRequest x t x1) := by
  simp only [cutRequest]
  split
  · exact settleLost_keeps h
  · exact settleLost_keeps h
  · exact h

theorem bootFailed_keeps (h : Keeps s t) : Keeps s (bootFailed t) := by
  simp only [bootFailed]
  split
  · exact startReq_keeps (.upd (hubLost_keeps (keepRecords_keeps h)))
  · exact setResult_keeps (.upd (hubLost_keeps (keepRecords_keeps h)))
  · exact .upd (hubLost_keeps (keepRecords_keeps h))

theorem bankAtOnce_keeps (h : Keeps s t) : Keeps s (bankAtOnce t) :=
  cutRequest_keeps (retainEvent_keeps (hubLost_keeps h))

theorem finishTrans_keeps (h : Keeps s t) : Keeps s (finishTrans t i j) := by
  simp only [finishTrans]
  split
  · exact h
  · split
    · exact startReq_keeps h.upd
    · exact setResult_keeps h.upd

theorem advance_keeps (h : Keeps s t) : Keeps s (advance t) := by
  simp only [advance]
  split
  · exact h
  · split
    · exact finishTrans_keeps h
    · split
      · exact finishTrans_keeps h
      · split
        · exact beginStep_keeps h.upd
        · exact finishTrans_keeps h

theorem acceptReq_keeps (h : Keeps s t) {x : PwrReq} : Keeps s (acceptReq t x) := by
  simp only [acceptReq]
  split
  · exact setResult_keeps (.upd (by split; exacts [logEvent_keeps h, h]))
  · exact startReq_keeps h

theorem settlePending_keeps (h : Keeps s t) : Keeps s (settlePending t) := by
  simp only [settlePending]
  split
  · exact h
  · split
    · exact startReq_keeps h.upd
    · exact h

theorem enterBanked_keeps (h : Keeps s t) : Keeps s (enterBanked t) :=
  .upd (hubLost_keeps (keepRecords_keeps (logEvent_keeps h)))

theorem tileKindled_keeps (h : Keeps s t) : Keeps s (tileKindled t i) := tileSettle_keeps (.upd (stackEnter_keeps h))

theorem stackStuck_keeps (h : Keeps s t) : Keeps s (stackStuck t i) := by
  simp only [stackStuck]
  split
  · exact tileFail_keeps (stackLost_keeps h)
  · exact h

theorem tileStoked_keeps (h : Keeps s t) : Keeps s (tileStoked t i) := tileSettle_keeps (.ite (logEvent_keeps h) h)

theorem restartRows_keeps (h : Keeps s t) : Keeps s (restartRows t i) := modTally_keeps (modCred_keeps h)

theorem edgesCheck_keeps (h : Keeps s t) : Keeps s (edgesCheck t) := by
  simp only [edgesCheck]
  split
  · exact h.upd
  · exact h

theorem coreStart_keeps (h : Keeps s t) : Keeps s (coreStart t i) := .upd (netEnable_keeps h)

theorem frameEnable_keeps (h : Keeps s t) : Keeps s (frameEnable t i) := by
  simp only [frameEnable]
  split
  · split
    · exact h
    · split
      · exact netEnable_keeps h
      · split
        · exact coreStart_keeps h
        · exact h
      · exact h
  · split
    · exact h
    · split
      · split
        · exact netEnable_keeps h
        · exact h
      · split
        · exact netEnable_keeps h
        · exact h

theorem execTransitionStepDone_keeps (h : Keeps s t) : Steps s (execTransitionStepDone ns t) := by
  simp only [execTransitionStepDone]
  split
  · exact .next h
  · split
    · exact .next h
    · split
      · split
        · exact .next (noted_keeps (advance_keeps h))
        · exact .next h
      · split
        · exact .next h
        · split
          · exact .next (noted_keeps (.upd (keeps_forEach (keeps_forEach h fun h => stackStuck_keeps h) fun h =>
                tileKindled_keeps h)))
          · exact .next (noted_keeps (advance_keeps (.upd (keeps_forEach (keeps_forEach h fun h => stackStuck_keeps h) fun h =>
                tileKindled_keeps h))))
      · split
        · exact .next (noted_keeps (advance_keeps (tileStoked_keeps h)))
        · exact .next (noted_keeps (advance_keeps h))
        · exact .next h
      · split
        · split
          · exact .next h
          · exact .next (noted_keeps (advance_keeps (tileSettle_keeps (restartRows_keeps (rejudge_keeps (releaseBase_keeps h))))))
        · exact .next (noted_keeps (advance_keeps h))
        · exact .next h
      · split
        · exact .next (noted_keeps (advance_keeps h))
        · exact .next h
      · split
        · exact .next h
        · exact .next (noted_keeps (finishTrans_keeps (enterBanked_keeps h)))


/-! ### What is kept: Power faults (chapter 09) -/

theorem capUpdate_keeps (h : Keeps s t) : Keeps s (capUpdate t i) := by
  simp only [capUpdate]
  split
  · exact h
  · exact rejudge_keeps (tileRecall_keeps (logEvent_keeps h.upd))

theorem powerEvent_keeps (h : Keeps s t) : Keeps s (powerEvent t i j p ns) := by
  simp only [powerEvent]
  split
  · exact raise_keeps (logEvent_keeps h)
  · exact logEvent_keeps h

theorem capApply_keeps (h : Keeps s t) : Keeps s (capApply t i) := by
  simp only [capApply]
  split
  · exact capUpdate_keeps (raise_keeps (setRetired_keeps h))
  · exact raise_keeps (setRetired_keeps h)

theorem netConsequences_keeps (h : Keeps s t) : Keeps s (netConsequences t i) := by
  simp only [netConsequences]
  split
  · exact rejudge_keeps (forceOff_keeps (barTile_keeps h))
  · split
    · exact edgesCheck_keeps (keeps_forEach h fun h => portOff_keeps h)
    · split
      · exact edgesCheck_keeps (keeps_forEach h fun h => portOff_keeps h)
      · split
        · exact edgesCheck_keeps (.ite (linkSet_keeps h) h)
        · exact .upd (bankAtOnce_keeps (keepRecords_keeps h))

theorem netFail_keeps (h : Keeps s t) : Keeps s (netFail t i b) := by
  simp only [netFail]
  split
  · exact h
  · exact noted_keeps (netConsequences_keeps (capApply_keeps (netDisable_keeps (.upd (.ite (powerEvent_keeps h) (powerEvent_keeps
        h))))))

theorem capacityCheck_keeps (h : Keeps s t) : Keeps s (capacityCheck t i) := by
  simp only [capacityCheck]
  split
  · exact netFail_keeps h
  · exact h

theorem execNetShort_keeps (h : Keeps s t) : Steps s (execNetShort i t) := by
  simp only [execNetShort]
  split
  · exact .next (netFail_keeps h)
  · exact .next h

theorem execInputSwitchFailed_keeps (h : Keeps s t) : Steps s (execInputSwitchFailed i t) := by
  simp only [execInputSwitchFailed]
  split
  · exact .next (netFail_keeps h)
  · exact .next h

theorem faultLearned_keeps (h : Keeps s t) : Keeps s (faultLearned t i j ns) :=
  capacityCheck_keeps (capApply_keeps (.ite (powerEvent_keeps h) (powerEvent_keeps h)))

theorem hearNow_keeps (h : Keeps s t) : Keeps s (hearNow t i) := by
  simp only [hearNow]
  split
  · exact h
  · exact keeps_forEach h fun h => faultLearned_keeps h.upd

theorem faultReport_keeps (h : Keeps s t) : Keeps s (faultReport t i j k ns) :=
  .ite h.upd (hearNow_keeps h.upd)

theorem lowerCause_keeps (h : Keeps s t) : Keeps s (lowerCause t i j) := by
  simp only [lowerCause]
  split
  · exact h
  · exact .upd h.upd

theorem stretchClock_keeps (h : Keeps s t) : Keeps s (stretchClock t i) := by
  simp only [stretchClock]
  split
  · exact h.upd
  · exact h

theorem isolateCell_keeps (h : Keeps s t) : Keeps s (isolateCell t i j) := by
  simp only [isolateCell]
  split
  · exact lowerCause_keeps h
  · refine faultReport_keeps ?_
    split
    · exact .ite (rollNext_keeps (raise_keeps (stretchClock_keeps h.upd))) (raise_keeps (stretchClock_keeps h.upd))
    · exact raise_keeps (stretchClock_keeps h.upd)

theorem isolateFor_keeps (h : Keeps s t) : Keeps s (isolateFor t i j) := isolateCell_keeps h

theorem dropPhase_keeps (h : Keeps s t) : Keeps s (dropPhase t i j k) := h.upd

theorem execPhaseRemove_keeps (h : Keeps s t) : Steps s (execPhaseRemove i j t) := by
  simp only [execPhaseRemove]
  split
  · exact .next h
  · split
    · exact .next h
    · split
      · exact .next (isolateCell_keeps (raise_keeps (dropPhase_keeps h)))
      · split
        · exact .next (isolateFor_keeps (raise_keeps (dropPhase_keeps h)))
        · split
          · exact .next (raise_keeps (dropPhase_keeps h))
          · exact .next (faultReport_keeps (stretchClock_keeps (raise_keeps (dropPhase_keeps h))))

theorem execStuckHighSide_keeps (h : Keeps s t) : Steps s (execStuckHighSide i j t) := by
  simp only [execStuckHighSide]
  split
  · exact .next (isolateFor_keeps h)
  · exact .next h

theorem execRollResumeTimeout_keeps (h : Keeps s t) : Steps s (execRollResumeTimeout i t) := by
  simp only [execRollResumeTimeout]
  split
  · split
    · exact .next (isolateCell_keeps h)
    · exact .next h
  · exact .next h

theorem dieAnswered_keeps (h : Keeps s t) : Keeps s (dieAnswered t i) :=
  rejudge_keeps (.ite (noticeTile_keeps (hearNow_keeps h.upd)) (hearNow_keeps h.upd))

theorem execDieAnswer_keeps (h : Keeps s t) : Steps s (execDieAnswer i t) := by
  simp only [execDieAnswer]
  split
  · exact .next (dieAnswered_keeps h)
  · exact .next h

theorem pathSuspect_keeps (h : Keeps s t) : Keeps s (pathSuspect t i) := hearthUrgent_keeps (raise_keeps h.upd)

theorem pathUpdate_keeps (h : Keeps s t) : Keeps s (pathUpdate t i) := by
  simp only [pathUpdate]
  split
  · exact h
  · split
    · exact h.upd
    · split
      · exact .upd (.upd h.upd)
      · split
        · exact pathSuspect_keeps (.upd h.upd)
        · split
          · exact isolateFor_keeps (.upd h.upd)
          · exact .upd h.upd

theorem pathJudge_keeps (h : Keeps s t) : Keeps s (pathJudge t i b) :=
  .ite (isolateFor_keeps (powerEvent_keeps h.upd)) (.ite (isolateFor_keeps (powerEvent_keeps h.upd)) (.ite (isolateFor_keeps
      (powerEvent_keeps h.upd)) (powerEvent_keeps h.upd)))

theorem execPathJudge_keeps (h : Keeps s t) : Steps s (execPathJudge i t) := by
  simp only [execPathJudge]
  split
  · exact .next h
  · split
    · exact .next (pathJudge_keeps h)
    · split
      · exact .next (pathJudge_keeps h)
      · exact .next h

theorem execPathConfirmRetry_keeps (h : Keeps s t) : Steps s (execPathConfirmRetry i t) := by
  simp only [execPathConfirmRetry]
  split
  · exact .next h
  · split
    · exact .next h
    · exact .next (hearthUrgent_keeps h.upd)

theorem feedUpdate_keeps (h : Keeps s t) : Keeps s (feedUpdate t i) := by
  simp only [feedUpdate]
  split
  · exact h
  · split
    · exact powerEvent_keeps (.ite (capUpdate_keeps h.upd) h.upd)
    · split
      · exact capUpdate_keeps h.upd
      · exact h.upd

theorem feedLow_keeps (h : Keeps s t) : Keeps s (feedLow t) := by
  simp only [feedLow]
  split
  · split
    · exact h
    · exact raise_keeps (logEvent_keeps h.upd)
  · exact h.upd

theorem execHearthMsUpdate_keeps (h : Keeps s t) {x : HearthMeas} : Steps s (execHearthMsUpdate x t) := by
  simp only [execHearthMsUpdate]
  split
  · exact .next h
  · exact .next (feedLow_keeps (keeps_forEach (keeps_forEach (inletUpdate_keeps (keeps_forEach h.upd fun h => h.upd)) fun h =>
        pathUpdate_keeps h) fun h => feedUpdate_keeps h))

theorem writeCellFault_keeps (h : Keeps s t) : Keeps s (writeCellFault i w t).1 :=
  guarded_keeps h fun h => .ite h (capApply_keeps (logEvent_keeps (.upd (hearNow_keeps h))))

theorem writeCell_keeps (h : Keeps s t) : Keeps s (writeCell i j w t).1 := by
  simp only [writeCell]
  split
  · exact writeCellCtrl_keeps h
  · exact writeDuty_keeps h
  · exact writeCellFault_keeps h
  · exact roWrite_keeps h

theorem execLoopMemError_keeps (h : Keeps s t) : Steps s (execLoopMemError i j k l b t) := by
  simp only [execLoopMemError]
  split
  · exact .next h
  · split
    · exact .next (keeps_forEach (raise_keeps (logEvent_keeps (keeps_forEach h fun h => h.upd))) fun h => isolateCell_keeps h)
    · exact .next (raise_keeps (logEvent_keeps (.ite h.upd h)))

theorem countResend_keeps (h : Keeps s t) {x : LinkRef} : Keeps s (countResend t x) := by
  simp only [countResend]
  split
  · exact h.upd
  · exact keeps_forEach h fun h => h.upd

theorem pathLost_keeps (h : Keeps s t) : Keeps s (pathLost t) := by
  simp only [pathLost]
  split
  · exact h
  · exact rejudge_keeps (raise_keeps (logEvent_keeps (keeps_forEach h.upd fun h => endCmd_keeps h)))

theorem linkCounts_keeps (h : Keeps s t) : Keeps s (linkCounts t ns) := by
  simp only [linkCounts]
  exact keeps_forEach (keeps_forEach h.upd fun h => modTally_keeps h) fun h => creditArrives_keeps h

theorem linkFail_keeps (h : Keeps s t) {x : LinkRef} : Keeps s (linkFail t x i) := by
  simp only [linkFail]
  split
  · split
    · exact keeps_forEach (keeps_forEach (logEvent_keeps h) fun h => raise_keeps h) fun h => portOff_keeps h
    · split
      · exact keeps_forEach (keeps_forEach (logEvent_keeps h) fun h => raise_keeps h) fun h => portOff_keeps h
      · exact pathLost_keeps (keeps_forEach (logEvent_keeps h) fun h => raise_keeps h)
  · exact rejudge_keeps (keeps_forEach (linkCounts_keeps (keeps_forEach (logEvent_keeps h) fun h => raise_keeps h)) fun h =>
        forceOff_keeps (barTile_keeps h))

theorem execMeshFlitResend_keeps (h : Keeps s t) {x : LinkRef} : Steps s (execMeshFlitResend x b t) :=
  .ite (.next h) (.next (.ite (noted_keeps (linkFail_keeps (countResend_keeps h.upd))) (countResend_keeps h.upd)))

theorem writeInlet_keeps (h : Keeps s t) : Keeps s (writeInlet w t).1 :=
  guarded_keeps h fun h => .ite (budgetUpdate_keeps (.upd (raise_keeps h.upd))) (raise_keeps h.upd)

theorem writeHearth_keeps (h : Keeps s t) : Keeps s (writeHearth i w t).1 := by
  simp only [writeHearth]
  split
  · exact writeInlet_keeps h
  · exact guarded_keeps h fun h => h.upd
  · exact roWrite_keeps h


/-! ### What is kept: Loop frames (chapter 06) -/

theorem clampSeen_keeps (h : Keeps s t) : Keeps s (clampSeen t i j k) := logLimited_keeps (raise_keeps h.upd)

theorem staleSeen_keeps (h : Keeps s t) : Keeps s (staleSeen t i j) := logEvent_keeps (raise_keeps h.upd)

theorem adcTake_keeps (h : Keeps s t) {x : Int} {x1 : AdcIn} : Keeps s (adcTake t i j x x1).1 := by
  simp only [adcTake]
  split
  · split
    · exact clampSeen_keeps h
    · exact h
  · exact staleSeen_keeps h

theorem takeSample_keeps (h : Keeps s t) {x : CellSample} : Keeps s (takeSample i t x) := by
  simp only [takeSample]
  split
  · exact h
  · exact .upd (adcTake_keeps (adcTake_keeps (adcTake_keeps (adcTake_keeps (adcTake_keeps h)))))

theorem takeSwap_keeps (h : Keeps s t) : Keeps s (takeSwap t i) := by
  simp only [takeSwap]
  split
  · exact h
  · split
    · exact h.upd
    · exact raise_keeps (logEvent_keeps h.upd)

theorem takeNotes_keeps (h : Keeps s t) : Keeps s (takeNotes t i) := h.upd

theorem stepsJudge_keeps (h : Keeps s t) : Keeps s (stepsJudge t i) := by
  simp only [stepsJudge]
  split
  · exact h
  · split
    · exact isolateCell_keeps (logLimited_keeps h)
    · exact logLimited_keeps h

theorem overrunSeen_keeps (h : Keeps s t) : Keeps s (overrunSeen t i j k) := logLimited_keeps (raise_keeps (.upd h.upd))

theorem capWrite_keeps (h : Keeps s t) {x : List Word} : Keeps s (capWrite t i x) := by
  simp only [capWrite]
  split
  · exact raise_keeps h.upd
  · exact h.upd

theorem capFrame_keeps (h : Keeps s t) {x : FrameCtx} {x1 : FrameRec} {x2 : Int} {x3 : Bool} : Keeps s (capFrame t x x1 x2 b b' x3)
    := by
  simp only [capFrame]
  split
  · exact h
  · split
    · exact h.upd
    · exact capWrite_keeps (by split; exacts [h.upd, freeVal_keeps h.upd])

theorem netMeasure_keeps (h : Keeps s t) : Keeps s (netMeasure t i) := h.upd

theorem frameBoundary_keeps (h : Keeps s t) : Keeps s (frameBoundary t i) := keeps_forEach h fun h => netCellsOff_keeps h

theorem evalEntry_keeps {k : FrameCtx} {a : FrameAcc} {e : SchedEntry} (h : Keeps s a.s) : Keeps s (evalEntry k a e).s := by
  unfold evalEntry
  dsimp only
  split
  · exact h.upd
  · split
    · exact h
    · exact .ite (stepsJudge_keeps (.ite (overrunSeen_keeps h.upd) h.upd)) (.ite (overrunSeen_keeps h.upd) h.upd)

theorem evalEntries_keeps {k : FrameCtx} {es : List SchedEntry} {a : FrameAcc} (h : Keeps s a.s) :
    Keeps s (es.foldl (evalEntry k) a).s := by
  induction es generalizing a with
  | nil => exact h
  | cons e r ih => exact ih (evalEntry_keeps h)

theorem execLoopFrame_keeps (h : Keeps s t) {x : List CellSample} : Steps s (execLoopFrame i x j t) := by
  have h1 : Keeps s (if i < 12 && (t.loopE i).clk then hearNow t i else t) := .ite (hearNow_keeps h) h
  have h2 {u : State} (h : Keeps s u) {f : LoopSt → LoopSt} :
      Keeps s (takeNotes (takeSwap ((forEach x (frameBoundary u i) (takeSample i)).modLoop i f) i) i) :=
    takeNotes_keeps (takeSwap_keeps (.upd (keeps_forEach (frameBoundary_keeps h) fun h => takeSample_keeps h)))
  refine .ite (.next h1) (.next (.ite (noticeFrame_keeps ?_) ?_)) <;>
    exact trimsSettle_keeps (frameEnable_keeps (keeps_forEach
      (.upd (capFrame_keeps (evalEntries_keeps (.ite (raise_keeps (h2 h1)) (h2 h1))))) fun h => netMeasure_keeps h))


/-! ### What is kept: Rails and bring-up (chapter 02) -/

theorem execVsbValid_keeps (h : Keeps s t) {x : BitVec 5} : Steps s (execVsbValid x t) := by
  simp only [execVsbValid]
  split
  · exact .next h
  · exact .next (autoWake_keeps (absence_keeps h.upd))

theorem execVinValid_keeps (h : Keeps s t) : Steps s (execVinValid t) := by
  simp only [execVinValid]
  split
  · exact .next h
  · exact .next (autoWake_keeps h.upd)

theorem execVinLost_keeps (h : Keeps s t) : Steps s (execVinLost t) :=
  .ite (.next h) (.next (.ite (autoStore_keeps (.ite (bankAtOnce_keeps h.upd) h.upd)) (.ite (bankAtOnce_keeps h.upd) h.upd)))

theorem execVhbmLost_keeps (h : Keeps s t) : Steps s (execVhbmLost i t) := by
  simp only [execVhbmLost]
  split
  · exact .next h
  · split
    · exact .next h.upd
    · exact .next (noted_keeps (rejudge_keeps (keeps_forEach (logEvent_keeps h.upd) fun h => forceOff_keeps h)))

theorem execAoLock_keeps (h : Keeps s t) : Steps s (execAoLock t) := by
  simp only [execAoLock]
  refine .next ?_
  split
  · exact h.upd
  · exact h

theorem logLockFail_keeps (h : Keeps s t) : Keeps s (logLockFail t) := by
  simp only [logLockFail]
  split
  · exact logEvent_keeps h.upd
  · exact h

theorem execAoLockTimeout_keeps (h : Keeps s t) : Steps s (execAoLockTimeout t) := by
  simp only [execAoLockTimeout]
  refine .next ?_
  split
  · exact logLockFail_keeps h.upd
  · exact h

theorem loopClkOn_keeps (h : Keeps s t) : Keeps s (loopClkOn t i) := h.upd

theorem execClockLock_keeps (h : Keeps s t) {x : Clock} : Steps s (execClockLock x t) := by
  simp only [execClockLock]
  split
  · split
    · exact .next (logLockFail_keeps h.upd)
    · exact .next h
  · split
    · split
      · exact .next (.upd (loopClkOn_keeps h))
      · exact .next h
    · split
      · split
        · exact .next (loopClkOn_keeps h)
        · exact .next h
      · split
        · exact .next (loopClkOn_keeps h)
        · exact .next h
  · split
    · exact .next h.upd
    · exact .next h
  · split
    · exact .next h.upd
    · exact .next h

theorem execClockLockTimeout_keeps (h : Keeps s t) {x : Clock} : Steps s (execClockLockTimeout x t) := by
  simp only [execClockLockTimeout]
  split
  · split
    · exact .next (bootFailed_keeps h)
    · exact .next h
  · split
    · split
      · exact .next (noted_keeps (tileFail_keeps h))
      · exact .next h
    · split
      · split
        · exact .next (bootFailed_keeps h)
        · exact .next h
      · split
        · exact .next (edgesCheck_keeps h.upd)
        · exact .next h
  · split
    · exact .next (noted_keeps (tileFail_keeps h))
    · exact .next h
  · split
    · exact .next (noted_keeps (tileFail_keeps h))
    · exact .next h

theorem execBootCopyVerified_keeps (h : Keeps s t) {x : CopyCheck} : Steps s (execBootCopyVerified x t) := by
  simp only [execBootCopyVerified]
  split
  · split
    · exact .next h.upd
    · exact .next (logEvent_keeps h.upd)
  · split
    · exact .next h.upd
    · exact .next (bootFailed_keeps (logEvent_keeps h.upd))
  · exact .next h

theorem execCalSlotsRead_keeps (h : Keeps s t) {x x1 : SlotBytes} : Steps s (execCalSlotsRead x x1 t) := by
  simp only [execCalSlotsRead]
  split
  · split
    · exact .next (startMeasure_keeps (.upd (selectCal_keeps h)))
    · exact .next (.upd (selectCal_keeps h))
  · exact .next h

theorem execHoldupMeasureDone_keeps (h : Keeps s t) : Steps s (execHoldupMeasureDone i j k t) := by
  simp only [execHoldupMeasureDone]
  split
  · refine .next ?_
    split
    · exact .upd (finishMeasure_keeps h)
    · exact finishMeasure_keeps h
  · exact .next h

theorem execDeviceReady_keeps (h : Keeps s t) : Steps s (execDeviceReady t) := by
  simp only [execDeviceReady]
  split
  · exact .next (raise_keeps (raise_keeps (logEvent_keeps h.upd)))
  · exact .next h

theorem execNetRampDone_keeps (h : Keeps s t) : Steps s (execNetRampDone i t) := by
  simp only [execNetRampDone]
  split
  · exact .next h
  · split
    · split
      · exact .next (netOn_keeps h)
      · split
        · exact .next (coreStart_keeps (netOn_keeps h))
        · split
          · exact .next (.upd (netOn_keeps h))
          · exact .next (netOn_keeps h)
    · split
      · refine .next ?_
        split
        · exact .upd (netOn_keeps h)
        · exact netOn_keeps h
      · exact .next (edgesCheck_keeps (netOn_keeps h))

theorem execNetRampTimeout_keeps (h : Keeps s t) : Steps s (execNetRampTimeout i j t) := by
  simp only [execNetRampTimeout]
  split
  · exact .next h
  · split
    · exact .next (noted_keeps (tileFail_keeps (netDisable_keeps (.upd (logEvent_keeps h.upd)))))
    · split
      · exact .next (bootFailed_keeps (logEvent_keeps h.upd))
      · split
        · exact .next (netEnable_keeps (netDisable_keeps (logEvent_keeps h.upd)))
        · exact .next (edgesCheck_keeps (netDisable_keeps (logEvent_keeps h.upd)))

theorem framesEnded_keeps (h : Keeps s t) : Keeps s (framesEnded t i) := by
  simp only [framesEnded]
  split
  · exact h
  · exact hearNow_keeps h

theorem execNetDischarged_keeps (h : Keeps s t) : Steps s (execNetDischarged i t) := by
  simp only [execNetDischarged]
  split
  · exact .next h
  · split
    · exact .next (noted_keeps (settlePending_keeps (framesEnded_keeps (tileFallStep_keeps (netOff_keeps h)))))
    · exact .next (framesEnded_keeps (clearLocks_keeps (sensorsOff_keeps (surveyOff_keeps (.upd (netOff_keeps h))))))

theorem writePwrReq_keeps (h : Keeps s t) : Keeps s (writePwrReq w t).1 :=
  guarded_keeps h fun h => noted_keeps (acceptReq_keeps h)

theorem writeBoot_keeps (h : Keeps s t) : Keeps s (writeBoot i w t).1 := by
  simp only [writeBoot]
  split
  · exact writePwrReq_keeps h
  · exact roWrite_keeps h


/-! ### What is kept: Plates (chapter 14) -/

theorem scrubPage_keeps (h : Keeps s t) : Keeps s (scrubPage t i) := keeps_forEach h fun h => memWrite_keeps h

theorem copyImages_keeps (h : Keeps s t) {x : Plate} {x1 : List Byte} : Keeps s (copyImages t x x1) :=
  keeps_forEach h fun h => memWrite_keeps (scrubPage_keeps h)

theorem admitPlate_keeps (h : Keeps s t) {x : Cmd} {x1 : Plate} : Keeps s (admitPlate t i j k x x1) :=
  completeCmd_keeps (raise_keeps (logEvent_keeps (.upd (copyImages_keeps (beginCmd_keeps h)))))

theorem refuseLoad_keeps (h : Keeps s t) {x : Cmd} : Keeps s (refuseLoad t i j x k l m n) :=
  completeCmd_keeps (raise_keeps (logEvent_keeps h.upd))

theorem execLoad_keeps (h : Keeps s t) {x : EccFound} : Steps s (execLoad i x t) := by
  simp only [execLoad]
  split
  · exact .next h
  · split
    · exact .next h
    · split
      · exact .next (refuseLoad_keeps (codeEnd_keeps (eccFound_keeps h)))
      · exact .next (admitPlate_keeps (codeEnd_keeps (eccFound_keeps h)))

theorem execUnload_keeps (h : Keeps s t) : Steps s (execUnload i t) := by
  simp only [execUnload]
  split
  · exact .next h
  · split
    · exact .next h
    · split
      · exact .next (completePlain_keeps h)
      · split
        · exact .next (completePlain_keeps h)
        · exact .next (completePlain_keeps (logEvent_keeps (.upd (beginCmd_keeps h))))

theorem execNopCommand_keeps (h : Keeps s t) : Steps s (execNopCommand i t) := by
  simp only [execNopCommand]
  split
  · exact .next h
  · split
    · exact .next h
    · exact .next (completePlain_keeps (beginCmd_keeps h))


/-! ### What is kept: Tenants (chapter 14) -/

theorem commitPart_keeps (h : Keeps s t) : Keeps s (commitPart t i) :=
  logEvent_keeps (keeps_forEach h.upd fun h => mapSpare_keeps h)

theorem writePartCtrl_keeps (h : Keeps s t) : Keeps s (writePartCtrl i w t).1 :=
  guarded_keeps h fun h => .ite (commitPart_keeps h) (.ite h.upd h)

theorem startCore_keeps (h : Keeps s t) {x x1 : List Byte} : Keeps s (startCore t i j k x x1) :=
  .upd (releaseQueues_keeps h)

theorem startAll_keeps (h : Keeps s t) {x : Cmd} {x1 : Plate} : Keeps s (startAll t i x x1) :=
  keeps_forEach (.upd (.upd (beginCmd_keeps (freeBytes_keeps h)))) fun h => keeps_forEach h fun h => startCore_keeps h

theorem beginRun_keeps (h : Keeps s t) {x : Cmd} {x1 : Plate} {x2 : EccFound} : Keeps s (beginRun t i x x1 x2) := by
  simp only [beginRun]
  split
  · exact completePlain_keeps h
  · split
    · exact completePlain_keeps (codeEnd_keeps (eccFound_keeps h))
    · split
      · exact completePlain_keeps (codeEnd_keeps (eccFound_keeps h))
      · split
        · exact poisonEnd_keeps (codeEnd_keeps (eccFound_keeps (codeEnd_keeps (eccFound_keeps h))))
        · exact startAll_keeps (codeEnd_keeps (eccFound_keeps (codeEnd_keeps (eccFound_keeps h))))

theorem saveSlot_keeps (h : Keeps s t) {x : Plate} {x1 : PSlot} : Keeps s (saveSlot t x x1) :=
  keeps_forEach h fun h => memWrite_keeps (freeBytes_keeps h)

theorem leaveCore_keeps (h : Keeps s t) : Keeps s (leaveCore t i) := h.upd

theorem saveAll_keeps (h : Keeps s t) {x : Cmd} {x1 : Plate} : Keeps s (saveAll t i x x1) :=
  keeps_forEach (releaseQueues_keeps (keeps_forEach h.upd fun h => saveSlot_keeps h)) fun h => leaveCore_keeps h

theorem restoreQueue_keeps (h : Keeps s t) {x : SavedQueue} : Keeps s (restoreQueue t x) :=
  sendGrants_keeps (modCred_keeps (modQueueOf_keeps h))

theorem restoreCore_keeps (h : Keeps s t) {x : CoreSt} {x1 x2 : List Byte} : Keeps s (restoreCore t i j k l x x1
    x2) := by
  simp only [restoreCore]
  split
  · exact h.upd
  · exact stokeTo_keeps h.upd

theorem restoreAll_keeps (h : Keeps s t) {x : Cmd} {x1 : Plate} : Keeps s (restoreAll t i x x1) := by
  simp only [restoreAll]
  refine .upd (keeps_forEach (keeps_forEach (freeBytes_keeps h) fun h => keeps_forEach h fun h => ?_) fun h => restoreQueue_keeps
      h)
  split
  · exact restoreCore_keeps h
  · exact h

theorem beginRestore_keeps (h : Keeps s t) {x : Cmd} {x1 : Plate} : Keeps s (beginRestore t i x x1) := by
  simp only [beginRestore]
  split
  · exact endCmd_keeps h
  · split
    · exact poisonEnd_keeps h
    · exact keeps_forEach (.upd h.upd) fun h => h.upd

theorem takeRun_keeps (h : Keeps s t) {x : Cmd} {x1 : EccFound} : Keeps s (takeRun t i x x1) := by
  simp only [takeRun]
  split
  · exact h
  · split
    · exact beginRun_keeps h
    · exact beginRestore_keeps h

theorem execCommandStart_keeps (h : Keeps s t) {x : EccFound} : Steps s (execCommandStart i x t) := by
  simp only [execCommandStart]
  split
  · exact .next h
  · split
    · exact .next (takeRun_keeps h)
    · exact .next h

theorem execRun_keeps (h : Keeps s t) {x : EccFound} : Steps s (execRun i x t) := by
  simp only [execRun]
  split
  · exact .next h
  · split
    · exact .next h
    · split
      · exact .next (completePlain_keeps h)
      · split
        · exact .next h
        · split
          · split
            · exact .next (beginRun_keeps h)
            · exact .next h
          · exact .next (beginRun_keeps h)

theorem execQuantumExpire_keeps (h : Keeps s t) : Steps s (execQuantumExpire i t) := by
  simp only [execQuantumExpire]
  split
  · exact .next h
  · split
    · exact .next h
    · split
      · exact .next h.upd
      · exact .next h

theorem execYieldGraceExpire_keeps (h : Keeps s t) : Steps s (execYieldGraceExpire i t) := by
  simp only [execYieldGraceExpire]
  split
  · exact .next h
  · split
    · exact .next (keeps_forEach (raise_keeps (logEvent_keeps h)) fun h => stopCore_keeps h)
    · exact .next h

theorem execSwitchOut_keeps (h : Keeps s t) : Steps s (execSwitchOut i t) := by
  simp only [execSwitchOut]
  split
  · exact .next h
  · split
    · exact .next h
    · split
      · exact .next (rejudge_keeps (saveAll_keeps h))
      · exact .next h

theorem execSaveDone_keeps (h : Keeps s t) : Steps s (execSaveDone i t) := by
  simp only [execSaveDone]
  split
  · exact .next h
  · split
    · refine .next ?_
      split
      · exact completePlain_keeps h
      · exact h.upd
    · exact .next h

theorem stopForAbort_keeps (h : Keeps s t) {x : Cmd} : Keeps s (stopForAbort t i x) :=
  abortCheck_keeps (keeps_forEach h fun h => stopCore_keeps h)

theorem restoreEnd_keeps (h : Keeps s t) {x : Cmd} {x1 : Plate} : Keeps s (restoreEnd t i x x1) := by
  simp only [restoreEnd]
  split
  · exact rejudge_keeps (poisonEnd_keeps h)
  · split
    · exact rejudge_keeps (stopForAbort_keeps (restoreAll_keeps h))
    · exact restoreAll_keeps h

theorem execRestoreDone_keeps (h : Keeps s t) {x : EccFound} : Steps s (execRestoreDone i x t) := by
  simp only [execRestoreDone]
  split
  · exact .next h
  · split
    · exact .next h
    · split
      · exact .next h
      · split
        · refine .next ?_
          split
          · exact restoreEnd_keeps (codeEnd_keeps (eccFound_keeps h))
          · exact codeEnd_keeps (eccFound_keeps h)
        · exact .next (codeEnd_keeps (eccFound_keeps h))

theorem abortCmd_keeps (h : Keeps s t) : Keeps s (abortCmd t i) := by
  simp only [abortCmd]
  split
  · exact h
  · split
    · exact h
    · split
      · exact completePlain_keeps h
      · exact h
    · split
      · exact h
      · split
        · exact stopForAbort_keeps h.upd
        · exact stopForAbort_keeps (.upd h.upd)
        · exact h.upd
        · exact endCmd_keeps h.upd
        · exact h.upd

theorem abortDrain_keeps (h : Keeps s t) : Keeps s (abortDrain t i) := keeps_forEach h fun h => abortCmd_keeps h

theorem tenantDrain_keeps (h : Keeps s t) : Keeps s (tenantDrain t i b) :=
  drainCheck_keeps (.ite (rejudge_keeps (abortDrain_keeps (drainReads_keeps h.upd))) (drainReads_keeps h.upd))

theorem writeDrain_keeps (h : Keeps s t) : Keeps s (writeDrain i w t).1 :=
  guarded_keeps h fun h => .ite (tenantDrain_keeps h) (.ite h.upd h.upd)

theorem writeTenCfg_keeps (h : Keeps s t) : Keeps s (writeTenCfg i w t).1 := guarded_keeps h fun h => h.upd

theorem writeTokQuota_keeps (h : Keeps s t) : Keeps s (writeTokQuota i w t).1 :=
  guarded_keeps h fun h => rejudge_keeps h.upd

theorem writeTallyQuota_keeps (h : Keeps s t) : Keeps s (writeTallyQuota i w t).1 := guarded_keeps h fun h => h.upd

theorem modStaged_keeps (h : Keeps s t) {x : PartDef → PartDef} : Keeps s (modStaged t i x) := h.upd

theorem writeTenant_keeps (h : Keeps s t) : Keeps s (writeTenant i j w t).1 := by
  simp only [writeTenant]
  split
  · exact writeTenCfg_keeps h
  · exact writeTokQuota_keeps h
  · exact writeTallyQuota_keeps h
  · exact writeDrain_keeps h
  · exact guarded_keeps h fun h => h.upd
  · exact guarded_keeps h fun h => modStaged_keeps h
  · exact guarded_keeps h fun h => h.upd
  · exact guarded_keeps h fun h => h.upd
  · exact guarded_keeps h fun h => modStaged_keeps h
  · exact guarded_keeps h fun h => modStaged_keeps h
  · exact guarded_keeps h fun h => modStaged_keeps h
  · exact guarded_keeps h fun h => modStaged_keeps h
  · exact writePartCtrl_keeps h
  · exact roWrite_keeps h


/-! ### What is kept: The host interface (chapter 15) -/

theorem writeSqTail_keeps (h : Keeps s t) : Keeps s (writeSqTail i w t).1 := guarded_keeps h fun h => h.upd

theorem writeCqHead_keeps (h : Keeps s t) : Keeps s (writeCqHead i w t).1 := guarded_keeps h fun h => h.upd

theorem writeQueue_keeps (h : Keeps s t) : Keeps s (writeQueue i j w t).1 := by
  simp only [writeQueue]
  split
  · exact guarded_keeps h fun h => h.upd
  · exact guarded_keeps h fun h => h.upd
  · exact guarded_keeps h fun h => h.upd
  · exact guarded_keeps h fun h => h.upd
  · exact guarded_keeps h fun h => h.upd
  · split
    · exact roWrite_keeps h
    · exact guarded_keeps h fun h => .ite (emit_keeps h.upd) h.upd
  · exact writeSqTail_keeps h
  · exact writeCqHead_keeps h
  · exact roWrite_keeps h

theorem discardQueue_keeps (h : Keeps s t) : Keeps s (discardQueue t i) := by
  refine keeps_forEach h fun h => ?_
  dsimp only
  split
  · exact .ite (freeSlot_keeps h.upd) (.ite (completePlain_keeps h.upd) h.upd)
  · exact h.upd

theorem enableQueue_keeps (h : Keeps s t) : Keeps s (enableQueue t i) := h.upd

theorem readChecks_keeps (h : Keeps s t) {x : List (Nat × Bool)} : Keeps s (readChecks t x) :=
  keeps_forEach h fun h => drainCheck_keeps h

theorem dropRead_keeps (h : Keeps s t) : Keeps s (dropRead t i) := by
  simp only [dropRead]
  split
  · exact readChecks_keeps (readOver_keeps h)
  · exact h

theorem disableQueue_keeps (h : Keeps s t) : Keeps s (disableQueue t i) :=
  .upd (dropRead_keeps (.ite (discardQueue_keeps h) h))

theorem writeQueueEnable_keeps (h : Keeps s t) {freeze : Bool → State → State} (hfreeze : ∀ {a0 t}, Keeps s t →
    Keeps s (freeze a0 t)) : Keeps s (writeQueueEnable i freeze w t).1 :=
  guarded_keeps h fun h => .ite (disableQueue_keeps (.ite h (hfreeze h))) (.ite (enableQueue_keeps (.ite h (hfreeze h))) (.ite h
      (hfreeze h)))

theorem execSqTail_keeps (h : Keeps s t) : Steps s (execSqTail i w t) := by
  simp only [execSqTail]
  split
  · exact .next (writeSqTail_keeps h)
  · exact .next h

theorem execCqHead_keeps (h : Keeps s t) : Steps s (execCqHead i w t) := by
  simp only [execCqHead]
  split
  · exact .next (writeCqHead_keeps h)
  · exact .next h

theorem execDescriptorFetchStart_keeps (h : Keeps s t) : Steps s (execDescriptorFetchStart t) := by
  simp only [execDescriptorFetchStart]
  split
  · exact .next h
  · split
    · exact .next h
    · exact .next (emit_keeps h.upd)

theorem completeDup_keeps (h : Keeps s t) {x : Cmd} {x1 : CompRec} : Keeps s (completeDup t i x x1) :=
  completeCmd_keeps (logLimited_keeps h.upd)

theorem judgeDesc_keeps (h : Keeps s t) {x : Cmd} : Keeps s (judgeDesc t i x) := by
  simp only [judgeDesc]
  split
  · exact completePlain_keeps (logEvent_keeps h.upd)
  · split
    · exact completePlain_keeps h
    · split
      · exact completeDup_keeps h
      · split
        · exact h.upd
        · exact h

theorem takeDesc_keeps (h : Keeps s t) {x : Cmd} : Keeps s (takeDesc t i j x) := by
  simp only [takeDesc]
  exact modSlots_keeps (.upd (.upd (.upd (readOver_keeps h))))

theorem fetchedDesc_keeps (h : Keeps s t) {x : Cmd} {x1 : List (Nat × Bool)} : Keeps s (fetchedDesc t i x b x1) := by
  simp only [fetchedDesc]
  split
  · exact completePlain_keeps h
  · split
    · exact abortCmd_keeps (judgeDesc_keeps h)
    · exact judgeDesc_keeps h

theorem execDescriptorReceived_keeps (h : Keeps s t) {x : List Byte} : Steps s (execDescriptorReceived x t) := by
  simp only [execDescriptorReceived]
  split
  · exact .next h
  · split
    · exact .next h
    · exact .next (readChecks_keeps (fetchedDesc_keeps (takeDesc_keeps h)))

theorem execDuplicateComplete_keeps (h : Keeps s t) : Steps s (execDuplicateComplete i t) := by
  simp only [execDuplicateComplete]
  split
  · exact .next h
  · split
    · split
      · exact .next (completeDup_keeps h)
      · exact .next h
    · exact .next h

theorem tellDups_keeps (h : Keeps s t) {x : CompRec} : Keeps s (tellDups t i x) := keeps_forEach h fun h => h.upd

theorem execCompletionRecordWrite_keeps (h : Keeps s t) : Steps s (execCompletionRecordWrite i t) := by
  simp only [execCompletionRecordWrite]
  split
  · exact .next h
  · split
    · exact .next h
    · exact .next (freeSlot_keeps (.ite (raiseQueue_keeps (.ite (raiseQueue_keeps (tellDups_keeps (.upd (emit_keeps h))))
          (tellDups_keeps (.upd (emit_keeps h))))) (.ite (raiseQueue_keeps (tellDups_keeps (.upd (emit_keeps h))))
              (tellDups_keeps (.upd (emit_keeps h))))))

theorem execCqFullTimeout_keeps (h : Keeps s t) : Steps s (execCqFullTimeout i t) := by
  simp only [execCqFullTimeout]
  split
  · exact .next (logEvent_keeps h.upd)
  · exact .next h

theorem faultQueue_keeps (h : Keeps s t) : Keeps s (faultQueue t i j k) := logEvent_keeps h.upd

theorem readFails_keeps (h : Keeps s t) : Keeps s (readFails t i) := by
  simp only [readFails]
  split
  · exact readChecks_keeps (readOver_keeps h)
  · split
    · exact emit_keeps h.upd
    · exact readChecks_keeps (faultQueue_keeps (readOver_keeps (freeVal_keeps (freeVal_keeps h))))

theorem recordFails_keeps (h : Keeps s t) {x : Cmd} {x1 : CompRec} : Keeps s (recordFails t i x x1) := by
  simp only [recordFails]
  split
  · exact faultQueue_keeps h
  · exact h.upd

theorem execDmaFailure_keeps (h : Keeps s t) : Steps s (execDmaFailure i b t) := by
  simp only [execDmaFailure]
  split
  · split
    · exact .next h
    · split
      · exact .next h
      · exact .next (recordFails_keeps h)
  · split
    · exact .next (readFails_keeps h)
    · exact .next h

theorem resetQueue_keeps (h : Keeps s t) : Keeps s (resetQueue t i) := raiseQueue_keeps (.upd h.upd)

theorem resetDrainStart_keeps (h : Keeps s t) : Keeps s (resetDrainStart t i) := drainReads_keeps h.upd

theorem hostReset_keeps (h : Keeps s t) {x : List Nat} : Keeps s (hostReset t i j ns x) :=
  raise_keeps (logEvent_keeps (keeps_forEach (keeps_forEach (rejudge_keeps (keeps_forEach (keeps_forEach (keeps_forEach h fun h
      => keeps_forEach h fun h => h.upd) fun h => resetDrainStart_keeps h) fun h => abortDrain_keeps h)) fun h =>
          resetQueue_keeps (discardQueue_keeps h)) fun h => drainCheck_keeps h.upd))

theorem execPerstNChange_keeps (h : Keeps s t) : Steps s (execPerstNChange b t) := by
  simp only [execPerstNChange]
  split
  · exact .next (absence_keeps h.upd)
  · exact .next (hostReset_keeps (.upd (.ite (linkSet_keeps h.upd) (absence_keeps h.upd))))

theorem fnReset_keeps (h : Keeps s t) : Keeps s (fnReset t ns) := h.upd

theorem execFunctionLevelReset_keeps (h : Keeps s t) {x : FlrTarget} : Steps s (execFunctionLevelReset x t) := by
  simp only [execFunctionLevelReset]
  split
  · exact .next h
  · split
    · exact .next (hostReset_keeps (fnReset_keeps h))
    · split
      · exact .next (hostReset_keeps (fnReset_keeps h))
      · exact .next h

theorem execPcieLinkChange_keeps (h : Keeps s t) : Steps s (execPcieLinkChange b i j t) := by
  simp only [execPcieLinkChange]
  split
  · exact .next h
  · exact .next (linkSet_keeps h)

theorem cfgDone_keeps (h : Keeps s t) {x : CfgReq} : Keeps s (cfgDone t i x) :=
  emit_keeps (by split; exacts [h.upd, h])

theorem execPcieConfigRequest_keeps (h : Keeps s t) {x : CfgReq} : Steps s (execPcieConfigRequest i x t) := by
  simp only [execPcieConfigRequest]
  split
  · exact .next h
  · split
    · exact .next (emit_keeps h)
    · exact .next (cfgDone_keeps h)

theorem writeMsix_keeps (h : Keeps s t) {x : Option Nat} : Keeps s (writeMsix x i w t).1 := by
  simp only [writeMsix]
  split
  · exact emit_keeps h
  · split
    · exact h.upd
    · exact h

theorem execHostAbsent_keeps (h : Keeps s t) : Steps s (execHostAbsent t) := by
  simp only [execHostAbsent]
  split
  · exact .next h
  · exact .next (raise_keeps h.upd)

theorem admInts_keeps (h : Keeps s t) {x : QueueSt → QueueSt} : Keeps s (admInts t i b x) := by
  simp only [admInts]
  split
  · exact emit_keeps h.upd
  · exact h.upd

theorem writeSlotLimit_keeps (h : Keeps s t) : Keeps s (writeSlotLimit w t).1 := guarded_keeps h fun h => h.upd

theorem writeHostif_keeps (h : Keeps s t) : Keeps s (writeHostif i w t).1 := by
  simp only [writeHostif]
  split
  · split
    · exact writeQueue_keeps h
    · split
      · exact writeQueueEnable_keeps h fun h => h
      · split
        · exact guarded_keeps h fun h => admInts_keeps h
        · split
          · exact guarded_keeps h fun h => admInts_keeps h
          · exact roWrite_keeps h
  · split
    · exact guarded_keeps h fun h => h.upd
    · exact writeSlotLimit_keeps h
    · exact guarded_keeps h fun h => h.upd
    · exact roWrite_keeps h


/-! ### What is kept: Memory commands (chapter 13) -/

theorem execScrub_keeps (h : Keeps s t) {x : EccRead} : Steps s (execScrub i j x t) := by
  simp only [execScrub]
  split
  · exact .next (codeEnd_keeps (eccRead_keeps h.upd))
  · exact .next h

theorem writeRetire_keeps (h : Keeps s t) : Keeps s (writeRetire i w t).1 :=
  guarded_keeps h fun h => .ite (codeEnd_keeps (retireChannel_keeps h)) h

theorem writeLostCount_keeps (h : Keeps s t) : Keeps s (writeLostCount i w t).1 := guarded_keeps h fun h => .ite h.upd h

theorem execHbmPhyRetrainFail_keeps (h : Keeps s t) : Steps s (execHbmPhyRetrainFail i j t) := by
  simp only [execHbmPhyRetrainFail]
  split
  · refine .next ?_
    split
    · exact codeEnd_keeps (retireChannel_keeps (modChan_keeps h))
    · exact modChan_keeps h
  · exact .next h

theorem bar2Refuse_keeps (h : Keeps s t) : Keeps s (bar2Refuse t i j) := logEvent_keeps h

theorem eccLines_keeps (h : Keeps s t) {x : List EccRead} : Keeps s (eccLines t ns x) := by
  induction ns generalizing t x with
  | nil => exact h
  | cons a r ih =>
    cases x with
    | nil => exact h
    | cons e es => exact ih (eccRead_keeps h)

theorem execBar2Read_keeps (h : Keeps s t) {x : List EccRead} : Steps s (execBar2Read i j x t) := by
  simp only [execBar2Read]
  split
  · exact .next (emit_keeps h)
  · split
    · exact .next (emit_keeps (bar2Refuse_keeps h))
    · split
      · exact .next (emit_keeps (emit_keeps (freeBytes_keeps (codeEnd_keeps (eccLines_keeps h)))))
      · exact .next (emit_keeps (codeEnd_keeps (eccLines_keeps h)))

theorem execBar2Write_keeps (h : Keeps s t) {x : List Byte} : Steps s (execBar2Write i x t) := by
  simp only [execBar2Write]
  split
  · exact .next (emit_keeps h)
  · split
    · exact .next (emit_keeps (bar2Refuse_keeps h))
    · split
      · exact .next (bar2Refuse_keeps h)
      · exact .next (memWrite_keeps h)

theorem writeMem_keeps (h : Keeps s t) : Keeps s (writeMem i j w t).1 := by
  simp only [writeMem]
  split
  · exact guarded_keeps h fun h => h.upd
  · exact writeLostCount_keeps h
  · exact guarded_keeps h fun h => h.upd
  · exact guarded_keeps h fun h => h.upd
  · exact writeRetire_keeps h
  · exact roWrite_keeps h


/-! ### What is kept: Thermal management (chapter 10) -/

theorem failSensor_keeps (h : Keeps s t) : Keeps s (failSensor t i j) := by
  simp only [failSensor]
  split
  · exact h
  · exact raise_keeps (logEvent_keeps h.upd)

theorem refreshUpdate_keeps (h : Keeps s t) {x : Int} : Keeps s (refreshUpdate t i x) := by
  simp only [refreshUpdate]
  split
  · split
    · exact h.upd
    · exact raise_keeps (logEvent_keeps h.upd)
  · split
    · split
      · exact logEvent_keeps h.upd
      · exact h.upd
    · exact h

theorem execChannelRetireDone_keeps (h : Keeps s t) : Steps s (execChannelRetireDone i t) := by
  have h1 : Keeps s (codeEnd (retireEnd t i)) := codeEnd_keeps (retireEnd_keeps h)
  unfold execChannelRetireDone
  refine .ite (.next h) (.ite (.next h1) ?_)
  dsimp only
  generalize hu : ite ((codeEnd (retireEnd t i)).stack i).hotDue _ _ = u
  have h2 : Keeps s u := hu ▸ .ite (raise_keeps (logEvent_keeps h1.upd)) h1
  split
  · split
    · exact .ite (.next (noted_keeps (tileFall_keeps h2))) (.next h2)
    · exact .next h2
  · exact .next h2

theorem execSensorReading_keeps (h : Keeps s t) {x : Int} : Steps s (execSensorReading i x t) :=
  .ite (.next h) (.next (.ite (refreshUpdate_keeps (.ite (failSensor_keeps h.upd) (.ite (failSensor_keeps h.upd) h.upd))) (.ite
      (failSensor_keeps h.upd) (.ite (failSensor_keeps h.upd) h.upd))))

theorem execSensorMissing_keeps (h : Keeps s t) : Steps s (execSensorMissing i t) := by
  simp only [execSensorMissing]
  split
  · exact .next (failSensor_keeps h)
  · exact .next h

theorem shutDown_keeps (h : Keeps s t) : Keeps s (shutDown t i) := by
  simp only [shutDown]
  exact raise_keeps (logEvent_keeps (.ite (keeps_forEach (rejudge_keeps (keeps_forEach h.upd fun h => forceOff_keeps h)) fun h =>
      portOff_keeps h) (rejudge_keeps (keeps_forEach h.upd fun h => forceOff_keeps h))))

theorem judgeZone_keeps (h : Keeps s t) : Keeps s (judgeZone t i) := by
  simp only [judgeZone]
  split
  · split
    · exact logEvent_keeps h.upd
    · exact h.upd
  · split
    · exact shutDown_keeps (.ite (raise_keeps (logEvent_keeps (.upd (.ite (logEvent_keeps h.upd) h.upd)))) (logEvent_keeps (.upd
          (.ite (logEvent_keeps h.upd) h.upd))))
    · split
      · exact raise_keeps (logEvent_keeps (.upd (.ite (logEvent_keeps h.upd) h.upd)))
      · exact logEvent_keeps (.upd (.ite (logEvent_keeps h.upd) h.upd))

theorem capDown_keeps (h : Keeps s t) : Keeps s (capDown t) := by
  simp only [capDown]
  exact setThermalCap_keeps h.upd

theorem throttleRequest_keeps (h : Keeps s t) : Keeps s (throttleRequest t) := by
  simp only [throttleRequest]
  exact raise_keeps (raise_keeps (logEvent_keeps h.upd))

theorem throttleJudge_keeps (h : Keeps s t) : Keeps s (throttleJudge t) := by
  simp only [throttleJudge]
  split
  · exact throttleRequest_keeps h
  · exact h.upd
  · exact h.upd
  · exact capDown_keeps h.upd
  · exact h

theorem execZoneJudge_keeps (h : Keeps s t) : Steps s (execZoneJudge t) := by
  simp only [execZoneJudge]
  split
  · exact .next h
  · exact .next (noted_keeps (throttleJudge_keeps (keeps_forEach h fun h => judgeZone_keeps h)))

theorem execGraceExpire_keeps (h : Keeps s t) : Steps s (execGraceExpire t) := by
  simp only [execGraceExpire]
  split
  · exact .next (raise_keeps (logEvent_keeps (capDown_keeps h.upd)))
  · exact .next h

theorem execEnforceStep_keeps (h : Keeps s t) : Steps s (execEnforceStep t) := by
  simp only [execEnforceStep]
  split
  · exact .next (capDown_keeps h)
  · exact .next h

theorem execRelaxStep_keeps (h : Keeps s t) : Steps s (execRelaxStep t) := by
  simp only [execRelaxStep]
  split
  · split
    · exact .next (setThermalCap_keeps h)
    · exact .next (raise_keeps (logEvent_keeps (.upd (setThermalCap_keeps h))))
  · exact .next h

theorem tripFire_keeps (h : Keeps s t) (hn : t.trip = none) : Keeps s (tripFire t i b) := by
  obtain ⟨hp, -, hm, hl⟩ := hubLost_keeps (x := .banked) h
  have hs : s.trip.isSome ≠ true := fun hs => by
    rw [← h.trip hs, hn] at hs
    cases hs
  have hf : Keeps s { hubLost t .banked with
      trip := some ⟨b, i, (t.sensor i).temp.getD (-32768), !t.ao.aoLock, t.ao.ticks⟩, ledgers := t.ledgers,
      ledger := { t.ledger with open_ := false } } := ⟨hp, fun x => absurd x hs, hm, hl⟩
  exact cutRequest_keeps (retainEvent_keeps hf)

theorem execHwTrip_keeps (h : Keeps s t) : Steps s (execHwTrip i b t) := by
  unfold execHwTrip
  split
  · rename_i hc
    simp only [Bool.and_eq_true, Option.isNone_iff_eq_none] at hc
    obtain ⟨⟨⟨⟨-, -⟩, hn⟩, -⟩, -⟩ := hc
    exact .next (tripFire_keeps h hn)
  · exact .next h

theorem writeTherm_keeps (h : Keeps s t) : Keeps s (writeTherm i w t).1 := by
  simp only [writeTherm]
  split
  · exact guarded_keeps h fun h => h.upd
  · exact guarded_keeps h fun h => h.upd
  · exact guarded_keeps h fun h => h.upd
  · exact guarded_keeps h fun h => h.upd
  · exact guarded_keeps h fun h => h.upd
  · exact roWrite_keeps h


/-! ### What is kept: Register pages (chapter 03) -/

theorem statusWord_keeps (h : Keeps s t) : Keeps s (statusWord t p).2 := freeVal_keeps h

theorem setCursor_keeps (h : Keeps s t) {x : Cursor} : Keeps s (setCursor t i x) := by
  simp only [setCursor]
  split <;> exact h.upd

theorem markBad_keeps (h : Keeps s t) : Keeps s (markBad t i) := by
  simp only [markBad]
  split
  · exact h
  · exact h.upd

theorem nameRecord_keeps (h : Keeps s t) : Keeps s (nameRecord t i j) := setCursor_keeps h

theorem latchCursor_keeps (h : Keeps s t) : Keeps s (latchCursor t i j b) := nameRecord_keeps (.ite (markBad_keeps h) h)

theorem advanceCursor_keeps (h : Keeps s t) : Keeps s (advanceCursor t i b) := by
  simp only [advanceCursor]
  split
  · exact latchCursor_keeps h
  · exact h

theorem readEffect_keeps (h : Keeps s t) : Keeps s (readEffect t p i) := by
  simp only [readEffect]
  split
  · exact State.modHdr_keeps h
  · split
    · split
      · exact h.upd
      · split
        · exact advanceCursor_keeps h
        · split
          · exact advanceCursor_keeps h
          · exact h
    · split
      · exact h.upd
      · exact h
    · split
      · exact h.upd
      · exact h
    · split
      · exact h.upd
      · exact h
    · split
      · exact h.upd
      · exact h
    · split
      · exact h.upd
      · split
        · exact h.upd
        · exact loopReadEffect_keeps h
    · split
      · exact h.upd
      · split
        · exact h.upd
        · split
          · exact h.upd
          · exact h
    · split
      · exact h.upd
      · exact h
    · split
      · exact h.upd
      · exact h
    · split
      · exact h.upd
      · exact h
    · split
      · exact h.upd
      · exact coreReadEffect_keeps h
    · split
      · exact h.upd
      · exact h
    · split
      · exact h.upd
      · exact h
    · split
      · exact h.upd
      · exact h
    · split
      · exact h.upd
      · split
        · exact h.upd
        · split
          · exact h.upd
          · split
            · exact h.upd
            · exact h
    · split
      · exact h.upd
      · split
        · exact h.upd
        · split
          · exact h.upd
          · split
            · exact h.upd
            · exact h
    · exact h

theorem readReg_keeps (h : Keeps s t) : Keeps s (readReg t p i).2 := by
  unfold readReg
  split
  · exact h
  · split
    · exact h
    · dsimp only
      generalize ite ((t.hdr p).freeze = true) _ _ = held
      split
      · exact h
      · split
        · exact statusWord_keeps h
        · exact readEffect_keeps h

theorem execClearingRead_keeps (h : Keeps s t) : Steps s (execClearingRead m' p i b t) := by
  simp only [execClearingRead]
  split
  · refine .next ?_
    split
    · exact h
    · exact emit_keeps h
  · split
    · exact .next (emit_keeps h)
    · exact .next (emit_keeps (.ite (State.modHdr_keeps (readReg_keeps h)) (readReg_keeps h)))

theorem execEventWindowRead_keeps (h : Keeps s t) {x : Fin 2} : Steps s (execEventWindowRead x b t) := by
  simp only [execEventWindowRead]
  split
  · exact .next h
  · exact .next (advanceCursor_keeps (emit_keeps h))

theorem setFreeze_keeps (h : Keeps s t) : Keeps s (setFreeze p b t) := by
  have hm : Keeps s (t.modHdr p fun x => { x with freeze := b }) := State.modHdr_keeps h
  refine .ite h (.upd (t := (if b then statusWord (t.modHdr p fun x => { x with freeze := b }) p else (0, _)).2) ?_)
  split
  · exact statusWord_keeps hm
  · exact hm

theorem writePageCtrl_keeps (h : Keeps s t) : Keeps s (writePageCtrl p w t).1 := by
  simp only [writePageCtrl]
  split
  · exact writePortEnable_keeps h fun h => setFreeze_keeps h
  · exact writeQueueEnable_keeps h fun h => setFreeze_keeps h
  · exact guarded_keeps h fun h => setFreeze_keeps h
  · exact guarded_keeps h fun h => setFreeze_keeps h

theorem writeIntRaw_keeps (h : Keeps s t) : Keeps s (writeIntRaw p w t).1 := by
  refine guarded_keeps h fun h => ?_
  dsimp only
  split
  · exact .ite (emit_keeps (State.modHdr_keeps h)) (State.modHdr_keeps h)
  · exact State.modHdr_keeps h

theorem writeIntEnable_keeps (h : Keeps s t) : Keeps s (writeIntEnable p w t).1 :=
  guarded_keeps h fun h => State.modHdr_keeps h

theorem writeIntForce_keeps (h : Keeps s t) : Keeps s (writeIntForce p w t).1 := guarded_keeps h fun h => raiseBits_keeps h

theorem setOwner_keeps (h : Keeps s t) : Keeps s (setOwner t p i) := State.modHdr_keeps h

theorem writeOwner_keeps (h : Keeps s t) : Keeps s (writeOwner p w t).1 :=
  guarded_keeps h fun h => .ite (.ite (raise_keeps (.ite (.upd (State.modHdr_keeps (setOwner_keeps h))) (State.modHdr_keeps
      (setOwner_keeps h)))) (.ite (.upd (State.modHdr_keeps (setOwner_keeps h))) (State.modHdr_keeps (setOwner_keeps h))))
          (raise_keeps (logEvent_keeps (.ite (raise_keeps (.ite (.upd (State.modHdr_keeps (setOwner_keeps h)))
              (State.modHdr_keeps (setOwner_keeps h)))) (.ite (.upd (State.modHdr_keeps (setOwner_keeps h))) (State.modHdr_keeps
                  (setOwner_keeps h))))))

theorem writeSeize_keeps (h : Keeps s t) : Keeps s (writeSeize w t).1 := by
  simp only [writeSeize]
  exact guarded_keeps h fun h => .ite (raise_keeps (logEvent_keeps (.upd (keeps_forEach h fun h => setOwner_keeps h)))) h

theorem writeRelease_keeps (h : Keeps s t) : Keeps s (writeRelease w t).1 := by
  simp only [writeRelease]
  exact guarded_keeps h fun h => .ite (raise_keeps (logEvent_keeps (.upd (keeps_forEach h fun h => setOwner_keeps h)))) h

theorem execOwnershipTableError_keeps (h : Keeps s t) : Steps s (execOwnershipTableError t) := by
  simp only [execOwnershipTableError]
  split
  · exact .next h
  · exact .next (logEvent_keeps (.upd (keeps_forEach h fun h => State.modHdr_keeps h)))

theorem writeCursor_keeps (h : Keeps s t) : Keeps s (writeCursor i b w t).1 :=
  guarded_keeps h fun h => latchCursor_keeps h

theorem writeEvent_keeps (h : Keeps s t) : Keeps s (writeEvent i w t).1 := by
  simp only [writeEvent]
  split
  · exact guarded_keeps h fun h => h.upd
  · exact writeCursor_keeps h
  · exact writeCursor_keeps h
  · exact roWrite_keeps h

theorem writeReseal_keeps (h : Keeps s t) : Keeps s (writeReseal w t).1 := by
  simp only [writeReseal]
  exact guarded_keeps h fun h => .ite (resealNow_keeps h) h

theorem execReseal_keeps (h : Keeps s t) : Steps s (execReseal w t) := by
  simp only [execReseal]
  exact .next (writeReseal_keeps h)

theorem writeLedger_keeps (h : Keeps s t) : Keeps s (writeLedger i w t).1 := by
  simp only [writeLedger]
  split
  · exact writeReseal_keeps h
  · exact writeSnapCtrl_keeps h
  · exact guarded_keeps h fun h => h.upd
  · exact roWrite_keeps h

theorem writeArbiter_keeps (h : Keeps s t) : Keeps s (writeArbiter i w t).1 := by
  simp only [writeArbiter]
  split
  · exact writeSeize_keeps h
  · exact writeRelease_keeps h
  · exact roWrite_keeps h

theorem logTmb_keeps (h : Keeps s t) : Keeps s (logTmb t i j ns) := by
  simp only [logTmb]
  split
  · exact logEvent_keeps h
  · exact retainEvent_keeps h

theorem commitKey_keeps (h : Keeps s t) : Keeps s (commitKey t) := by
  simp only [commitKey]
  exact raise_keeps (logTmb_keeps (.ite (setCalN_keeps (.upd (keeps_forEach h fun h => h.upd))) (setCalKey_keeps (.upd
      (keeps_forEach h fun h => h.upd)))))

theorem writeKeyCtrl_keeps (h : Keeps s t) : Keeps s (writeKeyCtrl w t).1 :=
  guarded_keeps h fun h => .ite (commitKey_keeps h) h

theorem writeTmb_keeps (h : Keeps s t) : Keeps s (writeTmb i w t).1 := by
  simp only [writeTmb]
  split
  · exact guarded_keeps h fun h => h.upd
  · split
    · exact writeKeyCtrl_keeps h
    · exact guarded_keeps h fun h => h.upd
    · exact roWrite_keeps h

theorem writeBlock_keeps (h : Keeps s t) : Keeps s (writeBlock p i w t).1 := by
  simp only [writeBlock]
  split
  · exact roWrite_keeps h
  · exact writeBoot_keeps h
  · exact writeEvent_keeps h
  · exact writeLedger_keeps h
  · exact writeArbiter_keeps h
  · exact writeCal_keeps h
  · exact writeTmb_keeps h
  · exact writeTherm_keeps h
  · exact writeHearth_keeps h
  · exact writeToken_keeps h
  · exact writeNet_keeps h
  · exact writeCell_keeps h
  · exact writeLoop_keeps h
  · exact writeSurvey_keeps h
  · exact writeGrid_keeps h
  · exact writeTally_keeps h
  · exact writeMem_keeps h
  · exact writeCore_keeps h
  · exact writeHostif_keeps h
  · exact writeTenant_keeps h
  · split
    · exact writeQueue_keeps h
    · exact roWrite_keeps h
  · exact writePort_keeps h
  · exact writeLane_keeps h
  · exact writeWiring_keeps h

theorem writeReg_keeps (h : Keeps s t) : Keeps s (writeReg p i w t).1 := by
  simp only [writeReg]
  split
  · exact guarded_keeps h fun h => h
  · split
    · exact writeBlock_keeps h
    · split
      · exact writePageCtrl_keeps h
      · exact writeIntRaw_keeps h
      · exact writeIntEnable_keeps h
      · exact writeIntForce_keeps h
      · exact writeOwner_keeps h
      · exact roWrite_keeps h

theorem writeUnmapped_keeps (h : Keeps s t) : Keeps s (writeUnmapped i w t).1 := by
  simp only [writeUnmapped]
  split
  · exact recordUnp_keeps h
  · split
    · exact h
    · exact emit_keeps h

theorem writeAddr_keeps (h : Keeps s t) : Keeps s (writeAddr i w t).1 := by
  simp only [writeAddr]
  split
  · exact writeMsix_keeps h
  · split
    · exact writeReg_keeps h
    · exact writeUnmapped_keeps h

theorem writeEnable_keeps (h : Keeps s t) : Keeps s (writeEnable i w t).1 := by
  simp only [writeEnable]
  split
  · exact writeReg_keeps h
  · split
    · exact writeReg_keeps h
    · exact h

theorem execSpineTimeout_keeps (h : Keeps s t) {x : SpineAccess} : Steps s (execSpineTimeout p i x t) := by
  simp only [execSpineTimeout]
  split
  · exact .next h
  · split
    · exact .next (emit_keeps (.ite h (logEvent_keeps h.upd)))
    · exact .next (recordUnp_keeps (.ite h (logEvent_keeps h.upd)))


/-! ### What is kept: The side-band (chapter 18) -/

theorem respond_keeps (h : Keeps s t) {x : TmbReq} {x1 : Answer} : Keeps s (respond x x1 t) := by
  simp only [respond]
  split
  · exact .upd h.upd
  · exact h.upd

theorem refuseAuth_keeps (h : Keeps s t) {x : TmbReq} : Keeps s (refuseAuth i x j t) := by
  simp only [refuseAuth]
  exact respond_keeps (.ite (raise_keeps h.upd) (logTmb_keeps (.upd (raise_keeps h.upd))))

theorem answerBusy_keeps (h : Keeps s t) {x : TmbReq} : Keeps s (answerBusy x t) := respond_keeps h.upd

/-- The command's effect keeps. -/
def TmbCmd.RunKeeps (c : TmbCmd) : Prop := ∀ {s t r}, Keeps s t → Keeps s (c.run r t).2.2

theorem runCmd_keeps {c : TmbCmd} (hc : c.RunKeeps) (h : Keeps s t) {r : TmbReq} : Keeps s (runCmd c b r t) :=
  .ite (respond_keeps h) (respond_keeps (hc h))

theorem answerDup_keeps (h : Keeps s t) {x : TmbReq} {x1 : TmbResp} : Keeps s (answerDup b x x1 t) :=
  respond_keeps h.upd

theorem countCheck_keeps {c : TmbCmd} (hc : c.RunKeeps) (h : Keeps s t) {r : TmbReq} : Keeps s (countCheck c b r t) := by
  unfold countCheck
  split
  · exact answerDup_keeps h
  · exact .ite (refuseAuth_keeps h) (runCmd_keeps hc (.ite (h.upd) h))

theorem answer_keeps {c : TmbCmd} (hc : c.RunKeeps) (h : Keeps s t) {r : TmbReq} : Keeps s (answer c r t) := by
  unfold answer
  refine .ite (answerBusy_keeps h) (.ite (.ite (respond_keeps h) (countCheck_keeps hc h)) ?_)
  split
  · exact refuseAuth_keeps h
  · exact countCheck_keeps hc h

theorem frameEnd_keeps (h : Keeps s t) : Keeps s (frameEnd t) := h.upd

theorem countFrame_keeps (h : Keeps s t) : Keeps s (countFrame t) := h.upd

theorem receive_keeps (h : Keeps s t) {x : TmbReq} {go : State → State} (hgo : ∀ {t}, Keeps s t → Keeps s (go t))
    : Keeps s (receive x go t) := by
  simp only [receive]
  split
  · exact h
  · split
    · exact countFrame_keeps h
    · split
      · exact .upd (countFrame_keeps h)
      · exact hgo (countFrame_keeps h)

theorem serve_keeps {c : TmbCmd} (hc : c.RunKeeps) (h : Keeps s t) {r : TmbReq} : Keeps s (serve c r t) :=
  receive_keeps h fun h => answer_keeps hc h

theorem readWordAt_keeps (h : Keeps s t) : Keeps s (readWordAt t i).2 := by
  simp only [readWordAt]
  split
  · exact readReg_keeps h
  · exact h

theorem readWords_keeps (h : Keeps s t) : Keeps s (readWords i j t).2 := by
  induction i generalizing j t with
  | zero => exact h
  | succ n ih => exact ih (readWordAt_keeps h)

theorem runRead_keeps (h : Keeps s t) {x : TmbReq} : Keeps s (runRead x t).2.2 := by
  simp only [runRead]
  split
  · exact h
  · exact readWords_keeps h

theorem writeWordAt_keeps (h : Keeps s t) : Keeps s (writeWordAt i j t).1 := by
  simp only [writeWordAt]
  split
  · exact writeAddr_keeps h
  · split
    · exact writeReg_keeps h
    · split
      · exact writeReg_keeps h
      · exact h
    · exact h

theorem writeWords_keeps (h : Keeps s t) {x : List Byte} : Keeps s (writeWords x i j k t).2 := by
  induction i generalizing j k t with
  | zero => exact h
  | succ n ih => exact ih (writeWordAt_keeps h)

theorem runWrite_keeps (h : Keeps s t) {x : TmbReq} : Keeps s (runWrite x t).2.2 := by
  simp only [runWrite]
  split
  · exact h
  · exact writeWords_keeps h

theorem runEventRead_keeps (h : Keeps s t) {x : TmbReq} : Keeps s (runEventRead x t).2.2 := h

theorem runRetainRead_keeps (h : Keeps s t) {x : TmbReq} : Keeps s (runRetainRead x t).2.2 := h

theorem powerTarget_keeps (h : Keeps s t) : Keeps s (powerTarget i j t).2 := by
  simp only [powerTarget]
  split
  · exact h
  · split
    · exact h
    · split
      · exact h
      · split
        · exact noted_keeps (acceptReq_keeps h)
        · exact h

theorem runPower_keeps (h : Keeps s t) {x : TmbReq} : Keeps s (runPower x t).2.2 := by
  simp only [runPower]
  exact powerTarget_keeps h.upd

theorem drainTenant_keeps (h : Keeps s t) : Keeps s (drainTenant b b' i t).1 := writeDrain_keeps h

theorem drainOne_keeps (h : Keeps s t) : Keeps s (drainOne i t).1 := by
  simp only [drainOne]
  split
  · exact h
  · exact writePortCtrl_keeps h

theorem eachWrite_keeps (h : Keeps s t) {f : Nat → State → State × RefCode} (hf : ∀ {t a}, Keeps s t → Keeps s (f a t).1) :
    Keeps s (eachWrite ns f t).1 := by
  have key : ∀ (l : List Nat) (x : State × RefCode), Keeps s x.1 →
      Keeps s (l.foldl (fun (x : State × RefCode) k => ((f k x.1).1, if x.2 = .ok then (f k x.1).2 else x.2)) x).1 := by
    intro l
    induction l with
    | nil => exact fun _ hx => hx
    | cons a r ih => exact fun x hx => ih _ (hf hx)
  exact key ns _ h

theorem runDrain_keeps (h : Keeps s t) {r : TmbReq} : Keeps s (runDrain r t).2.2 := by
  have h1 : ∀ b b', Keeps s (eachWrite (bitsOf 32 (num r.payload 0 4)) (drainTenant b b') t).1 :=
    fun _ _ => eachWrite_keeps h fun h => drainTenant_keeps h
  unfold runDrain
  split
  · exact h
  · dsimp only
    split
    · exact eachWrite_keeps (h1 ..) fun h => drainOne_keeps h
    · exact h1 ..

theorem runCalStore_keeps (h : Keeps s t) {x : TmbReq} : Keeps s (runCalStore x t).2.2 := by
  simp only [runCalStore]
  split
  · exact startStore_keeps h
  · exact h

theorem runInlet_keeps (h : Keeps s t) {x : TmbReq} : Keeps s (runInlet x t).2.2 := by
  simp only [runInlet]
  split
  · exact h
  · split
    · exact h
    · exact writeInlet_keeps h

theorem nonce_keeps (h : Keeps s t) : Keeps s (nonce t).2 :=
  freeVal_keeps (freeVal_keeps (freeVal_keeps (freeVal_keeps h)))

theorem runOpenSession_keeps (h : Keeps s t) {x : TmbReq} : Keeps s (runOpenSession x t).2.2 :=
  logTmb_keeps (.upd (nonce_keeps h))

theorem execStatus_keeps (h : Keeps s t) {r : TmbReq} : Steps s (execStatus r t) := .next (serve_keeps (fun h => h) h)

theorem execRead_keeps (h : Keeps s t) {r : TmbReq} : Steps s (execRead r t) := .next (serve_keeps (fun h => runRead_keeps h) h)

theorem execWrite_keeps (h : Keeps s t) {r : TmbReq} : Steps s (execWrite r t) := .next (serve_keeps (fun h => runWrite_keeps h)
    h)

theorem execEventRead_keeps (h : Keeps s t) {r : TmbReq} : Steps s (execEventRead r t) := .next (serve_keeps (fun h =>
    runEventRead_keeps h) h)

theorem execLatchRead_keeps (h : Keeps s t) {r : TmbReq} : Steps s (execLatchRead r t) := .next (serve_keeps (fun h => h) h)

theorem execRetainRead_keeps (h : Keeps s t) {r : TmbReq} : Steps s (execRetainRead r t) := .next (serve_keeps (fun h =>
    runRetainRead_keeps h) h)

theorem execPower_keeps (h : Keeps s t) {r : TmbReq} : Steps s (execPower r t) := .next (serve_keeps (fun h => runPower_keeps h)
    h)

theorem execDrain_keeps (h : Keeps s t) {r : TmbReq} : Steps s (execDrain r t) := .next (serve_keeps (fun h => runDrain_keeps h)
    h)

theorem execCalStore_keeps (h : Keeps s t) {r : TmbReq} : Steps s (execCalStore r t) :=
  .next (serve_keeps (fun {_ _ r} h => runCalStore_keeps (x := r) h) h)

theorem execInlet_keeps (h : Keeps s t) {r : TmbReq} : Steps s (execInlet r t) := .next (serve_keeps (fun h => runInlet_keeps h)
    h)

theorem execOpenSession_keeps (h : Keeps s t) {r : TmbReq} : Steps s (execOpenSession r t) := .next (serve_keeps (fun h =>
    runOpenSession_keeps h) h)

theorem execUnlistedOp_keeps (h : Keeps s t) {x : Byte} {x1 : TmbReq} : Steps s (execUnlistedOp x x1 t) := by
  simp only [execUnlistedOp]
  split
  · exact .next h
  · exact .next (receive_keeps h fun h => .ite (answerBusy_keeps h) (respond_keeps h))

theorem listen_keeps (h : Keeps s t) : Keeps s (listen t i) := h.upd

theorem execTmbCapture_keeps (h : Keeps s t) {x : List Int} : Steps s (execTmbCapture x t) := by
  simp only [execTmbCapture]
  split
  · exact .next h
  · split
    · exact .next (listen_keeps h)
    · split
      · exact .next (listen_keeps h.upd)
      · exact .next h

theorem execFrameDiscarded_keeps (h : Keeps s t) {x : FrameFault} : Steps s (execFrameDiscarded x t) := by
  simp only [execFrameDiscarded]
  split
  · exact .next h
  · split
    · exact .next (frameEnd_keeps h.upd)
    · exact .next (frameEnd_keeps h)
    · exact .next (countFrame_keeps h)
    · exact .next (countFrame_keeps h)

theorem execTmbResponseSend_keeps (h : Keeps s t) : Steps s (execTmbResponseSend t) := by
  simp only [execTmbResponseSend]
  split
  · exact .next h
  · split
    · exact .next h
    · exact .next (emit_keeps h.upd)

theorem execTmbBusOccupied_keeps (h : Keeps s t) : Steps s (execTmbBusOccupied i t) := by
  simp only [execTmbBusOccupied]
  split
  · exact .next h
  · exact .next (raise_keeps (logTmb_keeps h.upd))

theorem execTmbWindowError_keeps (h : Keeps s t) {x : BitVec 5} : Steps s (execTmbWindowError x t) := by
  simp only [execTmbWindowError]
  split
  · exact .next h
  · exact .next (logTmb_keeps h.upd)

/-! ### What every command keeps -/

/-- Every command but the loss of VSB answers a next state, and keeps. -/
theorem exec_keeps {x : Instr} (hi : x ≠ .vsbInvalid) (h : Keeps s t) : Steps s (exec x t) := by
  cases x with
  | vsbValid => exact execVsbValid_keeps h
  | vsbInvalid => exact absurd rfl hi
  | vinValid => exact execVinValid_keeps h
  | vinLost => exact execVinLost_keeps h
  | vhbmValid => exact .next h.upd
  | vhbmLost => exact execVhbmLost_keeps h
  | perstNChange => exact execPerstNChange_keeps h
  | functionLevelReset => exact execFunctionLevelReset_keeps h
  | pcieLinkChange => exact execPcieLinkChange_keeps h
  | pcieConfigRequest => exact execPcieConfigRequest_keeps h
  | aoLock => exact execAoLock_keeps h
  | aoLockTimeout => exact execAoLockTimeout_keeps h
  | clockLock => exact execClockLock_keeps h
  | clockLockTimeout => exact execClockLockTimeout_keeps h
  | bootCopyVerified => exact execBootCopyVerified_keeps h
  | calSlotsRead => exact execCalSlotsRead_keeps h
  | deviceReady => exact execDeviceReady_keeps h
  | pwrReqOff | pwrReqBanked | pwrReqSmouldering | pwrReqKindled | pwrReqStoked => exact .next (writePwrReq_keeps h)
  | transitionStepDone => exact execTransitionStepDone_keeps h
  | registerWrite => exact .next (writeAddr_keeps h)
  | ownerWrite => exact .next (writeOwner_keeps h)
  | pageFreeze | intForce | portEnable | portDisable => exact .next (writeReg_keeps h)
  | hostAbsent => exact execHostAbsent_keeps h
  | seize => exact .next (writeSeize_keeps h)
  | release => exact .next (writeRelease_keeps h)
  | cursorWrite => exact .next (writeCursor_keeps h)
  | eventWindowRead => exact execEventWindowRead_keeps h
  | spineTimeout => exact execSpineTimeout_keeps h
  | dieAnswer => exact execDieAnswer_keeps h
  | ownershipTableError => exact execOwnershipTableError_keeps h
  | take => exact .next (writeSnapCtrl_keeps h)
  | snapshotDone => exact execSnapshotDone_keeps h
  | reseal => exact execReseal_keeps h
  | ledgerCheck => exact execLedgerCheck_keeps h
  | targetWrite => exact .next (writeTarget_keeps h)
  | cellRollResume => exact execCellRollResume_keeps h
  | rollResumeTimeout => exact execRollResumeTimeout_keeps h
  | slewDone => exact execSlewDone_keeps h
  | netRampDone => exact execNetRampDone_keeps h
  | netRampTimeout => exact execNetRampTimeout_keeps h
  | netDischarged => exact execNetDischarged_keeps h
  | outOfBand => exact execOutOfBand_keeps h
  | modeWrite | shareWtWrite => exact .next (writeCellCtrl_keeps h)
  | dutyWrite => exact .next (writeDuty_keeps h)
  | inletLimitWrite => exact .next (writeInlet_keeps h)
  | hearthMsUpdate => exact execHearthMsUpdate_keeps h
  | loopFrame => exact execLoopFrame_keeps h
  | coefDataWrite => exact .next (writeCoefData_keeps h)
  | schedDataWrite => exact .next (writeSchedData_keeps h)
  | coefSwap | schedSwap => exact .next (writeBanks_keeps h)
  | injCtrlWrite => exact .next (writeInjCtrl_keeps h)
  | injDataWrite => exact .next (writeInjData_keeps h)
  | capStart => exact .next (writeCapCtrl_keeps h)
  | loopMemError => exact execLoopMemError_keeps h
  | stokeNotice => exact execStokeNotice_keeps h
  | surveyPeriod => exact execSurveyPeriod_keeps h
  | surveyStart => exact .next (writeSvCtrl_keeps h)
  | urgent => exact execUrgent_keeps h
  | surveyConversionDone => exact execSurveyConversionDone_keeps h
  | surveyTimeout => exact execSurveyTimeout_keeps h
  | trimDataWrite => exact .next (writeTrimData_keeps h)
  | stokeRequest => exact execStokeRequest_keeps h
  | grantCommit => exact execGrantCommit_keeps h
  | grantRelease => exact execGrantRelease_keeps h
  | grantApply => exact execGrantApply_keeps h
  | issueCapStep => exact execIssueCapStep_keeps h
  | grantResend => exact execGrantResend_keeps h
  | tokenReturn => exact execTokenReturn_keeps h
  | recallReceived => exact execRecallReceived_keeps h
  | recallTimeout => exact execRecallTimeout_keeps h
  | phaseRemove => exact execPhaseRemove_keeps h
  | stuckHighSide => exact execStuckHighSide_keeps h
  | netShort => exact execNetShort_keeps h
  | inputSwitchFailed => exact execInputSwitchFailed_keeps h
  | pathJudge => exact execPathJudge_keeps h
  | pathConfirmRetry => exact execPathConfirmRetry_keeps h
  | restore => exact .next (writeCellFault_keeps h)
  | sensorReading => exact execSensorReading_keeps h
  | sensorMissing => exact execSensorMissing_keeps h
  | zoneJudge => exact execZoneJudge_keeps h
  | graceExpire => exact execGraceExpire_keeps h
  | enforceStep => exact execEnforceStep_keeps h
  | relaxStep => exact execRelaxStep_keeps h
  | hwTrip => exact execHwTrip_keeps h
  | stepWrite => exact .next (writeClock_keeps h)
  | clockChangeDone => exact execClockChangeDone_keeps h
  | messageDelivered => exact execMessageDelivered_keeps h
  | creditGrantArrival => exact execCreditGrantArrival_keeps h
  | creditReturnArrival => exact execCreditReturnArrival_keeps h
  | tallyAddApply => exact execTallyAddApply_keeps h
  | tallyValueWrite => exact .next (writeTallyValue_keeps h)
  | queueRelease => exact execQueueRelease_keeps h
  | start | stop | resume => exact .next (writeOp_keeps h)
  | coreHalt => exact execCoreHalt_keeps h
  | regDataWrite => exact .next (writeRegData_keeps h)
  | lsDataWrite => exact .next (writeLsData_keeps h)
  | heartbeatTimeout => exact execHeartbeatTimeout_keeps h
  | coreEccError => exact execCoreEccError_keeps h
  | meshFlitResend => exact execMeshFlitResend_keeps h
  | add => exact execAdd_keeps h
  | sub => exact execSub_keeps h
  | and => exact execAnd_keeps h
  | or => exact execOr_keeps h
  | xor => exact execXor_keeps h
  | shl => exact execShl_keeps h
  | shr => exact execShr_keeps h
  | sra => exact execSra_keeps h
  | mul => exact execMul_keeps h
  | mulh => exact execMulh_keeps h
  | slt => exact execSlt_keeps h
  | sltu => exact execSltu_keeps h
  | min => exact execMin_keeps h
  | max => exact execMax_keeps h
  | aadd => exact execAadd_keeps h
  | amov => exact execAmov_keeps h
  | ard => exact execArd_keeps h
  | ld => exact execLd_keeps h
  | st => exact execSt_keeps h
  | lda => exact execLda_keeps h
  | sta => exact execSta_keeps h
  | csrr => exact execCsrr_keeps h
  | csrw => exact execCsrw_keeps h
  | beq => exact execBeq_keeps h
  | bne => exact execBne_keeps h
  | blt => exact execBlt_keeps h
  | bge => exact execBge_keeps h
  | bltu => exact execBltu_keeps h
  | bgeu => exact execBgeu_keeps h
  | j => exact execJ_keeps h
  | jal => exact execJal_keeps h
  | jr => exact execJr_keeps h
  | loop => exact execLoop_keeps h
  | nop => exact execNop_keeps h
  | scfg => exact execScfg_keeps h
  | sgo => exact execSgo_keeps h
  | swait => exact execSwait_keeps h
  | sstat => exact execSstat_keeps h
  | sstop => exact execSstop_keeps h
  | mma => exact execMma_keeps h
  | mmaz => exact execMmaz_keeps h
  | accz => exact execAccz_keeps h
  | accrd => exact execAccrd_keeps h
  | accwr => exact execAccwr_keeps h
  | accst => exact execAccst_keeps h
  | accld => exact execAccld_keeps h
  | vadd => exact execVadd_keeps h
  | vsub => exact execVsub_keeps h
  | vmul => exact execVmul_keeps h
  | vfma => exact execVfma_keeps h
  | vmax => exact execVmax_keeps h
  | vmin => exact execVmin_keeps h
  | vexp2 => exact execVexp2_keeps h
  | vrcp => exact execVrcp_keeps h
  | vrsqrt => exact execVrsqrt_keeps h
  | vcvt => exact execVcvt_keeps h
  | vrsum => exact execVrsum_keeps h
  | vrmax => exact execVrmax_keeps h
  | vbcast => exact execVbcast_keeps h
  | vmovs => exact execVmovs_keeps h
  | vld => exact execVld_keeps h
  | vst => exact execVst_keeps h
  | qcfg => exact execQcfg_keeps h
  | send => exact execSend_keeps h
  | recv => exact execRecv_keeps h
  | qcnt => exact execQcnt_keeps h
  | tadd => exact execTadd_keeps h
  | twait => exact execTwait_keeps h
  | trd => exact execTrd_keeps h
  | stoke => exact execStoke_keeps h
  | ease => exact execEase_keeps h
  | easeR => exact execEaseR_keeps h
  | grantw => exact execGrantw_keeps h
  | yield => exact execYield_keeps h
  | end_ => exact execEnd_keeps h
  | trap => exact execTrap_keeps h
  | fence => exact execFence_keeps h
  | stalledInstructionComplete => exact execStalledInstructionComplete_keeps h
  | streamEngineTransfer => exact execStreamEngineTransfer_keeps h
  | scrub => exact execScrub_keeps h
  | retire => exact .next (writeRetire_keeps h)
  | channelRetireDone => exact execChannelRetireDone_keeps h
  | lostListClear => exact .next (writeLostCount_keeps h)
  | bar2Read => exact execBar2Read_keeps h
  | bar2Write => exact execBar2Write_keeps h
  | commit | discard => exact .next (writePartCtrl_keeps h)
  | partWrite => exact .next (writeTenCfg_keeps h)
  | tokQuotaWrite => exact .next (writeTokQuota_keeps h)
  | tallyQuotaWrite => exact .next (writeTallyQuota_keeps h)
  | tenantDrainStart | tenantDrainEnd => exact .next (writeDrain_keeps h)
  | commandStart => exact execCommandStart_keeps h
  | quantumExpire => exact execQuantumExpire_keeps h
  | yieldGraceExpire => exact execYieldGraceExpire_keeps h
  | switchOut => exact execSwitchOut_keeps h
  | saveDone => exact execSaveDone_keeps h
  | restoreDone => exact execRestoreDone_keeps h
  | queueEnable | queueDisable => exact .next (writeEnable_keeps h)
  | sqTail => exact execSqTail_keeps h
  | cqHead => exact execCqHead_keeps h
  | slotLimitWrite => exact .next (writeSlotLimit_keeps h)
  | descriptorFetchStart => exact execDescriptorFetchStart_keeps h
  | descriptorReceived => exact execDescriptorReceived_keeps h
  | duplicateComplete => exact execDuplicateComplete_keeps h
  | load => exact execLoad_keeps h
  | unload => exact execUnload_keeps h
  | run => exact execRun_keeps h
  | nopCommand => exact execNopCommand_keeps h
  | completionRecordWrite => exact execCompletionRecordWrite_keeps h
  | cqFullTimeout => exact execCqFullTimeout_keeps h
  | dmaFailure => exact execDmaFailure_keeps h
  | synthLock => exact execSynthLock_keeps h
  | synthLockTimeout => exact execSynthLockTimeout_keeps h
  | detectPreambleSend => exact execDetectPreambleSend_keeps h
  | preambleDetected => exact execPreambleDetected_keeps h
  | role => exact execRole_keeps h
  | ready => exact execReady_keeps h
  | trainingPhaseDone => exact execTrainingPhaseDone_keeps h
  | presetReq => exact execPresetReq_keeps h
  | seed => exact execSeed_keeps h
  | wake => exact execWake_keeps h
  | abort => exact execAbort_keeps h
  | phaseBoundExpire => exact execPhaseBoundExpire_keeps h
  | verifyEnd => exact execVerifyEnd_keeps h
  | retrain => exact .next (writeLaneCtrl_keeps h)
  | steeringUpdate => exact execSteeringUpdate_keeps h
  | snrUpdate => exact execSnrUpdate_keeps h
  | laneDegraded => exact execLaneDegraded_keeps h
  | quietWindow => exact execQuietWindow_keeps h
  | impulseBlock => exact execImpulseBlock_keeps h
  | impulseRunEnd => exact execImpulseRunEnd_keeps h
  | alignmentLost => exact execAlignmentLost_keeps h
  | wakeFalseDetect => exact execWakeFalseDetect_keeps h
  | wakeDataResume => exact execWakeDataResume_keeps h
  | flitSubmit => exact execFlitSubmit_keeps h
  | flitReceived => exact execFlitReceived_keeps h
  | ackReceived => exact .next (takeAck_keeps h)
  | nakReceived => exact execNakReceived_keeps h
  | replayTimeout => exact execReplayTimeout_keeps h
  | receiveBufferFree => exact execReceiveBufferFree_keeps h
  | identity => exact execIdentity_keeps h
  | verdict => exact execVerdict_keeps (j := 0) h
  | identifyTimeout => exact execIdentifyTimeout_keeps h
  | reform => exact execReform_keeps h
  | sleepReq => exact execSleepReq_keeps h
  | sleepAck => exact execSleepAck_keeps h
  | idleExpire => exact execIdleExpire_keeps h
  | bertGo | portDrain | recheck => exact .next (writePortCtrl_keeps h)
  | bertHoursExpire => exact execBertHoursExpire_keeps h
  | bertReq => exact execBertReq_keeps h
  | bertAck => exact execBertAck_keeps (x1 := 0) h
  | bertEnd => exact execBertEnd_keeps h
  | seedHoldExpire => exact execSeedHoldExpire_keeps h
  | portDisableDone => exact execPortDisableDone_keeps h
  | drainNotice => exact execDrainNotice_keeps h
  | drained => exact execDrained_keeps h
  | tmbCapture => exact execTmbCapture_keeps h
  | status => exact execStatus_keeps h
  | read => exact execRead_keeps h
  | write => exact execWrite_keeps h
  | eventRead => exact execEventRead_keeps h
  | latchRead => exact execLatchRead_keeps h
  | retainRead => exact execRetainRead_keeps h
  | power => exact execPower_keeps h
  | drain => exact execDrain_keeps h
  | calStore => exact execCalStore_keeps h
  | inlet => exact execInlet_keeps h
  | openSession => exact execOpenSession_keeps h
  | tmbResponseSend => exact execTmbResponseSend_keeps h
  | tmbBusOccupied => exact execTmbBusOccupied_keeps h
  | keyCommit => exact .next (writeKeyCtrl_keeps h)
  | tmbWindowError => exact execTmbWindowError_keeps h
  | calErase => exact execCalErase_keeps h
  | calEraseDone => exact execCalEraseDone_keeps h
  | storeGo | measure => exact .next (writeStore_keeps h)
  | holdupMeasureDone => exact execHoldupMeasureDone_keeps h
  | calStoreStepDone => exact execCalStoreStepDone_keeps h
  | norTimeout => exact execNorTimeout_keeps h
  | extest | extestPulse | extestTrain | clamp => exact .next (tapLoad_keeps h)
  | idcode => exact execIdcode_keeps h
  | clearingRead => exact execClearingRead_keeps h
  | dutyReload => exact execDutyReload_keeps h
  | hbmPhyRetrainFail => exact execHbmPhyRetrainFail_keeps h
  | frameDiscarded => exact execFrameDiscarded_keeps h
  | unlistedOp => exact execUnlistedOp_keeps h

/-- A step takes a command off the queue, or ticks: what it answers keeps but for the queue, and the loss of VSB but for the trip. -/
theorem step_keeps_logs_mem (h : step s = .next t) :
    (memWf s = true → memWf t = true) ∧ (logsBounded s = true → logsBounded t = true) := by
  unfold step at h
  split at h
  · cases h
    exact ⟨(tickOnce_keeps (.refl s)).mem, (tickOnce_keeps (.refl s)).logs⟩
  · rename_i c rest _
    by_cases hc : c = .vsbInvalid
    · subst hc
      cases h
      exact ⟨fun _ => rfl, fun _ => rfl⟩
    · obtain ⟨u, hu, hk⟩ := exec_keeps hc (.refl { s with pending := rest })
      cases hu.symm.trans h
      exact ⟨hk.mem, hk.logs⟩

end

/-! ### The statements on every step -/

/-- Settles O3: every command keeps the queue, the loss of VSB too. -/
theorem everyCommandAnswers : Obligations.EveryCommandAnswers := by
  unfold Obligations.EveryCommandAnswers
  intro i s
  by_cases hi : i = .vsbInvalid
  · subst hi
    exact ⟨_, rfl, rfl⟩
  · obtain ⟨t, ht, hk⟩ := exec_keeps hi (.refl s)
    exact ⟨t, ht, hk.pending⟩

/-- Settles O35: every command but the loss of VSB keeps a latched trip, and so does a tick. -/
theorem tripStaysLatched : Obligations.TripStaysLatched := by
  unfold Obligations.TripStaysLatched nextCommand
  intro s r hr hn
  have hs : s.trip.isSome = true := by rw [hr]; rfl
  unfold step
  split
  · exact ⟨_, rfl, ((tickOnce_keeps (.refl s)).trip hs).trans hr⟩
  · rename_i c rest hp
    obtain ⟨t, ht, hk⟩ := exec_keeps (x := c) (by simpa [hp] using hn) (.refl { s with pending := rest })
    exact ⟨t, ht, (hk.trip hs).trans hr⟩

/-- Settles O59: every operation keeps the form, since the writes of memory do. -/
theorem memoryCanonical : Obligations.MemoryCanonical := by
  unfold Obligations.MemoryCanonical
  exact fun s t hs h => (step_keeps_logs_mem h).1 hs

end Sys2Proof.Machine

/-- Settles O60: every operation keeps the sizes, since the ring takes the newest 1024 and retention memory the newest 64. -/
theorem Sys2Proof.logsBounded : Obligations.LogsBounded := by
  unfold Obligations.LogsBounded
  exact fun s t hs h => (Machine.step_keeps_logs_mem h).2 hs
end

section
/-!
SUPPORT. What the statements' own terms say of the shared operations: causes, the newest record, the judgement of a write.
-/
namespace Sys2Proof.Machine
open Sys2Proof

/-! ### Causes -/

theorem testBit_w32_two_pow {i : Nat} (hi : i < 32) : (w32 (2 ^ i)).getLsbD i = true := by
  rw [w32, BitVec.getLsbD_ofNat, Nat.testBit_two_pow_self]
  simp [hi]

@[simp] theorem caused_raise_same (s : State) (p : PageRef) {i : Nat} (hi : i < 32) : caused (raise s p i) p i = true := by
  simp [caused, testBit_w32_two_pow hi]

theorem caused_raise {s : State} {q : PageRef} {j : Nat} (p : PageRef) (i : Nat) (h : caused s q j = true) :
    caused (raise s p i) q j = true := by
  unfold caused at *
  rw [raise_hdr]
  split
  · rename_i hq
    rw [State.hdr, hq] at h
    exact (BitVec.getLsbD_or ..).trans (by rw [State.hdr, h]; rfl)
  · exact h

theorem caused_logEvent {s : State} {q : PageRef} {j : Nat} (code sev : Nat) (p : PageRef) (a : List Nat) (h : caused s q j = true) :
    caused (logEvent s code sev p a) q j = true := by
  obtain h' | ⟨e, h'⟩ | ⟨e, i, h'⟩ := logEvent_cases s code sev p a <;> rw [h']
  · exact h
  · exact h
  · exact caused_raise .event i h

/-! ### What a cause and an event leave of a header -/

/-- The parts of a header other than its causes. -/
def PageHdr.rest (h : PageHdr) : PageHdr := { h with intRaw := 0 }

@[simp] theorem raise_hdr_rest (s : State) (p q : PageRef) (i : Nat) : ((raise s p i).hdr q).rest = (s.hdr q).rest := by
  rw [raise_hdr]
  split
  · rename_i hq
    rw [State.hdr, State.hdr, hq]
    rfl
  · rfl

@[simp] theorem logEvent_hdr_rest (s : State) (code sev : Nat) (p q : PageRef) (a : List Nat) :
    ((logEvent s code sev p a).hdr q).rest = (s.hdr q).rest := by
  obtain h | ⟨e, h⟩ | ⟨e, i, h⟩ := logEvent_cases s code sev p a <;> rw [h]
  · rfl
  · exact raise_hdr_rest _ .event q i

theorem PageHdr.rest_inj {h h' : PageHdr} (e : h.rest = h'.rest) : h.owner = h'.owner ∧ h.lock = h'.lock ∧
    h.lastRefusal = h'.lastRefusal ∧ h.errCount = h'.errCount ∧ h.intEnable = h'.intEnable ∧ h.freeze = h'.freeze := by
  simp only [PageHdr.rest, PageHdr.mk.injEq] at e
  tauto

theorem ownerOf_of_rest {s t : State} {q : PageRef} (e : (t.hdr q).rest = (s.hdr q).rest) : ownerOf t q = ownerOf s q := by
  rw [ownerOf, ownerOf, (PageHdr.rest_inj e).1]

@[simp] theorem ownerOf_raise (s : State) (p q : PageRef) (i : Nat) : ownerOf (raise s p i) q = ownerOf s q :=
  ownerOf_of_rest (raise_hdr_rest s p q i)

@[simp] theorem ownerOf_logEvent (s : State) (code sev : Nat) (p q : PageRef) (a : List Nat) :
    ownerOf (logEvent s code sev p a) q = ownerOf s q := ownerOf_of_rest (logEvent_hdr_rest s code sev p q a)

@[simp] theorem lock_raise (s : State) (p q : PageRef) (i : Nat) : ((raise s p i).hdr q).lock = (s.hdr q).lock :=
  (PageHdr.rest_inj (raise_hdr_rest s p q i)).2.1

@[simp] theorem lastRefusal_raise (s : State) (p q : PageRef) (i : Nat) :
    ((raise s p i).hdr q).lastRefusal = (s.hdr q).lastRefusal := (PageHdr.rest_inj (raise_hdr_rest s p q i)).2.2.1

@[simp] theorem lastRefusal_logEvent (s : State) (code sev : Nat) (p q : PageRef) (a : List Nat) :
    ((logEvent s code sev p a).hdr q).lastRefusal = (s.hdr q).lastRefusal :=
  (PageHdr.rest_inj (logEvent_hdr_rest s code sev p q a)).2.2.1

/-! ### The newest record -/

theorem newest_logEvent {s : State} (h : logOpen s = true) (code sev : Nat) (p : PageRef) (a : List Nat) :
    newest (logEvent s code sev p a) code [a.getD 0 0 % 2 ^ 32, a.getD 1 0 % 2 ^ 32, a.getD 2 0 % 2 ^ 32, a.getD 3 0 % 2 ^ 32] = true := by
  have hn := logEvent_newest h code sev p a
  unfold newest
  cases hl : (logEvent s code sev p a).events.log with
  | nil => rw [hl] at hn; cases hn
  | cons r l =>
    rw [hl, List.head?_cons, Option.some.injEq] at hn
    subst hn
    simp [mkRecord]

theorem newest_congr {s t : State} (h : t.events = s.events) (code : Nat) (a : List Nat) : newest t code a = newest s code a := by
  rw [newest, newest, h]

@[simp] theorem newest_raise (s : State) (p : PageRef) (i code : Nat) (a : List Nat) : newest (raise s p i) code a = newest s code a :=
  newest_congr (raise_events s p i) code a

/-! ### Judged writes -/

/-- Of a write that nothing outside its register turns away, the register's own checks decide. -/
theorem judge_of_writeOk {s : State} {p : PageRef} {w : RegWrite} (h : writeOk s p w = true) (c : Checks) :
    judge s p w c = if c.tripped then .tripped else if c.notOwner then .notOwner else if c.locked then .locked
      else if c.outOfRange then .outOfRange else if c.wrongState then .wrongState else if c.ledgerFault then .ledgerFault
      else if c.noResource then .noResource else if c.budget then .budget else .ok := by
  obtain ⟨-, -, -, hm, ho, hu⟩ := (writeOk_iff s p w).mp h
  simp [judge, hm, ho, hu]

theorem guarded_eq_of_writeOk {s : State} {p : PageRef} {w : RegWrite} (h : writeOk s p w = true) (off : Nat) (c : Checks)
    (eff : State → State) : (guarded s p off w c eff).1 =
      if judge s p w c = .ok then eff s else recordRefusal s p off w.master (judge s p w c) := by
  obtain ⟨hr, he, ha, -⟩ := (writeOk_iff s p w).mp h
  have hs : aoServes s p w.master = false := by simp [aoServes, isReady_hubOn hr]
  simp only [guarded, hs, hr, he, ha]
  by_cases hj : judge s p w c = .ok <;> simp [hj]

/-- What a judged write can do: its effect, the record of a refusal, or an answer of the hub's own. -/
theorem guarded_cases (s : State) (p : PageRef) (off : Nat) (w : RegWrite) (c : Checks) (eff : State → State) :
    ((guarded s p off w c eff).1 = eff s ∧ judge s p w c = .ok) ∨
    ((guarded s p off w c eff).1 = recordRefusal s p off w.master (judge s p w c) ∧ judge s p w c ≠ .ok) ∨
    (guarded s p off w c eff).1 = s ∨ (∃ o, (guarded s p off w c eff).1 = emit s o) ∨
    (∃ a r, (guarded s p off w c eff).1 = recordUnp s a w.master r) := by
  have hact : ∀ x : State × RefCode, x = (if judge s p w c = .ok then (eff s, .ok)
      else (recordRefusal s p off w.master (judge s p w c), judge s p w c)) →
      (x.1 = eff s ∧ judge s p w c = .ok) ∨ (x.1 = recordRefusal s p off w.master (judge s p w c) ∧ judge s p w c ≠ .ok) := by
    intro x hx
    by_cases hj : judge s p w c = .ok
    · exact .inl ⟨by rw [hx, if_pos hj], hj⟩
    · exact .inr ⟨by rw [hx, if_neg hj], hj⟩
  unfold guarded
  dsimp only
  split
  · exact (hact _ rfl).imp id .inl
  · split
    · split
      · exact .inr (.inr (.inl rfl))
      · exact .inr (.inr (.inr (.inl ⟨_, rfl⟩)))
    · split
      · exact .inr (.inr (.inr (.inr ⟨_, _, rfl⟩)))
      · split
        · exact .inr (.inr (.inr (.inr ⟨_, _, rfl⟩)))
        · exact (hact _ rfl).imp id .inl

theorem ownerOf_recordRefusal (s : State) (p q : PageRef) (off : Nat) (m : Master) (c : RefCode) :
    ownerOf (recordRefusal s p off m c) q = ownerOf s q := by
  rw [ownerOf, ownerOf, recordRefusal_hdr]
  split
  · rename_i hq
    simp only [State.hdr, hq]
  · rfl

theorem ownerOf_recordUnp (s : State) (a : Nat) (m : Master) (c : RefCode) (q : PageRef) :
    ownerOf (recordUnp s a m c) q = ownerOf s q := ownerOf_raise _ _ _ _

/-! ### A refuting run -/

/-- What a command leaves of the part `g` of the state, if it answers a next state. -/
def leaves {α : Type} (g : State → α) : Host.Outcome State Fault Refusal → Option α
  | .next t => some (g t)
  | _ => none

theorem leaves_next {α : Type} (g : State → α) {o : Host.Outcome State Fault Refusal} {t : State} (h : o = .next t) :
    leaves g o = some (g t) := by
  subst h
  rfl

end Sys2Proof.Machine
end

section
/-!
SUPPORT. The step, and the state at reset.
-/
namespace Sys2Proof.Machine
open Sys2Proof

/-- Settles O1: it is the definition of a step on a queue that is not empty. -/
theorem stepRunsFrontCommand : Obligations.StepRunsFrontCommand := by
  unfold Obligations.StepRunsFrontCommand
  intro c rest s h
  simp only [step, h]

/-- Settles O2: a step on an empty queue is a tick. -/
theorem idleStepTicks : Obligations.IdleStepTicks := by
  unfold Obligations.IdleStepTicks
  intro s h
  simp only [step, h, tickOnce]
  exact ⟨fun hv => by rw [if_pos hv], fun hv => by rw [if_neg (by simp [hv])]⟩

theorem lookList_nil {α : Type} (d : α) (a n : Nat) : lookList d [] a n = List.replicate n d := by
  induction n generalizing a with
  | zero => rfl
  | succ n ih => simp [lookList, look, ih, List.replicate_succ]

/-- At reset no page has a cause. -/
theorem intPending_reset (p : PageRef) : intPending State.reset p = 0 := by
  unfold intPending
  split
  · exact BitVec.zero_and
  · rfl

/-- Settles O58: an index that nothing lists reads the default of its part of the state. -/
theorem resetState : Obligations.ResetState := by
  unfold Obligations.ResetState
  exact ⟨rfl, rfl, rfl, rfl, reset_memWf, rfl, rfl, rfl, rfl, fun _ => rfl, fun _ => rfl, fun _ => rfl,
    fun p => ⟨rfl, intPending_reset p⟩, fun _ => ⟨rfl, rfl, rfl⟩, fun _ => ⟨rfl, rfl, rfl⟩, fun _ => ⟨rfl, rfl, rfl, rfl, rfl⟩,
    fun _ => ⟨rfl, rfl, rfl, rfl⟩, fun a n => lookList_nil 0 a n⟩

end Sys2Proof.Machine
end

section
/-!
SUPPORT. Chapter 03: owners and their seizure, and the read cursors. The statement O21 fails of a record that an earlier latch found bad.
-/
namespace Sys2Proof.Machine
open Sys2Proof

/-! ### Owners (R89, R92, R93) -/

theorem ownerOf_setOwner (s : State) (p q : PageRef) (o : Nat) (hq : p.addr = q.addr → p = q) :
    ownerOf (setOwner s p o) q = if q = p then o else ownerOf s q := by
  have howner : (ownerEntry q o).getD q.defaultOwner = o := by
    unfold ownerEntry
    split <;> simp_all
  by_cases h : q = p
  · subst h
    simp [ownerOf, setOwner, howner]
  · have ha : q.addr ≠ p.addr := fun ha => h (hq ha.symm).symm
    simp [ownerOf, setOwner, h, ha]

theorem addr_inj {p q : PageRef} (hp : p.exists = true) (hq : q.exists = true) (h : p.addr = q.addr) : p = q := by
  have := (pageAt_addr hp).symm.trans (h ▸ pageAt_addr hq)
  simpa using this

theorem ownerOf_modLock (s : State) (p q : PageRef) (l : Bool) :
    ownerOf (s.modHdr p fun h => { h with lock := l }) q = ownerOf s q := by
  rw [ownerOf, ownerOf, modHdr_hdr]
  split
  · rename_i h
    simp only [State.hdr, h]
  · rfl

/-- A judged write whose effect leaves owners as they are, or is not reached, leaves them so. -/
theorem ownerOf_guarded {s : State} {p : PageRef} {off : Nat} {w : RegWrite} {c : Checks} {eff : State → State} {q : PageRef}
    (h : judge s p w c = .ok → ownerOf (eff s) q = ownerOf s q) : ownerOf (guarded s p off w c eff).1 q = ownerOf s q := by
  obtain ⟨e, hj⟩ | ⟨e, -⟩ | e | ⟨o, e⟩ | ⟨a, r, e⟩ := guarded_cases s p off w c eff <;> rw [e]
  · exact h hj
  · exact ownerOf_recordRefusal ..
  · rfl
  · exact ownerOf_recordUnp ..

/-- What an accepted write of OWNER makes of the owners. -/
theorem ownerOf_ownerEffect (s : State) (p : PageRef) (lock side sz : Bool) (l : List Nat) (a : List Nat) (old new : Nat) :
    ∀ q, (p.addr = q.addr → p = q) → ownerOf
      (let u := (setOwner s p new).modHdr p (fun h => { h with lock := lock })
       let u := if side then { u with arb := { u.arb with seized := l } } else u
       let u := if sz then raise u .arbiter 0 else u
       if old = new then u else raise (logEvent u 0x7003 0 .arbiter a) .arbiter 4) q = if q = p then new else ownerOf s q := by
  intro q hq
  have h1 : ownerOf ((setOwner s p new).modHdr p (fun h => { h with lock := lock })) q = if q = p then new else ownerOf s q :=
    (ownerOf_modLock _ p q lock).trans (ownerOf_setOwner s p q new hq)
  have h2 : ∀ u : State, ownerOf (if side then { u with arb := { u.arb with seized := l } } else u) q = ownerOf u q := by
    intro u; split <;> rfl
  have h3 : ∀ u : State, ownerOf (if sz then raise u .arbiter 0 else u) q = ownerOf u q := by
    intro u; split
    · exact ownerOf_raise ..
    · rfl
  dsimp only
  split
  · rw [h3, h2, h1]
  · rw [ownerOf_raise, ownerOf_logEvent, h3, h2, h1]

/-- The owner of the page itself after an accepted write of OWNER, and of a page after one that is refused. -/
theorem ownerWrite_accepted {p : PageRef} {w : RegWrite} {s : State} (h : writeOk s p w = true) (hl : (s.hdr p).lock = false)
    {new : Nat} (hnew : new = fld (w.merged (ownerWord s p)).toNat 0 2) (hlt : new < 3) :
    Answers (.ownerWrite p w) s fun t => ownerOf t p = new := by
  refine ⟨_, rfl, ?_⟩
  have hne : new ≠ 3 := by omega
  rw [writeOwner, guarded_eq_of_writeOk h, judge_of_writeOk h]
  simp only [hl, ← hnew, hne, Bool.false_and, decide_false, Bool.false_eq_true, if_false, if_true]
  refine (ownerOf_ownerEffect s p _ _ _ _ _ _ _ p (fun _ => rfl)).trans (if_pos rfl)

theorem ownerWrite_outOfRange {p : PageRef} {w : RegWrite} {s : State} (h : writeOk s p w = true) (hl : (s.hdr p).lock = false)
    (hnew : fld (w.merged (ownerWord s p)).toNat 0 2 = 3) : Answers (.ownerWrite p w) s fun t => ownerOf t p = ownerOf s p ∧
      (t.hdr p).lastRefusal = word [(0, 0x03), (8, 0x24), (24, w.master.num)] := by
  refine ⟨_, rfl, ?_⟩
  rw [writeOwner, guarded_eq_of_writeOk h, judge_of_writeOk h]
  simp [hl, hnew, ownerOf_recordRefusal, RefCode.num]

theorem ownerWrite_locked {p : PageRef} {w : RegWrite} {s : State} (hl : (s.hdr p).lock = true)
    (hs : seizes s p w.master (fld (w.merged (ownerWord s p)).toNat 0 2) = false) :
    Answers (.ownerWrite p w) s fun t => ownerOf t p = ownerOf s p := by
  refine ⟨_, rfl, ownerOf_guarded fun hj => ?_⟩
  have hold : fld (w.merged (ownerWord s p)).toNat 0 2 = ownerOf s p := by
    by_contra hne
    simp only [judge, hl, hs, hne, ne_eq, not_false_eq_true, decide_true, Bool.not_false, Bool.and_self, if_true] at hj
    split_ifs at hj
  exact (ownerOf_ownerEffect s p _ _ _ _ _ _ _ p (fun _ => rfl)).trans ((if_pos rfl).trans hold)

/-- Settles O15: an accepted write sets the owner it names; a locked page's write is accepted only where it names the owner. -/
theorem ownerWritesFollowTheirRules : Obligations.OwnerWritesFollowTheirRules := by
  unfold Obligations.OwnerWritesFollowTheirRules
  refine ⟨fun p w s h hl new hnew => ⟨ownerWrite_accepted h hl hnew, fun h3 => ?_⟩, fun p w s hl hs => ownerWrite_locked hl hs⟩
  exact ownerWrite_outOfRange h hl (hnew ▸ h3)

/-! ### Seizure (R92, R93) -/

/-- The owners after a loop that sets those of pages that exist. -/
theorem ownerOf_setOwners {o : PageRef → Nat} {l : List PageRef} {q : PageRef} (hq : q.exists = true) (hl : ∀ p ∈ l, p.exists = true)
    (s : State) : ownerOf (forEach l s fun s p => setOwner s p (o p)) q = if q ∈ l then o q else ownerOf s q := by
  unfold forEach
  induction l generalizing s with
  | nil => simp
  | cons p r ih =>
    have hp : p.addr = q.addr → p = q := addr_inj (hl p (List.mem_cons_self ..)) hq
    rw [List.foldl_cons, ih (fun x hx => hl x (List.mem_cons_of_mem _ hx)), ownerOf_setOwner s p q (o p) hp]
    by_cases hr : q ∈ r
    · simp [hr]
    · by_cases hqp : q = p
      · subst hqp; simp
      · simp [hr, hqp]

theorem seize_accepted {w : RegWrite} {s : State} {tag : Bool} (hm : w.master = .side tag) (h : writeOk s .arbiter w = true)
    (hf : w.full = true) (ha : s.ao.hostAbsent = true) (hg : w.value.getLsbD 0 = true) : Answers (.seize w) s fun t =>
      (∀ p ∈ allPages, ownerOf s p = 0 → ownerOf t p = 1) ∧ (∀ p ∈ allPages, ownerOf s p ≠ 0 → ownerOf t p = ownerOf s p) ∧
      caused t .arbiter 0 = true := by
  refine ⟨_, rfl, ?_⟩
  have hseized : ∀ p ∈ allPages, ownerOf (writeSeize w s).1 p = if ownerOf s p = 0 then 1 else ownerOf s p := by
    intro p hp
    rw [writeSeize, guarded_eq_of_writeOk h, judge_of_writeOk h]
    simp only [hm, notSide, hf, ha, hg, Bool.not_true, Bool.false_eq_true, if_false, if_true, ownerOf_raise, ownerOf_logEvent]
    refine (ownerOf_setOwners (o := fun _ => 1) (exists_of_mem_allPages p hp)
      (fun q hq => exists_of_mem_allPages q (List.mem_filter.mp hq).1) s).trans ?_
    simp [hp]
  refine ⟨fun p hp h0 => by rw [hseized p hp, if_pos h0], fun p hp h0 => by rw [hseized p hp, if_neg h0], ?_⟩
  rw [writeSeize, guarded_eq_of_writeOk h, judge_of_writeOk h]
  simp [hm, notSide, hf, ha, hg]

/-- What names a page names one that exists. -/
def NamesPage (x : Option (PageRef × Nat)) : Prop := ∀ e, x = some e → e.1.exists = true

theorem namesPage_some {p : PageRef} (h : p.exists = true) (o : Nat) : NamesPage (some (p, o)) := by
  rintro _ ⟨⟩
  exact h

theorem namesPage_none : NamesPage none := nofun

theorem namesPage_ite {c : Prop} [Decidable c] {x y : Option (PageRef × Nat)} (hx : c → NamesPage x) (hy : ¬ c → NamesPage y) :
    NamesPage (if c then x else y) := by
  split
  · exact hx ‹c›
  · exact hy ‹¬ c›

/-- An address names no page that does not exist (Table 3.6). -/
theorem pageAt_namesPage (a : Nat) : NamesPage (pageAt a) := by
  unfold pageAt
  dsimp only
  repeat' refine namesPage_ite (fun _ => ?_) (fun _ => ?_)
  any_goals exact namesPage_none
  all_goals refine namesPage_some ?_ _
  all_goals simp only [PageRef.exists, decide_eq_true_eq]
  all_goals omega

theorem release_accepted {w : RegWrite} {s : State} {tag : Bool} (hm : w.master = .side tag) (h : writeOk s .arbiter w = true)
    (hf : w.full = true) (hg : w.value.getLsbD 0 = true) : Answers (.release w) s fun t =>
      t.arb.seized = [] ∧ (∀ p ∈ allPages, p.addr ∈ s.arb.seized → ownerOf t p = p.defaultOwner) ∧ caused t .arbiter 1 = true := by
  refine ⟨_, rfl, ?_⟩
  rw [writeRelease, guarded_eq_of_writeOk h, judge_of_writeOk h]
  simp only [hm, notSide, hf, hg, Bool.not_true, Bool.false_eq_true, if_false, if_true, ownerOf_raise, ownerOf_logEvent, raise_arb,
    logEvent_arb, caused_raise_same _ _ (show 1 < 32 by decide), and_true, true_and]
  intro p hp ha
  have hex := exists_of_mem_allPages p hp
  refine (ownerOf_setOwners hex (fun q hq => ?_) s).trans ?_
  · obtain ⟨a, -, hq⟩ := List.mem_filterMap.mp hq
    obtain ⟨⟨q', o⟩, hq', rfl⟩ := Option.map_eq_some_iff.mp hq
    exact pageAt_namesPage a _ hq'
  · exact if_pos (List.mem_filterMap.mpr ⟨p.addr, ha, by rw [pageAt_addr hex]; rfl⟩)

/-- A write that only the side-band may make, by another master, changes no owner and no seizure. -/
theorem seizure_refused {s : State} {off : Nat} {w : RegWrite} {c : Checks} {eff : State → State} (hm : notSide w.master = true)
    (hc : c.notOwner = notSide w.master) : (guarded s .arbiter off w c eff).1.arb.seized = s.arb.seized ∧
      ∀ p : PageRef, ownerOf (guarded s .arbiter off w c eff).1 p = ownerOf s p := by
  have hj : judge s .arbiter w c ≠ .ok := by
    unfold judge
    rw [hc, hm]
    split_ifs <;> simp_all
  refine ⟨?_, fun p => ownerOf_guarded fun h => absurd h hj⟩
  obtain ⟨-, h⟩ | ⟨e, -⟩ | e | ⟨o, e⟩ | ⟨a, r, e⟩ := guarded_cases s .arbiter off w c eff
  · exact absurd h hj
  · rw [e, recordRefusal_arb]
  · rw [e]
  · rw [e]; rfl
  · simp [e, recordUnp]

/-- Settles O19: SEIZE sets the owners of the pages it takes, RELEASE those of the pages taken, and the host does neither. -/
theorem seizeAndRelease : Obligations.SeizeAndRelease := by
  unfold Obligations.SeizeAndRelease
  refine ⟨fun tag w s hm h hf ha hg => seize_accepted hm h hf ha hg, fun tag w s hm h hf hg => release_accepted hm h hf hg,
    fun e he w s hm => ?_⟩
  simp only [List.mem_cons, List.not_mem_nil, or_false] at he
  obtain rfl | rfl := he
  · exact ⟨_, rfl, seizure_refused hm rfl⟩
  · exact ⟨_, rfl, seizure_refused hm rfl⟩

/-! ### The read cursors (R103, R111) -/

/-- A ready device whose ring holds one record, number 0, of which an earlier read met an ECC error. -/
def badRecord : State :=
  { State.reset with
    ao := { vsb := true, vin := true, vhbm := true, aoLock := true }
    power := { stage := .ready, hubPll := true }
    events := { log := [mkRecord .reset 0 0 .event []], writeSeq := 1, bad := [0] } }

/-- A write of 0 to a cursor, by the host. -/
def cursorZero : RegWrite := { master := .host, value := 0, be := 15 }

theorem cursor_badRecord : cursorOf (writeCursor 0 false cursorZero badRecord).1 0 = { seq := 0, valid := false, ecc := true } := by
  decide

/-- Refutes O21: a record whose ECC error an earlier latch met stays bad (R111), so the cursor is not valid although the write
meets no error. -/
theorem not_eventLogAndCursors : ¬ Obligations.EventLogAndCursors := by
  unfold Obligations.EventLogAndCursors
  intro ⟨_, hwrite, _⟩
  obtain ⟨t, ht, _, hc⟩ := hwrite 0 false cursorZero badRecord (by decide) 0 (by decide)
  have hx : exec (.cursorWrite 0 false cursorZero) badRecord = .next (writeCursor 0 false cursorZero badRecord).1 := rfl
  cases hx.symm.trans ht
  have hv := congrArg Cursor.valid (cursor_badRecord.symm.trans hc)
  exact absurd hv (by decide)

end Sys2Proof.Machine
end

section
/-!
SUPPORT. Chapter 04: snapshots, the ledger check, the reseal, and the token pool's arithmetic.
-/
namespace Sys2Proof.Machine
open Sys2Proof

/-! ### Snapshots (R122, R123) -/

theorem snapOf_setSnap_same {s : State} {b : Nat} (x : Snap) : snapOf (setSnap s b x) b = x := by
  unfold snapOf setSnap
  split <;> rfl

theorem snapOf_setSnap_other {s : State} {b : Nat} (hb : b < 2) (x : Snap) : snapOf (setSnap s b x) (1 - b) = snapOf s (1 - b) := by
  have hb' : b = 0 ∨ b = 1 := by omega
  obtain rfl | rfl := hb' <;> rfl

theorem setSnap_ledgers (s : State) (b : Nat) (x : Snap) : (setSnap s b x).ledgers = s.ledgers := by
  unfold setSnap
  split <;> rfl

theorem snapOf_raise (s : State) (p : PageRef) (i b : Nat) : snapOf (raise s p i) b = snapOf s b := by
  rw [snapOf, snapOf, raise_ledger]

/-- Settles O22: TAKE writes the buffer it names, and SNAPSHOT_DONE its two flags. -/
theorem snapshotsCaptureLedgers : Obligations.SnapshotsCaptureLedgers := by
  unfold Obligations.SnapshotsCaptureLedgers
  refine ⟨fun w s h hf hg b hb hbusy => ?_, fun b s hon hbusy => ?_⟩
  · have hlt : b < 2 := by rw [hb]; exact Nat.mod_lt _ (by decide)
    refine ⟨capture s b, ?_, snapOf_setSnap_same _, snapOf_setSnap_other hlt _, setSnap_ledgers ..⟩
    have he : exec (.take w) s = .next (writeSnapCtrl w s).1 := rfl
    rw [he, writeSnapCtrl, guarded_eq_of_writeOk h, judge_of_writeOk h]
    simp [hf, hg, ← hb, hbusy]
  · refine ⟨raise (setSnap s b { snapOf s b with busy := false, done := true }) .ledger (1 + b), ?_, ?_, ?_, ?_⟩
    · have he : exec (.snapshotDone b) s = execSnapshotDone b s := rfl
      simp [he, execSnapshotDone, hon, hbusy]
    · rw [snapOf_raise, snapOf_setSnap_same]
    · exact caused_raise_same _ _ (by omega)
    · rw [raise_ledgers, setSnap_ledgers]

/-! ### The ledger check and the reseal (R113, R130, R133) -/

theorem firstBroken_none {l : Ledgers} (h : ledgersOk l = true) : firstBroken l = none := by
  rw [firstBroken, List.find?_eq_none]
  intro e he
  simpa using List.all_eq_true.mp h e he

theorem firstBroken_some {l : Ledgers} (h : ledgersOk l = false) : ∃ e, firstBroken l = some e := by
  rw [← Option.isSome_iff_exists, firstBroken, List.find?_isSome]
  simpa [ledgersOk] using h

/-- A ledger fault stops the columns and the guarantee. -/
theorem ledgerFail_freezes {s : State} (h : ledgerFaulted s = false) (inv : Bool) (led row col : Nat) :
    ledgerFaulted (ledgerFail s inv led row col) = true ∧ (ledgerFail s inv led row col).ledger.open_ = false ∧
    (ledgerFail s inv led row col).ledgers = s.ledgers ∧ caused (ledgerFail s inv led row col) .ledger 0 = true := by
  rw [ledgerFail, h]
  simp [ledgerFaulted, renewQuanta]

theorem ledgerCheck_fails {e : Option (Nat × Nat × Nat)} {s : State} (hon : hubOn s = true)
    (h : e.isSome = true ∨ ledgersOk s.ledgers = false) : ∃ inv l r c, exec (.ledgerCheck e) s = .next (ledgerFail s inv l r c) := by
  have hx : exec (.ledgerCheck e) s = execLedgerCheck e s := rfl
  rw [hx]
  cases e with
  | some x => exact ⟨false, x.1, x.2.1, x.2.2, by simp [execLedgerCheck, hon]⟩
  | none =>
    obtain ⟨x, hx⟩ := firstBroken_some (by simpa using h)
    exact ⟨true, x.1, x.2, 0xF, by simp [execLedgerCheck, hon, hx]⟩

theorem forEach_modCmd_ledgers (l : List Nat) (s : State) (f : Cmd → Cmd) :
    (forEach l s fun s k => s.modCmd k f).ledgers = s.ledgers ∧ (forEach l s fun s k => s.modCmd k f).ledger = s.ledger ∧
    (forEach l s fun s k => s.modCmd k f).token = s.token :=
  ⟨forEach_keeps State.ledgers l (fun s k => s.modCmd k f) (fun _ _ _ => rfl) s, forEach_keeps State.ledger l (fun s k => s.modCmd k f) (fun _ _ _ => rfl) s,
    forEach_keeps State.token l (fun s k => s.modCmd k f) (fun _ _ _ => rfl) s⟩

theorem forEach_modPort_ledgers (l : List Nat) (s : State) (f : PortSt → PortSt) :
    (forEach l s fun s p => s.modPort p f).ledgers = s.ledgers ∧ (forEach l s fun s p => s.modPort p f).ledger = s.ledger ∧
    (forEach l s fun s p => s.modPort p f).token = s.token :=
  ⟨forEach_keeps State.ledgers l (fun s p => s.modPort p f) (fun _ _ _ => rfl) s, forEach_keeps State.ledger l (fun s p => s.modPort p f) (fun _ _ _ => rfl) s,
    forEach_keeps State.token l (fun s p => s.modPort p f) (fun _ _ _ => rfl) s⟩

theorem resealUnits_ledgers (s : State) : (resealUnits s).ledgers = resealed s ∧ (resealUnits s).ledger = s.ledger ∧
    (resealUnits s).token = s.token := by
  unfold resealUnits
  dsimp only
  obtain ⟨hp, hq, hr⟩ := forEach_modPort_ledgers (List.range 8) (forEach (s.host.cmds.map (·.1)) { s with ledgers := resealed s }
    fun s k => s.modCmd k fun c => { c with counted := false }) fun x => { x with unacked := x.unacked.map fun y => { y with counted := false } }
  obtain ⟨hu, hv, hw⟩ := forEach_modCmd_ledgers (s.host.cmds.map (·.1)) { s with ledgers := resealed s } fun c => { c with counted := false }
  exact ⟨hp.trans hu, hq.trans hv, hr.trans hw⟩

@[simp] theorem budgetMoved_ledgers (s : State) : (budgetMoved s).ledgers = s.ledgers := by
  unfold budgetMoved
  dsimp only
  split <;> simp

@[simp] theorem budgetMoved_ledger (s : State) : (budgetMoved s).ledger = s.ledger := by
  unfold budgetMoved
  dsimp only
  split <;> simp

theorem tokOk_iff (t : TokLedger) : tokOk t = true ↔ tokSum t = 4928 ∧ t.withheld + t.shortfall + t.retired + t.budget = 4928 := by
  simp [tokOk, tokSum]

theorem tokOk_tokReset {r b : Nat} (h : r + b ≤ 4928) : tokOk (tokReset r b) = true := by
  simp only [tokOk_iff, tokSum, tokReset]
  omega

/-- The state of the reseal before its units are reset: the retired tokens are counted anew. -/
def retired (r : Nat) (s : State) : State :=
  { s with token := { s.token with retire := r, clampAll := false, returns := [], grants := [] } }

/-- The end of the reseal: the fault is over, and an epoch begins. -/
def reopened (u : State) : State :=
  let e := beginEpoch { u with ledger := { u.ledger with fault := none }, token := { u.token with level := 0, belowBase := false } }
  budgetMoved (logEvent e 0x9002 1 .ledger [e.ledger.epoch, 0, 0, 0])

theorem resealNow_eq (r : Nat) (s : State) : resealNow r s = reopened (resealUnits (retired r s)) := rfl

theorem reopened_ledgers (u : State) : (reopened u).ledgers = u.ledgers := by
  simp [reopened, beginEpoch]

theorem reopened_ledger (u : State) : (reopened u).ledger = { u.ledger with
    fault := none, epoch := if u.ledger.first then 1 else (u.ledger.epoch + 1) % 0x10000, first := false, open_ := true } := by
  simp [reopened, beginEpoch]

theorem resealNow_ledgers (r : Nat) (s : State) : (resealNow r s).ledgers = resealed (retired r s) := by
  rw [resealNow_eq, reopened_ledgers, (resealUnits_ledgers _).1]

theorem resealNow_ledger (r : Nat) (s : State) : (resealNow r s).ledger = { s.ledger with
    fault := none, epoch := if s.ledger.first then 1 else (s.ledger.epoch + 1) % 0x10000, first := false, open_ := true } := by
  rw [resealNow_eq, reopened_ledger, (resealUnits_ledgers _).2.1]
  rfl

theorem retiredOf_le (s : State) : retiredOf s ≤ 4928 := by
  unfold retiredOf
  exact Nat.min_le_left ..

theorem tokOk_resealNow {r : Nat} (hr : r ≤ 4928) (s : State) : tokOk (resealNow r s).ledgers.tok = true := by
  rw [resealNow_ledgers]
  have hb : budgetOf (retired r s) ≤ 4928 - r := by
    unfold budgetOf
    exact Nat.min_le_left ..
  have hk : (retired r s).token.retire = r := rfl
  exact tokOk_tokReset (by omega)

/-- Settles O24: the check finds the broken row or none, a fault freezes, and a reseal resets. -/
theorem ledgerFaultAndReseal : Obligations.LedgerFaultAndReseal := by
  unfold Obligations.LedgerFaultAndReseal
  refine ⟨fun s hon hok => ?_, fun e s hon hf h => ?_, fun w s h hfull hg hoff => ?_⟩
  · have hx : exec (.ledgerCheck none) s = execLedgerCheck none s := rfl
    simp [hx, execLedgerCheck, hon, firstBroken_none hok]
  · obtain ⟨inv, l, r, c, hx⟩ := ledgerCheck_fails hon h
    obtain ⟨hfault, hopen, hled, hcause⟩ := ledgerFail_freezes hf inv l r c
    exact ⟨_, hx, hfault, hopen, hled, by simp [counting, hfault], by simp [guaranteed, hopen], hcause⟩
  · have hl := resealNow_ledgers (retiredOf s) s
    have hled := resealNow_ledger (retiredOf s) s
    refine ⟨resealNow (retiredOf s) s, ?_, by rw [ledgerFaulted, hled]; rfl, tokOk_resealNow (retiredOf_le s) s, by rw [hl]; rfl, by rw [hl]; rfl,
      by rw [hled], fun hf => by rw [hled, hf]; rfl⟩
    have hx : exec (.reseal w) s = .next (writeReseal w s).1 := rfl
    have hall : (List.range 8).all (fun t => (s.tile t).st = .off) = true := by
      simpa using hoff
    rw [hx, writeReseal, guarded_eq_of_writeOk h, judge_of_writeOk h]
    simp [hfull, hg, hall]

/-! ### The token pool (R114, R128, R248, R251, R257) -/

theorem tokOk_tokCredit {u : TokLedger} {n : Nat} (r : Nat) (hu : tokSum u + n = 4928)
    (hb : u.withheld + u.shortfall + u.retired + u.budget = 4928) : tokOk (tokCredit r n u) = true := by
  have hn : min n u.shortfall ≤ n := Nat.min_le_left ..
  have hs : min n u.shortfall ≤ u.shortfall := Nat.min_le_right ..
  have hw : min (r - u.retired) (u.withheld + min n u.shortfall) ≤ u.withheld + min n u.shortfall := Nat.min_le_right ..
  rw [tokOk_iff]
  simp only [tokCredit, tokSum] at *
  generalize min (r - u.retired) (u.withheld + min n u.shortfall) = x at *
  generalize min n u.shortfall = a at *
  omega

theorem tokSum_tokRetire (r : Nat) {t : TokLedger} : tokSum (tokRetire r t) = tokSum t := by
  have hf : min (r - t.retired) t.free ≤ t.free := Nat.min_le_right ..
  have hw : min (r - t.retired - min (r - t.retired) t.free) t.withheld ≤ t.withheld := Nat.min_le_right ..
  unfold tokRetire
  dsimp only
  split
  · simp only [tokSum]
    generalize min (r - t.retired - min (r - t.retired) t.free) t.withheld = b at *
    generalize min (r - t.retired) t.free = a at *
    omega
  · simp only [tokSum]
    omega

/-- A new budget moves tokens between FREE and WITHHELD, and makes the second invariant hold. -/
theorem tokBudget_sums (b : Nat) (t : TokLedger) : tokSum (tokBudget b t) = tokSum t ∧
    (t.retired + b ≤ 4928 → (tokBudget b t).withheld + (tokBudget b t).shortfall + (tokBudget b t).retired + (tokBudget b t).budget = 4928) := by
  unfold tokBudget
  dsimp only
  split
  · have ha : min (4928 - t.retired - b - (t.withheld + t.shortfall)) t.free ≤ t.free := Nat.min_le_right ..
    have hb : min (4928 - t.retired - b - (t.withheld + t.shortfall)) t.free ≤ 4928 - t.retired - b - (t.withheld + t.shortfall) :=
      Nat.min_le_left ..
    simp only [tokSum]
    generalize min (4928 - t.retired - b - (t.withheld + t.shortfall)) t.free = a at *
    omega
  · have ha : min (t.withheld + t.shortfall - (4928 - t.retired - b)) t.shortfall ≤ t.shortfall := Nat.min_le_right ..
    have hl : min (t.withheld + t.shortfall - (4928 - t.retired - b)) t.shortfall ≤ t.withheld + t.shortfall - (4928 - t.retired - b) :=
      Nat.min_le_left ..
    have hb : t.withheld + t.shortfall - (4928 - t.retired - b) - min (t.withheld + t.shortfall - (4928 - t.retired - b)) t.shortfall
        ≤ t.withheld := by omega
    simp only [tokSum]
    generalize min (t.withheld + t.shortfall - (4928 - t.retired - b)) t.shortfall = a at *
    omega

/-- Settles O25: each movement takes from one column what it gives to the others. -/
theorem poolArithmeticConserves : Obligations.PoolArithmeticConserves := by
  unfold Obligations.PoolArithmeticConserves
  refine ⟨fun t n r h => ?_, fun t r b h => ?_, fun r b h => tokOk_tokReset h⟩
  · obtain ⟨hs, hb⟩ := (tokOk_iff t).mp h
    simp only [tokSum] at hs
    refine ⟨fun hn => ?_, fun hn => ⟨?_, tokOk_tokCredit r ?_ hb⟩, fun hn => ⟨?_, tokOk_tokCredit r ?_ hb⟩⟩
    · simp only [tokOk_iff, tokSum, tokCommit, tokCharge]
      omega
    all_goals simp only [tokOk_iff, tokSum, tokApply, tokEase]
    all_goals omega
  · have hr : tokSum (tokRetire r t) = 4928 := (tokSum_tokRetire r).trans h
    refine ⟨hr, (tokBudget_sums b t).1.trans h, fun hb => ?_⟩
    obtain ⟨hs, hok⟩ := tokBudget_sums b (tokRetire r t)
    exact (tokOk_iff _).mpr ⟨hs.trans hr, hok hb⟩

end Sys2Proof.Machine
end

section
/-!
SUPPORT. Cores: what is left of a core that others run beside, exceptions, and the judgement of every instruction (O39).
-/
namespace Sys2Proof.Machine
open Sys2Proof

/-! ### What a step leaves of a core that it does not run -/

/-- A core without what the pool and the commands keep of it. -/
def CoreSt.plain (x : CoreSt) : CoreSt := { x with slot := none, tok := {} }

/-- From `s` to `t` core `c` is left alone but for its tokens and its slot, and no cause is cleared. -/
structure Calm (c : Nat) (s t : State) : Prop where
  core : (t.core c).plain = (s.core c).plain
  caused : ∀ p i, caused s p i = true → caused t p i = true

theorem CoreSt.plain_st {x y : CoreSt} (h : x.plain = y.plain) : x.st = y.st := by
  simp only [plain, CoreSt.mk.injEq] at h
  exact h.1

theorem Calm.refl (c : Nat) (s : State) : Calm c s s := ⟨rfl, fun _ _ h => h⟩

section
variable {c : Nat} {s t : State} (h : Calm c s t)
include h

/-- A step that writes neither cores nor headers is calm. -/
theorem Calm.of_eq {u : State} (hc : u.cores = t.cores) (hh : u.hdrs = t.hdrs) : Calm c s u :=
  ⟨by rw [State.core, hc]; exact h.core, fun p i hi => by rw [Machine.caused, State.hdr, hh]; exact h.caused p i hi⟩

theorem Calm.setCore {n : Nat} {v : CoreSt} (hv : n = c → v.plain = (t.core c).plain) : Calm c s (t.setCore n v) := by
  refine ⟨?_, h.caused⟩
  rw [State.setCore_core]
  split
  · rename_i hn
    exact (hv hn.symm).trans h.core
  · exact h.core

omit h in
theorem Calm.ite {p : Prop} [Decidable p] {u v : State} (hu : p → Calm c s u) (hv : ¬ p → Calm c s v) :
    Calm c s (if p then u else v) := by
  split
  · exact hu ‹_›
  · exact hv ‹_›

theorem modTokOf_calm (n : Nat) (f : CoreTok → CoreTok) : Calm c s (modTokOf t n f) := h.setCore (by rintro rfl; rfl)

theorem raise_calm (p : PageRef) (i : Nat) : Calm c s (raise t p i) :=
  ⟨by rw [raise_core]; exact h.core, fun _ _ hi => caused_raise p i (h.caused _ _ hi)⟩

theorem logEvent_calm (code sev : Nat) (p : PageRef) (a : List Nat) : Calm c s (logEvent t code sev p a) :=
  ⟨by rw [logEvent_core]; exact h.core, fun _ _ hi => caused_logEvent code sev p a (h.caused _ _ hi)⟩

theorem modTok_calm (f : TokLedger → TokLedger) : Calm c s (modTok t f) := by
  unfold modTok
  split
  · exact h.of_eq rfl rfl
  · exact h

theorem modSlotOf_calm (d : Cmd) (f : SlotLedger → SlotLedger) : Calm c s (modSlotOf d t f) := by
  unfold modSlotOf modSlots
  split
  · split
    · exact h.of_eq rfl rfl
    · exact h
  · exact h

theorem Calm.forEach {α : Type} {f : State → α → State} (hf : ∀ t a, Calm c s t → Calm c s (f t a)) (l : List α) :
    Calm c s (Machine.forEach l t f) := by
  induction l generalizing t with
  | nil => exact h
  | cons a l ih => exact ih (hf t a h)

/-! ### Tokens -/

theorem undeliverable_calm (k n : Nat) : Calm c s (undeliverable t k n) := by
  unfold undeliverable
  split
  · exact h
  · refine logEvent_calm ?_ _ _ _ _
    exact h.of_eq rfl rfl

theorem noticeNet_calm (n : Nat) (fall : Bool) : Calm c s (noticeNet t n fall) := by
  obtain e | e | e := noticeNet_cases t n fall <;> rw [e]
  · exact h
  · exact undeliverable_calm h _ n
  · exact h.of_eq rfl rfl

theorem noticeTile_calm (k : Nat) (fall : Bool) : Calm c s (noticeTile t k fall) := noticeNet_calm (noticeNet_calm h _ fall) _ fall

theorem liftClamp_calm (n : Nat) : Calm c s (liftClamp t n) := by
  unfold liftClamp
  split
  · exact logEvent_calm (modTokOf_calm h n _) _ _ _ _
  · exact h

theorem meetRecall_calm (n : Nat) : Calm c s (meetRecall t n) := by
  unfold meetRecall
  dsimp only
  split
  · exact h
  · split
    · exact liftClamp_calm (modTokOf_calm h n _) n
    · exact h

theorem withdrawTile_calm (k : Nat) : Calm c s (withdrawTile t k) := by
  refine h.forEach (fun t n h => ?_) _
  split
  · dsimp only
    split
    · exact liftClamp_calm (modTokOf_calm h n _) n
    · exact modTokOf_calm h n _
  · exact h

theorem tileCheck_calm (k : Nat) : Calm c s (tileCheck t k) := by
  unfold tileCheck
  split
  · exact withdrawTile_calm h k
  · exact h

theorem planFall_calm (n g : Nat) : Calm c s (planFall t n g) := h.of_eq rfl rfl

theorem easeNow_calm (n g : Nat) : Calm c s (easeNow t n g) := by
  unfold easeNow
  dsimp only
  refine tileCheck_calm (meetRecall_calm ?_ n) _
  split
  · have hn := noticeTile_calm (planFall_calm (modTokOf_calm h n (fun k => { k with held := g, cap := min k.cap g })) n g) (n / 64) true
    split
    · exact hn
    · refine modTok_calm ?_ _
      exact hn.of_eq rfl rfl
  · exact h

theorem withdrawReq_calm (n : Nat) : Calm c s (withdrawReq t n) := h.of_eq rfl rfl

theorem easeTo_calm (n g : Nat) : Calm c s (easeTo t n g) := by
  unfold easeTo
  dsimp only
  split
  · exact noticeTile_calm (planFall_calm (modTokOf_calm (withdrawReq_calm h n) n _) n g) _ true
  · exact easeNow_calm (withdrawReq_calm h n) n g

theorem easeStopped_calm (n : Nat) : Calm c s (easeStopped t n) := by
  unfold easeStopped
  split
  · exact h
  · exact liftClamp_calm (easeTo_calm h n 1) n

theorem rejudge_calm : Calm c s (rejudge t) := by
  unfold rejudge
  dsimp only
  refine Calm.forEach (t := { t with token := { t.token with aside := [] } }) (h.of_eq rfl rfl) (fun t r h => ?_) _
  split
  · exact h
  · split <;> exact h.of_eq rfl rfl

/-! ### Cores and commands -/

theorem haltCore_calm {n : Nat} (hn : n ≠ c) (st : CoreState) : Calm c s (haltCore t n st) :=
  easeStopped_calm (h.setCore (fun e => absurd e hn)) n

theorem drainCheck_calm (n : Nat) : Calm c s (drainCheck t n) := by
  unfold drainCheck
  dsimp only
  split
  · refine raise_calm (logEvent_calm ?_ _ _ _ _) _ _
    exact h.of_eq rfl rfl
  · exact h

theorem freeSlot_calm (k : Nat) : Calm c s (freeSlot t k) := by
  unfold freeSlot
  split
  · refine drainCheck_calm (modSlotOf_calm ?_ _ _) _
    exact h.of_eq rfl rfl
  · exact h

theorem completeCmd_calm (k : Nat) (r : CompRec) : Calm c s (completeCmd t k r) := by
  unfold completeCmd
  split
  · exact h
  · rename_i d _
    split
    · exact h
    · have h1 := h.forEach (f := fun s n => s.modCore n (fun x => if x.slot = some k then { x with slot := none } else x))
        (fun t n h => h.setCore (by rintro rfl; dsimp only; split <;> rfl)) d.cores
      dsimp only
      split
      · refine freeSlot_calm (modSlotOf_calm (.ite ?_ ?_) _ _) k <;> exact fun _ => h1.of_eq rfl rfl
      · refine modSlotOf_calm (.ite ?_ ?_) _ _ <;> exact fun _ => h1.of_eq rfl rfl
end

theorem endCmd_calm {c : Nat} {s t : State} (h : Calm c s t) (hst : (s.core c).st ≠ .running ∧ (s.core c).st ≠ .stopped)
    (k status result detail : Nat) : Calm c s (endCmd t k status result detail) := by
  unfold endCmd
  split
  · exact h
  · rename_i d _
    split
    · exact h
    · unfold completePlain
      split
      · exact h
      · exact completeCmd_calm h k _
    · split
      · exact h
      · have h1 := h.forEach (f := fun s n => if (s.core n).slot = some k && ((s.core n).st = .running || (s.core n).st = .stopped)
            then haltCore s n .idle else s) (fun t n h => by
          split
          · rename_i hg
            refine haltCore_calm h ?_ .idle
            rintro rfl
            rw [CoreSt.plain_st h.core] at hg
            simp [hst] at hg
          · exact h) d.cores
        dsimp only
        split
        · exact h1.of_eq rfl rfl
        · exact completeCmd_calm h1 k _

/-! ### Exceptions -/

/-- Core `c` as a halt leaves it, before it is eased. -/
def CoreSt.halted (x : CoreSt) (st : CoreState) : CoreSt :=
  let x := { x with st := st, stall := none, wait := none, stopping := false, tok := { x.tok with atStop := x.tok.held } }
  match st with
  | .stopped => pauseEngines x
  | .faulted => stopEngines x
  | _ => { x with engines := [] }

theorem haltCore_calm_halted (s : State) (n : Nat) (st : CoreState) (c : Nat) :
    Calm c (s.setCore n ((s.core n).halted st)) (haltCore s n st) := easeStopped_calm (.refl c _) n

/-- The core that raises exception `k`, before it halts. -/
def raising (s : State) (c k : Nat) : State := s.setCore c { s.core c with exc := k, excPc := (s.core c).pc }

/-- Core `c` halted by exception `k`, which is told, its command not yet ended. -/
def excTold (s : State) (c k : Nat) : State :=
  raise (logEvent (haltCore (raising s c k) c .faulted) 0x3002 2 (.corectl c) [c, k, (s.core c).pc, 0]) (.corectl c) 1

theorem faultCore_eq (s : State) (c k : Nat) : faultCore s c k = rejudge (match ((excTold s c k).core c).slot with
    | some j => endCmd (excTold s c k) j 0x23 c (k + (s.core c).pc * 65536)
    | none => excTold s c k) := by
  simp only [faultCore, excTold, raising, State.modCore] <;> (generalize raise _ _ _ = u; rfl)

theorem excTold_core (s : State) (c k : Nat) :
    ((excTold s c k).core c).plain = (((raising s c k).core c).halted .faulted).plain := by
  have h := (haltCore_calm_halted (raising s c k) c .faulted c).core
  rw [State.setCore_core, if_pos rfl] at h
  rw [excTold, raise_core, logEvent_core, h]

theorem faultCore_calm (s : State) (c k : Nat) : Calm c (excTold s c k) (faultCore s c k) := by
  have hst : ((excTold s c k).core c).st = .faulted := CoreSt.plain_st (excTold_core s c k)
  rw [faultCore_eq]
  refine rejudge_calm ?_
  split
  · exact endCmd_calm (.refl c _) (by rw [hst]; decide) _ _ _ _
  · exact .refl c _

/-- An answer of an exception is what `Raises` says of it. -/
theorem raises_of_faultCore {i : Instr} {s : State} {c k : Nat} (h : exec i s = .next (faultCore s c k)) : Raises i s c k := by
  have hc := (faultCore_calm s c k).core.trans (excTold_core s c k)
  rw [raising, State.setCore_core, if_pos rfl] at hc
  simp only [CoreSt.plain, CoreSt.halted, stopEngines, CoreSt.mk.injEq] at hc
  obtain ⟨hst, hpc, hs, ha, hv, hacc, -, -, -, -, hls, -, -, -, -, -, hexc, hexcPc, -⟩ := hc
  exact ⟨_, h, hst, hexc, hexcPc, hpc, hs, ha, hv, hacc, hls, (faultCore_calm s c k).caused _ _ (caused_raise_same _ _ (by decide))⟩

/-! ### Judged instructions (R390) -/

theorem lowest_eq_some {l : List (Nat × Bool)} {k : Nat} (hk : (k, true) ∈ l) (hl : ∀ j, (j, true) ∈ l → k ≤ j) :
    lowest l = some k := by
  simp only [lowest, List.min?_eq_some_iff, List.mem_map, List.mem_filter]
  refine ⟨⟨(k, true), ⟨hk, rfl⟩, rfl⟩, ?_⟩
  rintro b ⟨⟨j, v⟩, ⟨hj, hv⟩, rfl⟩
  exact hl j (by simpa [show v = true from hv] using hj)

theorem lowest_eq_none {l : List (Nat × Bool)} (hl : ∀ j, (j, true) ∉ l) : lowest l = none := by
  simp only [lowest, List.min?_eq_none_iff, List.map_eq_nil_iff, List.filter_eq_nil_iff]
  rintro ⟨j, v⟩ hj rfl
  exact hl j hj

/-- An instruction of a core that goes, with fields out of range or a word that is not listed, raises ILLEGAL. -/
theorem settle_illegal {s : State} {c : Nat} {l : List (Nat × Bool)} (eff : State → State)
    (h : (1, true) ∈ l ∨ coreInstr c (fetchWord (s.core c)) = none) (hl : ∀ j b, (j, b) ∈ l → 1 ≤ j) :
    settle c l eff s = faultCore s c 1 := by
  have : lowest ((1, (coreInstr c (fetchWord (s.core c))).isNone) :: l) = some 1 := by
    refine lowest_eq_some ?_ fun j hj => ?_
    · obtain h | h := h
      · exact List.mem_cons_of_mem _ h
      · simp [h]
    · obtain hj | hj := List.mem_cons.mp hj
      · exact Nat.le_of_eq (Prod.mk.inj hj).1.symm
      · exact hl j true hj
  rw [settle, this]

theorem settle_raises {s : State} {c k : Nat} {l : List (Nat × Bool)} (eff : State → State)
    (hi : (coreInstr c (fetchWord (s.core c))).isSome = true) (hk : (k, true) ∈ l) (hl : ∀ j, (j, true) ∈ l → k ≤ j) :
    settle c l eff s = faultCore s c k := by
  have : lowest ((1, (coreInstr c (fetchWord (s.core c))).isNone) :: l) = some k := by
    refine lowest_eq_some (List.mem_cons_of_mem _ hk) fun j hj => ?_
    obtain hj | hj := List.mem_cons.mp hj
    · rw [Option.isNone_iff_eq_none.mp (Prod.mk.inj hj).2.symm] at hi
      cases hi
    · exact hl j hj
  rw [settle, this]

theorem settle_eff {s : State} {c : Nat} {l : List (Nat × Bool)} (eff : State → State)
    (hi : (coreInstr c (fetchWord (s.core c))).isSome = true) (hl : ∀ j, (j, true) ∉ l) : settle c l eff s = eff s := by
  have : lowest ((1, (coreInstr c (fetchWord (s.core c))).isNone) :: l) = none := by
    refine lowest_eq_none fun j hj => ?_
    obtain hj | hj := List.mem_cons.mp hj
    · rw [Option.isNone_iff_eq_none.mp (Prod.mk.inj hj).2.symm] at hi
      cases hi
    · exact hl j hj
  rw [settle, this]

/-- An answer of a core instruction: nothing of a core that does not go, else the judgement of the fields and its own causes. -/
def Judged (o : Host.Outcome State Fault Refusal) (c : Nat) (u : Uses) (f : Fields) (s : State) : Prop :=
  ∃ l eff, o = (if !coreGo s c then .next s else .next (settle c ((1, !usesOk u f) :: l) eff s)) ∧ ∀ p ∈ l, 1 ≤ p.1

theorem Judged.idle {o : Host.Outcome State Fault Refusal} {c : Nat} {u : Uses} {f : Fields} {s : State}
    (h : Judged o c u f s) (hg : coreGo s c = false) : o = .next s := by
  obtain ⟨l, eff, rfl, -⟩ := h
  simp [hg]

theorem Judged.illegal {o : Host.Outcome State Fault Refusal} {c : Nat} {u : Uses} {f : Fields} {s : State}
    (h : Judged o c u f s) (hg : coreGo s c = true) (hi : usesOk u f = false ∨ coreInstr c (fetchWord (s.core c)) = none) :
    o = .next (faultCore s c 1) := by
  obtain ⟨l, eff, rfl, hl⟩ := h
  have : settle c ((1, !usesOk u f) :: l) eff s = faultCore s c 1 := by
    refine settle_illegal eff (hi.imp_left fun h => by simp [h]) fun j b hj => ?_
    obtain hj | hj := List.mem_cons.mp hj
    · exact Nat.le_of_eq (Prod.mk.inj hj).1.symm
    · exact hl (j, b) hj
  rw [this]
  simp [hg]

theorem judged_scalar : ∀ e ∈ scalarForms, ∀ c f s, Judged (exec (e.1 c f) s) c (e.2 f) f s := by
  intro e he c f s
  simp only [scalarForms, sameForm, List.map_cons, List.map_nil, List.cons_append, List.nil_append, List.mem_cons, List.not_mem_nil,
    or_false] at he
  rcases he with rfl | rfl | rfl | rfl | rfl | rfl | rfl | rfl | rfl | rfl | rfl | rfl | rfl | rfl | rfl | rfl | rfl | rfl | rfl | rfl | rfl | rfl | rfl | rfl | rfl | rfl | rfl | rfl | rfl | rfl | rfl | rfl | rfl | rfl
  all_goals exact ⟨_, _, rfl, by simp [noCause]⟩

theorem judged_stream : ∀ e ∈ streamForms, ∀ c f s, Judged (exec (e.1 c f) s) c (e.2 f) f s := by
  intro e he c f s
  simp only [streamForms, sameForm, List.map_cons, List.map_nil, List.cons_append, List.nil_append, List.mem_cons, List.not_mem_nil,
    or_false] at he
  rcases he with rfl | rfl | rfl | rfl | rfl | rfl | rfl | rfl | rfl | rfl | rfl | rfl
  all_goals exact ⟨_, _, rfl, by simp [noCause]⟩

theorem judged_vector : ∀ e ∈ vectorForms, ∀ c f s, Judged (exec (e.1 c f) s) c (e.2 f) f s := by
  intro e he c f s
  simp only [vectorForms, sameForm, List.map_cons, List.map_nil, List.cons_append, List.nil_append, List.mem_cons, List.not_mem_nil,
    or_false] at he
  rcases he with rfl | rfl | rfl | rfl | rfl | rfl | rfl | rfl | rfl | rfl | rfl | rfl | rfl | rfl | rfl | rfl
  all_goals exact ⟨_, _, rfl, by simp⟩

theorem judged_system : ∀ e ∈ systemForms, ∀ c f s, Judged (exec (e.1 c f) s) c (e.2 f) f s := by
  intro e he c f s
  simp only [systemForms, sameForm, List.map_cons, List.map_nil, List.cons_append, List.nil_append, List.mem_cons, List.not_mem_nil,
    or_false] at he
  rcases he with rfl | rfl | rfl | rfl | rfl | rfl | rfl | rfl | rfl | rfl | rfl | rfl | rfl | rfl | rfl
  all_goals exact ⟨_, _, rfl, by simp [noCause]⟩

theorem judged_formUses {e : FormRow} (he : e ∈ formUses) (c : Nat) (f : Fields) (s : State) :
    Judged (exec (e.1 c f) s) c (e.2 f) f s := by
  simp only [formUses, List.mem_append] at he
  obtain ((h | h) | h) | h := he
  · exact judged_scalar e h c f s
  · exact judged_stream e h c f s
  · exact judged_vector e h c f s
  · exact judged_system e h c f s

theorem coreRuns_iff (s : State) (c : Nat) :
    coreRuns s c = true ↔ coreGo s c = true ∧ (coreInstr c (fetchWord (s.core c))).isSome = true := by simp [coreRuns]

/-- The instructions of R382, with the operation of each. -/
def scalarOps : List ((Nat → Fields → Instr) × (Word → Word → Word)) :=
  [(Instr.add, (· + ·)), (Instr.sub, (· - ·)), (Instr.and, (· &&& ·)), (Instr.or, (· ||| ·)), (Instr.xor, (· ^^^ ·)),
   (Instr.shl, fun a b => a <<< shamt b), (Instr.shr, fun a b => a >>> shamt b), (Instr.sra, fun a b => a.sshiftRight (shamt b)),
   (Instr.mul, (· * ·)), (Instr.mulh, fun a b => BitVec.ofInt 32 (a.toInt * b.toInt / 2 ^ 32)),
   (Instr.slt, fun a b => w32 (b2n (a.slt b))), (Instr.sltu, fun a b => w32 (b2n (a.ult b))),
   (Instr.min, fun a b => if b.slt a then b else a), (Instr.max, fun a b => if a.slt b then b else a)]

theorem exec_scalarOps : ∀ e ∈ scalarOps, ∀ c f s, exec (e.1 c f) s = scalarOp e.2 c f s := by
  intro e he c f s
  simp only [scalarOps, List.mem_cons, List.not_mem_nil, or_false] at he
  rcases he with rfl | rfl | rfl | rfl | rfl | rfl | rfl | rfl | rfl | rfl | rfl | rfl | rfl | rfl
  all_goals rfl

/-- Settles O39: every form is judged by its fields first; TRAP and PC_RANGE are then the lowest cause. -/
theorem instructionsRaiseExceptions : Obligations.InstructionsRaiseExceptions := by
  unfold Obligations.InstructionsRaiseExceptions
  refine ⟨fun e he c f s => ⟨(judged_formUses he c f s).idle, fun hg h => raises_of_faultCore ((judged_formUses he c f s).illegal hg h)⟩,
    fun c f s hr hu => ?_, fun i hi c f s hr hu hp => ?_⟩
  · obtain ⟨hg, hs⟩ := (coreRuns_iff s c).mp hr
    refine raises_of_faultCore ?_
    have hx : exec (.trap c f) s = if !coreGo s c then .next s else .next (settle c [(1, !usesOk {} f), (0xC, true)] id s) := rfl
    rw [hx, settle_raises id hs (k := 0xC) (by simp) (by simp [hu])]
    simp [hg]
  · obtain ⟨hg, hs⟩ := (coreRuns_iff s c).mp hr
    refine raises_of_faultCore ?_
    have hi : i ∈ scalarOps.map (·.1) := hi
    obtain ⟨e, he, rfl⟩ := List.mem_map.mp hi
    have hx := exec_scalarOps e he c f s
    rw [hx, scalarOp, runCore, runInstr, settle_raises _ hs (k := 5) (by simp [hp]) (by simp [hu, noCause])]
    simp [hg]

end Sys2Proof.Machine
end

section
/-!
SUPPORT. Scalar and local-store instructions (O40, O41).
-/
namespace Sys2Proof.Machine
open Sys2Proof

/-! ### Instructions that complete -/

theorem CoreSt.ne_default {x : CoreSt} (h : x.st = .running) : x ≠ {} := by
  rintro rfl
  cases h

theorem State.setCore_setCore_running {x y : CoreSt} (hx : x.st = .running) (hy : y.st = .running) (s : State) (c : Nat) :
    (s.setCore c x).setCore c y = s.setCore c y := by
  simp only [State.setCore, put, if_neg (CoreSt.ne_default hx), if_neg (CoreSt.ne_default hy), putNew_putNew]

@[simp] theorem pcNext_st (x : CoreSt) : (pcNext x).st = x.st := rfl
@[simp] theorem pcTake_st (x : CoreSt) (t : Nat) : (pcTake x t).st = x.st := rfl
@[simp] theorem setS_st (x : CoreSt) (r : Nat) (v : Word) : (setS x r v).st = x.st := by
  unfold setS; split <;> rfl
@[simp] theorem setA_st (x : CoreSt) (r : Nat) (v : DWord) : (setA x r v).st = x.st := rfl
@[simp] theorem setV_st (x : CoreSt) (r : Nat) (v : Vec) : (setV x r v).st = x.st := rfl

theorem coreReady_iff (s : State) (c : Nat) (u : Uses) (f : Fields) :
    coreReady s c u f = true ↔ coreGo s c = true ∧ (coreInstr c (fetchWord (s.core c))).isSome = true ∧ usesOk u f = true ∧
      pcOver (s.core c) = false := by
  simp [coreReady, coreRuns, and_assoc]

theorem coreGo_st {s : State} {c : Nat} (h : coreGo s c = true) : (s.core c).st = .running := by
  simp only [coreGo, Bool.and_eq_true, decide_eq_true_eq] at h
  exact h.1.2

section
variable {s : State} {c : Nat} {u : Uses} {f : Fields} (h : coreReady s c u f = true)
include h

theorem coreReady_st : (s.core c).st = .running := coreGo_st ((coreReady_iff s c u f).mp h).1

theorem runInstr_ready {causes : CoreSt → List (Nat × Bool)} (hc : ∀ j, (j, true) ∉ causes (s.core c)) (eff : State → State) :
    runInstr c u f causes eff s = .next ((eff s).modCore c pcNext) := by
  obtain ⟨hg, hi, hu, hp⟩ := (coreReady_iff s c u f).mp h
  rw [runInstr, settle_eff _ hi (by simpa [hu, hp] using hc)]
  simp [hg]

theorem runInstr_raises {causes : CoreSt → List (Nat × Bool)} {k : Nat} (hk : (k, true) ∈ causes (s.core c))
    (hc : ∀ j, (j, true) ∈ causes (s.core c) → k ≤ j) (eff : State → State) :
    runInstr c u f causes eff s = .next (faultCore s c k) := by
  obtain ⟨hg, hi, hu, hp⟩ := (coreReady_iff s c u f).mp h
  rw [runInstr, settle_raises (k := k) _ hi (by simp [hk]) (by simpa [hu, hp] using hc)]
  simp [hg]

theorem runCore_ready {causes : CoreSt → List (Nat × Bool)} (hc : ∀ j, (j, true) ∉ causes (s.core c)) {eff : CoreSt → CoreSt}
    (he : (eff (s.core c)).st = (s.core c).st) : runCore c u f causes eff s = .next (s.setCore c (pcNext (eff (s.core c)))) := by
  have hst : (eff (s.core c)).st = .running := he.trans (coreReady_st h)
  rw [runCore, runInstr_ready h hc]
  simp [State.setCore_setCore_running hst (y := pcNext (eff (s.core c))) hst]

/-- An instruction that may stall: with no cause of its own it completes when it is ready, else its core stalls. -/
theorem runStall_ready {causes : CoreSt → List (Nat × Bool)} (hc : ∀ j, (j, true) ∉ causes (s.core c)) (st : Stall)
    (ready : State → Bool) (eff : State → State) : runStall c u f causes st ready eff s =
      .next (if ready s then (eff s).modCore c pcNext else s.setCore c { s.core c with stall := some st }) := by
  obtain ⟨hg, hi, hu, hp⟩ := (coreReady_iff s c u f).mp h
  rw [runStall, settle_eff _ hi (by simpa [hu, hp] using hc)]
  simp [hg]

theorem runStall_raises {causes : CoreSt → List (Nat × Bool)} {k : Nat} (hk : (k, true) ∈ causes (s.core c))
    (hc : ∀ j, (j, true) ∈ causes (s.core c) → k ≤ j) (st : Stall) (ready : State → Bool) (eff : State → State) :
    runStall c u f causes st ready eff s = .next (faultCore s c k) := by
  obtain ⟨hg, hi, hu, hp⟩ := (coreReady_iff s c u f).mp h
  rw [runStall, settle_raises (k := k) _ hi (by simp [hk]) (by simpa [hu, hp] using hc)]
  simp [hg]

end

theorem noCause_false (x : CoreSt) (j : Nat) : (j, true) ∉ noCause x := by simp [noCause]

/-! ### Scalar instructions -/

theorem w32_b2n (b : Bool) : w32 (b2n b) = if b then 1 else 0 := by cases b <;> rfl

theorem slt_toInt (a b : Word) : a.slt b = decide (a.toInt < b.toInt) := rfl

/-- The operations as the statement writes them are the model's. -/
theorem scalarOps_eq : scalarOps = [(Instr.add, fun a b : Word => a + b), (Instr.sub, fun a b => a - b), (Instr.and, fun a b => a &&& b), (Instr.or, fun a b => a ||| b),
      (Instr.xor, fun a b => a ^^^ b), (Instr.shl, fun a b => a <<< (b.toNat % 32)), (Instr.shr, fun a b => a >>> (b.toNat % 32)),
      (Instr.sra, fun a b => a.sshiftRight (b.toNat % 32)), (Instr.mul, fun a b => a * b),
      (Instr.mulh, fun a b => BitVec.ofInt 32 (a.toInt * b.toInt / 2 ^ 32)),
      (Instr.slt, fun a b => if a.toInt < b.toInt then 1 else 0), (Instr.sltu, fun a b => if a.toNat < b.toNat then 1 else 0),
      (Instr.min, fun a b => if a.toInt ≤ b.toInt then a else b), (Instr.max, fun a b => if b.toInt ≤ a.toInt then a else b)] := by
  have hmin : (fun a b : Word => if b.slt a then b else a) = fun a b => if a.toInt ≤ b.toInt then a else b := by
    funext a b
    by_cases h : a.toInt ≤ b.toInt
    · simp [slt_toInt, h]
    · simp [slt_toInt, h, Int.not_le.mp h]
  have hmax : (fun a b : Word => if a.slt b then b else a) = fun a b => if b.toInt ≤ a.toInt then a else b := by
    funext a b
    by_cases h : b.toInt ≤ a.toInt
    · simp [slt_toInt, h]
    · simp [slt_toInt, h, Int.not_le.mp h]
  have hslt : (fun a b : Word => w32 (b2n (a.slt b))) = fun a b => if a.toInt < b.toInt then 1 else 0 := by
    funext a b
    simp [w32_b2n, slt_toInt]
  have hsltu : (fun a b : Word => w32 (b2n (a.ult b))) = fun a b => if a.toNat < b.toNat then 1 else 0 := by
    funext a b
    simp [w32_b2n, BitVec.ult]
  rw [scalarOps, hmin, hmax, hslt, hsltu]
  rfl

theorem scalarOp_ready {s : State} {c : Nat} {f : Fields} (h : coreReady s c (usesOp f 32 32) f = true) (op : Word → Word → Word) :
    scalarOp op c f s = .next (s.setCore c (pcNext (setS (s.core c) f.d.toNat (op (srcA (s.core c) f) (operand (s.core c) f))))) :=
  runCore_ready h (noCause_false _) (setS_st _ _ _)

theorem amov_eq (a b : Word) : BitVec.ofNat 64 (a.toNat + b.toNat * 2 ^ 32) = b ++ a := by
  refine BitVec.eq_of_toNat_eq ?_
  rw [BitVec.toNat_ofNat, BitVec.toNat_append, Nat.shiftLeft_eq, Nat.add_comm]
  have := a.isLt
  have := b.isLt
  rw [Nat.mod_eq_of_lt (by omega), Nat.mul_comm b.toNat, Nat.two_pow_add_eq_or_of_lt a.isLt]

theorem ard_eq (a : DWord) (x : BitVec 6) : w32 (a.toNat / 2 ^ (32 * (x.toNat % 2))) =
    if x.getLsbD 0 then a.extractLsb' 32 32 else a.extractLsb' 0 32 := by
  have hx : x.getLsbD 0 = decide (x.toNat % 2 = 1) := by
    rw [BitVec.getLsbD, Nat.testBit_zero]
  refine BitVec.eq_of_toNat_eq ?_
  rw [hx]
  obtain h | h := Nat.mod_two_eq_zero_or_one x.toNat <;> simp [h, w32, BitVec.extractLsb'_toNat, Nat.shiftRight_eq_div_pow]

theorem SameButCore.refl (s : State) (c : Nat) : SameButCore s s c := ⟨rfl, fun _ _ => rfl⟩

theorem SameButCore.setCore {s t : State} {c : Nat} (h : SameButCore s t c) (v : CoreSt) : SameButCore s (t.setCore c v) c := by
  obtain ⟨he, hc⟩ := h
  refine ⟨?_, fun j hj => by rw [State.setCore_core, if_neg hj, hc j hj]⟩
  rw [he]
  rfl

theorem SameButCore.setFree {s t : State} {c : Nat} (h : SameButCore s t c) (n : Nat) : SameButCore s { t with free := n } c := by
  obtain ⟨he, hc⟩ := h
  refine ⟨?_, hc⟩
  rw [he]

/-- A look at a control register leaves all but the count of cycles, and that too but for CYCLE. -/
theorem csrFree_cases (s : State) (c r : Nat) : SameButCore s (csrFree s c r) c ∧
    ∃ n, (csrFree s c r).core c = { s.core c with cycles := n } ∧ (r ≠ 2 → r ≠ 3 → n = (s.core c).cycles) := by
  unfold csrFree
  split
  · rename_i h
    refine ⟨((SameButCore.refl s c).setCore _).setFree _, cycleNow s c, by simp [State.core, State.setCore, look_put], ?_⟩
    simp at h
    omega
  · exact ⟨.refl s c, _, rfl, fun _ _ => rfl⟩

theorem setS_cycles (x : CoreSt) (r : Nat) (v : Word) (n : DWord) :
    setS { x with cycles := n } r v = { setS x r v with cycles := n } := by
  unfold setS
  split <;> rfl

theorem csrr_ready {s : State} {c : Nat} {f : Fields} (h : coreReady s c { d := 32, imm := true } f = true) :
    Answers (.csrr c f) s fun t => SameButCore s t c ∧
      t.core c = pcNext { setS (s.core c) f.d.toNat (csrValue s c (f.imm.toNat % 256)) with cycles := (t.core c).cycles } ∧
      (f.imm.toNat % 256 ≠ 2 → f.imm.toNat % 256 ≠ 3 → (t.core c).cycles = (s.core c).cycles) := by
  obtain ⟨hs, n, hn, hne⟩ := csrFree_cases s c (csrNum f)
  refine ⟨_, runInstr_ready h (noCause_false _) _, (hs.setCore _).setCore _, ?_⟩
  simp only [State.modCore_eq, State.setCore_core, if_true, hn, setS_cycles]
  exact ⟨rfl, hne⟩

theorem amov_ready {s : State} {c : Nat} {f : Fields} (h : coreReady s c { d := 16, a := 32, b := 32 } f = true) :
    exec (.amov c f) s = .next (s.setCore c (pcNext (setA (s.core c) f.d.toNat
      (BitVec.ofNat 64 ((srcA (s.core c) f).toNat + (srcB (s.core c) f).toNat * 2 ^ 32))))) :=
  runCore_ready h (noCause_false _) (setA_st _ _ _)

theorem ard_ready {s : State} {c : Nat} {f : Fields} (h : coreReady s c { d := 32, a := 16, x := true } f = true) :
    exec (.ard c f) s = .next (s.setCore c (pcNext (setS (s.core c) f.d.toNat
      (w32 ((areg (s.core c) f.a.toNat).toNat / 2 ^ (32 * (f.x.toNat % 2))))))) :=
  runCore_ready h (noCause_false _) (setS_st _ _ _)

theorem csrw_ready {s : State} {c : Nat} {f : Fields} (h : coreReady s c { a := 32, imm := true } f = true)
    (hn : csrNum f = 5 ∨ csrNum f = 6) (g : BitVec 4) : exec (.csrw c f g) s = .next (s.setCore c (pcNext
      (if csrNum f = 5 then { s.core c with fpflags := (srcA (s.core c) f).setWidth 4 ||| ((s.core c).fpflags &&& g) }
       else { s.core c with mode := (srcA (s.core c) f).setWidth 3 }))) := by
  have hx : exec (.csrw c f g) s = execCsrw c f g s := rfl
  rw [hx, execCsrw, runCore_ready h]
  · simp
    omega
  · split <;> rfl

theorem csrw_raises {s : State} {c : Nat} {f : Fields} (h : coreReady s c { a := 32, imm := true } f = true)
    (h5 : csrNum f ≠ 5) (h6 : csrNum f ≠ 6) (g : BitVec 4) : Raises (.csrw c f g) s c 0x1 :=
  raises_of_faultCore (runInstr_raises (causes := fun _ => [(1, csrNum f ≠ 5 && csrNum f ≠ 6)]) h (by simp [h5, h6]) (by simp) _)

/-- Settles O40: of a core that goes on to the next instruction every form has its effect, and nothing else. -/
theorem scalarInstructions : Obligations.ScalarInstructions := by
  unfold Obligations.ScalarInstructions
  refine ⟨fun e he c f s h => ?_, ?_⟩
  · rw [← scalarOps_eq] at he
    rw [exec_scalarOps e he, scalarOp_ready h]
  · rintro c f s x rfl
    refine ⟨fun h => runCore_ready h (noCause_false _) rfl, fun h => ?_, fun h => ?_, fun h => runCore_ready h (noCause_false _) rfl,
      csrr_ready, fun h => ⟨fun h5 g => ?_, fun h6 g => ?_, csrw_raises h⟩⟩
    · rw [← amov_eq]
      exact amov_ready h
    · rw [← ard_eq]
      exact ard_ready h
    · rw [csrw_ready h (.inl h5), if_pos (show csrNum f = 5 from h5)]
    · rw [csrw_ready h (.inr h6), if_neg (by rw [csrNum, h6]; decide)]

/-! ### The local store -/

theorem lookList_eq_map {α : Type} (d : α) (m : Sparse α) (a n : Nat) :
    lookList d m a n = (List.range n).map (fun i => look d m (a + i)) := by
  induction n generalizing a with
  | zero => rfl
  | succ n ih =>
    rw [lookList, ih, List.range_succ_eq_map, List.map_cons, List.map_map]
    simp [Function.comp_def, Nat.add_assoc, Nat.add_comm 1]

theorem lookList_congr {α : Type} {d : α} {m m' : Sparse α} {a n : Nat} (h : ∀ i, a ≤ i → i < a + n → look d m i = look d m' i) :
    lookList d m a n = lookList d m' a n := by
  rw [lookList_eq_map, lookList_eq_map]
  exact List.map_congr_left fun i hi => h _ (Nat.le_add_right ..) (by have := List.mem_range.mp hi; omega)

theorem lookList_putList_same {α : Type} [DecidableEq α] (d : α) (m : Sparse α) (a : Nat) (b : List α) :
    lookList d (putList d m a b) a b.length = b := by
  rw [lookList_eq_map]
  refine List.ext_getElem (by simp) fun i h _ => ?_
  have hi : i < b.length := by simpa using h
  simp [look_putList, hi]

theorem lsRead_lsWrite_same (x : CoreSt) (a : Nat) (b : List Byte) : lsRead (lsWrite x a b) a b.length = b :=
  lookList_putList_same 0 x.ls a b

theorem lsRead_lsWrite_of_disjoint (x : CoreSt) {a b n : Nat} {l : List Byte} (h : b + n ≤ a ∨ a + l.length ≤ b) :
    lsRead (lsWrite x a l) b n = lsRead x b n :=
  lookList_congr fun i h1 h2 => by rw [lsWrite, look_putList, if_neg (by omega)]

@[simp] theorem leBytes_length (n v : Nat) : (leBytes n v).length = n := by simp [leBytes]

theorem lsRead_congr {x y : CoreSt} (h : x.ls = y.ls) (a n : Nat) : lsRead x a n = lsRead y a n := by rw [lsRead, lsRead, h]

/-! ### Loads and stores -/

/-- The loads of the local store, with fields, size, alignment, and what is written of the bytes. -/
def lsLoads : List ((Nat → Fields → Instr) × Uses × Nat × Nat × (CoreSt → Fields → List Byte → CoreSt)) :=
  [(Instr.ld, { d := 32, a := 16, imm := true }, 4, 4, fun x f b => setS x f.d.toNat (w32 (leNat b))),
   (Instr.lda, { d := 16, a := 16, imm := true }, 8, 8, fun x f b => setA x f.d.toNat (BitVec.ofNat 64 (leNat b))),
   (Instr.vld, { d := 32, a := 16, imm := true }, 64, 1, fun x f b => setV x f.d.toNat (BitVec.ofNat 512 (leNat b)))]

/-- The stores of the local store, with fields, size, alignment, and the number stored. -/
def lsStores : List ((Nat → Fields → Instr) × Uses × Nat × Nat × (CoreSt → Fields → Nat)) :=
  [(Instr.st, { a := 16, b := 32, imm := true }, 4, 4, fun x f => (srcB x f).toNat),
   (Instr.sta, { a := 16, b := 16, imm := true }, 8, 8, fun x f => (areg x f.b.toNat).toNat),
   (Instr.vst, { a := 16, b := 32, imm := true }, 64, 1, fun x f => (vreg x f.b.toNat).toNat)]

theorem exec_lsLoads : ∀ e ∈ lsLoads, ∀ c f s,
    (exec (e.1 c f) s = runCore c e.2.1 f (fun x => [(6, lsBad (addrOf x f.a f) e.2.2.1 e.2.2.2.1)])
      (fun x => e.2.2.2.2 x f (lsRead x (addrOf x f.a f) e.2.2.1)) s) ∧ ∀ x b, (e.2.2.2.2 x f b).st = x.st := by
  intro e he c f s
  simp only [lsLoads, List.mem_cons, List.not_mem_nil, or_false] at he
  rcases he with rfl | rfl | rfl
  · exact ⟨rfl, fun x b => setS_st _ _ _⟩
  · exact ⟨rfl, fun x b => setA_st _ _ _⟩
  · exact ⟨rfl, fun x b => setV_st _ _ _⟩

theorem exec_lsStores : ∀ e ∈ lsStores, ∀ c f s,
    exec (e.1 c f) s = runCore c e.2.1 f (fun x => [(6, lsBad (addrOf x f.a f) e.2.2.1 e.2.2.2.1)])
      (fun x => lsWrite x (addrOf x f.a f) (leBytes e.2.2.1 (e.2.2.2.2 x f))) s := by
  intro e he c f s
  simp only [lsStores, List.mem_cons, List.not_mem_nil, or_false] at he
  rcases he with rfl | rfl | rfl <;> rfl

/-- An access that breaks R378 raises LS_RANGE. -/
theorem lsBad_raises {s : State} {c : Nat} {u : Uses} {f : Fields} {i : Instr} {a n k : Nat} {eff : CoreSt → CoreSt}
    (h : coreReady s c u f = true) (hx : exec i s = runCore c u f (fun x => [(6, lsBad (addrOf x f.a f) n k)]) eff s)
    (ha : a = addrOf (s.core c) f.a f) (hb : lsBad a n k = true) : Raises i s c 0x6 :=
  raises_of_faultCore (hx.trans (runInstr_raises h (by simp [← ha, hb]) (by simp) _))

/-- Settles O41: an access that keeps R378 reads or writes the bytes at its address, any other raises LS_RANGE. -/
theorem localStoreInstructions : Obligations.LocalStoreInstructions := by
  unfold Obligations.LocalStoreInstructions
  refine ⟨fun e he c f s a h ha => ?_, fun e he c f s a h ha => ?_⟩
  · obtain ⟨hx, hst⟩ := exec_lsLoads e he c f s
    refine ⟨fun hb => ?_, lsBad_raises h hx ha⟩
    rw [hx, runCore_ready h (by simp [← ha, hb]) (hst _ _), ha]
  · have hx := exec_lsStores e he c f s
    refine ⟨fun hb => ⟨_, hx.trans (runCore_ready h (by simp [← ha, hb]) rfl), ?_⟩, lsBad_raises h hx ha⟩
    beta_reduce
    rw [State.setCore_core, if_pos rfl, ← ha]
    refine ⟨?_, fun b hb => ?_, rfl⟩
    · have := lsRead_lsWrite_same (s.core c) a (leBytes e.2.2.1 (e.2.2.2.2 (s.core c) f))
      rw [leBytes_length] at this
      exact this
    · have := lsRead_lsWrite_of_disjoint (s.core c) (n := 1) (a := a) (b := b) (l := leBytes e.2.2.1 (e.2.2.2.2 (s.core c) f))
        (by rw [leBytes_length]; omega)
      exact this

end Sys2Proof.Machine
end

section
/-!
SUPPORT. What refutes the statements on control and power instructions (O42, O46), and stream instructions (O43).
-/
namespace Sys2Proof.Machine
open Sys2Proof

/-! ### Requests set aside -/

/-- A core that goes on an instruction of Table 12.4, beside a request set aside that asks for nothing more. -/
def asideRunning : State :=
  { State.reset with
    tiles := [(0, { State.reset.tile 0 with st := .stoked })], cores := [(0, { st := .running })],
    token := { State.reset.token with aside := [⟨1, 0, 0⟩] } }

/-- Refutes O42: YIELD judges the requests set aside again (R249), so a YIELD that meets no recall and no expired quantum may still
change the queue of the pool. -/
theorem not_controlInstructions : ¬ Obligations.ControlInstructions := by
  unfold Obligations.ControlInstructions
  intro ⟨_, hcontrol⟩
  obtain ⟨_, _, _, _, hyield, _⟩ := hcontrol 0 ⟨0, 0, 0, false, 0, 0⟩ asideRunning _ rfl (by decide)
  have hnext := (hyield (by decide) (by decide)).1 (by decide) (by decide)
  exact absurd (leaves_next (fun t => t.token.aside.length) hnext) (by decide)

/-- Refutes O46: EASE.R judges the requests set aside again (R249), so without a recall it may still change the queue of the pool. -/
theorem not_messageTallyAndPowerInstructions : ¬ Obligations.MessageTallyAndPowerInstructions := by
  unfold Obligations.MessageTallyAndPowerInstructions
  intro ⟨_, _, _, _, hpower, _⟩
  obtain ⟨_, _, hease, _⟩ := hpower 0 ⟨0, 0, 0, false, 1, 0⟩ asideRunning _ _ rfl rfl
  have hnext := (hease (by decide) .easeR (by simp) none (by decide)).1 rfl
  exact absurd (leaves_next (fun t => t.token.aside.length) hnext) (by decide)

/-! ### Stream instructions -/

@[simp] theorem setEng_st (x : CoreSt) (e : Nat) (g : EngineSt) : (setEng x e g).st = x.st := rfl

theorem engBad_of_engBusy {g : EngineSt} (h : engBusy g = true) : engBad g = false := by
  cases hr : g.run <;> simp_all [engBusy, engBad]

section
variable {s : State} {c : Nat} {f : Fields}

theorem scfg_cases (h : coreReady s c { d := 4, a := 16, imm := true } f = true) (hl : lsBad (addrOf (s.core c) f.a f) 64 64 = false) :
    (engBusy (engOf (s.core c) f.d.toNat) = false → engBad (engOf (s.core c) f.d.toNat) = false → exec (.scfg c f) s =
      .next (s.setCore c (pcNext (setEng (s.core c) f.d.toNat (loadEng s c f.d.toNat (addrOf (s.core c) f.a f)))))) ∧
    (engBad (engOf (s.core c) f.d.toNat) = true → Raises (.scfg c f) s c 0xA) ∧
    (engBusy (engOf (s.core c) f.d.toNat) = true → Stalls (.scfg c f) s c (.scfg f)) := by
  have hx : exec (.scfg c f) s = scfg c f s := rfl
  refine ⟨fun hb hn => ?_, fun hb => raises_of_faultCore ?_, fun hb => ?_⟩
  · have hst := coreReady_st h
    rw [hx, scfg, runStall_ready h (by simp [hl, hn])]
    simp only [hb, Bool.not_false, if_true, State.modCore_eq, State.setCore_core]
    rw [State.setCore_setCore_running (by simpa using hst) (by simpa using hst)]
  · rw [hx, scfg, runStall_raises h (k := 0xA) (by simp [hb]) (by simp [hl])]
  · rw [Stalls, hx, scfg, runStall_ready h (by simp [hl, engBad_of_engBusy hb])]
    simp [hb]

theorem sgo_starts (h : coreReady s c { d := 4 } f = true) {g : EngineSt} (hg : g = engOf (s.core c) f.d.toNat)
    (hi : g.run = .idle) (hl : g.loaded = true) : Answers (.sgo c f) s fun t =>
      t.core c = pcNext (setEng (s.core c) f.d.toNat { g with run := .running, i := 0, j := 0, id := s.grid.nextId }) ∧
      t.grid = { s.grid with nextId := s.grid.nextId + 1 } ∧ (∀ j, j ≠ c → t.core j = s.core j) := by
  subst hg
  have hx : exec (.sgo c f) s = execSgo c f s := rfl
  rw [Answers, hx, execSgo, runInstr_ready h (by simp [engBusy, hi, hl])]
  refine ⟨_, rfl, ?_⟩
  have hf : (engOf (s.core c) f.d.toNat).run ≠ .faulted := by simp [hi]
  simp only [hf, if_false, State.modCore_eq, State.setCore_core, State.setCore_grid, if_true]
  exact ⟨by simp [State.core, State.setCore, look_put], trivial, fun j hj => by simp [State.core, State.setCore, look_put, hj]⟩

theorem sgo_raises (h : coreReady s c { d := 4 } f = true) {g : EngineSt} (hg : g = engOf (s.core c) f.d.toNat)
    (hb : engBusy g = true ∨ (g.run = .idle ∧ g.loaded = false)) : Raises (.sgo c f) s c 0xA := by
  subst hg
  have hx : exec (.sgo c f) s = execSgo c f s := rfl
  refine raises_of_faultCore ?_
  rw [hx, execSgo, runInstr_raises h (k := 0xA) ?_ (by simp)]
  obtain hb | ⟨hi, hl⟩ := hb
  · simp [hb]
  · simp [hi, hl]

theorem swait_cases (h : coreReady s c { imm := true } f = true) {l : List EngineSt} (hl : l = engMask (s.core c) (f.imm.toNat % 16)) :
    (l.all (fun g => g.run = .idle) = true → exec (.swait c f) s = .next (s.setCore c (pcNext (s.core c)))) ∧
    (l.any engBusy = true → l.any (fun g => g.run = .faulted) = false → Stalls (.swait c f) s c (.swait f)) ∧
    (l.any engBad = true → Raises (.swait c f) s c 0xA) ∧
    (l.any engBad = false → l.any engLost = true → Raises (.swait c f) s c 0xB) := by
  subst hl
  have hx : exec (.swait c f) s = swait c f s := rfl
  refine ⟨fun hi => ?_, fun hb hf => ?_, fun hb => raises_of_faultCore ?_, fun hb hl => raises_of_faultCore ?_⟩
  · have hi : ∀ g ∈ engMask (s.core c) (f.imm.toNat % 16), g.run = .idle := by simpa using hi
    have hno : ∀ p : EngineSt → Bool, (∀ g, g.run = .idle → p g = false) → (engMask (s.core c) (f.imm.toNat % 16)).any p = false :=
      fun p hp => List.any_eq_false.mpr fun g hg => by simp [hp g (hi g hg)]
    have h1 := hno engBad fun g hg => by simp [engBad, hg]
    have h2 := hno engLost fun g hg => by simp [engLost, hg]
    have h3 := hno engBusy fun g hg => by simp [engBusy, hg]
    rw [hx, swait, runStall_ready h (by simp [h1, h2])]
    simp only [h3, Bool.not_false, if_true, id, State.modCore_eq]
  · have hf : ∀ g ∈ engMask (s.core c) (f.imm.toNat % 16), g.run ≠ .faulted := by simpa using hf
    have hno : ∀ p : EngineSt → Bool, (∀ g, g.run ≠ .faulted → p g = false) → (engMask (s.core c) (f.imm.toNat % 16)).any p = false :=
      fun p hp => List.any_eq_false.mpr fun g hg => by simp [hp g (hf g hg)]
    have h1 := hno engBad fun g hg => by simp [engBad, hg]
    have h2 := hno engLost fun g hg => by simp [engLost, hg]
    rw [Stalls, hx, swait, runStall_ready h (by simp [h1, h2])]
    simp [hb]
  · rw [hx, swait, runStall_raises h (k := 0xA) (by simp [hb]) (fun j hj => by simp at hj; omega)]
  · rw [hx, swait, runStall_raises h (k := 0xB) (by simp [hl]) (by simp [hb])]

end

/-- Settles O43: each instruction of an engine goes on, stalls or raises by the state the engine is in. -/
theorem streamInstructions : Obligations.StreamInstructions := by
  unfold Obligations.StreamInstructions
  rintro c f s x rfl
  exact ⟨fun h hl => scfg_cases h hl,
    fun h g hg => ⟨sgo_starts h hg, sgo_raises h hg, runCore_ready h (noCause_false _) rfl⟩,
    fun h l hl => swait_cases h hl, fun h => runCore_ready h (noCause_false _) (setS_st _ _ _)⟩

end Sys2Proof.Machine
end

section
/-!
SUPPORT. What refutes the statement on register pages (O17).
-/
namespace Sys2Proof.Machine
open Sys2Proof

/-! ### The lane of a test (R563, Table 17.10) -/

/-- A ready device with the net of port 0 ON, and a test that passed on its lane 0. -/
def testPassed : State :=
  { State.reset with
    ao := { vsb := true, vin := true, vhbm := true, aoLock := true }
    power := { stage := .ready, hubPll := true }
    nets := [(16, { State.reset.net 16 with st := .on })]
    links := { State.reset.links with ports := [(0, { State.reset.port 0 with bertPass := true })] } }

/-- A write of 0, by the host. -/
def zeroWrite : RegWrite := { master := .host, value := 0, be := 15 }

/-- Refutes O17: a port's register at 0x58 holds the lane of a test and shows whether it passed, so what is read after a write is
more than the bits that the register holds. -/
theorem not_registerWritesReachTheirPages : ¬ Obligations.RegisterWritesReachTheirPages := by
  unfold Obligations.RegisterWritesReachTheirPages
  intro ⟨⟨_, _, _, hplain, _⟩, _⟩
  obtain ⟨t, ht, hread, _⟩ := hplain ((PageRef.port 0).addr + 0x58) zeroWrite testPassed (.port 0) 0x58 7 (by decide) (by decide) (by decide)
    (by decide)
  have hnow := leaves_next (fun t => (readReg t (.port 0) 0x58).1) ht
  rw [hread] at hnow
  exact absurd hnow (by decide)

end Sys2Proof.Machine
end

section
/-!
SUPPORT. What refutes the statements on recalls, device memory, runs, loads and side-band requests (O31, O47, O49, O51, O56).
-/
namespace Sys2Proof.Machine
open Sys2Proof

/-! ### A full millisecond (R102) -/

/-- A record of time 0. -/
def earlyRecord : EventRec := ⟨false, 0, 0x1001, 0, 0, 0, 0, 0, 0, 0, 0, 0⟩

/-- A running hub whose ring holds 255 records of this millisecond, and an unreachable tile 0 whose core 0, recalled to 1 of its 8 tokens, has
not eased. -/
def recallDue : State :=
  { State.reset with
    power := { stage := .ready, hubPll := true }
    events := { State.reset.events with log := List.replicate 255 earlyRecord }
    arb := { State.reset.arb with unreachable := [0] }
    cores := [(0, { tok := { held := 8, cap := 8, recallG := some 1, seen := true } })] }

/-- Refutes O31: a clamp tells the nets of the tile the fall first, so one of an unreachable tile logs event 0x1054 before event 0x1051, and the
millisecond may hold no more (R102). -/
theorem not_returnsAndRecalls : ¬ Obligations.ReturnsAndRecalls := by
  unfold Obligations.ReturnsAndRecalls
  intro ⟨_, _, hclamp⟩
  obtain ⟨t, ht, _, _, _, _, hnew, _⟩ := hclamp 0 1 recallDue (by decide) (by decide) (by decide) (by decide)
  have hnow := leaves_next (fun t => newest t 0x1051 [0, 8, 1, 0]) ht
  exact absurd (hnow.trans (congrArg some (hnew (by decide +kernel)))) (by decide +kernel)

/-! ### A plate with a poisoned code page (R472) -/

/-- A tenant whose plate 0 has a poisoned line in its code page. -/
def poisonedPlate : TenantSt := { plates := [(0, some ⟨0, [], 0, 0, 0, 0, [], some 0⟩)] }

/-- A command of that plate that executes, without cores. -/
def poisonedCmd : Cmd := ⟨0, 0, ⟨3, 0, 0, 0, 0, 0, []⟩, 0, .running, none, 0, [], .on, false, [], [], false, none, none, 0, false, true⟩

/-- The retirement of a channel of stack 0 ends beside a command whose code page is poisoned. -/
def retirementDue : State :=
  { State.reset with
    mem := { State.reset.mem with stk := [(0, { retiring := true })] }
    tenants := [(0, poisonedPlate)]
    host := { State.reset.host with cmds := [(0, some poisonedCmd)] } }

/-- Refutes O47: the end of a retirement ends each command whose code page is found poisoned (R472). -/
theorem not_memoryCommands : ¬ Obligations.MemoryCommands := by
  unfold Obligations.MemoryCommands
  intro ⟨_, _, _, hdone, _⟩
  have hnext := hdone 0 retirementDue (by decide) (by decide) (by decide) (by decide)
  exact absurd (leaves_next (fun t => (t.cmd 0).map (·.st)) hnext) (by decide)

/-! ### A run beside a command that is to end (R472) -/

/-- A command of tenant 0 with plate `h` of queue 0. -/
def plateCmd (h order : Nat) (st : CmdState) : Cmd :=
  ⟨0, 0, ⟨3, 0, h, 0, 0, 0, []⟩, order, st, none, 0, [], .on, false, [], [], false, none, none, 0, false, true⟩

/-- A RUN of plate 0 that may start, beside one of plate 1 whose code page is poisoned. -/
def runBesidePoison : State :=
  { State.reset with
    ao := { vsb := true, vin := true, vhbm := true, aoLock := true }
    power := { stage := .ready, hubPll := true }
    tenants := [(0, { plates := [(0, some ⟨0, [], 0, 0, 0, 0, [], none⟩), (1, some ⟨0, [], 0, 0, 0, 0, [], some 0⟩)] })]
    host := { State.reset.host with cmds := [(0, some (plateCmd 0 0 .fetched)), (1, some (plateCmd 1 1 .running))] } }

/-- Refutes O49: before it starts, a run ends each command whose code page is found poisoned (R472), so more slots than its own move. -/
theorem not_commandsStartAndSwitch : ¬ Obligations.CommandsStartAndSwitch := by
  unfold Obligations.CommandsStartAndSwitch
  intro ⟨hstart, _⟩
  obtain ⟨t, ht, _, _, _, hslots⟩ := hstart 0 0 runBesidePoison _ _ (.run 0 []) rfl rfl rfl (by decide) (by decide)
    (.inr (by decide)) (by decide) (by decide) (by decide) rfl
  exact absurd ((leaves_next (fun t => t.ledgers.slots) ht).trans (congrArg some (hslots (by decide) rfl))) (by decide)

/-! ### A slot listed twice -/

/-- A command of tenant 0 in queue 0 with this opcode and state. -/
def opCmd (op : Nat) (st : CmdState) : Cmd :=
  ⟨0, 0, ⟨op, 0, 0, 0, 0, 0, []⟩, 0, st, none, 0, [], .on, false, [], [], false, none, none, 0, false, true⟩

/-- A LOAD of a tenant without a partition in slot 0, which is listed a second time, with a running command whose code page is
poisoned. -/
def loadListedTwice : State :=
  { State.reset with
    power := { stage := .ready, hubPll := true }
    tenants := [(0, { plates := [(0, some ⟨0, [], 0, 0, 0, 0, [], some 0⟩)] })]
    host := { State.reset.host with cmds := [(0, some (opCmd 1 .fetched)), (0, some (opCmd 3 .running))] } }

/-- Refutes O51: a LOAD first ends each command whose code page is found poisoned (R472); where the list of slots, which the statement leaves
open, names the slot of the LOAD twice, that ends the LOAD itself, with another status than its refusal. -/
theorem not_commandsCompleteAndAreRecorded : ¬ Obligations.CommandsCompleteAndAreRecorded := by
  unfold Obligations.CommandsCompleteAndAreRecorded
  intro ⟨hbegin, _⟩
  obtain ⟨_, hload, _⟩ := hbegin 0 loadListedTwice (opCmd 1 .fetched) rfl (by decide) (by decide) rfl rfl
  obtain ⟨t, ht, ⟨c, r, hc, _, hr, hstatus⟩, _⟩ := (hload rfl).1 0x02 0 0 0 (by decide)
  have hnow := leaves_next (fun t => ((t.cmd 0).bind (·.record)).map (·.status)) ht
  simp only [hc, Option.bind_some, hr, Option.map_some, hstatus] at hnow
  exact absurd hnow (by decide)

/-! ### A page whose die does not answer (R110) -/

/-- A ready device without a side-band key that keeps its hub, which serves the TENANT pages, as a die that did not answer. -/
def hubUnreachable : State :=
  { State.reset with
    ao := { vsb := true, vin := true, vhbm := true, aoLock := true }
    power := { stage := .ready, hubPll := true }
    arb := { State.reset.arb with unreachable := [11] } }

/-- A DRAIN request for tenant 0. -/
def drainRequest : TmbReq := ⟨0, 0, 0, 0, 0, [1, 0, 0, 0, 0, 0, 1, 0], []⟩

/-- Refutes O56: a DRAIN for a tenant whose page does not answer is completed as for a page without power (R110), with WRONG_STATE and no
drain. -/
theorem not_sideBandRequestsAreServed : ¬ Obligations.SideBandRequestsAreServed := by
  unfold Obligations.SideBandRequestsAreServed
  intro ⟨_, _, hcmd, _⟩
  obtain ⟨_, _, _, _, _, _, _, _, hdrain, _⟩ := hcmd drainRequest hubUnreachable
  obtain ⟨t, ht, ⟨x, hx, _, _, hstatus, _⟩, _⟩ := hdrain 0 false
    ⟨by decide, by decide, by decide, rfl, by simp [cmdDrain], fun _ => ⟨by decide, by simp [hubUnreachable, State.reset]⟩⟩ (by decide) (by decide) rfl rfl rfl rfl rfl rfl
  have hnow := leaves_next (fun t => t.tmb.responses.map (·.status)) ht
  rw [hx, List.map_append, List.map_singleton, hstatus] at hnow
  exact absurd hnow (by decide)

end Sys2Proof.Machine
end

section
/-!
SUPPORT. Writes that take effect or are refused, what stays sent, and retention memory.
-/
namespace Sys2Proof.Machine
open Sys2Proof

/-! ### Writes that take effect, and refusals -/

section
variable {s : State} {p : PageRef} {w : RegWrite} {c : Checks} {eff : State → State}

theorem guarded_passes (h : writeOk s p w = true) (off : Nat) (hc : c.pass = true) : (guarded s p off w c eff).1 = eff s := by
  rw [guarded_ok s p off w c eff h hc]

theorem guarded_refuses (h : writeOk s p w = true) (off : Nat) {r : RefCode} (hj : judge s p w c = r) (hr : r ≠ .ok) :
    (guarded s p off w c eff).1 = recordRefusal s p off w.master r := by
  obtain ⟨hready, hexists, hanswers, -⟩ := (writeOk_iff s p w).mp h
  rw [guarded_refused hready hexists hanswers hj hr]

end

theorem recordRefusal_last (s : State) (p : PageRef) (off : Nat) (m : Master) (r : RefCode) :
    ((recordRefusal s p off m r).hdr p).lastRefusal = word [(0, r.num), (8, off % 0x10000), (24, m.num)] := by
  rw [recordRefusal_hdr, if_pos rfl]

/-! ### What has been sent stays sent -/

section
variable {s : State} {o : Output} (h : o ∈ s.out)
include h

theorem mem_out_emit (x : Output) : o ∈ (emit s x).out := by
  rw [emit_out]
  exact List.mem_append_left _ h

theorem mem_out_raise (p : PageRef) (i : Nat) : o ∈ (raise s p i).out := by
  obtain ⟨l, hl⟩ := modHdr_out s p (fun h => { h with intRaw := h.intRaw ||| w32 (2 ^ i) })
  rw [raise, raiseBits, hl]
  exact List.mem_append_left _ h

theorem mem_out_logEvent (code sev : Nat) (p : PageRef) (a : List Nat) : o ∈ (logEvent s code sev p a).out := by
  obtain h' | ⟨e, h'⟩ | ⟨e, i, h'⟩ := logEvent_cases s code sev p a <;> rw [h']
  · exact h
  · exact h
  · exact mem_out_raise (s := { s with events := e }) h .event i

end

theorem mem_out_emit_self (s : State) (o : Output) : o ∈ (emit s o).out := by simp

/-! ### Retention memory -/

@[simp] theorem retainEvent_cal (s : State) (code sev : Nat) (p : PageRef) (a : List Nat) : (retainEvent s code sev p a).cal = s.cal := by
  rw [retainEvent]
@[simp] theorem retainEvent_out (s : State) (code sev : Nat) (p : PageRef) (a : List Nat) : (retainEvent s code sev p a).out = s.out := by
  rw [retainEvent]
@[simp] theorem retainEvent_hdrs (s : State) (code sev : Nat) (p : PageRef) (a : List Nat) : (retainEvent s code sev p a).hdrs = s.hdrs := by
  rw [retainEvent]

theorem caused_congr {s t : State} (h : t.hdrs = s.hdrs) (p : PageRef) (i : Nat) : caused t p i = caused s p i := by
  rw [caused, caused, State.hdr, State.hdr, h]

end Sys2Proof.Machine
end

section
/-!
SUPPORT. The calibration store and the test instructions (O57).
-/
namespace Sys2Proof.Machine
open Sys2Proof

/-! ### The calibration store (R624 to R631) -/

@[simp] theorem logCal_cal (s : State) (code sev : Nat) (a : List Nat) : (logCal s code sev a).cal = s.cal := by
  unfold logCal
  split <;> simp

theorem mem_out_logCal {s : State} {o : Output} (h : o ∈ s.out) (code sev : Nat) (a : List Nat) : o ∈ (logCal s code sev a).out := by
  unfold logCal
  split
  · exact mem_out_logEvent h ..
  · rwa [retainEvent_out]

/-- What a failed store leaves. -/
theorem storeFail_ends (s : State) (result step : Nat) (blank : Bool) :
    (storeFail s result step blank).cal.step = .idle ∧ (storeFail s result step blank).cal.result = result ∧
    (storeFail s result step blank).cal.selected = s.cal.selected ∧ (storeFail s result step blank).cal.blank = blank ∧
    caused (storeFail s result step blank) .cal 1 = true := by
  simp [storeFail]

theorem calErase_erases {s : State} (hv : s.ao.vsb = true) (hi : s.ao.vin = true) (hh : hubOn s = true) (hd : dirty s = true)
    (hb : s.cal.blank = false) (he : s.cal.erasing = false) (hs : storing s = false) : Answers .calErase s fun t =>
      t.cal.erasing = true ∧ .norErase (targetSlot s) ∈ t.out ∧ t.cal.image = s.cal.image ∧
      (targetSlot s = 0 → t.cal.validA = false ∧ t.cal.validB = s.cal.validB ∧ t.cal.genB = s.cal.genB) ∧
      (targetSlot s = 1 → t.cal.validB = false ∧ t.cal.validA = s.cal.validA ∧ t.cal.genA = s.cal.genA) := by
  have hx : exec .calErase s = execCalErase s := rfl
  rw [Answers, hx, execCalErase, if_pos (by simp [hv, hi, hh, hd, hb, he, hs])]
  refine ⟨_, rfl, rfl, mem_out_emit_self _ _, rfl, fun h0 => ?_, fun h1 => ?_⟩
  · simp [h0]
  · simp [h1]

theorem writeStore_refused {s : State} {w : RegWrite} (h : writeOk s .cal w = true) (hf : w.full = true)
    (hw : (w.value.getLsbD 0 && !goAccepted s || w.value.getLsbD 1 && storing s) = true) :
    (writeStore w s).1 = recordRefusal s .cal 0x4C w.master .wrongState := by
  rw [writeStore, guarded_refuses h (r := .wrongState) 0x4C _ (by decide)]
  rw [judge_of_writeOk h]
  simp only [hf, hw]
  rfl

theorem storeGo_starts {s : State} {w : RegWrite} (h : writeOk s .cal w = true) (hf : w.full = true) (hgo : w.value.getLsbD 0 = true)
    (ha : goAccepted s = true) : exec (.storeGo w) s = .next (startStore s) := by
  have hx : exec (.storeGo w) s = .next (writeStore w s).1 := rfl
  have hs : storing s = false := by
    simp only [goAccepted, Bool.and_eq_true, Bool.not_eq_true'] at ha
    exact ha.1.1.1
  rw [hx, writeStore, guarded_passes h _ (by simp [Checks.pass, hf, ha, hs])]
  simp [hgo]

theorem storeGo_refused {s : State} {w : RegWrite} (h : writeOk s .cal w = true) (hf : w.full = true) (hgo : w.value.getLsbD 0 = true)
    (ha : goAccepted s = false) : Answers (.storeGo w) s fun t =>
      t.cal = s.cal ∧ (t.hdr .cal).lastRefusal = word [(0, 0x02), (8, 0x4C), (24, w.master.num)] := by
  refine ⟨_, rfl, ?_⟩
  rw [writeStore_refused h hf (by simp [hgo, ha])]
  exact ⟨by simp, recordRefusal_last ..⟩

theorem measure_measures {s : State} {w : RegWrite} (h : writeOk s .cal w = true) (hf : w.full = true) (hgo : w.value.getLsbD 0 = false)
    (hm : w.value.getLsbD 1 = true) :
    (storing s = false → exec (.measure w) s = .next { s with cal := { s.cal with measuring := true } }) ∧
    (storing s = true → Answers (.measure w) s fun t =>
      t.cal = s.cal ∧ (t.hdr .cal).lastRefusal = word [(0, 0x02), (8, 0x4C), (24, w.master.num)]) := by
  have hx : exec (.measure w) s = .next (writeStore w s).1 := rfl
  refine ⟨fun hs => ?_, fun hs => ?_⟩
  · rw [hx, writeStore, guarded_passes h _ (by simp only [Checks.pass, hf, hgo, hs]; simp)]
    simp only [hgo, hm]
    rfl
  · refine ⟨_, hx, ?_⟩
    rw [writeStore_refused h hf (by simp [hm, hs])]
    exact ⟨by simp, recordRefusal_last ..⟩

theorem calStoreStepDone_check {ok : Bool} {s : State} (hc : s.cal.step = .check) (hm : s.cal.measuring = false) :
    (216 ≤ s.cal.mj → exec (.calStoreStepDone ok) s = .next { s with cal := { s.cal with step := .program } }) ∧
    (s.cal.mj < 216 → Answers (.calStoreStepDone ok) s fun t =>
      t.cal.step = .idle ∧ t.cal.result = 0x07 ∧ t.cal.selected = s.cal.selected ∧ t.cal.blank = s.cal.blank ∧ caused t .cal 1 = true) := by
  have hx : exec (.calStoreStepDone ok) s = execCalStoreStepDone ok s := rfl
  refine ⟨fun h => ?_, fun h => ⟨storeFail s 0x07 1 s.cal.blank, ?_, storeFail_ends ..⟩⟩
  · simp [hx, execCalStoreStepDone, hc, hm, Nat.not_lt.mpr h]
  · simp [hx, execCalStoreStepDone, hc, hm, h]

theorem nor_fails {s : State} (h : s.cal.step = .program ∨ s.cal.step = .verify ∨ s.cal.step = .mark) :
    (∃ n, exec (.calStoreStepDone false) s = .next (storeFail s 0x20 n false)) ∧ (∃ n, exec .norTimeout s = .next (storeFail s 0x20 n false)) := by
  have hx : exec (.calStoreStepDone false) s = execCalStoreStepDone false s := rfl
  have hy : exec .norTimeout s = execNorTimeout s := rfl
  obtain h | h | h := h <;> rw [hx, hy, execCalStoreStepDone, execNorTimeout, h] <;> exact ⟨⟨_, rfl⟩, _, rfl⟩

/-- The store of the calibration state as its marker commits it. -/
def CalSt.committed (c : CalSt) (ms : Nat) : CalSt :=
  { c with
    step := .done, result := 0, ms := ms, selected := c.target, loaded := c.copy, blank := false,
    validA := c.validA || c.target = 0, genA := if c.target = 0 then c.gen else c.genA,
    validB := c.validB || c.target = 1, genB := if c.target = 1 then c.gen else c.genB }

/-- The image is told to be dirty still (R625). -/
def tellDirty (s : State) : State := if dirty s then raise s .cal 2 else s

theorem tellDirty_keeps (s : State) : (tellDirty s).cal = s.cal ∧ (caused s .cal 0 = true → caused (tellDirty s) .cal 0 = true) ∧
    ∀ o ∈ s.out, o ∈ (tellDirty s).out := by
  unfold tellDirty
  split
  · exact ⟨by simp, caused_raise _ _, fun o ho => mem_out_raise ho _ _⟩
  · exact ⟨rfl, id, fun _ => id⟩

theorem storeCommit_eq (s : State) : ∃ ms a, storeCommit s =
    tellDirty (raise (logCal { s with cal := s.cal.committed ms } 0x8010 0 a) .cal 0) := by
  refine ⟨msSince s s.cal.startAt % 65536, [s.cal.target, s.cal.gen.toNat, msSince s s.cal.startAt % 65536, s.cal.mj], ?_⟩
  unfold storeCommit tellDirty CalSt.committed
  rfl

theorem storeCommit_commits (s : State) : (∃ ms, (storeCommit s).cal = s.cal.committed ms) ∧ caused (storeCommit s) .cal 0 = true ∧
    ∀ o ∈ s.out, o ∈ (storeCommit s).out := by
  obtain ⟨ms, a, h⟩ := storeCommit_eq s
  obtain ⟨hcal, hcause, hout⟩ := tellDirty_keeps (raise (logCal { s with cal := s.cal.committed ms } 0x8010 0 a) .cal 0)
  rw [h]
  refine ⟨⟨ms, by rw [hcal, raise_cal, logCal_cal]⟩, hcause (caused_raise_same _ _ (by decide)), fun o ho => hout o ?_⟩
  exact mem_out_raise (mem_out_logCal (s := { s with cal := s.cal.committed ms }) ho _ _ _) _ _

theorem calStoreStepDone_mark {s : State} (h : s.cal.step = .mark) : Answers (.calStoreStepDone true) s fun t =>
      t.cal.step = .done ∧ t.cal.result = 0 ∧ t.cal.selected = s.cal.target ∧ t.cal.loaded = s.cal.copy ∧ t.cal.blank = false ∧
      t.cal.image = s.cal.image ∧ caused t .cal 0 = true ∧
      (s.cal.target = 0 → t.cal.validA = true ∧ t.cal.genA = s.cal.gen ∧ t.cal.validB = s.cal.validB ∧ t.cal.genB = s.cal.genB) ∧
      (s.cal.target = 1 → t.cal.validB = true ∧ t.cal.genB = s.cal.gen ∧ t.cal.validA = s.cal.validA ∧ t.cal.genA = s.cal.genA) ∧
      .nor (slotAddr s.cal.target + 0x3FFF0) (markerBytes s.cal.gen (crc32c (headerBytes s.cal.gen
        (crc32c (bodyBytes s.cal.factory s.cal.copy)) (stamp s.cal.startUnlocked s.cal.startAt)))) ∈ t.out := by
  have hx : exec (.calStoreStepDone true) s = execCalStoreStepDone true s := rfl
  rw [Answers, hx, execCalStoreStepDone, h]
  refine ⟨_, rfl, ?_⟩
  generalize hn : Output.nor (slotAddr s.cal.target + 0x3FFF0) _ = o
  obtain ⟨⟨ms, hcal⟩, hcause, hout⟩ := storeCommit_commits (emit s o)
  rw [hcal]
  exact ⟨rfl, rfl, rfl, rfl, rfl, rfl, hcause, fun h0 => by simp [CalSt.committed, h0], fun h1 => by simp [CalSt.committed, h1],
    hout o (mem_out_emit_self s o)⟩

theorem tapLoad_serves {s : State} (h : tapServes s = true) (n : Nat) :
    tapLoad n s = { s with ao := { s.ao with tap := if testAllowed s then n else 5 } } := by
  rw [tapLoad, if_pos h]

/-- Settles O57: each command of a store is its own step; a failed one is `storeFail`, and the marker alone is `storeCommit`. -/
theorem calibrationStoresAndTests : Obligations.CalibrationStoresAndTests := by
  unfold Obligations.CalibrationStoresAndTests
  refine ⟨fun s => calErase_erases, fun b s he => ?_, fun w s h hf => ⟨storeGo_starts h hf, storeGo_refused h hf, measure_measures h hf⟩,
    fun ok s => ⟨calStoreStepDone_check, fun h => ⟨?_, ?_⟩, ?_, ?_, ?_⟩, fun s h => ⟨?_, ?_, ?_, ?_, ?_⟩⟩
  · have hx : exec (.calEraseDone b) s = execCalEraseDone b s := rfl
    rw [hx, execCalEraseDone, if_pos he]
  · rintro rfl
    obtain ⟨n, hn⟩ := (nor_fails h).1
    exact ⟨_, hn, storeFail_ends ..⟩
  · obtain ⟨n, hn⟩ := (nor_fails h).2
    exact ⟨_, hn, storeFail_ends ..⟩
  · rintro hp rfl r rfl
    have hx : exec (.calStoreStepDone true) s = execCalStoreStepDone true s := rfl
    simp [hx, execCalStoreStepDone, hp, emit]
  · rintro hv rfl
    have hx : exec (.calStoreStepDone true) s = execCalStoreStepDone true s := rfl
    simp [hx, execCalStoreStepDone, hv]
  · rintro hm rfl
    exact calStoreStepDone_mark hm
  · exact congrArg Host.Outcome.next (tapLoad_serves h 1)
  · exact congrArg Host.Outcome.next (tapLoad_serves h 2)
  · exact congrArg Host.Outcome.next (tapLoad_serves h 3)
  · exact congrArg Host.Outcome.next (tapLoad_serves h 4)
  · have hx : exec .idcode s = execIdcode s := rfl
    rw [hx, execIdcode, if_pos h]
    rfl

end Sys2Proof.Machine
end

section
/-!
SUPPORT. The hardware trip (O34).
-/
namespace Sys2Proof.Machine
open Sys2Proof

/-! ### The hardware trip (R120, R319, R320) -/

/-- Everything but the AO domain is as a loss of the hub leaves it. -/
structure Cut (s t : State) : Prop where
  trip : t.trip = s.trip
  ao : t.ao = s.ao
  stage : t.power.stage = s.power.stage
  ledgers : t.ledgers = s.ledgers
  tiles : t.tiles = s.tiles
  nets : t.nets = s.nets
  cores : t.cores = s.cores

theorem setResult_cut (s : State) (o c w r : Nat) : Cut s (setResult s o c w r) := by
  unfold setResult
  dsimp only
  split
  · exact ⟨by simp, by simp, by simp, by simp, by simp, by simp, by simp⟩
  · exact ⟨rfl, rfl, rfl, rfl, rfl, rfl, rfl⟩

theorem settleLost_cut (s : State) (r : PwrReq) (c : RefCode) : Cut s (settleLost s r c) := by
  unfold settleLost
  split
  · exact setResult_cut ..
  · exact setResult_cut ..

theorem cutRequest_cut (old s : State) (c : RefCode) : Cut s (cutRequest old s c) := by
  unfold cutRequest
  split
  · exact settleLost_cut ..
  · exact settleLost_cut ..
  · exact ⟨rfl, rfl, rfl, rfl, rfl, rfl, rfl⟩

theorem hubLost_keepsAo (s : State) (b : BootStage) : (hubLost s b).power.stage = b ∧ (hubLost s b).ao.ticks = s.ao.ticks ∧
    (hubLost s b).tiles = [] ∧ (hubLost s b).nets = [] ∧ (hubLost s b).cores = [] := by
  unfold hubLost absence
  split <;> exact ⟨rfl, rfl, rfl, rfl, rfl⟩

theorem retainEvent_last (s : State) (code sev : Nat) (p : PageRef) (a : List Nat) :
    (retainEvent s code sev p a).ao.retention.getLast? = some (mkRecord s code sev p a) := by
  rw [retainEvent]
  dsimp only
  rw [List.getLast?_drop, if_neg (by simp), List.getLast?_append]
  simp

/-- Settles O34: a trip is the loss of the hub to Banked with the ledgers, the latch and its record kept; a latched one stays. -/
theorem hardwareTripCutsPower : Obligations.HardwareTripCutsPower := by
  unfold Obligations.HardwareTripCutsPower
  refine ⟨fun k s hk hv ht hc => ?_, fun k stack s ht => ?_⟩
  · have hx : exec (.hwTrip k (sensorIsStack k)) s = execHwTrip k (sensorIsStack k) s := rfl
    refine ⟨tripFire s k (sensorIsStack k), by rw [hx, execHwTrip, if_pos (by simp [hk, hv, ht, hc])], ?_⟩
    obtain ⟨hstage, hticks, htiles, hnets, hcores⟩ := hubLost_keepsAo s .banked
    have hcut := cutRequest_cut s (retainEvent { hubLost s .banked with
      trip := some ⟨sensorIsStack k, k, (s.sensor k).temp.getD (-32768), !s.ao.aoLock, s.ao.ticks⟩, ledgers := s.ledgers,
      ledger := { s.ledger with open_ := false } } 0x2006 4 .therm
      [k, twos 16 ((s.sensor k).temp.getD (-32768)), b2n (sensorIsStack k), sensorDie k]) .tripped
    rw [tripFire]
    refine ⟨hcut.trip.trans ?_, hcut.stage.trans ?_, hcut.ledgers.trans ?_, hcut.tiles.trans ?_, hcut.nets.trans ?_, hcut.cores.trans ?_,
      (congrArg _ hcut.ao).trans ?_, ?_⟩
    case refine_8 => rw [hcut.ao, retainEvent_last]; rfl
    case refine_1 => rw [retainEvent]
    case refine_3 => rw [retainEvent]
    all_goals
      rw [retainEvent]
      assumption
  · have hx : exec (.hwTrip k stack) s = execHwTrip k stack s := rfl
    rw [hx, execHwTrip, if_neg (by simp [Option.ne_none_iff_isSome.mpr ht])]

end Sys2Proof.Machine
end

section
/-!
SUPPORT. Loop engines: injection, capture, notices and memory errors (O28).
-/
namespace Sys2Proof.Machine
open Sys2Proof

/-! ### Injection, capture and notices (R199 to R204) -/

theorem injCtrlWrite_sets {d : Nat} {w : RegWrite} {s : State} (h : writeOk s (.loop d) w = true) {v : Nat}
    (hv : v = (w.merged (injCtrlWord (s.loopE d).inj)).toNat) (hcell : fld v 8 6 < dieCount d) (hlo : 4 ≤ fld v 20 4)
    (hhi : fld v 20 4 ≤ 10) (hrun : bit v 0 = true → d < 8 ∧ ((s.tile d).st = .kindled ∨ (s.tile d).st = .stoked)) :
    ∃ j : InjSt, exec (.injCtrlWrite d w) s = .next (s.setLoop d { s.loopE d with inj := j }) ∧
      j.run = bit v 0 ∧ j.point = bit v 1 ∧ j.src = bit v 2 ∧ j.cell = fld v 8 6 ∧ j.scale = fld v 16 4 ∧ j.tlen = fld v 20 4 ∧
      j.rate = fld v 24 3 ∧ j.table = (s.loopE d).inj.table ∧ (bit v 0 = true → (s.loopE d).inj.run = false → j.ptr = 0) := by
  subst hv
  have hx : exec (.injCtrlWrite d w) s = .next (writeInjCtrl d w s).1 := rfl
  have hbad : (bit (w.merged (injCtrlWord (s.loopE d).inj)).toNat 0 &&
      !(decide (d < 8) && (decide ((s.tile d).st = .kindled) || decide ((s.tile d).st = .stoked)))) = false := by
    cases hb : bit (w.merged (injCtrlWord (s.loopE d).inj)).toNat 0 with
    | false => rfl
    | true =>
      obtain ⟨hd, hk | hk⟩ := hrun hb <;> simp [hd, hk]
  rw [hx, writeInjCtrl, guarded_passes h _ (by simp only [Checks.pass, hbad]; simp; omega), State.modLoop_eq]
  exact ⟨_, rfl, rfl, rfl, rfl, rfl, rfl, rfl, rfl, rfl, fun hb hr => by simp [hb, hr]⟩

theorem capStart_arms {d : Nat} {w : RegWrite} {s : State} (h : writeOk s (.loop d) w = true) {v : Nat}
    (hv : v = (w.merged (capCtrlWord (s.loopE d).cap)).toNat) (hgo : w.ones.getLsbD 0 = true) (hbusy : (s.loopE d).cap.busy = false)
    (hcell : fld v 8 6 < dieCount d) (hlo : 1 ≤ fld v 20 9) (hhi : fld v 20 9 ≤ if bit v 1 then 85 else 256) :
    exec (.capStart d w) s = .next (s.setLoop d { s.loopE d with
      cap := { (s.loopE d).cap with wide := bit v 1, trig := fld v 2 2, cell := fld v 8 6, cdec := fld v 16 3, length := fld v 20 9,
                                    busy := true, triggered := false, done := false, records := 0, frames := 0 }
      inj := { (s.loopE d).inj with started := false } }) := by
  subst hv
  have hx : exec (.capStart d w) s = .next (writeCapCtrl d w s).1 := rfl
  have hlen : (if bit (w.merged (capCtrlWord (s.loopE d).cap)).toNat 1 = true
      then decide (85 < fld (w.merged (capCtrlWord (s.loopE d).cap)).toNat 20 9)
      else decide (256 < fld (w.merged (capCtrlWord (s.loopE d).cap)).toNat 20 9)) = false := by
    split <;> simp_all
  rw [hx, writeCapCtrl, guarded_passes h _ (by simp only [Checks.pass, hbusy, hlen]; simp; omega), State.modLoop_eq]
  simp only [hgo, if_true]

theorem stokeNotice_kept {n a : Nat} {s : State} (hn : n < 16) (hd : dieOn s (n / 2) = true)
    (hf : s.token.notices.find? (fun r => r.1 = n) = some (n, a)) :
    exec (.stokeNotice n) s = .next { s.setLoop (n / 2)
        (if n % 2 = 0 then { s.loopE (n / 2) with noteLo := some a } else { s.loopE (n / 2) with noteHi := some a }) with
      token := { s.token with notices := s.token.notices.erase (n, a) } } := by
  have hx : exec (.stokeNotice n) s = execStokeNotice n s := rfl
  have hon : ∀ k : TokenSt, dieOn { s with token := k } (n / 2) = true := fun _ => hd
  rw [hx, execStokeNotice, hf]
  simp only [hon, Bool.not_true, Bool.or_false, decide_eq_true_eq, Nat.not_le.mpr hn, if_false]
  rfl

/-! ### Words of a loop engine's memories (R211, R212) -/

@[simp] theorem stretchClock_cells (s : State) (n : Nat) : (stretchClock s n).cells = s.cells := by
  unfold stretchClock
  split <;> rfl

@[simp] theorem stretchClock_nets (s : State) (n : Nat) : (stretchClock s n).nets = s.nets := by
  unfold stretchClock
  split <;> rfl

@[simp] theorem stretchClock_loops (s : State) (n : Nat) : (stretchClock s n).loops = s.loops := by
  unfold stretchClock
  split <;> rfl

@[simp] theorem stretchClock_net (s : State) (n j : Nat) : (stretchClock s n).net j = s.net j := by
  rw [State.net, stretchClock_nets, State.net]

theorem caused_stretchClock {s : State} {p : PageRef} {i : Nat} (n : Nat) (h : caused s p i = true) : caused (stretchClock s n) p i = true := by
  unfold stretchClock
  split <;> exact h

/-- A fault of a cell whose loop engine's clock runs is only put on the Hearth's list (R297). -/
theorem faultReport_late {s : State} {i : Nat} (h : (s.loopE (cellDie i)).clk = true) (code before : Nat) (a : List Nat) :
    ∃ l, faultReport s i code before a = { s with hearth := { s.hearth with late := l } } := by
  have hif : ∀ u v : State, (if (s.loopE (cellDie i)).clk = true then u else v) = u := fun u v => if_pos h
  exact ⟨_, hif _ _⟩

/-- A cell as its isolation leaves it. -/
def CellSt.isolatedFor (c : CellSt) (cause : Nat) : CellSt :=
  { c with isolated := true, isoCause := cause, leak := 0, discharge := false, pathWant := [], judged := false,
           permanent := c.permanent || cause = 8 }

/-- The state in which the isolation of cell `i` is reported. -/
def isolating (s : State) (i cause : Nat) : State :=
  raise (stretchClock (s.setCell i ((s.cell i).isolatedFor cause)) (cellNet i)) (.cell i) 2

theorem isolateCell_eq {s : State} {i : Nat} (hi : (s.cell i).isolated = false) (hr : (s.net (cellNet i)).roll = none) (cause : Nat) :
    isolateCell s i cause = faultReport (isolating s i cause) i 0x1061 (phasesIn s i) [i, cause, phasesIn s i] := by
  simp [isolateCell, isolating, CellSt.isolatedFor, hi, hr]

theorem isolateCell_late {s : State} {i : Nat} (hclk : (s.loopE (cellDie i)).clk = true) (hi : (s.cell i).isolated = false)
    (hr : (s.net (cellNet i)).roll = none) (cause : Nat) :
    ((isolateCell s i cause).cell i).held = (s.cell i).held ∧ ((isolateCell s i cause).cell i).isolated = true ∧
    ((isolateCell s i cause).cell i).isoCause = cause ∧ (∀ j, j ≠ i → (isolateCell s i cause).cell j = s.cell j) ∧
    ∀ p k, caused s p k = true → caused (isolateCell s i cause) p k = true := by
  have hloop : ((isolating s i cause).loopE (cellDie i)).clk = true := by simpa [isolating, State.loopE] using hclk
  obtain ⟨l, hl⟩ := faultReport_late hloop 0x1061 (phasesIn s i) [i, cause, phasesIn s i]
  rw [← isolateCell_eq hi hr cause] at hl
  have hcell : ∀ j, (isolateCell s i cause).cell j = if j = i then (s.cell i).isolatedFor cause else s.cell j := fun j => by
    rw [hl]
    simp only [State.cell, isolating, raise_cells, stretchClock_cells]
    exact State.setCell_cell s i j _
  refine ⟨?_, ?_, ?_, fun j hj => ?_, fun p k h => ?_⟩
  · rw [hcell, if_pos rfl]
    rfl
  · rw [hcell, if_pos rfl]
    rfl
  · rw [hcell, if_pos rfl]
    rfl
  · rw [hcell, if_neg hj]
  · rw [hl]
    exact caused_raise _ _ (caused_stretchClock _ h)

theorem loopMemError_corrected {d m a i : Nat} {s : State} (h : (s.loopE d).clk = true) : Answers (.loopMemError d m a i false) s fun t =>
    t.cells = s.cells ∧ t.loops = s.loops ∧ caused t (.loop d) 4 = true ∧
    (logOpen s = true → newest t 0x1032 [d % 2 ^ 32, m % 2 ^ 32, a % 2 ^ 32, if m = 2 then i % 2 ^ 32 else 0xFFFF] = true) := by
  have hx : exec (.loopMemError d m a i false) s = execLoopMemError d m a i false s := rfl
  rw [Answers, hx, execLoopMemError]
  simp only [h, Bool.not_true, Bool.false_and, if_false, Bool.false_eq_true]
  refine ⟨_, rfl, by simp, by simp, caused_raise_same _ _ (by decide), fun ho => ?_⟩
  rw [newest_raise]
  have hn := newest_logEvent ho 0x1032 2 (.loop d) [d, m, a, if m = 2 then i else 0xFFFF]
  by_cases hm : m = 2 <;> simpa [hm] using hn

theorem loopMemError_state {d a i : Nat} {s : State} (h : (s.loopE d).clk = true) : Answers (.loopMemError d 2 a i true) s fun t =>
    t.cell i = { s.cell i with preset := true } ∧ (∀ j, j ≠ i → t.cell j = s.cell j) ∧ caused t (.loop d) 4 = true := by
  have hx : exec (.loopMemError d 2 a i true) s = execLoopMemError d 2 a i true s := rfl
  rw [Answers, hx, execLoopMemError]
  simp only [h, Bool.not_true, Bool.true_and, if_false, Bool.false_eq_true, if_true, decide_false, Nat.lt_irrefl, State.modCell_eq]
  exact ⟨_, rfl, by simp, fun j hj => by simp [hj], caused_raise_same _ _ (by decide)⟩

theorem loopMemError_word {d m a i k : Nat} {s : State} (h : (s.loopE d).clk = true) (hm : m < 2) (hw : wordCells s d m a = [i])
    (hd : cellDie i = d) (hi : (s.cell i).isolated = false) (hr : (s.net (cellNet i)).roll = none) :
    Answers (.loopMemError d m a k true) s fun t =>
      (t.cell i).held = true ∧ (t.cell i).isolated = true ∧ (t.cell i).isoCause = 7 ∧ caused t (.loop d) 4 = true ∧
      ∀ j, j ≠ i → t.cell j = s.cell j := by
  subst hd
  have hx : exec (.loopMemError (cellDie i) m a k true) s = execLoopMemError (cellDie i) m a k true s := rfl
  rw [Answers, hx, execLoopMemError]
  simp only [h, Bool.not_true, Bool.true_and, if_false, Bool.false_eq_true, hm, decide_true, if_true, hw, forEach, State.modCell_eq,
    List.length_singleton, List.foldl_cons, List.foldl_nil]
  refine ⟨_, rfl, ?_⟩
  set u := raise (logEvent (s.setCell i { s.cell i with held := true }) 0x1033 3 (.loop (cellDie i)) [cellDie i, m, a, 1]) (.loop (cellDie i)) 4
    with hu
  have hcell : ∀ j, u.cell j = if j = i then { s.cell i with held := true } else s.cell j := fun j => by simp [hu]
  obtain ⟨hheld, hiso, hcause, hother, hkeep⟩ := isolateCell_late (s := u) (i := i) (by simpa [hu] using h) (by rw [hcell]; simpa using hi)
    (by simpa [hu] using hr) 7
  refine ⟨hheld.trans (by rw [hcell]; simp), hiso, hcause, hkeep _ _ (caused_raise_same _ _ (by decide)), fun j hj => ?_⟩
  rw [hother j hj, hcell, if_neg hj]

/-- Settles O28: settings and notices are written in place; a lost word isolates the one cell it serves, of which the Hearth hears at the end
of the frame. -/
theorem injectionCaptureNoticesAndMemoryErrors : Obligations.InjectionCaptureNoticesAndMemoryErrors := by
  unfold Obligations.InjectionCaptureNoticesAndMemoryErrors
  refine ⟨⟨fun d w s h v hv hc hlo hhi hr => ?_, fun d w s h v hv hgo hb hc hlo hhi => ?_, fun n a s hn hd hf => ?_⟩,
    fun d m a i s h => loopMemError_corrected h, fun d a i s h => loopMemError_state h,
    fun d m a i k s h hm hw hd hi hr => loopMemError_word h hm hw hd hi hr⟩
  · obtain ⟨j, hj, hrest⟩ := injCtrlWrite_sets h hv hc hlo hhi hr
    refine ⟨_, hj, ?_, ?_⟩
    · simp
    · simpa using hrest
  · refine ⟨_, capStart_arms h hv hgo hb hc hlo hhi, by simp, fun j hj => by simp [hj], rfl⟩
  · refine ⟨_, stokeNotice_kept hn hd hf, ?_, ?_, ?_, rfl, fun j hj => ?_⟩
    · split <;> simp [State.loopE, State.setLoop, look_put]
    · split <;> simp [State.loopE, State.setLoop, look_put]
    · split <;> simp [State.loopE, State.setLoop, look_put]
    · simp [State.loopE, State.setLoop, look_put, hj]

end Sys2Proof.Machine
end

section
/-!
SUPPORT. The calibration image, survey conversions and trims (O29).
-/
namespace Sys2Proof.Machine
open Sys2Proof

/-! ### The calibration image (R235, R621) -/

theorem imgByte_imgPut (factory : Bool) (m : Sparse (Option Byte)) (o j : Nat) (b : Byte) :
    imgByte factory (imgPut factory m o b) j = if j = o then b else imgByte factory m j := by
  rw [imgByte, imgPut, look_put]
  by_cases hj : j = o
  · cases factory <;> by_cases hb : b = 0#8 <;> simp [hj, hb]
  · simp [hj, imgByte]

/-- The image with the low `n` bytes of `v` written from `o` on. -/
def imgWrite (factory : Bool) (m : Sparse (Option Byte)) (o n v : Nat) : Sparse (Option Byte) :=
  (List.range n).foldl (fun m k => imgPut factory m (o + k) (BitVec.ofNat 8 (v / 2 ^ (8 * k)))) m

theorem imgByte_imgWrite (factory : Bool) (m : Sparse (Option Byte)) (o n v j : Nat) :
    imgByte factory (imgWrite factory m o n v) j =
      if o ≤ j ∧ j < o + n then BitVec.ofNat 8 (v / 2 ^ (8 * (j - o))) else imgByte factory m j := by
  induction n with
  | zero => rw [if_neg (by omega)]; rfl
  | succ n ih =>
    have hs : imgWrite factory m o (n + 1) v = imgPut factory (imgWrite factory m o n v) (o + n) (BitVec.ofNat 8 (v / 2 ^ (8 * n))) := by
      rw [imgWrite, List.range_succ, List.foldl_append]
      rfl
    rw [hs, imgByte_imgPut, ih]
    by_cases hj : j = o + n
    · rw [if_pos hj, if_pos (by omega), hj, Nat.add_sub_cancel_left]
    · rw [if_neg hj]
      by_cases hin : o ≤ j ∧ j < o + n
      · rw [if_pos hin, if_pos (by omega)]
      · rw [if_neg hin, if_neg (by omega)]

/-- A write of the image changes the image, and may tell that it is dirty. -/
theorem setCalN_frame (s : State) (o n v : Nat) : ∃ hdrs out, setCalN s o n v =
    { s with cal := { s.cal with image := imgWrite s.cal.factory s.cal.image o n v }, hdrs := hdrs, out := out } := by
  rw [setCalN]
  dsimp only
  split
  · rw [raise, raiseBits_frame]
    exact ⟨_, _, rfl⟩
  · exact ⟨_, _, rfl⟩

theorem calN_congr {s t : State} (h : t.cal = s.cal) (o n : Nat) : calN t o n = calN s o n := by
  rw [calN, calN, h]

theorem calN_setCalN_of_disjoint (s : State) {o n j m : Nat} (v : Nat) (h : j + m ≤ o ∨ o + n ≤ j) : calN (setCalN s o n v) j m = calN s j m := by
  obtain ⟨hdrs, out, hs⟩ := setCalN_frame s o n v
  rw [hs, calN, calN]
  refine congrArg leNat (List.map_congr_left fun k hk => ?_)
  rw [List.mem_range] at hk
  exact (imgByte_imgWrite ..).trans (if_neg (by omega))

theorem calN_setCalN_same (s : State) (o n v : Nat) : calN (setCalN s o n v) o n = v % 2 ^ (8 * n) := by
  obtain ⟨hdrs, out, hs⟩ := setCalN_frame s o n v
  have hb : calN (setCalN s o n v) o n = leNat (leBytes n v) := by
    rw [hs, calN, leBytes]
    refine congrArg leNat (List.map_congr_left fun k hk => ?_)
    rw [List.mem_range] at hk
    exact (imgByte_imgWrite ..).trans (by rw [if_pos (by omega), Nat.add_sub_cancel_left])
  rw [hb]
  simpa [leNat, Nat.pow_mul] using leNat_leBytes_append n v []

/-! ### Conversions of a survey ADC (R223 to R234, R242) -/

section
variable {s : State} {d : Nat}

theorem surveyPeriod_starts (hd : dieOn s d = true) (hf : (s.survey d).failed = false) (hc : (s.survey d).cont = true) :
    ((s.survey d).urg = none → (s.survey d).running = none →
      exec (.surveyPeriod d) s = .next (s.setSurvey d { s.survey d with running := some ⟨(s.survey d).channel, false⟩ })) ∧
    ((s.survey d).urg ≠ none → exec (.surveyPeriod d) s = .next (s.setSurvey d { s.survey d with deferred := true })) := by
  have hx : exec (.surveyPeriod d) s = execSurveyPeriod d s := rfl
  refine ⟨fun hu hr => ?_, fun hu => ?_⟩
  · rw [hx, execSurveyPeriod]
    simp [hd, hf, hc, hu, hr]
  · obtain ⟨r, hr⟩ := Option.ne_none_iff_exists'.mp hu
    rw [hx, execSurveyPeriod]
    simp [hd, hf, hc, hr]

theorem surveyStart_runs {w : RegWrite} (h : writeOk s (.survey d) w = true) {v : Nat} (hv : v = (w.merged (svCtrlWord (s.survey d))).toNat)
    (hch : surveyCh d (fld v 0 7) = true) (hp : fld v 16 8 ≠ 0) (hgo : w.ones.getLsbD 9 = true) (hc : bit v 8 = false)
    (hr : (s.survey d).running = none) (hu : (s.survey d).urg = none) (hf : (s.survey d).failed = false) :
    exec (.surveyStart d w) s = .next (s.setSurvey d { s.survey d with
      channel := fld v 0 7, cont := false, preempt := bit v 10, period := fld v 16 8, running := some ⟨fld v 0 7, false⟩ }) := by
  subst hv
  have hx : exec (.surveyStart d w) s = .next (writeSvCtrl d w s).1 := rfl
  rw [hx, writeSvCtrl, guarded_passes h _ (by simp only [Checks.pass, hch, hc, hr, hu, hf]; simpa using hp), State.modSurvey_eq]
  simp only [hgo, hc, if_true]

/-- An urgent request of a running ADC that holds none is taken at once, or preempts. -/
theorem urgentReq_taken (hf : (s.survey d).failed = false) (hd : dieOn s d = true) (hu : (s.survey d).urg = none) (r : UrgReq) :
    ((s.survey d).running = none → (urgentReq s d r).1 = s.setSurvey d { s.survey d with urg := some r }) ∧
    (∀ c : Conv, (s.survey d).running = some c → (s.survey d).preempt = true → (urgentReq s d r).1 = s.setSurvey d { s.survey d with
      urg := some r, running := none, redo := some c.ch, urgPreempted := satInc (s.survey d).urgPreempted 0xFFFF }) := by
  refine ⟨fun hr => ?_, fun c hr hp => ?_⟩
  · simp [urgentReq, hf, hd, hu, hr]
  · simp [urgentReq, hf, hd, hu, hr, hp]

/-- A request that the page or the Hearth makes as it may is `urgentReq`. -/
theorem urgent_asks {r : UrgReq} {by_ : UrgentBy} (hf : (s.survey d).failed = false) (hch : surveyCh d r.ch = true)
    (hby : (∃ w, by_ = .write w ∧ writeOk s (.survey d) w = true ∧ w.full = true ∧ w.value.getLsbD 8 = true ∧
        r = ⟨fld w.value.toNat 0 7, false, w.master.num⟩) ∨ (by_ = .hearth r.ch ∧ r.hearth = true ∧ r.who = 0 ∧ dieOn s d = true ∧ hubOn s = true)) :
    exec (.urgent d by_) s = .next (urgentReq s d r).1 ∧ dieOn s d = true := by
  have hx : exec (.urgent d by_) s = execUrgent d by_ s := rfl
  obtain ⟨w, rfl, hw, hfull, hgo, rfl⟩ | ⟨rfl, hh, hwho, hd, hon⟩ := hby
  · obtain ⟨-, -, ha, -⟩ := (writeOk_iff _ _ _).mp hw
    refine ⟨?_, ?_⟩
    · rw [hx, execUrgent, writeUrgent, guarded_passes hw _ (by simp only [Checks.pass, hfull, hch, hf]; rfl)]
      simp only [hgo, if_true]
    · simp only [pageAnswers, pageOn, PageRef.die, Bool.and_eq_true] at ha
      exact ha.1.1
  · refine ⟨?_, hd⟩
    obtain ⟨ch, hearth, who⟩ := r
    obtain rfl : hearth = true := hh
    obtain rfl : who = 0 := hwho
    rw [hx, execUrgent, hearthAsks, if_pos (by simp [hon, hch])]
    rfl

end

theorem surveyNext_own (s : State) (d : Nat) : ∃ run redo late, surveyNext s d =
    s.setSurvey d { s.survey d with running := run, redo := redo, deferred := late } := by
  rw [surveyNext, State.modSurvey_eq]
  dsimp only
  split
  · split
    · exact ⟨_, _, _, rfl⟩
    · split
      · exact ⟨_, _, _, rfl⟩
      · exact ⟨_, _, _, rfl⟩
  · exact ⟨_, _, _, rfl⟩

theorem surveyNext_running {s : State} {d : Nat} (hu : (s.survey d).urg = none) (hr : (s.survey d).running = none) :
    ((surveyNext s d).survey d).running = (match (s.survey d).redo with
      | some k => some ⟨k, true⟩
      | none => if (s.survey d).deferred then some ⟨(s.survey d).channel, false⟩ else none) := by
  rw [surveyNext, State.modSurvey_eq, State.setSurvey_survey, if_pos rfl]
  simp only [hu, hr]
  cases hk : (s.survey d).redo with
  | some k => rfl
  | none => by_cases hd : (s.survey d).deferred = true <;> simp [hd, hr]

theorem trimsSettle_own (s : State) (d : Nat) (b : Bool) : ∃ old, trimsSettle s d b = s ∨
    trimsSettle s d b = s.setSurvey d { s.survey d with oldTrims := old } := by
  unfold trimsSettle
  split
  · exact ⟨[], .inl rfl⟩
  · exact ⟨_, .inr rfl⟩

/-- What the end of a conversion leaves: the next conversion, and the trims that acted once, change nothing else. -/
structure AfterConv (s t : State) (d : Nat) : Prop where
  cells : t.cells = s.cells
  hdrs : t.hdrs = s.hdrs
  other : ∀ j, j ≠ d → t.survey j = s.survey j
  running : (t.survey d).running = ((surveyNext s d).survey d).running
  own : ∃ run redo late old, t.survey d = { s.survey d with running := run, redo := redo, deferred := late, oldTrims := old }

theorem afterConv (s : State) (d : Nat) (b : Bool) : AfterConv s (trimsSettle (surveyNext s d) d b) d := by
  obtain ⟨old, h⟩ := trimsSettle_own (surveyNext s d) d b
  obtain ⟨run, redo, late, hn⟩ := surveyNext_own s d
  obtain h | h := h
  · rw [h]
    exact ⟨by simp [hn], by simp [hn], fun j hj => by simp [hn, hj], rfl, run, redo, late, (s.survey d).oldTrims, by simp [hn]⟩
  · rw [h]
    exact ⟨by simp [hn], by simp [hn], fun j hj => by simp [hn, hj], by simp, run, redo, late, old, by simp [hn]⟩

/-- An event limited in rate is left out, or logged with the time noted. -/
theorem logLimited_cases (s : State) (key us code sev : Nat) (p : PageRef) (a : List Nat) : logLimited s key us code sev p a = s ∨
    ∃ e, logLimited s key us code sev p a = { logEvent s code sev p a with events := e } := by
  unfold logLimited
  dsimp only
  split
  · exact .inr ⟨_, rfl⟩
  · split
    · exact .inl rfl
    · exact .inr ⟨_, rfl⟩

@[simp] theorem logLimited_surveys (s : State) (key us code sev : Nat) (p : PageRef) (a : List Nat) :
    (logLimited s key us code sev p a).surveys = s.surveys := by
  obtain h | ⟨e, h⟩ := logLimited_cases s key us code sev p a <;> rw [h]
  simp

theorem caused_logLimited {s : State} {q : PageRef} {j : Nat} (key us code sev : Nat) (p : PageRef) (a : List Nat) (h : caused s q j = true) :
    caused (logLimited s key us code sev p a) q j = true := by
  obtain h' | ⟨e, h'⟩ := logLimited_cases s key us code sev p a <;> rw [h']
  · exact h
  · exact caused_logEvent code sev p a h

section
variable {s : State} {d : Nat} {code : BitVec 12}

theorem surveyConversionDone_result {c : Conv} (hd : dieOn s d = true) (hu : (s.survey d).urg = none)
    (hr : (s.survey d).running = some c) (hc : c.ch ≠ 96) : Answers (.surveyConversionDone d code false) s fun t =>
      (t.survey d).resCode = code ∧ (t.survey d).resCh = c.ch ∧ (t.survey d).resSeq = ((s.survey d).resSeq + 1) % 256 ∧
      (t.survey d).resUv = surveyUv s d c.ch code.toNat ∧ (t.survey d).settle = (s.survey d).settle - 1 ∧
      (t.survey d).running = (match (s.survey d).redo with
        | some k => some ⟨k, true⟩ | none => if (s.survey d).deferred then some ⟨(s.survey d).channel, false⟩ else none) ∧
      caused t (.survey d) 0 = true ∧ (∀ j, j ≠ d → t.survey j = s.survey j) ∧ t.cells = s.cells := by
  have hx : exec (.surveyConversionDone d code false) s = execSurveyConversionDone d code false s := rfl
  rw [Answers, hx, execSurveyConversionDone]
  simp only [hd, Bool.not_true, Bool.false_eq_true, if_false, hu, hr, hc]
  refine ⟨_, rfl, ?_⟩
  generalize hv : raise _ (PageRef.survey d) 0 = v
  have hsame : v.cells = s.cells ∧ ∀ j, j ≠ d → v.survey j = s.survey j := by
    rw [← hv]
    exact ⟨by simp, fun j hj => by simp [hj]⟩
  have hcause : caused v (.survey d) 0 = true := by
    rw [← hv]
    exact caused_raise_same _ _ (by decide)
  have hsurvey : ∃ fl, v.survey d = { s.survey d with
      running := none, settle := (s.survey d).settle - 1, resCode := BitVec.ofNat 12 code.toNat, resCh := c.ch,
      resFlags := fl, resSeq := ((s.survey d).resSeq + 1) % 256, resUv := surveyUv s d c.ch code.toNat } := by
    rw [← hv]
    exact ⟨resFlagBits false (decide (0 < (s.survey d).settle)) c.reconv false, by simp [hu]⟩
  obtain ⟨fl, hsurvey⟩ := hsurvey
  obtain ⟨hcells, hhdrs, hother, hrun, run, redo, late, old, hown⟩ := afterConv v d true
  rw [surveyNext_running (by simp [hsurvey, hu]) (by simp [hsurvey]), hsurvey] at hrun
  rw [hsurvey] at hown
  refine ⟨?_, ?_, ?_, ?_, ?_, hrun, (caused_congr hhdrs _ _).trans hcause, fun j hj => (hother j hj).trans (hsame.2 j hj), hcells.trans hsame.1⟩
  all_goals rw [hown]
  simp

theorem surveyConversionDone_urgent {r : UrgReq} (hd : dieOn s d = true) (hu : (s.survey d).urg = some r) (hh : r.hearth = false)
    (hc : r.ch ≠ 96) : Answers (.surveyConversionDone d code false) s fun t =>
      (t.survey d).urgCode = code ∧ (t.survey d).urgCh = r.ch ∧ (t.survey d).urgSeq = ((s.survey d).urgSeq + 1) % 256 ∧
      (t.survey d).urgUv = surveyUv s d r.ch code.toNat ∧ (t.survey d).urg = (s.survey d).urgWait ∧ (t.survey d).urgWait = none ∧
      caused t (.survey d) 1 = true ∧ (∀ j, j ≠ d → t.survey j = s.survey j) ∧ t.cells = s.cells := by
  have hx : exec (.surveyConversionDone d code false) s = execSurveyConversionDone d code false s := rfl
  rw [Answers, hx, execSurveyConversionDone]
  simp only [hd, Bool.not_true, Bool.false_eq_true, if_false, hu, hh, hc]
  refine ⟨_, rfl, ?_⟩
  generalize hv : raise _ (PageRef.survey d) 1 = v
  have hsame : v.cells = s.cells ∧ ∀ j, j ≠ d → v.survey j = s.survey j := by
    rw [← hv]
    exact ⟨by simp, fun j hj => by simp [hj]⟩
  have hcause : caused v (.survey d) 1 = true := by
    rw [← hv]
    exact caused_raise_same _ _ (by decide)
  have hsurvey : v.survey d = { s.survey d with
      urg := (s.survey d).urgWait, urgWait := none, settle := (s.survey d).settle - 1, urgCode := BitVec.ofNat 12 code.toNat, urgCh := r.ch,
      urgFlags := resFlagBits false (decide (0 < (s.survey d).settle)) false false, urgSeq := ((s.survey d).urgSeq + 1) % 256,
      urgUv := surveyUv s d r.ch code.toNat } := by
    rw [← hv]
    simp
  obtain ⟨hcells, hhdrs, hother, -, run, redo, late, old, hown⟩ := afterConv v d true
  rw [hsurvey] at hown
  refine ⟨?_, ?_, ?_, ?_, ?_, ?_, (caused_congr hhdrs _ _).trans hcause, fun j hj => (hother j hj).trans (hsame.2 j hj),
    hcells.trans hsame.1⟩
  all_goals rw [hown]
  simp

theorem overrange_marks (s : State) (d ch code : Nat) (urgent : Bool) :
    (overrange s d ch code urgent).survey d = { s.survey d with ovr := (s.survey d).ovr ||| BitVec.ofNat 128 (2 ^ ch) } ∧
    caused (overrange s d ch code urgent) (.survey d) 2 = true := by
  refine ⟨?_, caused_logLimited _ _ _ _ _ _ (caused_raise_same _ _ (by decide))⟩
  rw [overrange, State.survey, logLimited_surveys, raise_surveys]
  exact (State.setSurvey_survey s d d _).trans (if_pos rfl)

theorem getLsbD_or_two_pow (v : BitVec 128) {k : Nat} (hk : k < 128) : (v ||| BitVec.ofNat 128 (2 ^ k)).getLsbD k = true := by
  rw [BitVec.getLsbD_or, BitVec.getLsbD_ofNat, Nat.testBit_two_pow_self]
  simp [hk]

theorem surveyConversionDone_overrange {c : Conv} (hd : dieOn s d = true) (hu : (s.survey d).urg = none)
    (hr : (s.survey d).running = some c) (hc : c.ch ≠ 96) (hlt : c.ch < 128) : Answers (.surveyConversionDone d code true) s fun t =>
      (t.survey d).resCode = (if code.toNat < 2048 then 0 else 0xFFF) ∧ (t.survey d).settle = 2 ∧ (t.survey d).ovr.getLsbD c.ch = true ∧
      caused t (.survey d) 2 = true := by
  have hx : exec (.surveyConversionDone d code true) s = execSurveyConversionDone d code true s := rfl
  rw [Answers, hx, execSurveyConversionDone]
  simp only [hd, Bool.not_true, Bool.false_eq_true, if_false, if_true, hu, hr, hc]
  refine ⟨_, rfl, ?_⟩
  generalize hn : (if code.toNat < 2048 then 0 else 0xFFF) = n
  generalize ho : overrange _ d c.ch n false = o
  have hmark : (∃ x : SurveySt, o.survey d = { x with ovr := x.ovr ||| BitVec.ofNat 128 (2 ^ c.ch) } ∧ x.resCode = BitVec.ofNat 12 n ∧
      x.settle = 2) ∧ caused o (.survey d) 2 = true := by
    rw [← ho]
    obtain ⟨hx, hcause⟩ := overrange_marks (s.setSurvey d { s.survey d with
      running := none, settle := 2, resCode := BitVec.ofNat 12 n, resCh := c.ch,
      resFlags := resFlagBits true (decide (0 < (s.survey d).settle)) c.reconv false, resSeq := ((s.survey d).resSeq + 1) % 256,
      resUv := surveyUv s d c.ch n }) d c.ch n false
    simp only [hu] at hx hcause
    exact ⟨⟨_, hx, by simp, by simp⟩, hcause⟩
  obtain ⟨⟨x, hox, hcode, hsettle⟩, hcause⟩ := hmark
  obtain ⟨-, hhdrs, -, -, run, redo, late, old, hown⟩ := afterConv (raise o (.survey d) 0) d true
  rw [raise_survey, hox] at hown
  refine ⟨?_, ?_, ?_, (caused_congr hhdrs _ _).trans (caused_raise _ _ hcause)⟩
  · rw [hown]
    simp only [hcode]
    rw [← hn]
    split <;> rfl
  · rw [hown]
    exact hsettle
  · rw [hown]
    exact getLsbD_or_two_pow x.ovr hlt

theorem surveyTimeout_fails {c : Conv} (hd : dieOn s d = true) (hu : (s.survey d).urg = none) (hr : (s.survey d).running = some c)
    (hw : (s.survey d).urgWait = none) : Answers (.surveyTimeout d) s fun t =>
      (t.survey d).failed = true ∧ (t.survey d).running = none ∧ (t.survey d).deferred = false ∧
      (logOpen s = true → newest t 0x1044 [d % 2 ^ 32, c.ch % 2 ^ 32, 0, 0] = true) ∧ ∀ j, j ≠ d → t.survey j = s.survey j := by
  have hx : exec (.surveyTimeout d) s = execSurveyTimeout d s := rfl
  rw [Answers, hx, execSurveyTimeout]
  simp only [hd, Bool.not_true, Bool.false_eq_true, if_false, hu, hr, hw]
  exact ⟨_, rfl, by simp, by simp, by simp, fun ho => newest_logEvent (s := s.setSurvey d _) ho _ _ _ _, fun j hj => by simp [hj]⟩

end

theorem trimDataWrite_sets {d : Nat} {w : RegWrite} {s : State} (h : writeOk s (.survey d) w = true) {v o : Nat}
    (hv : v = (w.merged (trimWord s d)).toNat) (ho : o = trimAt d (s.survey d).trimSel.toNat) (hlo : 0x3000 ≤ fld v 16 16)
    (hhi : fld v 16 16 ≤ 0x5000) : Answers (.trimDataWrite d w) s fun t =>
      calN t o 1 = fld v 0 8 ∧ calN t (o + 2) 2 = fld v 16 16 ∧
      t = { s with cal := t.cal, hdrs := t.hdrs, out := t.out, surveys := t.surveys } ∧ (w.late = false → t.surveys = s.surveys) ∧
      (w.late = true → look none (t.survey d).oldTrims o = some ((look none (s.survey d).oldTrims o).getD (trimWord s d))) ∧
      ∀ a, a ∉ [o, o + 2, o + 3] → calN t a 1 = calN s a 1 := by
  have hx : exec (.trimDataWrite d w) s = .next (writeTrimData d w s).1 := rfl
  rw [Answers, hx, writeTrimData, ← hv, ← ho, guarded_passes h _ (by simp [Checks.pass]; omega)]
  refine ⟨_, rfl, ?_⟩
  obtain ⟨u, hu, hsurveys, hlate, hcal⟩ : ∃ u : State, u = { s with surveys := u.surveys } ∧ (w.late = false → u.surveys = s.surveys) ∧
      (w.late = true → look none (u.survey d).oldTrims o = some ((look none (s.survey d).oldTrims o).getD (trimWord s d))) ∧
      (if (w.late && (look none (s.survey d).oldTrims o).isNone) = true then
        s.modSurvey d (fun x => { x with oldTrims := put none x.oldTrims o (some (trimWord s d)) }) else s) = u := by
    refine ⟨_, ?_, fun hl => ?_, fun hl => ?_, rfl⟩
    · split <;> rfl
    · simp [hl]
    · rw [hl, Bool.true_and]
      cases hk : look none (s.survey d).oldTrims o <;> simp [hk]
  rw [hcal]
  obtain ⟨h1, o1, e1⟩ := setCalN_frame u o 1 (fld v 0 8)
  obtain ⟨h2, o2, e2⟩ := setCalN_frame (setCalN u o 1 (fld v 0 8)) (o + 2) 2 (fld v 16 16)
  have hfields : ∀ n a, calN u n a = calN s n a := fun n a => calN_congr (by rw [hu]) n a
  have hsur : (setCalN (setCalN u o 1 (fld v 0 8)) (o + 2) 2 (fld v 16 16)).surveys = u.surveys := by rw [e2, e1]
  refine ⟨?_, ?_, ?_, fun hl => hsur.trans (hsurveys hl), fun hl => ?_, fun a ha => ?_⟩
  · rw [calN_setCalN_of_disjoint _ _ (by omega), calN_setCalN_same]
    exact Nat.mod_eq_of_lt (by rw [fld]; omega)
  · rw [calN_setCalN_same]
    exact Nat.mod_eq_of_lt (by rw [fld]; omega)
  · rw [e2, e1, hu]
  · rw [State.survey, hsur]
    exact hlate hl
  · simp only [List.mem_cons, List.not_mem_nil, not_or, or_false] at ha
    rw [calN_setCalN_of_disjoint _ _ (by omega), calN_setCalN_of_disjoint _ _ (by omega), hfields]

theorem trimDataWrite_refused {d : Nat} {w : RegWrite} {s : State} (h : writeOk s (.survey d) w = true) {v : Nat}
    (hv : v = (w.merged (trimWord s d)).toNat) (hg : fld v 16 16 < 0x3000 ∨ 0x5000 < fld v 16 16) : Answers (.trimDataWrite d w) s fun t =>
      t.cal = s.cal ∧ (t.hdr (.survey d)).lastRefusal = word [(0, 0x03), (8, 0x74), (24, w.master.num)] := by
  have hx : exec (.trimDataWrite d w) s = .next (writeTrimData d w s).1 := rfl
  have hb : (decide (fld v 16 16 < 0x3000) || decide (0x5000 < fld v 16 16)) = true := by simpa using hg
  rw [Answers, hx, writeTrimData, ← hv, guarded_refuses h (r := .outOfRange) 0x74 (by rw [hb]; exact judge_outOfRange h) (by decide)]
  exact ⟨_, rfl, by simp, recordRefusal_last ..⟩

/-- Settles O29: each command of a survey ADC changes its own record of the ADC, and a trim the bytes of its entry in the image. -/
theorem surveyConversionsRunAndTrims : Obligations.SurveyConversionsRunAndTrims := by
  unfold Obligations.SurveyConversionsRunAndTrims
  refine ⟨⟨fun d s => surveyPeriod_starts, fun d w s h v hv => surveyStart_runs h hv, fun d r by_ s hf hu hch hby => ?_⟩,
    ⟨fun d code s c => surveyConversionDone_result, fun d code s r => surveyConversionDone_urgent,
      fun d code s c => surveyConversionDone_overrange, fun d s c => surveyTimeout_fails⟩,
    fun d w s h v o hv ho => ⟨trimDataWrite_sets h hv ho, trimDataWrite_refused h hv⟩⟩
  obtain ⟨hx, hd⟩ := urgent_asks hf hch hby
  obtain ⟨hidle, hpre⟩ := urgentReq_taken hf hd hu r
  exact ⟨fun hr => by rw [hx, hidle hr], fun c hr hp => by rw [hx, hpre c hr hp]⟩

end Sys2Proof.Machine
end

section
/-!
SUPPORT. What the token pool leaves alone, the throttle and the temperature sensors (chapters 08 and 10).
-/
namespace Sys2Proof.Machine
open Sys2Proof

/-! ### What the pool leaves alone -/

/-- A property of states that no movement of tokens touches: it survives any change of a core, of the ledgers, of a tile's cap and of the pool
but for its two caps, and any event or cause. -/
structure Stable (P : State → Prop) : Prop where
  core : ∀ {t} n v, P t → P (t.setCore n v)
  pool : ∀ {t} (x : TokenSt), x.thermalCap = t.token.thermalCap → x.inletCap = t.token.inletCap → P t → P { t with token := x }
  ledgers : ∀ {t} x, P t → P { t with ledgers := x }
  cap : ∀ {t} k n, P t → P (t.setTile k { t.tile k with cap := n })
  raise : ∀ {t} p i, P t → P (raise t p i)
  logEvent : ∀ {t} code sev p a, P t → P (logEvent t code sev p a)

theorem holds_forEach {P : State → Prop} {α : Type} {f : State → α → State} (hf : ∀ t a, P t → P (f t a)) (l : List α) {t : State} (h : P t) :
    P (forEach l t f) := by
  induction l generalizing t with
  | nil => exact h
  | cons a l ih => exact ih (hf t a h)

section
variable {P : State → Prop} {t : State} (hP : Stable P) (h : P t)
include hP h

theorem modTokOf_stable (n : Nat) (f : CoreTok → CoreTok) : P (modTokOf t n f) := hP.core _ _ h

theorem modTok_stable (f : TokLedger → TokLedger) : P (modTok t f) := by
  unfold modTok
  split
  · exact hP.ledgers _ h
  · exact h

theorem undeliverable_stable (k n : Nat) : P (undeliverable t k n) := by
  unfold undeliverable
  split
  · exact h
  · exact hP.logEvent _ _ _ _ (hP.pool _ rfl rfl h)

theorem noticeNet_stable (n : Nat) (fall : Bool) : P (noticeNet t n fall) := by
  obtain e | e | e := noticeNet_cases t n fall <;> rw [e]
  · exact h
  · exact undeliverable_stable hP h _ n
  · exact hP.pool _ rfl rfl h

theorem noticeTile_stable (k : Nat) (fall : Bool) : P (noticeTile t k fall) := noticeNet_stable hP (noticeNet_stable hP h _ fall) _ fall

theorem liftClamp_stable (n : Nat) : P (liftClamp t n) := by
  unfold liftClamp
  split
  · exact hP.logEvent _ _ _ _ (modTokOf_stable hP h n _)
  · exact h

theorem meetRecall_stable (n : Nat) : P (meetRecall t n) := by
  unfold meetRecall
  dsimp only
  split
  · exact h
  · split
    · exact liftClamp_stable hP (modTokOf_stable hP h n _) n
    · exact h

theorem withdrawTile_stable (k : Nat) : P (withdrawTile t k) := by
  refine holds_forEach (fun t n h => ?_) _ h
  split
  · dsimp only
    split
    · exact liftClamp_stable hP (modTokOf_stable hP h n _) n
    · exact modTokOf_stable hP h n _
  · exact h

theorem tileCheck_stable (k : Nat) : P (tileCheck t k) := by
  unfold tileCheck
  split
  · exact withdrawTile_stable hP h k
  · exact h

theorem planFall_stable (n g : Nat) : P (planFall t n g) := hP.pool _ rfl rfl h

theorem easeNow_stable (n g : Nat) : P (easeNow t n g) := by
  unfold easeNow
  dsimp only
  refine tileCheck_stable hP (meetRecall_stable hP ?_ n) _
  split
  · have hn := noticeTile_stable hP (planFall_stable hP (modTokOf_stable hP h n (fun k => { k with held := g, cap := min k.cap g })) n g) (n / 64) true
    split
    · exact hn
    · refine modTok_stable hP ?_ _
      exact hP.pool _ rfl rfl hn
  · exact h

theorem withdrawReq_stable (n : Nat) : P (withdrawReq t n) := hP.pool _ rfl rfl h

theorem easeTo_stable (n g : Nat) : P (easeTo t n g) := by
  unfold easeTo
  dsimp only
  split
  · exact noticeTile_stable hP (planFall_stable hP (modTokOf_stable hP (withdrawReq_stable hP h n) n _) n g) _ true
  · exact easeNow_stable hP (withdrawReq_stable hP h n) n g

theorem easeStopped_stable (n : Nat) : P (easeStopped t n) := by
  unfold easeStopped
  split
  · exact h
  · exact liftClamp_stable hP (easeTo_stable hP h n 1) n

theorem haltCore_stable (n : Nat) (st : CoreState) : P (haltCore t n st) := easeStopped_stable hP (hP.core _ _ h) n

theorem rejudge_stable : P (rejudge t) := by
  unfold rejudge
  dsimp only
  refine holds_forEach (P := P) (fun t r h => ?_) _ (hP.pool { t.token with aside := [] } rfl rfl h)
  split
  · exact h
  · split
    · exact hP.pool _ rfl rfl h
    · exact hP.pool _ rfl rfl h

/-! ### The budget (R256 to R261, R290 to R292) -/

theorem budgetMoved_stable : P (budgetMoved t) := by
  unfold budgetMoved
  dsimp only
  split
  · exact h
  · exact hP.raise _ _ (hP.logEvent _ _ _ _ (hP.pool _ rfl rfl h))

theorem clampCores_stable : P (clampCores t) :=
  holds_forEach (P := P) (fun _ k h => noticeTile_stable hP h k true) _ (hP.pool { t.token with clampAll := true } rfl rfl h)

theorem baseCovered_stable : P (baseCovered t) := by
  unfold baseCovered
  split
  · exact hP.pool _ rfl rfl h
  · exact h

theorem setRecall_stable (c l : Nat) (tile : Bool) : P (setRecall t c l tile) := modTokOf_stable hP h c _

theorem recallGlobal_stable (cause : Nat) : P (recallGlobal t cause) := by
  unfold recallGlobal
  dsimp only
  split
  · exact h
  · refine hP.raise _ _ (hP.logEvent _ _ _ _ (hP.pool _ rfl rfl (holds_forEach ?_ _ ?_)))
    · exact fun _ c h => setRecall_stable hP h c _ false
    split
    · exact hP.raise _ _ (hP.logEvent _ _ _ _ (hP.pool _ rfl rfl h))
    · exact h

theorem withdrawGlobal_stable : P (withdrawGlobal t) := by
  unfold withdrawGlobal
  refine hP.pool _ rfl rfl (holds_forEach (fun t c h => ?_) _ h)
  split
  · dsimp only
    split
    · exact liftClamp_stable hP (modTokOf_stable hP h c _) c
    · exact modTokOf_stable hP h c _
  · exact h

theorem budgetUpdate_stable (cause : Nat) : P (budgetUpdate t cause) := by
  unfold budgetUpdate
  dsimp only
  have hm := budgetMoved_stable hP h
  split
  · split
    · exact clampCores_stable hP hm
    · exact hm
  · have hb := baseCovered_stable hP (modTok_stable hP hm (fun k => tokBudget (budgetOf t) (tokRetire (budgetMoved t).token.retire k)))
    split
    · exact recallGlobal_stable hP hb cause
    · split
      · exact withdrawGlobal_stable hP hb
      · exact hb

theorem setRetired_stable (n : Nat) : P (setRetired t n) := by
  unfold setRetired
  split
  · exact h
  · exact budgetUpdate_stable hP (hP.pool { t.token with retire := n } rfl rfl h) 2

theorem tileRecall_stable (k : Nat) : P (tileRecall t k) := by
  unfold tileRecall
  dsimp only
  split
  · split
    · exact withdrawTile_stable hP h k
    · exact h
  · refine hP.raise _ _ (hP.logEvent _ _ _ _ (holds_forEach ?_ _ h))
    exact fun _ c h => setRecall_stable hP h c _ true

theorem capUpdate_stable (k : Nat) : P (capUpdate t k) := by
  unfold capUpdate
  dsimp only
  split
  · exact h
  · exact rejudge_stable hP (tileRecall_stable hP (hP.logEvent _ _ _ _ (hP.cap _ _ h)) k)

theorem capApply_stable (n : Nat) : P (capApply t n) := by
  unfold capApply
  have hr := hP.raise (.net n) 3 (setRetired_stable hP h (retiredOf t))
  dsimp only
  split
  · exact capUpdate_stable hP hr _
  · exact hr

end

/-! ### Properties that are stable -/

theorem stable_therm (x : ThermSt) : Stable (fun t => t.therm = x) :=
  ⟨fun _ _ h => h, fun _ _ _ h => h, fun _ h => h, fun _ _ h => h, fun _ _ h => by rwa [raise_therm], fun _ _ _ _ h => by rwa [logEvent_therm]⟩

theorem stable_thermalCap (n : Nat) : Stable (fun t => t.token.thermalCap = n) :=
  ⟨fun _ _ h => h, fun _ hc _ h => hc.trans h, fun _ h => h, fun _ _ h => h, fun _ _ h => by rwa [raise_token],
    fun _ _ _ _ h => by rwa [logEvent_token]⟩

theorem stable_caused (p : PageRef) (i : Nat) : Stable (fun t => caused t p i = true) :=
  ⟨fun _ _ h => h, fun _ _ _ h => h, fun _ h => h, fun _ _ h => h, fun _ _ h => caused_raise _ _ h, fun _ _ _ _ h => caused_logEvent _ _ _ _ h⟩

/-! ### Frames of causes and events -/

theorem raise_frame (s : State) (p : PageRef) (i : Nat) : ∃ h o, raise s p i = { s with hdrs := h, out := o } :=
  ⟨_, _, raiseBits_frame s p _⟩

theorem logEvent_frame (s : State) (code sev : Nat) (p : PageRef) (a : List Nat) :
    ∃ e h o, logEvent s code sev p a = { s with events := e, hdrs := h, out := o } := by
  obtain hs | ⟨e, hs⟩ | ⟨e, i, hs⟩ := logEvent_cases s code sev p a <;> rw [hs]
  · exact ⟨_, _, _, rfl⟩
  · exact ⟨_, _, _, rfl⟩
  · obtain ⟨h, o, ho⟩ := raise_frame { s with events := e } .event i
    exact ⟨e, h, o, ho⟩

/-! ### Levels of the zones (R306, R330) -/

/-- `t` is `s` with other levels, and what is told of them. -/
def Relevelled (s t : State) : Prop :=
  ∃ l k e h o, t = { s with therm := { s.therm with levels := l, heldZones := k }, events := e, hdrs := h, out := o }

theorem Relevelled.refl (s : State) : Relevelled s s := ⟨_, _, _, _, _, rfl⟩

theorem Relevelled.trans {s t u : State} (h : Relevelled s t) (h' : Relevelled t u) : Relevelled s u := by
  obtain ⟨l, k, e, a, o, rfl⟩ := h
  obtain ⟨l', k', e', a', o', rfl⟩ := h'
  exact ⟨l', k', e', a', o', rfl⟩

theorem Relevelled.logEvent {s t : State} (h : Relevelled s t) (code sev : Nat) (p : PageRef) (a : List Nat) :
    Relevelled s (logEvent t code sev p a) := by
  obtain ⟨e, x, o, ho⟩ := logEvent_frame t code sev p a
  exact h.trans ⟨t.therm.levels, t.therm.heldZones, e, x, o, ho⟩

theorem Relevelled.raise {s t : State} (h : Relevelled s t) (p : PageRef) (i : Nat) : Relevelled s (raise t p i) := by
  obtain ⟨x, o, ho⟩ := raise_frame t p i
  exact h.trans ⟨t.therm.levels, t.therm.heldZones, t.events, x, o, ho⟩

section
variable {s t : State} (h : Relevelled s t)
include h

theorem Relevelled.zoneReadings (z : Nat) : Machine.zoneReadings t z = Machine.zoneReadings s z := by
  obtain ⟨l, k, e, a, o, rfl⟩ := h
  rfl

theorem Relevelled.zoneHeld (z : Nat) : Machine.zoneHeld t z = Machine.zoneHeld s z := by
  obtain ⟨l, k, e, a, o, rfl⟩ := h
  rfl

theorem Relevelled.threshold : Machine.threshold t.therm = Machine.threshold s.therm ∧ t.therm.hyst = s.therm.hyst := by
  obtain ⟨l, k, e, a, o, rfl⟩ := h
  exact ⟨rfl, rfl⟩

theorem Relevelled.levelUp (r : List (Bool × Int)) : Machine.levelUp t.therm r = Machine.levelUp s.therm r := by
  rw [Machine.levelUp, Machine.levelUp, h.threshold.1]

theorem Relevelled.levelDown (r : List (Bool × Int)) (n : Nat) : Machine.levelDown t.therm r n = Machine.levelDown s.therm r n := by
  induction n with
  | zero => rfl
  | succ n ih => rw [Machine.levelDown, Machine.levelDown, h.threshold.1, h.threshold.2, ih]

theorem judgeLevel_congr {z : Nat} (hz : levelOf t z = levelOf s z) : judgeLevel t z = judgeLevel s z := by
  rw [judgeLevel, judgeLevel, h.zoneReadings, h.zoneHeld, h.levelUp, h.levelDown, hz]

end

theorem judgeZone_judges {s : State} {z : Nat} (h : judgeLevel s z < 3) : Relevelled s (judgeZone s z) ∧
    ∀ j, levelOf (judgeZone s z) j = if j = z then judgeLevel s z else levelOf s j := by
  unfold judgeZone
  dsimp only
  generalize hk : (if (zoneHeld s z && !s.therm.heldZones.contains z) = true then s.therm.heldZones ++ [z]
    else if zoneHeld s z = true then s.therm.heldZones else s.therm.heldZones.filter (fun x => decide (x ≠ z))) = k
  generalize hu : (if (zoneHeld s z && !s.therm.heldZones.contains z) = true then
    logEvent { s with therm := { s.therm with heldZones := k } } 0x2008 3 .therm
      [z, zoneFailed { s with therm := { s.therm with heldZones := k } } z, judgeLevel s z, 0]
    else { s with therm := { s.therm with heldZones := k } }) = u
  have hrel : Relevelled s u ∧ u.therm.levels = s.therm.levels := by
    have h1 : Relevelled s { s with therm := { s.therm with heldZones := k } } := ⟨s.therm.levels, k, s.events, s.hdrs, s.out, rfl⟩
    rw [← hu]
    split
    · exact ⟨h1.logEvent _ _ _ _, by rw [logEvent_therm]⟩
    · exact ⟨h1, rfl⟩
  obtain ⟨hr, hl⟩ := hrel
  split
  · next he =>
    refine ⟨hr, fun j => ?_⟩
    rw [levelOf, hl]
    split
    · next hj => rw [he, hj, levelOf]
    · rfl
  · have hne : ¬ judgeLevel s z = 3 := by omega
    rw [if_neg hne]
    have hp : Relevelled s { u with therm := { u.therm with levels := put 0 u.therm.levels z (judgeLevel s z) } } :=
      hr.trans ⟨_, u.therm.heldZones, u.events, u.hdrs, u.out, rfl⟩
    have hv : ∀ j, look 0 (put 0 u.therm.levels z (judgeLevel s z)) j = if j = z then judgeLevel s z else levelOf s j := by
      intro j
      rw [look_put, hl, levelOf]
    split
    · exact ⟨(hp.logEvent _ _ _ _).raise _ _, fun j => by rw [levelOf, raise_therm, logEvent_therm]; exact hv j⟩
    · exact ⟨hp.logEvent _ _ _ _, fun j => by rw [levelOf, logEvent_therm]; exact hv j⟩

/-- Each zone of a list without repetition is judged on its own level. -/
theorem judgeZones_judge (l : List Nat) (hn : l.Nodup) {s t : State} (hst : Relevelled s t) (hl : ∀ z ∈ l, levelOf t z = levelOf s z)
    (h : ∀ z ∈ l, judgeLevel s z < 3) : Relevelled s (forEach l t judgeZone) ∧
    ∀ j, levelOf (forEach l t judgeZone) j = if j ∈ l then judgeLevel s j else levelOf t j := by
  induction l generalizing t with
  | nil => exact ⟨hst, fun j => rfl⟩
  | cons z l ih =>
    obtain ⟨hz, hn⟩ := List.nodup_cons.1 hn
    have hj := judgeLevel_congr hst (hl z (by simp))
    obtain ⟨h1, h2⟩ := judgeZone_judges (s := t) (z := z) (by rw [hj]; exact h z (by simp))
    obtain ⟨i1, i2⟩ := ih hn (hst.trans h1) (fun y hy => by
      rw [h2, if_neg (fun e => hz (by rwa [← e]))]
      exact hl y (by simp [hy])) (fun y hy => h y (by simp [hy]))
    refine ⟨i1, fun j => ?_⟩
    change levelOf (forEach l (judgeZone t z) judgeZone) j = _
    rw [i2, h2, hj]
    by_cases e : j = z
    · simp [e, hz]
    · simp [e]

/-! ### The throttle (R310, R314, Table 10.2) -/

theorem capDown_frame (s : State) : (capDown s).token.thermalCap = max 1232 (s.token.thermalCap - 394) ∧
    (capDown s).therm.levels = s.therm.levels ∧ (capDown s).therm.throttle = s.therm.throttle := by
  unfold capDown setThermalCap
  have h1 := fun t => budgetUpdate_stable (t := t) (stable_thermalCap _) rfl 0
  have h2 := fun t => budgetUpdate_stable (t := t) (stable_therm _) rfl 0
  dsimp only
  exact ⟨h1 _, by rw [h2], by rw [h2]⟩

theorem setThermalCap_frame (s : State) (n : Nat) : (setThermalCap s n).token.thermalCap = n ∧ (setThermalCap s n).therm = s.therm :=
  ⟨budgetUpdate_stable (stable_thermalCap _) rfl 0, budgetUpdate_stable (stable_therm _) rfl 0⟩

theorem anyHot_congr {s t : State} (h : t.therm.levels = s.therm.levels) : anyHot t = anyHot s := by
  unfold anyHot levelOf
  rw [h]

theorem noted_cases (old s : State) : noted old s = raise s .boot 1 ∨ noted old s = s := by
  unfold noted
  split
  · exact .inl rfl
  · exact .inr rfl

theorem noted_therm (old s : State) : (noted old s).therm = s.therm ∧ (noted old s).token = s.token := by
  obtain e | e := noted_cases old s <;> simp [e]

theorem caused_noted (old : State) {s : State} {p : PageRef} {i : Nat} (h : caused s p i = true) : caused (noted old s) p i = true := by
  obtain e | e := noted_cases old s <;> rw [e]
  · exact caused_raise _ _ h
  · exact h

/-- The throttle state that follows a judgement of the zones. -/
def throttleAfter (x : Throttle) (hot : Bool) : Throttle :=
  match x, hot with
  | .idle, true => .requested
  | .requested, false => .idle
  | .enforcing, false => .relaxing
  | .relaxing, true => .enforcing
  | x, _ => x

theorem throttleJudge_follows (s : State) : (throttleJudge s).therm.levels = s.therm.levels ∧
    (throttleJudge s).therm.throttle = throttleAfter s.therm.throttle (anyHot s) ∧
    (s.therm.throttle = .idle → anyHot s = true → caused (throttleJudge s) .therm 1 = true ∧
      (throttleJudge s).token.thermalCap = s.token.thermalCap) := by
  have hreq : (throttleRequest s).therm.levels = s.therm.levels ∧ (throttleRequest s).therm.throttle = .requested ∧
      caused (throttleRequest s) .therm 1 = true ∧ (throttleRequest s).token.thermalCap = s.token.thermalCap := by
    unfold throttleRequest
    refine ⟨by simp, by simp, caused_raise _ _ (caused_raise_same _ _ (by decide)), by simp⟩
  have hdown := capDown_frame { s with therm := { s.therm with throttle := .enforcing } }
  unfold throttleJudge
  generalize anyHot s = b
  rcases hx : s.therm.throttle <;> cases b <;> simp [throttleAfter, hreq, hdown, hx]

theorem zoneJudge_judges (s : State) (hh : hubOn s = true) (hz : ∀ z < 10, judgeLevel s z < 3) : Answers .zoneJudge s fun t =>
    (∀ z < 10, levelOf t z = judgeLevel s z) ∧ t.therm.throttle = throttleAfter s.therm.throttle (anyHot t) ∧
    (s.therm.throttle = .idle → anyHot t = true → caused t .therm 1 = true ∧ t.token.thermalCap = s.token.thermalCap) := by
  have hx : exec .zoneJudge s = execZoneJudge s := rfl
  rw [Answers, hx, execZoneJudge]
  simp only [hh, Bool.not_true, Bool.false_eq_true, if_false]
  refine ⟨_, rfl, ?_⟩
  obtain ⟨hrel, hlev⟩ := judgeZones_judge (List.range 10) List.nodup_range (Relevelled.refl s) (fun _ _ => rfl) (fun z h => hz z (List.mem_range.1 h))
  generalize forEach (List.range 10) s judgeZone = u at hrel hlev ⊢
  obtain ⟨h1, h2, h3⟩ := throttleJudge_follows u
  have ht : u.therm.throttle = s.therm.throttle ∧ u.token = s.token := by
    obtain ⟨_, _, _, _, _, rfl⟩ := hrel
    exact ⟨rfl, rfl⟩
  obtain ⟨n1, n2⟩ := noted_therm s (throttleJudge u)
  rw [anyHot_congr (s := u) (by rw [n1, h1]), n1, n2]
  refine ⟨fun z h => ?_, by rw [h2, ht.1], fun hi ha => ?_⟩
  · rw [levelOf, n1, h1, ← levelOf, hlev, if_pos (List.mem_range.2 h)]
  · obtain ⟨c1, c2⟩ := h3 (ht.1.trans hi) ha
    exact ⟨caused_noted _ c1, by rw [c2, ht.2]⟩

theorem graceExpire_enforces (s : State) (hr : s.therm.throttle = .requested) (ha : anyHot s = true) : Answers .graceExpire s fun t =>
    t.therm.throttle = .enforcing ∧ t.token.thermalCap = max 1232 (s.token.thermalCap - 394) ∧ caused t .therm 2 = true ∧
    t.therm.levels = s.therm.levels := by
  have hx : exec .graceExpire s = execGraceExpire s := rfl
  rw [Answers, hx, execGraceExpire]
  simp only [hr, ha, decide_true, Bool.and_self, if_true]
  refine ⟨_, rfl, ?_⟩
  obtain ⟨h1, h2, h3⟩ := capDown_frame { s with therm := { s.therm with throttle := .enforcing, enforced := satInc s.therm.enforced 0xFFFF } }
  refine ⟨?_, ?_, caused_raise_same _ _ (by decide), ?_⟩
  · rw [raise_therm, logEvent_therm, h3]
  · rw [raise_token, logEvent_token, h1]
  · rw [raise_therm, logEvent_therm, h2]

theorem enforceStep_steps (s : State) (he : s.therm.throttle = .enforcing) : Answers .enforceStep s fun t =>
    t.therm.throttle = .enforcing ∧ t.token.thermalCap = max 1232 (s.token.thermalCap - 394) ∧ t.therm.levels = s.therm.levels := by
  have hx : exec .enforceStep s = execEnforceStep s := rfl
  rw [Answers, hx, execEnforceStep, if_pos he]
  obtain ⟨h1, h2, h3⟩ := capDown_frame s
  exact ⟨_, rfl, h3.trans he, h1, h2⟩

theorem relaxStep_steps (s : State) (hr : s.therm.throttle = .relaxing) : Answers .relaxStep s fun t =>
    t.token.thermalCap = min 4928 (s.token.thermalCap + 394) ∧ t.therm.levels = s.therm.levels ∧
    (s.token.thermalCap + 394 < 4928 → t.therm.throttle = .relaxing) ∧
    (4928 ≤ s.token.thermalCap + 394 → t.therm.throttle = .idle ∧ caused t .therm 5 = true) := by
  have hx : exec .relaxStep s = execRelaxStep s := rfl
  rw [Answers, hx, execRelaxStep, if_pos hr]
  obtain ⟨h1, h2⟩ := setThermalCap_frame s (min 4928 (s.token.thermalCap + 394))
  dsimp only
  split
  · exact ⟨_, rfl, h1, by rw [h2], fun _ => by rw [h2, hr], fun h => by omega⟩
  · refine ⟨_, rfl, ?_, ?_, fun h => by omega, fun _ => ⟨?_, caused_raise_same _ _ (by decide)⟩⟩
    · rw [raise_token, logEvent_token, h1]
    · rw [raise_therm, logEvent_therm, h2]
    · rw [raise_therm, logEvent_therm]

/-- Settles O33: each zone is judged on its own level, and the throttle state and the thermal cap follow Table 10.2. -/
theorem zonesThrottleAndThermalCap : Obligations.ZonesThrottleAndThermalCap := by
  unfold Obligations.ZonesThrottleAndThermalCap
  refine ⟨fun s hh hz => ?_, graceExpire_enforces, enforceStep_steps, relaxStep_steps⟩
  obtain ⟨t, ht, h1, h2, h3⟩ := zoneJudge_judges s hh hz
  refine ⟨t, ht, h1, ?_, h3⟩
  rw [h2]
  cases s.therm.throttle <;> cases anyHot t <;> rfl

/-! ### Sensors (R303, R304, R329, R428) -/

theorem sensor_modSensor (s : State) (k j : Nat) (f : SensorSt → SensorSt) :
    (s.modSensor k f).sensor j = if j = k then f (s.sensor k) else s.sensor j := by
  rw [State.sensor, State.modSensor, modAt, look_put]
  rfl

theorem sensor_congr {s t : State} (h : t.therm = s.therm) (k : Nat) : t.sensor k = s.sensor k := by
  rw [State.sensor, h, State.sensor]

theorem reading_of_failed {s : State} {k : Nat} (h : (s.sensor k).failed = true) : reading s k = none := by
  simp [reading, h]

/-- A sensor that had not failed fails. -/
theorem failSensor_fails {s : State} {k : Nat} (h : (s.sensor k).failed = false) (reason : Nat) :
    ((failSensor s k reason).sensor k).failed = true ∧ caused (failSensor s k reason) .therm 4 = true ∧
    (failSensor s k reason).cores = s.cores ∧ ∀ j, j ≠ k → (failSensor s k reason).sensor j = s.sensor j := by
  unfold failSensor
  rw [if_neg (by simp [h])]
  have hs : ∀ j, (raise (logEvent (s.modSensor k fun x => { x with failed := true }) 0x2007 2 .therm
      [k, reason, (match (s.sensor k).temp with | some v => twos 16 v | none => 0x8000), 0]) .therm 4).sensor j =
      if j = k then { s.sensor k with failed := true } else s.sensor j := fun j => by
    rw [sensor_congr (raise_therm _ _ _), sensor_congr (logEvent_therm _ _ _ _ _), sensor_modSensor]
  refine ⟨?_, caused_raise_same _ _ (by decide), ?_, fun j hj => ?_⟩
  · exact (congrArg _ (hs k)).trans (by rw [if_pos rfl])
  · rw [raise_cores, logEvent_cores]
    rfl
  · exact (hs j).trans (if_neg hj)

/-- What survives a new state of the stack, an event and a cause survives the judgement of a stack's heat. -/
theorem refreshUpdate_holds {P : State → Prop} {s : State} {n : Nat} (hs : ∀ x, P s → P (s.setStack n x))
    (hr : ∀ t p i, P t → P (raise t p i)) (hl : ∀ t code sev p a, P t → P (logEvent t code sev p a)) (h : P s) (v : Int) :
    P (refreshUpdate s n v) := by
  unfold refreshUpdate
  dsimp only
  split
  · split
    · exact hs _ h
    · exact hr _ _ _ (hl _ _ _ _ _ (hs _ h))
  · split
    · split
      · exact hl _ _ _ _ _ (hs _ h)
      · exact hs _ h
    · exact h

theorem refreshUpdate_therm (s : State) (n : Nat) (v : Int) : (refreshUpdate s n v).therm = s.therm :=
  refreshUpdate_holds (P := fun t => t.therm = s.therm) (fun _ h => h) (fun _ _ _ h => by rwa [raise_therm]) (fun _ _ _ _ _ h => by rwa [logEvent_therm]) rfl v

theorem refreshUpdate_cores (s : State) (n : Nat) (v : Int) : (refreshUpdate s n v).cores = s.cores :=
  refreshUpdate_holds (P := fun t => t.cores = s.cores) (fun _ h => h) (fun _ _ _ h => by rwa [raise_cores]) (fun _ _ _ _ _ h => by rwa [logEvent_cores]) rfl v

theorem caused_refreshUpdate {s : State} {p : PageRef} {i : Nat} (h : caused s p i = true) (n : Nat) (v : Int) :
    caused (refreshUpdate s n v) p i = true :=
  refreshUpdate_holds (P := fun t => caused t p i = true) (fun _ h => h) (fun _ _ _ h => caused_raise _ _ h) (fun _ _ _ _ _ h => caused_logEvent _ _ _ _ h) h v

/-- A stack that stands at 85 degrees for the first time is hot, with event 0x4007. -/
theorem refreshUpdate_hot {s : State} {n : Nat} {v : Int} (hv : 340 ≤ v) (hh : (s.stack n).hot = false) (hr : (s.stack n).retiring = false) :
    ((refreshUpdate s n v).stack n).hot = true ∧
    (logOpen s = true → newest (refreshUpdate s n v) 0x4007 [n % 2 ^ 32, 1, twos 16 v % 2 ^ 32, 0] = true) := by
  unfold refreshUpdate
  simp only [hv, hh, hr, decide_true, Bool.not_false, Bool.and_self, if_true, Bool.false_eq_true, if_false]
  refine ⟨?_, fun ho => ?_⟩
  · rw [State.stack, raise_mem, logEvent_mem, State.setStack, look_put, if_pos rfl]
  · rw [newest_raise]
    exact newest_logEvent (s := s.setStack n _) ho 0x4007 0 (.mem n) [n, 1, twos 16 v, 0]

theorem sensorReading_eq {s : State} {k : Nat} {v : Int} (hk : k < 128) (hon : sensorOn s k = true) :
    exec (.sensorReading k v) s = execSensorReading k v s ∧ (decide (128 ≤ k) || !sensorOn s k) = false :=
  ⟨rfl, by simp [hon, hk]⟩

/-- A reading in range that agrees with its zone is the sensor's. -/
theorem sensorReading_agrees {s : State} {k : Nat} {v : Int} (hk : k < 128) (hon : sensorOn s k = true) (hd : disagrees s k v = false)
    (h1 : -160 ≤ v) (h2 : v ≤ 600) : exec (.sensorReading k v) s = .next (if sensorIsStack k then
      refreshUpdate (s.modSensor k (fun x => { x with temp := some v, differs := 0 })) (sensorDie k) v
      else s.modSensor k (fun x => { x with temp := some v, differs := 0 })) := by
  obtain ⟨hx, hc⟩ := sensorReading_eq (v := v) hk hon
  have hr : (decide (v < -160) || decide (600 < v)) = false := by simp [h1, h2]
  rw [hx, execSensorReading, hc]
  simp [hd, hr, sensor_modSensor]

theorem sensorReading_outOfRange {s : State} {k : Nat} {v : Int} (hk : k < 128) (hon : sensorOn s k = true) (hv : v < -160 ∨ 600 < v)
    (hf : (s.sensor k).failed = false) : Answers (.sensorReading k v) s fun t =>
      (t.sensor k).failed = true ∧ reading t k = none ∧ caused t .therm 4 = true ∧ t.cores = s.cores := by
  obtain ⟨hx, hc⟩ := sensorReading_eq (v := v) hk hon
  have hr : (decide (v < -160) || decide (600 < v)) = true := by simpa using hv
  rw [Answers, hx, execSensorReading, hc]
  simp only [hr, if_true, Bool.false_eq_true, if_false]
  refine ⟨_, rfl, ?_⟩
  generalize hu : s.modSensor k _ = u
  have huf : (u.sensor k).failed = false := by rw [← hu, sensor_modSensor, if_pos rfl]; exact hf
  have huc : u.cores = s.cores := by rw [← hu]; rfl
  obtain ⟨h1, h2, h3, _⟩ := failSensor_fails huf 0
  split
  · have hs : ((refreshUpdate (failSensor u k 0) (sensorDie k) v).sensor k).failed = true := by
      rw [sensor_congr (refreshUpdate_therm _ _ _), h1]
    exact ⟨hs, reading_of_failed hs, caused_refreshUpdate h2 _ _, by rw [refreshUpdate_cores, h3, huc]⟩
  · exact ⟨h1, reading_of_failed h1, h2, h3.trans huc⟩

theorem sensorReading_hot {s : State} {k : Nat} {v : Int} (h1 : 96 ≤ k) (h2 : k < 112) (hon : sensorOn s k = true) (hd : disagrees s k v = false)
    (hv : 340 ≤ v) (hv' : v ≤ 600) (hh : (s.stack (sensorDie k)).hot = false) (hr : (s.stack (sensorDie k)).retiring = false) :
    Answers (.sensorReading k v) s fun t => (t.sensor k).temp = some v ∧ (t.stack (sensorDie k)).hot = true ∧
      (logOpen s = true → newest t 0x4007 [sensorDie k % 2 ^ 32, 1, twos 16 v % 2 ^ 32, 0] = true) := by
  rw [Answers, sensorReading_agrees (by omega) hon hd (by omega) hv', if_pos (by simp [sensorIsStack, h1, h2])]
  obtain ⟨hot, hnew⟩ := refreshUpdate_hot (s := s.modSensor k (fun x => { x with temp := some v, differs := 0 })) (n := sensorDie k) hv hh hr
  exact ⟨_, rfl, by rw [sensor_congr (refreshUpdate_therm _ _ _), sensor_modSensor, if_pos rfl], hot, hnew⟩

/-- Settles O32: a reading reaches its sensor, and one out of range or missing fails it. -/
theorem sensorsReadAndFail : Obligations.SensorsReadAndFail := by
  unfold Obligations.SensorsReadAndFail
  refine ⟨fun k v s hk hon => ⟨fun hst hd h1 h2 => ?_, sensorReading_outOfRange hk hon⟩, fun k v s => sensorReading_hot, fun k s hk hon hf => ?_⟩
  · rw [sensorReading_agrees hk hon hd h1 h2, hst]
    rfl
  · have hx : exec (.sensorMissing k) s = execSensorMissing k s := rfl
    rw [Answers, hx, execSensorMissing, if_pos (by simp [hk, hon])]
    obtain ⟨h1, h2, _, h3⟩ := failSensor_fails hf 1
    exact ⟨_, rfl, h1, reading_of_failed h1, h2, h3⟩

end Sys2Proof.Machine
end

section
/-!
SUPPORT. Transition steps, nets, clocks and bring-up (chapters 02 and 05).
-/
namespace Sys2Proof.Machine
open Sys2Proof

/-! ### Masks of tiles -/

theorem mem_bitsOf {k v t : Nat} : t ∈ bitsOf k v ↔ t < k ∧ v.testBit t = true := by
  rw [bitsOf, List.mem_filter, List.mem_range, bit, Nat.testBit_eq_decide_div_mod_eq]

theorem filter_bitsOf_sorted (k v : Nat) (p : Nat → Bool) : ((bitsOf k v).filter p).SortedLT :=
  (((List.pairwise_lt_range (n := k)).filter _).filter _).sortedLT

/-- The mask of tiles in rising order names no other tile. -/
theorem mem_of_mem_maskOf {l : List Nat} (hl : l.SortedLT) {t : Nat} (h : t ∈ bitsOf 8 (maskOf l).toNat) : t ∈ l := by
  rw [mem_bitsOf, maskOf, BitVec.toNat_ofNat, Nat.testBit_mod_two_pow, Bool.and_eq_true] at h
  rw [← Nat.bitIndices_sum_map_two_pow hl, Nat.mem_bitIndices]
  exact h.2.2

theorem mem_tilesIn {s : State} {m k : Nat} {x : TileState} (h : k ∈ tilesIn s m x) : (s.tile k).st = x := by
  simpa using (List.mem_filter.1 h).2

/-! ### Steps of a transition (R37, R57) -/

theorem setResult_frame (s : State) (o c w r : Nat) : (setResult s o c w r).tiles = s.tiles ∧
    (setResult s o c w r).power = { s.power with outcome := o, code := c, requester := w % 4, reached := BitVec.ofNat 8 r } := by
  unfold setResult
  dsimp only
  split <;> simp

theorem noted_tiles (old s : State) : (noted old s).tiles = s.tiles ∧ (noted old s).power = s.power := by
  obtain e | e := noted_cases old s <;> simp [e]

theorem tile_congr {s t : State} (h : t.tiles = s.tiles) (k : Nat) : t.tile k = s.tile k := by
  rw [State.tile, h, State.tile]

theorem finishTrans_ends {s : State} {tr : Trans} (ht : s.power.trans = some tr) (hp : s.power.pending = none) (o c : Nat) :
    (finishTrans s o c).tiles = s.tiles ∧ (finishTrans s o c).power.trans = none ∧ (finishTrans s o c).power.outcome = o ∧
    (finishTrans s o c).power.requester = tr.req.requester % 4 := by
  unfold finishTrans
  simp only [ht, hp]
  obtain ⟨h1, h2⟩ := setResult_frame { s with power := { s.power with trans := none, pending := none } } o c tr.req.requester
    (reachedMask { s with power := { s.power with trans := none, pending := none } } tr.req)
  rw [h2, h1]
  exact ⟨rfl, rfl, rfl, rfl⟩

theorem signalRise_tiles (old s : State) (vs : List Nat) : (signalRise old s vs).tiles = s.tiles := by
  unfold signalRise
  refine forEach_keeps State.tiles vs _ (fun t v _ => ?_) s
  split <;> rfl

theorem modTok_tiles (s : State) (f : TokLedger → TokLedger) : (modTok s f).tiles = s.tiles := by
  unfold modTok
  split <;> rfl

theorem chargeBase_tiles (s : State) (k : Nat) : (chargeBase s k).tiles = s.tiles := by
  unfold chargeBase noticeTile
  rw [modTok_tiles, noticeNet_tiles, noticeNet_tiles]
  refine forEach_keeps State.tiles _ _ (fun t c _ => ?_) s
  rfl

/-- A step towards Stoked leaves a Stoked tile as it is. -/
theorem beginStep_stoked {s : State} {k : Nat} (h : (s.tile k).st = .stoked) {r : PwrReq} (hr : r.target = 4) {failed : Nat} {p : PStep}
    (hready : isReady s = true) (hp : nextStep s r failed = some p) : ((beginStep s p).tile k).st = .stoked := by
  simp only [nextStep, hready, Bool.not_true, Bool.false_eq_true, if_false, hr, decide_true, Bool.or_true, if_true] at hp
  split at hp
  · injection hp with hp
    subst hp
    rw [beginStep, tile_congr (signalRise_tiles _ _ _)]
    refine (congrArg TileSt.st (forEach_keeps (fun u => u.tile k) _ _ (fun u t ht => ?_) s)).trans h
    have hne : k ≠ t := fun e => by
      have := mem_tilesIn (mem_of_mem_maskOf (filter_bitsOf_sorted _ _ _) ht)
      rw [← e, h] at this
      cases this
    simp [hne]
  · obtain ⟨t, ht, rfl⟩ := Option.map_eq_some_iff.1 hp
    have hk : (s.tile t).st = .kindled := mem_tilesIn (List.mem_of_head? ht)
    have hne : k ≠ t := fun e => by rw [e, hk] at h; cases h
    rw [beginStep, State.modTile_eq, State.setTile_tile, if_neg hne, tile_congr (chargeBase_tiles s t), h]

theorem advance_stoked {s : State} {k : Nat} (h : (s.tile k).st = .stoked) {tr : Trans} (ht : s.power.trans = some tr)
    (hr : tr.req.target = 4) (hready : isReady s = true) (hs : tr.stop = false) (hp : s.power.pending = none) :
    ((advance s).tile k).st = .stoked := by
  have hfin : ∀ o c, ((finishTrans s o c).tile k).st = .stoked := fun o c => by
    rw [tile_congr (finishTrans_ends ht hp o c).1, h]
  unfold advance
  simp only [ht, hs, Bool.false_eq_true, if_false]
  cases hn : nextStep s tr.req tr.failed with
  | none => exact hfin _ _
  | some p =>
    dsimp only
    split
    · refine beginStep_stoked ?_ hr ?_ hn
      · exact h
      · exact hready
    · exact hfin _ _

theorem tileSettle_frame (s : State) (k : Nat) (st : TileState) : ((tileSettle s k st).tile k).st = st ∧ (tileSettle s k st).power = s.power := by
  unfold tileSettle
  dsimp only
  split <;> simp [tile_congr (logEvent_tiles _ _ _ _ _)]

theorem tileStoked_frame (s : State) (k : Nat) : ((tileStoked s k).tile k).st = .stoked ∧ (tileStoked s k).power = s.power := by
  unfold tileStoked
  dsimp only
  split
  · exact ⟨(tileSettle_frame _ _ _).1, by rw [(tileSettle_frame _ _ _).2, logEvent_power]⟩
  · exact tileSettle_frame _ _ _

theorem stepDone_stokes {l : List Nat} {s : State} {tr : Trans} {k : Nat} (ht : s.power.trans = some tr) (hc : tr.cur = .stoke k)
    (hk : (s.tile k).st = .rising) (hr : tr.req.target = 4) (hready : isReady s = true) (hs : tr.stop = false) (hp : s.power.pending = none) :
    Answers (.transitionStepDone l) s fun t => (t.tile k).st = .stoked := by
  have hx : exec (.transitionStepDone l) s = execTransitionStepDone l s := rfl
  rw [Answers, hx, execTransitionStepDone]
  simp only [ht, stopWaits, hs, Bool.false_and, Bool.false_eq_true, if_false, hc, hk]
  refine ⟨_, rfl, ?_⟩
  obtain ⟨h1, h2⟩ := tileStoked_frame s k
  rw [tile_congr (noted_tiles _ _).1]
  exact advance_stoked h1 (h2 ▸ ht) hr (by rwa [isReady, h2]) hs (h2 ▸ hp)

theorem stepDone_finishes {l : List Nat} {s : State} {tr : Trans} (ht : s.power.trans = some tr)
    (hc : tr.cur = .wake ∧ isReady s = true ∨ ∃ m, tr.cur = .off m ∧ (bitsOf 8 m.toNat).all (fun k => (s.tile k).st = .off) = true)
    (hs : tr.stop = false) (hn : nextStep s tr.req tr.failed = none) (hp : s.power.pending = none) :
    Answers (.transitionStepDone l) s fun t =>
      t.power.trans = none ∧ t.power.outcome = 0 ∧ t.power.requester = tr.req.requester % 4 ∧ t.tiles = s.tiles := by
  have hx : exec (.transitionStepDone l) s = .next (noted s (advance s)) := by
    change execTransitionStepDone l s = _
    unfold execTransitionStepDone
    obtain ⟨hc, h⟩ | ⟨m, hc, h⟩ := hc <;> simp only [ht, stopWaits, hs, Bool.false_and, Bool.false_eq_true, if_false, hc, h, if_true]
  have ha : advance s = finishTrans s 0 0 := by
    unfold advance
    simp only [ht, hs, Bool.false_eq_true, if_false, hn]
  obtain ⟨h1, h2⟩ := noted_tiles s (finishTrans s 0 0)
  obtain ⟨f1, f2, f3, f4⟩ := finishTrans_ends ht hp 0 0
  exact ⟨_, hx, by rw [ha, h2, f2], by rw [ha, h2, f3], by rw [ha, h2, f4], by rw [ha, h1, f1]⟩

/-! ### Nets on and off (R151, R153, R155, R170) -/

theorem net_congr {s t : State} (h : t.nets = s.nets) (n : Nat) : t.net n = s.net n := by
  rw [State.net, h, State.net]

theorem netOn_on (s : State) (n : Nat) : (netOn s n).net n = { s.net n with st := .on, slew := none, vsetUv := targetUv s n } := by
  simp [netOn]

theorem netCellsOff_nets (s : State) (n : Nat) : (netCellsOff s n).nets = s.nets := by
  unfold netCellsOff
  refine forEach_keeps State.nets _ _ (fun t i _ => ?_) s
  rfl

theorem netOff_net (s : State) (n j : Nat) : (netOff s n).net j =
    if j = n then { s.net n with st := .off, slew := none, vsetUv := 0 } else s.net j := by
  simp [netOff, net_congr (netCellsOff_nets s n)]

/-- A net that is enabled rises, from the output its die has measured; no other net changes. -/
theorem netEnable_frame (s : State) (n : Nat) : ∃ v : State, v.nets = s.nets ∧ ∃ a, netEnable s n = v.modNet n (fun x => { x with
    st := .rising, roll := none, shared := true, vsetUv := x.voutMv * 1000, slew := some ⟨x.voutMv * 1000, a, 1⟩ }) := by
  unfold netEnable
  dsimp only
  generalize hu : forEach (netCells n) s _ = u
  have hn : u.nets = s.nets := by
    rw [← hu]
    refine forEach_keeps State.nets _ _ (fun t i _ => ?_) s
    rfl
  generalize hv : forEach (cellsIn u n) u _ = v
  have hm : v.nets = u.nets := by
    rw [← hv]
    refine forEach_keeps State.nets _ _ (fun t i _ => ?_) u
    rfl
  exact ⟨v, hm.trans hn, v.ao.ticks, rfl⟩

theorem netEnable_rises (s : State) (n : Nat) : ((netEnable s n).net n).st = .rising ∧
    ((netEnable s n).net n).attempts = (s.net n).attempts ∧ ((netEnable s n).net n).vsetUv = (s.net n).voutMv * 1000 := by
  obtain ⟨v, hv, a, e⟩ := netEnable_frame s n
  simp [e, net_congr hv]

theorem netEnable_other (s : State) {n j : Nat} (h : j ≠ n) : (netEnable s n).net j = s.net j := by
  obtain ⟨v, hv, a, e⟩ := netEnable_frame s n
  simp [e, net_congr hv, h]

/-- A net that is not off or falling falls. -/
theorem netDisable_falls {s : State} {n : Nat} (h1 : (s.net n).st ≠ .off) (h2 : (s.net n).st ≠ .falling) :
    ((netDisable s n).net n).st = .falling ∧ ((netDisable s n).net n).attempts = (s.net n).attempts ∧
    ((netDisable s n).net n).voutMv = (s.net n).voutMv := by
  have key : ∀ u : State, u.nets = s.nets → ∀ v, let t := u.modNet n (fun x => { x with st := .falling, roll := none, slew := none, vsetUv := v })
      (t.net n).st = .falling ∧ (t.net n).attempts = (s.net n).attempts ∧ (t.net n).voutMv = (s.net n).voutMv := by
    intro u hu v
    simp [net_congr hu]
  have hc : ∀ u : State, u.nets = s.nets → (if (u.loopE (netDie n)).clk then u else netCellsOff u n).nets = s.nets := by
    intro u hu
    split
    · exact hu
    · exact (netCellsOff_nets u n).trans hu
  unfold netDisable
  split
  · contradiction
  · contradiction
  · refine key _ (hc _ ?_) _
    split
    · split <;> rfl
    · rfl

theorem clearLocks_nets (s : State) (d : Nat) : (clearLocks s d).nets = s.nets := rfl

theorem sensorsOff_nets (s : State) (d : Nat) : (sensorsOff s d).nets = s.nets := rfl

theorem surveyOff_nets (s : State) (d : Nat) : (surveyOff s d).nets = s.nets := rfl

theorem edgesCheck_nets (s : State) : (edgesCheck s).nets = s.nets := by
  unfold edgesCheck
  split <;> rfl

/-! ### What the Hearth learns late of an edge die -/

theorem stable_nets (x : Sparse NetSt) : Stable (fun t => t.nets = x) :=
  ⟨fun _ _ h => h, fun _ _ _ h => h, fun _ h => h, fun _ _ h => h, fun _ _ h => by rwa [raise_nets], fun _ _ _ _ h => by rwa [logEvent_nets]⟩

theorem powerEvent_nets (s : State) (code sev : Nat) (p : PageRef) (a : List Nat) : (powerEvent s code sev p a).nets = s.nets := by
  unfold powerEvent
  dsimp only
  split <;> simp

theorem capacityCheck_of_off {s : State} {n : Nat} (h : (s.net n).st = .off) : capacityCheck s n = s := by
  unfold capacityCheck
  split
  · unfold netFail
    simp [h]
  · rfl

theorem faultLearned_nets {s : State} {i : Nat} (h : (s.net (cellNet i)).st = .off) (code : Nat) (args : List Nat) :
    (faultLearned s i code args).nets = s.nets := by
  unfold faultLearned
  dsimp only
  generalize hu : (if code = 0x1061 then powerEvent s code 3 (.cell i) (args ++ [retiredOf s]) else powerEvent s code 2 (.cell i) args) = u
  have hn : u.nets = s.nets := by
    rw [← hu]
    split <;> exact powerEvent_nets _ _ _ _ _
  have hc : (capApply u (cellNet i)).nets = s.nets := capApply_stable (stable_nets s.nets) hn (cellNet i)
  rw [capacityCheck_of_off (by rw [net_congr hc, h]), hc]

theorem cellNet_of_edge {i : Nat} (h : 8 ≤ cellDie i) : cellNet i = cellDie i + 8 := by
  unfold cellNet
  rw [if_neg]
  intro hi
  simp only [cellDie, hi, if_true] at h
  omega

/-- Of an edge or hub die whose net is off the Hearth hears without consequence for any net. -/
theorem hearNow_nets {s : State} {d : Nat} (hd : 8 ≤ d) (h : (s.net (d + 8)).st = .off) : (hearNow s d).nets = s.nets := by
  unfold hearNow
  split
  · rfl
  · generalize hl : List.filter _ s.hearth.late = l
    have hm : ∀ f ∈ l, cellDie f.cell = d := fun f hf => by
      rw [← hl] at hf
      simpa using (List.mem_filter.1 hf).2
    clear hl
    suffices hw : ∀ t : State, t.nets = s.nets → (forEach l t fun s f =>
        faultLearned { s with hearth := { s.hearth with late := s.hearth.late.erase f } } f.cell f.code f.args).nets = s.nets from hw s rfl
    intro t ht
    induction l generalizing t with
    | nil => exact ht
    | cons f l ih =>
      have hf := hm f (by simp)
      refine ih (fun g hg => hm g (by simp [hg])) _ ((faultLearned_nets ?_ f.code f.args).trans ht)
      rw [cellNet_of_edge (by omega), hf]
      exact (congrArg NetSt.st (net_congr ht _)).trans h

theorem framesEnded_nets {s : State} {d : Nat} (hd : 8 ≤ d) (h : (s.net (d + 8)).st = .off) : (framesEnded s d).nets = s.nets := by
  unfold framesEnded
  split
  · rfl
  · exact hearNow_nets hd h

/-! ### The commands -/

theorem netRampDone_on {n : Nat} {s : State} (h : (s.net n).st = .rising) : Answers (.netRampDone n) s fun t =>
    (t.net n).st = .on ∧ (t.net n).slew = none ∧ (t.net n).vsetUv = targetUv s n := by
  have hn := netOn_on s n
  have key : ∀ t : State, t.net n = (netOn s n).net n → (t.net n).st = .on ∧ (t.net n).slew = none ∧ (t.net n).vsetUv = targetUv s n := by
    intro t ht
    rw [ht, hn]
    exact ⟨rfl, rfl, rfl⟩
  have hx : exec (.netRampDone n) s = execNetRampDone n s := rfl
  rw [Answers, hx, execNetRampDone, if_neg (by simp [h])]
  dsimp only
  split
  · split
    · exact ⟨_, rfl, key _ rfl⟩
    · split
      · next ho =>
        have hne : n ≠ 2 * (n / 2) := by
          have : n % 2 = 1 := by simpa using (Bool.and_eq_true_iff.1 ho).1
          omega
        refine ⟨_, rfl, key _ ?_⟩
        simp [coreStart, netEnable_other _ hne]
      · split <;> exact ⟨_, rfl, key _ rfl⟩
  · split
    · split <;> exact ⟨_, rfl, key _ rfl⟩
    · exact ⟨_, rfl, key _ (net_congr (edgesCheck_nets _) n)⟩

theorem netRampTimeout_again {n mv : Nat} {s : State} (h1 : 16 ≤ n) (h2 : n < 19) (hr : (s.net n).st = .rising) (ha : (s.net n).attempts = 0) :
    Answers (.netRampTimeout n mv) s fun t => (t.net n).st = .rising ∧ (t.net n).attempts = 1 ∧ (t.net n).vsetUv = mv * 1000 := by
  have hx : exec (.netRampTimeout n mv) s = execNetRampTimeout n mv s := rfl
  rw [Answers, hx, execNetRampTimeout, if_neg (by simp [hr])]
  dsimp only
  rw [if_neg (by omega), if_neg (by omega), if_pos (by omega)]
  refine ⟨_, rfl, ?_⟩
  generalize hu : logEvent _ _ _ _ _ = u
  have hn : u.net n = { s.net n with attempts := 1, voutMv := mv } := by
    rw [← hu]
    simp [ha]
  obtain ⟨d1, d2, d3⟩ := netDisable_falls (s := u) (n := n) (by simp [hn, hr]) (by simp [hn, hr])
  obtain ⟨e1, e2, e3⟩ := netEnable_rises (netDisable u n) n
  exact ⟨e1, by rw [e2, d2, hn], by rw [e3, d3, hn]⟩

theorem netRampTimeout_givenUp {n mv : Nat} {s : State} (h1 : 16 ≤ n) (h2 : n < 19) (hr : (s.net n).st = .rising) (ha : (s.net n).attempts = 1) :
    Answers (.netRampTimeout n mv) s fun t => (t.net n).st = .falling ∧ (t.net n).attempts = 2 := by
  have hx : exec (.netRampTimeout n mv) s = execNetRampTimeout n mv s := rfl
  rw [Answers, hx, execNetRampTimeout, if_neg (by simp [hr])]
  dsimp only
  rw [if_neg (by omega), if_neg (by omega), if_neg (by omega)]
  refine ⟨_, rfl, ?_⟩
  generalize hu : logEvent _ _ _ _ _ = u
  have hn : u.net n = { s.net n with attempts := 2, voutMv := mv } := by
    rw [← hu]
    simp [ha]
  obtain ⟨d1, d2, d3⟩ := netDisable_falls (s := u) (n := n) (by simp [hn, hr]) (by simp [hn, hr])
  rw [net_congr (edgesCheck_nets _)]
  exact ⟨d1, by rw [d2, hn]⟩

theorem hubLost_trip (s : State) (b : BootStage) : (hubLost s b).trip = s.trip := by
  unfold hubLost absence
  split <;> rfl

theorem bootFailed_of_unpended {s : State} (h : s.power.pending = none) : (bootFailed s).power.stage = .failed ∧
    (bootFailed s).power.failA = s.power.failA ∧ (bootFailed s).power.failB = s.power.failB ∧ (bootFailed s).trip = s.trip := by
  have hl := (hubLost_keepsAo (keepRecords s) .failed).1
  have ht : (hubLost (keepRecords s) .failed).trip = s.trip := hubLost_trip _ _
  unfold bootFailed
  dsimp only
  rw [h]
  cases s.power.trans with
  | none => exact ⟨hl, rfl, rfl, ht⟩
  | some tr =>
    dsimp only
    rw [(setResult_frame _ _ _ _ _).2, (setResult_cut _ _ _ _ _).trip]
    exact ⟨hl, rfl, rfl, ht⟩

theorem hubOn_of_failed {s : State} (h : s.power.stage = .failed) : hubOn s = false := by
  simp [hubOn, h]

theorem netRampTimeout_hub {mv : Nat} {s : State} (hr : (s.net 19).st = .rising) (hp : s.power.pending = none) :
    Answers (.netRampTimeout 19 mv) s fun t => t.power.stage = .failed ∧ hubOn t = false := by
  have hx : exec (.netRampTimeout 19 mv) s = execNetRampTimeout 19 mv s := rfl
  rw [Answers, hx, execNetRampTimeout, if_neg (by simp [hr])]
  dsimp only
  rw [if_neg (by decide), if_pos rfl]
  have hf := (bootFailed_of_unpended (s := logEvent (s.modNet 19 fun x => { x with attempts := (s.net 19).attempts + 1, voutMv := mv }) 0x1020 3
    (.net 19) [19, calSetpoint s 19, mv, (s.net 19).attempts + 1]) (by rw [logEvent_power]; exact hp)).1
  exact ⟨_, rfl, hf, hubOn_of_failed hf⟩

theorem netDischarged_off {n : Nat} {s : State} (hn : 16 ≤ n) (h : (s.net n).st = .falling) : Answers (.netDischarged n) s fun t =>
    (t.net n).st = .off ∧ (t.net n).vsetUv = 0 ∧ ∀ j, j ≠ n → t.net j = s.net j := by
  have hx : exec (.netDischarged n) s = execNetDischarged n s := rfl
  rw [Answers, hx, execNetDischarged, if_neg (by simp [h])]
  dsimp only
  rw [if_neg (by omega)]
  refine ⟨_, rfl, ?_⟩
  generalize hu : clearLocks _ _ = u
  have hnet : ∀ j, u.net j = (netOff s n).net j := fun j => by
    rw [← hu, net_congr (clearLocks_nets _ _), net_congr (sensorsOff_nets _ _), net_congr (surveyOff_nets _ _)]
    rfl
  have hd : 8 ≤ n - 8 ∧ n - 8 + 8 = n := by omega
  have hoff : (u.net (n - 8 + 8)).st = .off := by
    rw [hd.2, hnet, netOff_net, if_pos rfl]
  have hf : ∀ j, (framesEnded u (n - 8)).net j = (netOff s n).net j := fun j => (net_congr (framesEnded_nets hd.1 hoff) j).trans (hnet j)
  refine ⟨?_, ?_, fun j hj => ?_⟩
  · rw [hf, netOff_net, if_pos rfl]
  · rw [hf, netOff_net, if_pos rfl]
  · rw [hf, netOff_net, if_neg hj]

/-- Settles O8: a step that is done begins the next or ends the transition, and a net's ramp turns it ON, is tried again or fails. -/
theorem stepsAndRampsEnd : Obligations.StepsAndRampsEnd := by
  unfold Obligations.StepsAndRampsEnd
  exact ⟨⟨fun _ _ _ _ => stepDone_stokes, fun _ _ _ => stepDone_finishes⟩, fun _ _ => netRampDone_on, fun _ _ _ => netRampTimeout_again,
    fun _ _ _ => netRampTimeout_givenUp, fun _ _ => netRampTimeout_hub, fun _ _ => netDischarged_off⟩

/-! ### Tiles that fall (R64, R153) -/

theorem netDisable_tiles (s : State) (n : Nat) : (netDisable s n).tiles = s.tiles := by
  have hc : ∀ u : State, u.tiles = s.tiles → (if (u.loopE (netDie n)).clk then u else netCellsOff u n).tiles = s.tiles := by
    intro u hu
    split
    · exact hu
    · refine Eq.trans ?_ hu
      unfold netCellsOff
      refine forEach_keeps State.tiles _ _ (fun t i _ => ?_) u
      rfl
  unfold netDisable
  split
  · rfl
  · rfl
  · refine hc _ ?_
    split
    · split <;> rfl
    · rfl

theorem tileAtOff_off (s : State) (k : Nat) : ((tileAtOff s k).tile k).st = .off :=
  (tileSettle_frame _ k .off).1

theorem tileFallStep_st {s : State} {k : Nat} (h : (s.tile k).st = .falling) :
    ((tileFallStep s k).tile k).st = .falling ∨ ((tileFallStep s k).tile k).st = .off := by
  unfold tileFallStep
  rw [if_neg (by simp [h])]
  dsimp only
  split
  · exact .inl (by rw [tile_congr (netDisable_tiles _ _), h])
  · split
    · exact .inl (by rw [tile_congr (netDisable_tiles _ _), h])
    · exact .inr (tileAtOff_off s k)

/-! ### Clocks (R39 to R42, R62, R659, Table 2.5) -/

theorem logLockFail_power (s : State) : (logLockFail s).power = s.power := by
  unfold logLockFail
  split <;> simp

theorem logLockFail_of_hubOff {s : State} (h : hubOn s = false) : logLockFail s = s := by
  simp [logLockFail, h]

theorem logLockFail_logs {s : State} (hd : s.ao.lockFailDue = true) (ho : logOpen s = true) (hs : s.power.stage ≠ .pll) :
    (logLockFail s).ao.lockFailDue = false ∧ newest (logLockFail s) 0x8004 [msSince s 0 % 2 ^ 32, 0, 0, 0] = true := by
  have hh : hubOn s = true := by
    rw [logOpen, Bool.and_eq_true] at ho
    exact ho.1
  unfold logLockFail
  rw [if_pos (by simp [hd, hh, hs])]
  refine ⟨by rw [logEvent_ao], ?_⟩
  exact newest_logEvent (s := { s with ao := { s.ao with lockFailDue := false } }) ho 0x8004 2 .boot [msSince s 0, 0, 0, 0]

theorem aoLockTimeout_due {s : State} (hv : s.ao.vsb = true) (hl : s.ao.aoLock = false) (hw : withinUs s 0 500000 = false) :
    Answers .aoLockTimeout s fun t => (hubOn s = false → t = { s with ao := { s.ao with lockFailDue := true } }) ∧
    (logOpen s = true → s.power.stage ≠ .pll → t.ao.lockFailDue = false ∧ newest t 0x8004 [msSince s 0 % 2 ^ 32, 0, 0, 0] = true) := by
  have hx : exec .aoLockTimeout s = execAoLockTimeout s := rfl
  rw [Answers, hx, execAoLockTimeout, if_pos (by simp [hv, hl, hw])]
  exact ⟨_, rfl, fun h => logLockFail_of_hubOff h, fun ho hs => logLockFail_logs rfl ho hs⟩

theorem clockLock_hub {s : State} (h : s.power.stage = .pll) : Answers (.clockLock .hubPll) s fun t =>
    t.power.stage = .copyA ∧ t.power.hubPll = true := by
  have hx : exec (.clockLock .hubPll) s = execClockLock .hubPll s := rfl
  rw [Answers, hx, execClockLock, if_pos h]
  refine ⟨_, rfl, ?_⟩
  rw [logLockFail_power]
  exact ⟨rfl, rfl⟩

theorem clockLockTimeout_hub {s : State} (h : s.power.stage = .pll) (hp : s.power.pending = none) : Answers (.clockLockTimeout .hubPll) s fun t =>
    t.power.stage = .failed ∧ hubOn t = false ∧ t.trip = s.trip := by
  have hx : exec (.clockLockTimeout .hubPll) s = execClockLockTimeout .hubPll s := rfl
  rw [Answers, hx, execClockLockTimeout, if_pos h]
  obtain ⟨h1, _, _, h2⟩ := bootFailed_of_unpended hp
  exact ⟨_, rfl, h1, hubOn_of_failed h1, h2⟩

theorem noted_tileFail_st (s : State) (k step : Nat) : ((noted s (tileFail s k step)).tile k).st = .falling ∨
    ((noted s (tileFail s k step)).tile k).st = .off := by
  rw [tile_congr (noted_tiles _ _).1, tileFail, tileFall]
  exact tileFallStep_st (by simp)

section
variable {k : Nat} {s : State} (hk : k < 8) (hr : (s.tile k).st = .rising)
include hk hr

theorem clockLock_tilePll (hp : (s.tile k).kindle = .pll) :
    (Answers (.clockLock (.tilePll k)) s fun t => (t.tile k).pll = true ∧ (t.tile k).kindle = .phy) ∧
    (Answers (.clockLockTimeout (.tilePll k)) s fun t => (t.tile k).st = .falling ∨ (t.tile k).st = .off) := by
  have hx : exec (.clockLock (.tilePll k)) s = execClockLock (.tilePll k) s := rfl
  have hy : exec (.clockLockTimeout (.tilePll k)) s = execClockLockTimeout (.tilePll k) s := rfl
  have hc : (decide (k < 8) && decide ((s.tile k).st = .rising) && decide ((s.tile k).kindle = .pll)) = true := by simp [hk, hr, hp]
  rw [Answers, Answers, hx, hy, execClockLock, execClockLockTimeout, if_pos hc, if_pos hc]
  exact ⟨⟨_, rfl, by simp⟩, _, rfl, noted_tileFail_st s k 1⟩

theorem clockLock_hbmPhy (hp : (s.tile k).kindle = .phy) :
    (Answers (.clockLock (.hbmPhy k)) s fun t => (t.tile k).phy = true ∧ (t.tile k).kindle = .done) ∧
    (Answers (.clockLockTimeout (.hbmPhy k)) s fun t => (t.tile k).st = .falling ∨ (t.tile k).st = .off) := by
  have hx : exec (.clockLock (.hbmPhy k)) s = execClockLock (.hbmPhy k) s := rfl
  have hy : exec (.clockLockTimeout (.hbmPhy k)) s = execClockLockTimeout (.hbmPhy k) s := rfl
  have hc : (decide (k < 8) && decide ((s.tile k).st = .rising) && decide ((s.tile k).kindle = .phy)) = true := by simp [hk, hr, hp]
  rw [Answers, Answers, hx, hy, execClockLock, execClockLockTimeout, if_pos hc, if_pos hc]
  exact ⟨⟨_, rfl, by simp⟩, _, rfl, noted_tileFail_st s k 2⟩

theorem clockLock_loopClk (hp : (s.tile k).kindle = .loopClk) : Answers (.clockLock (.loopClk k)) s fun t =>
    (t.loopE k).clk = true ∧ (t.loopE k).frame = 0 ∧ (t.tile k).kindle = .sram := by
  have hx : exec (.clockLock (.loopClk k)) s = execClockLock (.loopClk k) s := rfl
  have hc : (decide ((s.tile k).st = .rising) && decide ((s.tile k).kindle = .loopClk)) = true := by simp [hr, hp]
  rw [Answers, hx, execClockLock, if_pos hk, if_pos hc]
  exact ⟨_, rfl, by simp [loopClkOn], by simp [loopClkOn], by simp [loopClkOn]⟩

end

/-- Settles O5: a clock that locks carries its transition on, and one that does not fails it. -/
theorem clocksLockOrFail : Obligations.ClocksLockOrFail := by
  unfold Obligations.ClocksLockOrFail
  refine ⟨fun s hv => ?_, fun s hw => ?_, fun s => aoLockTimeout_due, fun s => clockLock_hub, fun s => clockLockTimeout_hub,
    fun k s => clockLock_tilePll, fun k s => clockLock_hbmPhy, fun k s => clockLock_loopClk⟩
  · have hx : exec .aoLock s = execAoLock s := rfl
    rw [Answers, hx, execAoLock, if_pos hv]
    exact ⟨_, rfl, rfl⟩
  · have hx : exec .aoLockTimeout s = execAoLockTimeout s := rfl
    rw [hx, execAoLockTimeout, if_neg (by simp [hw])]

/-! ### Bring-up (R46, R47, R62, R619, R622) -/

theorem logOpen_of_stage {s : State} (x : PowerSt) (h : logOpen s = true) (h1 : x.stage ≠ .banked) (h2 : x.stage ≠ .failed) :
    logOpen { s with power := x } = true := by
  rw [logOpen, Bool.and_eq_true] at h ⊢
  exact ⟨by simp [hubOn, h1, h2], h.2⟩

theorem bootCopyA_verified (c : CopyCheck) {s : State} (h : s.power.stage = .copyA) (hc : copyFail c = 3) :
    Answers (.bootCopyVerified c) s fun t => t = { s with power := { s.power with stage := .slots, copy := 0 } } := by
  have hx : exec (.bootCopyVerified c) s = execBootCopyVerified c s := rfl
  rw [Answers, hx, execBootCopyVerified]
  simp only [h]
  rw [if_pos hc]
  exact ⟨_, rfl, rfl⟩

theorem bootCopyB_verified (c : CopyCheck) {s : State} (h : s.power.stage = .copyB) (hc : copyFail c = 3) :
    Answers (.bootCopyVerified c) s fun t => t = { s with power := { s.power with stage := .slots, copy := 1 } } := by
  have hx : exec (.bootCopyVerified c) s = execBootCopyVerified c s := rfl
  rw [Answers, hx, execBootCopyVerified]
  simp only [h]
  rw [if_pos hc]
  exact ⟨_, rfl, rfl⟩

theorem copyFail_lt (c : CopyCheck) : copyFail c < 4 := by
  unfold copyFail
  split
  · decide
  · split
    · decide
    · split <;> decide

theorem bootCopyA_failed (c : CopyCheck) {s : State} (h : s.power.stage = .copyA) (hc : copyFail c ≠ 3) (ho : logOpen s = true) :
    Answers (.bootCopyVerified c) s fun t =>
      t.power.stage = .copyB ∧ t.power.failA = copyFail c ∧ newest t 0x8001 [copyFail c, 0, 0, 0] = true := by
  have hx : exec (.bootCopyVerified c) s = execBootCopyVerified c s := rfl
  rw [Answers, hx, execBootCopyVerified]
  simp only [h]
  rw [if_neg hc]
  refine ⟨_, rfl, by rw [logEvent_power], by rw [logEvent_power], ?_⟩
  have hn : newest (logEvent { s with power := { s.power with stage := .copyB, failA := copyFail c } } 0x8001 2 .boot [copyFail c, 0, 0, 0])
      0x8001 [copyFail c % 2 ^ 32, 0, 0, 0] = true := by
    refine newest_logEvent (logOpen_of_stage _ ho ?_ ?_) 0x8001 2 .boot [copyFail c, 0, 0, 0] <;> simp
  rwa [Nat.mod_eq_of_lt (by have := copyFail_lt c; omega)] at hn

theorem bootCopyB_failed (c : CopyCheck) {s : State} (h : s.power.stage = .copyB) (hc : copyFail c ≠ 3) (hp : s.power.pending = none) :
    Answers (.bootCopyVerified c) s fun t =>
      t.power.stage = .failed ∧ t.power.failB = copyFail c ∧ t.power.failA = s.power.failA ∧ hubOn t = false := by
  have hx : exec (.bootCopyVerified c) s = execBootCopyVerified c s := rfl
  rw [Answers, hx, execBootCopyVerified]
  simp only [h]
  rw [if_neg hc]
  refine ⟨_, rfl, ?_⟩
  generalize hv : logEvent _ _ _ _ _ = v
  have hw : v.power.pending = none ∧ v.power.failB = copyFail c ∧ v.power.failA = s.power.failA := by
    rw [← hv, logEvent_power]
    exact ⟨hp, rfl, rfl⟩
  obtain ⟨hq, hb, ha⟩ := hw
  obtain ⟨h1, h2, h3, _⟩ := bootFailed_of_unpended hq
  exact ⟨h1, h3.trans hb, h2.trans ha, hubOn_of_failed h1⟩

theorem logBadSlot_cases (s : State) (k : Nat) (b : SlotBytes) (ok other : Bool) :
    logBadSlot s k b ok other = s ∨ ∃ code sev a, logBadSlot s k b ok other = logEvent s code sev .cal a := by
  unfold logBadSlot
  split
  · exact .inl rfl
  · split <;> exact .inr ⟨_, _, _, rfl⟩

theorem logBadSlot_frame (s : State) (k : Nat) (b : SlotBytes) (ok other : Bool) : (logBadSlot s k b ok other).ao = s.ao ∧
    (logBadSlot s k b ok other).power = s.power ∧ (logBadSlot s k b ok other).cal = s.cal := by
  obtain e | ⟨_, _, _, e⟩ := logBadSlot_cases s k b ok other <;> simp [e]

theorem selectCal_frame (s : State) (a b : SlotBytes) : (selectCal s a b).ao = s.ao ∧ (selectCal s a b).cal.step = s.cal.step ∧
    (selectCal s a b).cal.measuring = s.cal.measuring := by
  unfold selectCal
  dsimp only
  generalize hv : logBadSlot (logBadSlot s 0 a (slotValid a) (slotValid b)) 1 b (slotValid b) (slotValid a) = v
  have hf : v.ao = s.ao ∧ v.cal = s.cal := by
    obtain ⟨h1, _, h2⟩ := logBadSlot_frame (logBadSlot s 0 a (slotValid a) (slotValid b)) 1 b (slotValid b) (slotValid a)
    obtain ⟨h3, _, h4⟩ := logBadSlot_frame s 0 a (slotValid a) (slotValid b)
    exact ⟨by rw [← hv, h1, h3], by rw [← hv, h2, h4]⟩
  split
  · rw [raise_ao, raise_cal, logEvent_ao, logEvent_cal, ← hf.1, ← hf.2]
    exact ⟨rfl, rfl, rfl⟩
  · rw [← hf.1, ← hf.2]
    exact ⟨rfl, rfl, rfl⟩

theorem calSlotsRead_selects (a b : SlotBytes) {s : State} (h : s.power.stage = .slots) : Answers (.calSlotsRead a b) s fun t =>
    t.power.stage = (if s.ao.cold && !(storing s && !s.cal.measuring) then .holdup else .hubNet) ∧ t.tmb.key = calKey t := by
  have hx : exec (.calSlotsRead a b) s = execCalSlotsRead a b s := rfl
  rw [Answers, hx, execCalSlotsRead, if_pos h]
  obtain ⟨h1, h2, h3⟩ := selectCal_frame s a b
  generalize selectCal s a b = u at h1 h2 h3
  have hs : ∀ x, storing { u with tmb := x } = storing s := fun x => by
    unfold storing
    rw [← h2]
  dsimp only
  rw [hs, h1, h3]
  split <;> exact ⟨_, rfl, rfl, rfl⟩

theorem logCal_power (s : State) (code sev : Nat) (a : List Nat) : (logCal s code sev a).power = s.power := by
  unfold logCal
  split
  · exact logEvent_power ..
  · rfl

theorem finishMeasure_frame (s : State) (v b l : Nat) : (finishMeasure s v b l).cal.measuring = false ∧
    (finishMeasure s v b l).cal.vStart = v / 4 % 65536 ∧ (finishMeasure s v b l).power = s.power := by
  unfold finishMeasure
  dsimp only
  rw [logCal_cal, logCal_power]
  exact ⟨rfl, rfl, rfl⟩

theorem holdupMeasure_ends (v b l : Nat) {s : State} (h : s.cal.measuring = true) : Answers (.holdupMeasureDone v b l) s fun t =>
    t.cal.measuring = false ∧ t.cal.vStart = v / 4 % 65536 ∧ (s.power.stage = .holdup → t.power.stage = .hubNet) := by
  have hx : exec (.holdupMeasureDone v b l) s = execHoldupMeasureDone v b l s := rfl
  rw [Answers, hx, execHoldupMeasureDone, if_pos h]
  obtain ⟨h1, h2, h3⟩ := finishMeasure_frame s v b l
  dsimp only
  rw [h3]
  split
  · exact ⟨_, rfl, h1, h2, fun _ => rfl⟩
  · next hn => exact ⟨_, rfl, h1, h2, fun hs => absurd hs hn⟩

theorem deviceReady_ready {s : State} (h : s.power.stage = .train) (ho : logOpen s = true) : Answers .deviceReady s fun t =>
    t.power.stage = .ready ∧ newest t 0x1010 [s.power.wakeFrom % 2 ^ 32, 2, 0, whoMoves s % 2 ^ 32] = true ∧ caused t .boot 0 = true ∧
    caused t .boot 1 = true := by
  have hx : exec .deviceReady s = execDeviceReady s := rfl
  rw [Answers, hx, execDeviceReady, if_pos h]
  refine ⟨_, rfl, by rw [raise_power, raise_power, logEvent_power], ?_, caused_raise _ _ (caused_raise_same _ _ (by decide)),
    caused_raise_same _ _ (by decide)⟩
  rw [newest_raise, newest_raise]
  refine newest_logEvent (logOpen_of_stage _ ho ?_ ?_) 0x1010 0 .boot [s.power.wakeFrom, 2, 0, whoMoves s] <;> simp

/-- Settles O6: bring-up goes from stage to stage. -/
theorem bootGoesThroughItsStages : Obligations.BootGoesThroughItsStages := by
  unfold Obligations.BootGoesThroughItsStages
  exact ⟨fun c s => bootCopyA_verified c, fun c s => bootCopyA_failed c, fun c s => bootCopyB_verified c, fun c s => bootCopyB_failed c,
    fun a b s => calSlotsRead_selects a b, fun v b l s => holdupMeasure_ends v b l, fun s => deviceReady_ready⟩

end Sys2Proof.Machine
end

section
/-!
SUPPORT. Lanes and the operations of their ports (chapters 16 and 17).
-/
namespace Sys2Proof.Machine
open Sys2Proof

/-! ### What a lane's word and a port's flits leave alone (chapters 16, 17) -/

/-- `t` is `s` after flits of port `p` have been queued and sent. -/
structure Sent (p : Nat) (s t : State) : Prop where
  lanes : t.links.lanes = s.links.lanes
  other : ∀ j, j ≠ p → t.port j = s.port j
  self : ∃ u n k m, t.port p = { s.port p with unacked := u, nextTx := n, unsent := k, sentVc := m }
  hdrs : t.hdrs = s.hdrs
  events : t.events = s.events
  ao : t.ao = s.ao
  power : t.power = s.power
  out : ∀ o ∈ s.out, o ∈ t.out

theorem Sent.refl (p : Nat) (s : State) : Sent p s s :=
  ⟨rfl, fun _ _ => rfl, ⟨_, _, _, _, rfl⟩, rfl, rfl, rfl, rfl, fun _ h => h⟩

theorem Sent.trans {p : Nat} {s t u : State} (h : Sent p s t) (h' : Sent p t u) : Sent p s u := by
  obtain ⟨a, b, c, d, e⟩ := h.self
  obtain ⟨a', b', c', d', e'⟩ := h'.self
  exact ⟨h'.lanes.trans h.lanes, fun j hj => (h'.other j hj).trans (h.other j hj), ⟨a', b', c', d', by rw [e', e]⟩, h'.hdrs.trans h.hdrs,
    h'.events.trans h.events, h'.ao.trans h.ao, h'.power.trans h.power, fun o ho => h'.out o (h.out o ho)⟩

theorem Sent.emit {p : Nat} {s t : State} (h : Sent p s t) (o : Output) : Sent p s (emit t o) :=
  h.trans ⟨rfl, fun _ _ => rfl, ⟨_, _, _, _, rfl⟩, rfl, rfl, rfl, rfl, fun _ h => List.mem_append_left _ h⟩

theorem Sent.queue {p : Nat} {s t : State} (h : Sent p s t) (u : List TxFlit) (n : BitVec 16) (k : Nat) (m : Sparse Nat) :
    Sent p s (t.setPort p { t.port p with unacked := u, nextTx := n, unsent := k, sentVc := m }) :=
  h.trans ⟨rfl, fun j hj => by simp [hj], ⟨u, n, k, m, by simp⟩, rfl, rfl, rfl, rfl, fun _ h => h⟩

theorem Sent.modReplay {p : Nat} {s t : State} (h : Sent p s t) (f : ReplayRow → ReplayRow) : Sent p s (modReplay t p f) := by
  unfold Machine.modReplay
  split
  · exact h.trans ⟨rfl, fun _ _ => rfl, ⟨_, _, _, _, rfl⟩, rfl, rfl, rfl, rfl, fun _ h => h⟩
  · exact h

theorem Sent.pump {p : Nat} {s t : State} (h : Sent p s t) (n : Nat) : Sent p s (pump t p n) := by
  induction n generalizing t with
  | zero => exact h
  | succ n ih =>
    unfold Machine.pump
    dsimp only
    split
    · exact h
    · split
      · exact h
      · exact ih ((h.queue _ _ _ _).emit _)

theorem Sent.pushFlit {p : Nat} {s t : State} (h : Sent p s t) (vc : BitVec 2) (b : List Byte) : Sent p s (pushFlit t p vc b) :=
  ((h.queue _ _ _ _).modReplay _).pump 256

theorem Sent.sendMgmt {p : Nat} {s t : State} (h : Sent p s t) (type : Nat) (b : List Byte) : Sent p s (sendMgmt t p type b) := by
  unfold Machine.sendMgmt
  dsimp only
  split
  · exact (h.emit _).pushFlit _ _
  · exact h.emit _

theorem Sent.lane {p : Nat} {s t : State} (h : Sent p s t) (i : Nat) : t.lane i = s.lane i := by
  rw [State.lane, h.lanes, State.lane]

theorem Sent.caused {p : Nat} {s t : State} (h : Sent p s t) (q : PageRef) (i : Nat) : caused t q i = caused s q i := caused_congr h.hdrs q i

/-! ### IDENTIFY (R558, R564) -/

/-- A port enters IDENTIFY; no lane and no other port changes. -/
theorem enterIdentify_frame (s : State) (p : Nat) (b : Bool) : (enterIdentify s p b).links.lanes = s.links.lanes ∧
    (∀ j, j ≠ p → (enterIdentify s p b).port j = s.port j) ∧ ((enterIdentify s p b).port p).st = .identify ∧
    (enterIdentify s p b).hdrs = s.hdrs := by
  unfold enterIdentify
  dsimp only
  generalize hu : s.modPort p _ = u
  have h := (Sent.refl p u).sendMgmt 1 (List.replicate 3 0 ++ identBytes (ownIdent u p))
  have hp : (u.port p).st = .identify := by
    rw [← hu]
    split <;> simp
  obtain ⟨_, _, _, _, e⟩ := h.self
  refine ⟨h.lanes.trans (by rw [← hu]; rfl), fun j hj => (h.other j hj).trans (by rw [← hu]; simp [hj]), by rw [e]; exact hp,
    h.hdrs.trans (by rw [← hu]; rfl)⟩

theorem trainedCheck_cases (s : State) (p : Nat) : trainedCheck s p = s ∨ ∃ m, trainedCheck s p = enterIdentify (s.modPort p (fun x => { x with mask := m })) p true := by
  unfold trainedCheck
  dsimp only
  split
  · exact .inr ⟨_, rfl⟩
  · exact .inl rfl

theorem trainedCheck_frame (s : State) (p : Nat) : (trainedCheck s p).links.lanes = s.links.lanes ∧ (trainedCheck s p).hdrs = s.hdrs ∧
    ∀ j, j ≠ p → (trainedCheck s p).port j = s.port j := by
  obtain e | ⟨m, e⟩ := trainedCheck_cases s p <;> rw [e]
  · exact ⟨rfl, rfl, fun _ _ => rfl⟩
  · obtain ⟨h1, h2, _, h4⟩ := enterIdentify_frame (s.modPort p (fun x => { x with mask := m })) p true
    exact ⟨h1, h4, fun j hj => (h2 j hj).trans (by simp [hj])⟩

/-! ### Words and attempts of a lane (R522 to R524, R543) -/

theorem lane_congr {s t : State} (h : t.links.lanes = s.links.lanes) (i : Nat) : t.lane i = s.lane i := by
  rw [State.lane, h, State.lane]

theorem sendWord_lane (s : State) (i msg pay j : Nat) : (sendWord s i msg pay).lane j = if j = i then
    { s.lane i with sendSeq := BitVec.ofNat 8 (((s.lane i).sendSeq.toNat + 1) % 256), msg := msg, msgPay := pay } else s.lane j := by
  unfold sendWord
  simp

theorem sendWord_says (s : State) (i msg pay : Nat) :
    .control i (ctrlWord (s.lane i).phase msg pay (((s.lane i).sendSeq.toNat + 1) % 256)) ∈ (sendWord s i msg pay).out := by
  unfold sendWord
  simp

@[simp] theorem sendWord_port (s : State) (i msg pay j : Nat) : (sendWord s i msg pay).port j = s.port j := rfl

@[simp] theorem sendWord_ports (s : State) (i msg pay : Nat) : (sendWord s i msg pay).links.ports = s.links.ports := rfl

/-- A lane of a port in training that leaves only lets its port look at the others. -/
theorem laneLeaves_of_training {s : State} {i : Nat} (h : (s.port (lanePort i)).st = .training) :
    laneLeaves s i = trainedCheck s (lanePort i) := by
  unfold laneLeaves
  dsimp only
  rw [if_pos h]

/-- A training attempt fails and is counted; the lane starts over, or is FAILED (R543). -/
theorem trainFail_fails {s : State} {i : Nat} (hp : (s.port (lanePort i)).st = .training) (cause : Nat) (abort : Bool) :
    ((trainFail s i cause abort).lane i).attempts = min ((s.lane i).attempts + 1) 255 ∧ ((trainFail s i cause abort).lane i).cause = cause ∧
    caused (trainFail s i cause abort) (.lane i) 2 = true ∧
    ((trainFail s i cause abort).lane i).phase = (if 2 ≤ (s.lane i).attempts ∨ cause = 1 then 15 else if (s.lane i).synth then 2 else 1) ∧
    ∀ j, j ≠ i → (trainFail s i cause abort).lane j = s.lane j := by
  unfold trainFail
  dsimp only
  generalize hu : (if abort = true then sendWord s i 6 cause else s) = u
  have hlane : ((u.lane i).synth = (s.lane i).synth) ∧ (∀ j, j ≠ i → u.lane j = s.lane j) ∧ u.port (lanePort i) = s.port (lanePort i) := by
    rw [← hu]
    split
    · exact ⟨by rw [sendWord_lane, if_pos rfl], fun j hj => by rw [sendWord_lane, if_neg hj], rfl⟩
    · exact ⟨rfl, fun _ _ => rfl, rfl⟩
  obtain ⟨hsy, hoth, hport⟩ := hlane
  generalize hv : raise (logEvent (u.modLane i _) _ _ _ _) (.lane i) 2 = v
  have hvl : ∀ j, v.lane j = if j = i then { u.lane i with attempts := min ((s.lane i).attempts + 1) 255, cause := cause } else u.lane j := by
    intro j
    rw [← hv]
    simp
  have hvp : (v.port (lanePort i)).st = .training := by
    rw [← hv, raise_port, logEvent_port]
    exact (congrArg PortSt.st hport).trans hp
  have hvc : caused v (.lane i) 2 = true := by
    rw [← hv]
    exact caused_raise_same _ _ (by decide)
  have hvi := (hvl i).trans (if_pos rfl)
  split
  · next h =>
    rw [laneLeaves_of_training (by simpa using hvp)]
    obtain ⟨h1, h2, _⟩ := trainedCheck_frame (v.modLane i fun x => { freshTraining x with phase := 15 }) (lanePort i)
    have hif : 2 ≤ (s.lane i).attempts ∨ cause = 1 := by
      simp only [Bool.or_eq_true, decide_eq_true_eq] at h
      omega
    have hl : ∀ j, (trainedCheck (v.modLane i fun x => { freshTraining x with phase := 15 }) (lanePort i)).lane j =
        if j = i then { freshTraining (v.lane i) with phase := 15 } else v.lane j := fun j => by
      rw [lane_congr h1]
      simp
    have hi := (hl i).trans (if_pos rfl)
    rw [hi, hvi]
    refine ⟨rfl, rfl, (caused_congr h2 _ _).trans hvc, (if_pos hif).symm, fun j hj => ?_⟩
    rw [hl, if_neg hj, hvl, if_neg hj, hoth j hj]
  · next h =>
    have hif : ¬ (2 ≤ (s.lane i).attempts ∨ cause = 1) := by
      simp only [Bool.or_eq_true, decide_eq_true_eq] at h
      omega
    have hl : ∀ j, (laneDetect v i).lane j = if j = i then { freshTraining (v.lane i) with phase := if (v.lane i).synth then 2 else 1 } else v.lane j := by
      intro j
      simp [laneDetect]
    have hi := (hl i).trans (if_pos rfl)
    rw [hi, hvi]
    refine ⟨rfl, rfl, hvc, ?_, fun j hj => ?_⟩
    · rw [if_neg hif, ← hsy]
    · rw [hl, if_neg hj, hvl, if_neg hj, hoth j hj]

/-! ### Seeds and the next phase (R515, R523, R563) -/

/-- A lane but for its seed, its count and the word it sends. -/
def LaneSt.unseeded (x : LaneSt) : LaneSt := { x with seedTx := 0, seedSent := false, count := 0, sendSeq := 0, msg := 0, msgPay := 0 }

theorem LaneSt.unseeded_inj {x y : LaneSt} (h : x.unseeded = y.unseeded) : x.phase = y.phase ∧ x.farReady = y.farReady ∧ x.ownDone = y.ownDone ∧
    x.fofs = y.fofs ∧ x.trim = y.trim ∧ x.oneWay = y.oneWay ∧ x.follower = y.follower :=
  ⟨(congrArg LaneSt.phase h :), (congrArg LaneSt.farReady h :), (congrArg LaneSt.ownDone h :), (congrArg LaneSt.fofs h :), (congrArg LaneSt.trim h :),
    (congrArg LaneSt.oneWay h :), (congrArg LaneSt.follower h :)⟩

/-- Lanes have changed in their seeds, counts and words at most, and what was sent stays sent. -/
def Seeded (s t : State) : Prop := (∀ j, (t.lane j).unseeded = (s.lane j).unseeded) ∧ ∀ o ∈ s.out, o ∈ t.out

theorem Seeded.trans {s t u : State} (h : Seeded s t) (h' : Seeded t u) : Seeded s u :=
  ⟨fun j => (h'.1 j).trans (h.1 j), fun o ho => h'.2 o (h.2 o ho)⟩

theorem sendWord_seeded (s : State) (i msg pay : Nat) : Seeded s (sendWord s i msg pay) := by
  refine ⟨fun j => ?_, fun o h => mem_out_emit (s := s.setLane i _) h _⟩
  rw [sendWord_lane]
  split
  · next h =>
    rw [h]
    rfl
  · rfl

theorem sendSeed_seeded (s : State) (i : Nat) : Seeded s (sendSeed s i) := by
  unfold sendSeed
  split
  · dsimp only
    generalize (if BitVec.setWidth 31 (freeVal s).1 = 0#31 then 1#31 else BitVec.setWidth 31 (freeVal s).1) = seed
    refine Seeded.trans (t := (freeVal s).2.modLane i (fun x => { x with seedTx := seed, seedSent := true, count := 0 })) ⟨fun j => ?_, fun o h => h⟩
      (sendWord_seeded ..)
    rw [State.modLane_eq, State.setLane_lane]
    split
    · next h =>
      rw [h]
      rfl
    · rfl
  · exact ⟨fun _ => rfl, fun _ h => h⟩

theorem seedCheck_seeded (s : State) (p : Nat) : Seeded s (seedCheck s p) := by
  unfold seedCheck
  dsimp only
  split
  · exact holds_forEach (P := Seeded s) (fun t i h => h.trans (sendSeed_seeded t i)) _ ⟨fun _ => rfl, fun _ h => h⟩
  · exact ⟨fun _ => rfl, fun _ h => h⟩

/-- A lane at the start of phase `ph`. -/
def LaneSt.entering (x : LaneSt) (ph : Nat) : LaneSt :=
  { x with phase := ph, ownDone := false, farReady := false, presetPassed := x.presetPassed || ph = 9 }

theorem laneAdvance_waits {s : State} {i : Nat} (h : (s.lane i).ownDone = false ∨ (s.lane i).farReady = false ∨ 8 < (s.lane i).phase) :
    laneAdvance s i = s := by
  unfold laneAdvance
  dsimp only
  rw [if_neg]
  obtain h | h | h := h
  · simp [h]
  · simp [h]
  · simp [show ¬ (s.lane i).phase ≤ 8 by omega]

section
variable {s : State} {i ph : Nat} (ho : (s.lane i).ownDone = true) (hf : (s.lane i).farReady = true) (h3 : 3 ≤ (s.lane i).phase)
  (h8 : (s.lane i).phase ≤ 8) (hph : nextPhase (s.port (lanePort i)).optical (s.lane i).phase = ph)
include ho hf h3 h8 hph

theorem laneAdvance_goes : laneAdvance s i = if ph = 9 then seedCheck (s.setLane i ((s.lane i).entering ph)) (lanePort i)
    else s.setLane i ((s.lane i).entering ph) := by
  unfold laneAdvance
  dsimp only
  rw [if_pos (by simp [ho, hf, h3, h8]), hph]
  rfl

theorem laneAdvance_seeded : Seeded (s.setLane i ((s.lane i).entering ph)) (laneAdvance s i) := by
  rw [laneAdvance_goes ho hf h3 h8 hph]
  split
  · exact seedCheck_seeded _ _
  · exact ⟨fun _ => rfl, fun _ h => h⟩

end

/-- What READY of the far end, or the end's own work, leads to. -/
theorem laneAdvance_phase {s : State} {i : Nat} (h3 : 3 ≤ (s.lane i).phase) : (∀ o ∈ s.out, o ∈ (laneAdvance s i).out) ∧
    ((laneAdvance s i).lane i).phase = (if (s.lane i).ownDone && (s.lane i).farReady && (s.lane i).phase ≤ 8 then
      nextPhase (s.port (lanePort i)).optical (s.lane i).phase else (s.lane i).phase) ∧
    ((s.lane i).ownDone = false ∨ (s.lane i).farReady = false ∨ 8 < (s.lane i).phase →
      ((laneAdvance s i).lane i).farReady = (s.lane i).farReady ∧ ((laneAdvance s i).lane i).ownDone = (s.lane i).ownDone) ∧
    ((laneAdvance s i).lane i).fofs = (s.lane i).fofs ∧ ((laneAdvance s i).lane i).trim = (s.lane i).trim ∧
    ((laneAdvance s i).lane i).oneWay = (s.lane i).oneWay ∧ ((laneAdvance s i).lane i).follower = (s.lane i).follower := by
  by_cases h : (s.lane i).ownDone = false ∨ (s.lane i).farReady = false ∨ 8 < (s.lane i).phase
  · rw [laneAdvance_waits h, if_neg]
    · exact ⟨fun _ h => h, rfl, fun _ => ⟨rfl, rfl⟩, rfl, rfl, rfl, rfl⟩
    · obtain h | h | h := h
      · simp [h]
      · simp [h]
      · simp [show ¬ (s.lane i).phase ≤ 8 by omega]
  · simp only [not_or, Bool.not_eq_false, not_lt] at h
    obtain ⟨ho, hf, h8⟩ := h
    obtain ⟨hs, hout⟩ := laneAdvance_seeded ho hf h3 h8 rfl
    have hi := hs i
    rw [State.setLane_lane, if_pos rfl] at hi
    obtain ⟨e1, e2, e3, e4, e5, e6, e7⟩ := LaneSt.unseeded_inj hi
    exact ⟨hout, by rw [e1, if_pos (by simp [ho, hf, h8])]; rfl, fun h => by simp [ho, hf, show ¬ 8 < (s.lane i).phase by omega] at h,
      e4, e5, e6, e7⟩

/-! ### Training commands -/

theorem trainFails_of {c : Instr} {s u : State} {i cause : Nat} {abort : Bool} (hx : exec c s = .next (trainFail u i cause abort))
    (ha : (u.lane i).attempts = (s.lane i).attempts) (hs : (u.lane i).synth = (s.lane i).synth) (ho : ∀ j, j ≠ i → u.lane j = s.lane j)
    (hp : (u.port (lanePort i)).st = .training) : TrainFails c s i cause := by
  obtain ⟨h1, h2, h3, h4, h5⟩ := trainFail_fails hp cause abort
  exact ⟨_, hx, by rw [h1, ha], h2, h3, by rw [h4, ha, hs], fun j hj => (h5 j hj).trans (ho j hj)⟩

/-- A lane that enters phase 3 with the draw `d`. -/
def LaneSt.drawing (x : LaneSt) (now : Nat) (d : BitVec 16) : LaneSt := { freshTraining x with phase := 3, detectAt := now, draw := d }

theorem rolePayload_sendWord (s : State) (i msg pay : Nat) : rolePayload (sendWord s i msg pay) i = rolePayload s i := by
  unfold rolePayload
  rw [sendWord_lane, if_pos rfl, sendWord_port]

/-- A fresh draw goes out in ROLE (R523). -/
theorem sendRole_eq (s : State) (i : Nat) : sendRole s i =
    sendWord ({ s with free := s.free + 1 }.setLane i { s.lane i with draw := (Config.freeWord s.free).setWidth 16 }) i 1
      (rolePayload (sendRole s i) i) := by
  unfold sendRole
  dsimp only
  rw [rolePayload_sendWord]
  rfl

theorem laneRole_eq (s : State) (i : Nat) : ∃ u : State,
    u.lane i = (s.lane i).drawing s.ao.ticks ((Config.freeWord s.free).setWidth 16) ∧ (∀ j, j ≠ i → u.lane j = s.lane j) ∧
    u.links.ports = s.links.ports ∧ u.events = s.events ∧ laneRole s i = sendWord u i 1 (rolePayload (laneRole s i) i) := by
  refine ⟨_, ?_, fun j hj => ?_, ?_, ?_, sendRole_eq _ i⟩
  · rw [State.setLane_lane, if_pos rfl, State.modLane_eq, State.setLane_lane, if_pos rfl]
    rfl
  · rw [State.setLane_lane, if_neg hj]
    exact (State.setLane_lane _ _ _ _).trans (if_neg hj)
  · rfl
  · rfl

theorem laneRole_frame (s : State) (i : Nat) : ((laneRole s i).lane i).phase = 3 ∧ ((laneRole s i).lane i).detectAt = s.ao.ticks ∧
    ((laneRole s i).lane i).draw = (Config.freeWord s.free).setWidth 16 ∧ ((laneRole s i).lane i).log2nUsed = (s.lane i).log2n ∧
    .control i (ctrlWord 3 1 (rolePayload (laneRole s i) i) (((s.lane i).sendSeq.toNat + 1) % 256)) ∈ (laneRole s i).out ∧
    (∀ j, j ≠ i → (laneRole s i).lane j = s.lane j) ∧ (laneRole s i).links.ports = s.links.ports := by
  obtain ⟨u, hi, hj, hp, _, e⟩ := laneRole_eq s i
  generalize rolePayload (laneRole s i) i = pay at e ⊢
  have hl := sendWord_lane u i 1 pay
  have ho := sendWord_says u i 1 pay
  rw [e, (hl i).trans (if_pos rfl), hi]
  rw [hi] at ho
  exact ⟨rfl, rfl, rfl, rfl, ho, fun j h => (hl j).trans ((if_neg h).trans (hj j h)), hp⟩

/-- The end's own work is done and says so: what READY of the far end then leads to. -/
theorem laneWorkDone_phase {s : State} {i : Nat} (h3 : 3 ≤ (s.lane i).phase) (h8 : (s.lane i).phase ≤ 8) :
    (∀ o ∈ s.out, o ∈ (laneWorkDone s i).out) ∧
    ((laneWorkDone s i).lane i).phase = (if (s.lane i).farReady then nextPhase (s.port (lanePort i)).optical (s.lane i).phase else (s.lane i).phase) ∧
    ((s.lane i).farReady = false → ((laneWorkDone s i).lane i).ownDone = true) ∧
    ((laneWorkDone s i).lane i).fofs = (s.lane i).fofs ∧ ((laneWorkDone s i).lane i).trim = (s.lane i).trim ∧
    ((laneWorkDone s i).lane i).oneWay = (s.lane i).oneWay ∧ ((laneWorkDone s i).lane i).follower = (s.lane i).follower := by
  unfold laneWorkDone
  generalize hw : sendWord (s.modLane i fun x => { x with ownDone := true }) i 2 0 = w
  have hi : w.lane i = { s.lane i with ownDone := true, sendSeq := (w.lane i).sendSeq, msg := 2, msgPay := 0 } := by
    rw [← hw, sendWord_lane, if_pos rfl]
    simp
  have hp : w.port (lanePort i) = s.port (lanePort i) := by
    rw [← hw]
    rfl
  have hout : ∀ o ∈ s.out, o ∈ w.out := by
    rw [← hw]
    exact fun o h => mem_out_emit (s := (s.modLane i _).setLane i _) h _
  have hph : (w.lane i).phase = (s.lane i).phase := by rw [hi]
  obtain ⟨a1, a2, a3, a4, a5, a6, a7⟩ := laneAdvance_phase (s := w) (i := i) (by omega)
  refine ⟨fun o h => a1 o (hout o h), ?_, fun hf => ?_, by rw [a4, hi], by rw [a5, hi], by rw [a6, hi], by rw [a7, hi]⟩
  · rw [a2, hi, hp]
    simp [h8]
  · rw [(a3 (.inr (.inl (by rw [hi]; exact hf)))).2, hi]

theorem laneAdvance_other {s : State} {i j : Nat} (h3 : (s.lane i).phase = 3) (hj : j ≠ i) : (laneAdvance s i).lane j = s.lane j := by
  have hn : nextPhase (s.port (lanePort i)).optical (s.lane i).phase = 4 := by
    rw [h3, nextPhase, if_neg (by simp)]
  cases ho : (s.lane i).ownDone with
  | false => rw [laneAdvance_waits (.inl ho)]
  | true =>
    cases hf : (s.lane i).farReady with
    | false => rw [laneAdvance_waits (.inr (.inl hf))]
    | true =>
      rw [laneAdvance_goes ho hf (by omega) (by omega) hn, if_neg (by decide), State.setLane_lane, if_neg hj]

theorem laneWorkDone_other {s : State} {i j : Nat} (h : (s.lane i).phase = 3) (hj : j ≠ i) : (laneWorkDone s i).lane j = s.lane j := by
  unfold laneWorkDone
  rw [laneAdvance_other (by rw [sendWord_lane, if_pos rfl]; simpa using h) hj, sendWord_lane, if_neg hj]
  exact (State.setLane_lane _ _ _ _).trans (if_neg hj)

theorem takeWord_of_wordNew {s : State} {i msg : Nat} {w : DWord} (h : wordNew (s.lane i) msg w = true) :
    takeWord s i msg w = some (s.setLane i { s.lane i with lastSeq := some (BitVec.ofNat 8 (cwSeq w)) }) := by
  unfold wordNew at h
  unfold takeWord
  rw [if_pos h]
  rfl

/-! ### Finding the far end, roles, and the words of training -/

section
variable {i : Nat} {s : State}

theorem preambleDetected_role {corr : List Int} (hc : wakeFound corr = true) (h : (s.lane i).phase = 2) :
    exec (.preambleDetected i corr) s = .next (laneRole s i) := by
  have hx : exec (.preambleDetected i corr) s = execPreambleDetected i corr s := rfl
  rw [hx, execPreambleDetected, if_neg (by simp [hc]), if_pos h]

theorem preambleDetected_wake {corr : List Int} (hc : wakeFound corr = true) (h : (s.lane i).phase = 11) :
    exec (.preambleDetected i corr) s = .next (emit
      (s.setLane i { s.lane i with phase := 12, waker := false, wakeAt := none, wakeRetried := false, impSeen := false }) (.preamble i)) := by
  have hx : exec (.preambleDetected i corr) s = execPreambleDetected i corr s := rfl
  rw [hx, execPreambleDetected, if_neg (by simp [hc]), if_neg (by omega), if_pos h]
  unfold laneWake
  rw [if_neg (by simp [h])]
  rfl

theorem verifyEnd_fails {u snr cause : Nat} (h9 : (s.lane i).phase = 9) (hs : (s.lane i).seedSent = true) (hr : (s.lane i).seedRx.isSome = true)
    (hp : (s.port (lanePort i)).st = .training) (hc : snr < 207 ∧ cause = 7 ∨ 207 ≤ snr ∧ u ≠ 0 ∧ cause = 8) :
    TrainFails (.verifyEnd i u snr) s i cause := by
  have hx : exec (.verifyEnd i u snr) s = .next (trainFail (s.modLane i fun x => { x with snr := snr % 4096 }) i cause true) := by
    change execVerifyEnd i u snr s = _
    unfold execVerifyEnd
    dsimp only
    rw [if_neg (by simp [h9, hs, Option.isSome_iff_ne_none.1 hr])]
    obtain ⟨h, rfl⟩ | ⟨h, hu, rfl⟩ := hc
    · rw [if_pos h]
    · rw [if_neg (by omega), if_pos hu]
  exact trainFails_of hx (by simp) (by simp) (fun j hj => by simp [hj]) hp

/-- VERIFY passes: the lane is UP, and the last of its port's lanes takes the port to IDENTIFY. -/
theorem verifyEnd_up {snr : Nat} (h9 : (s.lane i).phase = 9) (hs : (s.lane i).seedSent = true) (hr : (s.lane i).seedRx.isSome = true)
    (hsnr : 207 ≤ snr) : Answers (.verifyEnd i 0 snr) s fun t =>
      t.lane i = { s.lane i with phase := 10, attempts := 0, snr := snr % 4096, lastUs := min (usSince s (s.lane i).detectAt) 0xFFFF } ∧
      caused t (.lane i) 0 = true ∧ (∀ j, j ≠ i → t.lane j = s.lane j) ∧
      ((s.port (lanePort i)).st = .training → i ∈ portLanes s (lanePort i) →
        (∀ j ∈ portLanes s (lanePort i), j ≠ i → (s.lane j).phase = 10 ∨ (s.lane j).phase = 15 ∨ (s.lane j).dropped = true) →
        (t.port (lanePort i)).st = .identify) := by
  have hx : exec (.verifyEnd i 0 snr) s = execVerifyEnd i 0 snr s := rfl
  rw [Answers, hx, execVerifyEnd]
  dsimp only
  rw [if_neg (by simp [h9, hs, Option.isSome_iff_ne_none.1 hr]), if_neg (by omega), if_neg (by simp)]
  refine ⟨_, rfl, ?_⟩
  generalize hv : raise (logEvent _ _ _ _ _) (.lane i) 0 = v
  have hl : ∀ j, v.lane j = if j = i then
      { s.lane i with phase := 10, attempts := 0, snr := snr % 4096, lastUs := min (usSince s (s.lane i).detectAt) 0xFFFF } else s.lane j := by
    intro j
    rw [← hv]
    simp only [raise_lane, logEvent_lane, State.modLane_eq, State.setLane_lane, if_true]
    split <;> rfl
  have hports : ∀ p, v.port p = s.port p := by
    intro p
    rw [← hv, raise_port, logEvent_port]
    rfl
  have hc : caused v (.lane i) 0 = true := by
    rw [← hv]
    exact caused_raise_same _ _ (by decide)
  obtain ⟨t1, t2, _⟩ := trainedCheck_frame v (lanePort i)
  refine ⟨?_, (caused_congr t2 _ _).trans hc, fun j hj => ?_, fun hst hi hall => ?_⟩
  · rw [lane_congr t1, hl, if_pos rfl]
  · rw [lane_congr t1, hl, if_neg hj]
  · have hlanes : portLanes v (lanePort i) = portLanes s (lanePort i) := by
      unfold portLanes modeLanes
      rw [hports]
    have h10 : (v.lane i).phase = 10 := by rw [hl, if_pos rfl]
    unfold trainedCheck
    dsimp only
    rw [if_pos]
    · exact (enterIdentify_frame _ _ _).2.2.1
    · rw [hports, hst, hlanes]
      simp only [Bool.and_eq_true, decide_eq_true_eq, List.all_eq_true, Bool.or_eq_true, ne_eq, true_and]
      refine ⟨List.ne_nil_of_mem (List.mem_filter.2 ⟨hi, by simpa using h10⟩), fun j hj => ?_⟩
      by_cases hji : j = i
      · rw [hji]
        exact .inl (.inl h10)
      · rw [hl, if_neg hji]
        have := hall j hj hji
        tauto

theorem role_meets {w : DWord} (h3 : (s.lane i).phase = 3) (hw : wordNew (s.lane i) 1 w = true) {u : State}
    (hu : u = s.setLane i { s.lane i with lastSeq := some (BitVec.ofNat 8 (cwSeq w)) }) : exec (.role i w) s =
    if bit (cwPay w) 16 ≠ (s.port (lanePort i)).optical || fld (cwPay w) 17 5 ≠ (s.lane i).log2nUsed then .next (trainFail u i 3 true)
    else if fld (cwPay w) 0 16 = (s.lane i).draw.toNat then
      (if 8 ≤ (s.lane i).equalDraws + 1 then .next (trainFail u i 2 true)
       else .next (sendRole (u.modLane i (fun x => { x with equalDraws := x.equalDraws + 1 })) i))
    else if (s.lane i).ownDone then .next u
    else .next (laneWorkDone (u.modLane i (fun x => { x with follower := decide (x.draw.toNat < fld (cwPay w) 0 16) })) i) := by
  have hx : exec (.role i w) s = execRole i w s := rfl
  rw [hx, execRole, if_neg (by simp [h3]), takeWord_of_wordNew hw, ← hu]
  have hi : u.lane i = { s.lane i with lastSeq := some (BitVec.ofNat 8 (cwSeq w)) } := by
    rw [hu, State.setLane_lane, if_pos rfl]
  have hp : u.port (lanePort i) = s.port (lanePort i) := by
    rw [hu]
    rfl
  dsimp only
  rw [hi, hp]

end

section
variable {i : Nat} {s : State}

/-- A lane once it has taken a control word. -/
def LaneSt.told (x : LaneSt) (w : DWord) : LaneSt := { x with lastSeq := some (BitVec.ofNat 8 (cwSeq w)) }

theorem role_judged {w : DWord} (h3 : (s.lane i).phase = 3) (hw : wordNew (s.lane i) 1 w = true) :
    (bit (cwPay w) 16 ≠ (s.port (lanePort i)).optical ∨ fld (cwPay w) 17 5 ≠ (s.lane i).log2nUsed →
      (s.port (lanePort i)).st = .training → TrainFails (.role i w) s i 3) ∧
    (bit (cwPay w) 16 = (s.port (lanePort i)).optical → fld (cwPay w) 17 5 = (s.lane i).log2nUsed →
      (fld (cwPay w) 0 16 ≠ (s.lane i).draw.toNat → (s.lane i).ownDone = false → Answers (.role i w) s fun t =>
        (t.lane i).follower = decide ((s.lane i).draw.toNat < fld (cwPay w) 0 16) ∧ (t.lane i).phase = (if (s.lane i).farReady then 4 else 3) ∧
        ((s.lane i).farReady = false → (t.lane i).ownDone = true) ∧ ∀ j, j ≠ i → t.lane j = s.lane j) ∧
      (fld (cwPay w) 0 16 = (s.lane i).draw.toNat → (s.lane i).equalDraws < 7 → Answers (.role i w) s fun t =>
        (t.lane i).equalDraws = (s.lane i).equalDraws + 1 ∧ (t.lane i).phase = 3 ∧ (t.lane i).draw = (Config.freeWord s.free).setWidth 16) ∧
      (fld (cwPay w) 0 16 = (s.lane i).draw.toNat → 7 ≤ (s.lane i).equalDraws → (s.port (lanePort i)).st = .training →
        TrainFails (.role i w) s i 2)) := by
  have hx := role_meets h3 hw rfl
  generalize hu : s.setLane i { s.lane i with lastSeq := some (BitVec.ofNat 8 (cwSeq w)) } = u at hx
  have hi : u.lane i = (s.lane i).told w := by
    rw [← hu, State.setLane_lane, if_pos rfl]
    rfl
  have hj : ∀ j, j ≠ i → u.lane j = s.lane j := fun j hj => by rw [← hu, State.setLane_lane, if_neg hj]
  have hp : u.port (lanePort i) = s.port (lanePort i) := by
    rw [← hu]
    rfl
  have hfree : u.free = s.free := by
    rw [← hu]
    rfl
  refine ⟨fun hm ht => ?_, fun hm1 hm2 => ?_⟩
  · rw [if_pos (by simpa using hm)] at hx
    exact trainFails_of hx (by rw [hi]; rfl) (by rw [hi]; rfl) hj (by rw [hp, ht])
  · rw [if_neg (by simp [hm1, hm2])] at hx
    refine ⟨fun hd ho => ?_, fun hd he => ?_, fun hd he ht => ?_⟩
    · rw [if_neg hd, if_neg (by simp [ho])] at hx
      refine ⟨_, hx, ?_⟩
      generalize hv : u.modLane i _ = v
      have hvi : v.lane i = { (s.lane i).told w with follower := decide ((s.lane i).draw.toNat < fld (cwPay w) 0 16) } := by
        rw [← hv, State.modLane_eq, State.setLane_lane, if_pos rfl, hi]
        rfl
      have hv3 : (v.lane i).phase = 3 := by
        rw [hvi]
        exact h3
      obtain ⟨_, w2, w3, _, _, _, w7⟩ := laneWorkDone_phase (s := v) (i := i) (by omega) (by omega)
      refine ⟨?_, ?_, fun hf => w3 (by rw [hvi]; exact hf), fun j h => ?_⟩
      · rw [w7, hvi]
      · rw [w2, hv3, hvi]
        have hn : nextPhase (v.port (lanePort i)).optical 3 = 4 := by
          rw [nextPhase, if_neg (by simp)]
        rw [hn]
        rfl
      · rw [laneWorkDone_other hv3 h, ← hv, State.modLane_eq, State.setLane_lane, if_neg h, hj j h]
    · rw [if_pos hd, if_neg (by omega)] at hx
      refine ⟨_, hx, ?_⟩
      beta_reduce
      rw [sendRole_eq, sendWord_lane, if_pos rfl, State.setLane_lane, if_pos rfl, State.modLane_eq, State.setLane_lane, if_pos rfl, hi]
      exact ⟨rfl, h3, congrArg (fun n => (Config.freeWord n).setWidth 16) hfree⟩
    · rw [if_pos hd, if_pos (by omega)] at hx
      exact trainFails_of hx (by rw [hi]; rfl) (by rw [hi]; rfl) hj (by rw [hp, ht])

theorem ready_held {w : DWord} (ht : inTraining (s.lane i) = true) (hph : cwPhase w = (s.lane i).phase) (hw : wordNew (s.lane i) 2 w = true) :
    Answers (.ready i w) s fun t =>
      (t.lane i).phase = (if (s.lane i).ownDone && (s.lane i).phase ≤ 8 then nextPhase (s.port (lanePort i)).optical (s.lane i).phase
        else (s.lane i).phase) ∧
      ((s.lane i).ownDone = false ∨ (s.lane i).phase = 9 → (t.lane i).farReady = true) := by
  have hx : exec (.ready i w) s = execReady i w s := rfl
  rw [Answers, hx, execReady, if_neg (by simp [ht, hph]), takeWord_of_wordNew hw]
  refine ⟨_, rfl, ?_⟩
  generalize hv : State.modLane _ _ _ = v
  have hvi : v.lane i = { (s.lane i).told w with farReady := true } := by
    rw [← hv, State.modLane_eq, State.setLane_lane, if_pos rfl, State.setLane_lane, if_pos rfl]
    rfl
  have hvp : v.port (lanePort i) = s.port (lanePort i) := by
    rw [← hv]
    rfl
  have h3 : 3 ≤ (s.lane i).phase := by
    rw [inTraining, Bool.and_eq_true] at ht
    simpa using ht.1
  obtain ⟨_, a2, a3, _⟩ := laneAdvance_phase (s := v) (i := i) (by rw [hvi]; exact h3)
  refine ⟨?_, fun h => ?_⟩
  · rw [a2, hvi, hvp]
    dsimp only
    rw [Bool.and_true]
    rfl
  · have hcase : (v.lane i).ownDone = false ∨ (v.lane i).farReady = false ∨ 8 < (v.lane i).phase := by
      rw [hvi]
      obtain h | h := h
      · exact .inl h
      · exact .inr (.inr (by change 8 < (s.lane i).phase; omega))
    rw [(a3 hcase).1, hvi]

theorem presetReq_applied {w : DWord} (h8 : (s.lane i).phase = 8) (hw : wordNew (s.lane i) 3 w = true) : Answers (.presetReq i w) s fun t =>
    t.lane i = { s.lane i with lastSeq := some (BitVec.ofNat 8 (cwSeq w)), preset := if (s.lane i).force then (s.lane i).presetForce else BitVec.ofNat 3 (cwPay w) } ∧
    ∀ j, j ≠ i → t.lane j = s.lane j := by
  have hx : exec (.presetReq i w) s = execPresetReq i w s := rfl
  rw [Answers, hx, execPresetReq, if_neg (by simp [h8]), takeWord_of_wordNew hw]
  exact ⟨_, rfl, by simp, fun j hj => by simp [hj]⟩

theorem seed_taken {w : DWord} (h9 : (s.lane i).phase = 9) (hn : fld (cwPay w) 0 31 ≠ 0) (hw : wordNew (s.lane i) 4 w = true) :
    Answers (.seed i w) s fun t =>
      t.lane i = { s.lane i with lastSeq := some (BitVec.ofNat 8 (cwSeq w)), seedRx := some (BitVec.ofNat 31 (cwPay w)) } ∧
      ∀ j, j ≠ i → t.lane j = s.lane j := by
  have hx : exec (.seed i w) s = execSeed i w s := rfl
  rw [Answers, hx, execSeed, if_neg (by simp [h9, hn]), takeWord_of_wordNew hw]
  exact ⟨_, rfl, by simp, fun j hj => by simp [hj]⟩

theorem abort_fails {w : DWord} (ht : inTraining (s.lane i) = true) (hw : wordNew (s.lane i) 6 w = true)
    (hp : (s.port (lanePort i)).st = .training) : TrainFails (.abort i w) s i 9 := by
  have hx : exec (.abort i w) s = execAbort i w s := rfl
  have h10 : (s.lane i).phase ≠ 10 := by
    rw [inTraining, Bool.and_eq_true] at ht
    have : (s.lane i).phase ≤ 9 := by simpa using ht.2
    omega
  rw [execAbort, if_neg (by simp [ht]), takeWord_of_wordNew hw] at hx
  dsimp only at hx
  rw [if_neg h10] at hx
  exact trainFails_of hx (by simp) (by simp) (fun j hj => by simp [hj]) hp

/-! ### The work of the phases (R519, R520, R523) -/

theorem laneResult_frame (x : LaneSt) (opt : Bool) (m : LaneMeas) : (laneResult x opt m).phase = x.phase ∧
    (laneResult x opt m).farReady = x.farReady ∧ (laneResult x opt m).sendSeq = x.sendSeq ∧
    (x.phase = 4 → (laneResult x opt m).fofs = m.fofs ∧ (laneResult x opt m).trim = (if x.follower then m.fofs else 0)) ∧
    (x.phase = 7 → (laneResult x opt m).oneWay = m.oneWay % 65536) := by
  unfold laneResult
  split
  · next h => exact ⟨rfl, rfl, rfl, fun _ => ⟨rfl, rfl⟩, fun h7 => by omega⟩
  · next h => split <;> exact ⟨rfl, rfl, rfl, fun h4 => by omega, fun h7 => by omega⟩
  · next h => split <;> exact ⟨rfl, rfl, rfl, fun h4 => by omega, fun h7 => by omega⟩
  · next h => split <;> exact ⟨rfl, rfl, rfl, fun h4 => by omega, fun _ => rfl⟩
  · next h4 _ _ h7 => exact ⟨rfl, rfl, rfl, fun h => absurd h h4, fun h => absurd h h7⟩

theorem phaseDone_fails {m : LaneMeas} {cause : Nat} (ho : (s.lane i).ownDone = false) (hp : (s.port (lanePort i)).st = .training)
    (hc : cause = 4 ∧ (s.lane i).phase = 4 ∧ (s.lane i).follower = true ∧ (m.fofs < -25000 ∨ 25000 < m.fofs) ∨
      cause = 5 ∧ (s.lane i).phase = 7 ∧ (s.port (lanePort i)).optical = false ∧ 350 < m.oneWay) :
    TrainFails (.trainingPhaseDone i m) s i cause := by
  have hx : exec (.trainingPhaseDone i m) s = .next (trainFail s i cause true) := by
    change execTrainingPhaseDone i m s = _
    unfold execTrainingPhaseDone
    dsimp only
    obtain ⟨rfl, h4, hf, hm⟩ | ⟨rfl, h7, hopt, hm⟩ := hc
    · rw [if_neg (by omega), if_neg (by simp [h4]), if_neg (by simp [ho]), if_pos (by simpa [h4, hf] using hm)]
    · rw [if_neg (by omega), if_neg (by simp [h7]), if_neg (by simp [ho]), if_neg (by simp [h7]), if_pos (by simp [h7, hopt, hm])]
  exact trainFails_of hx rfl rfl (fun _ _ => rfl) hp

theorem phaseDone_done {m : LaneMeas} (ho : (s.lane i).ownDone = false) (h4 : 4 ≤ (s.lane i).phase) (h8 : (s.lane i).phase ≤ 8)
    (hm4 : (s.lane i).phase = 4 → (s.lane i).follower = true → -25000 ≤ m.fofs ∧ m.fofs ≤ 25000)
    (hm7 : (s.lane i).phase = 7 → (s.port (lanePort i)).optical = false → m.oneWay ≤ 350) : Answers (.trainingPhaseDone i m) s fun t =>
      (t.lane i).phase = (if (s.lane i).farReady then nextPhase (s.port (lanePort i)).optical (s.lane i).phase else (s.lane i).phase) ∧
      ((s.lane i).farReady = false → (t.lane i).ownDone = true) ∧
      ((s.lane i).phase = 4 → (t.lane i).fofs = m.fofs ∧ (t.lane i).trim = (if (s.lane i).follower then m.fofs else 0)) ∧
      ((s.lane i).phase = 7 → (t.lane i).oneWay = m.oneWay % 65536) ∧
      ((s.lane i).phase = 8 → .control i (ctrlWord 8 3 m.bestPreset.toNat (((s.lane i).sendSeq.toNat + 1) % 256)) ∈ t.out) := by
  have hx : exec (.trainingPhaseDone i m) s = execTrainingPhaseDone i m s := rfl
  rw [Answers, hx, execTrainingPhaseDone]
  dsimp only
  rw [if_neg (by omega), if_neg (by simp; omega), if_neg (by simp [ho]), if_neg, if_neg]
  · refine ⟨_, rfl, ?_⟩
    obtain ⟨r1, r2, r3, r4, r5⟩ := laneResult_frame (s.lane i) (s.port (lanePort i)).optical m
    generalize laneResult (s.lane i) (s.port (lanePort i)).optical m = y at r1 r2 r3 r4 r5
    generalize hv : (if (s.lane i).phase = 8 then sendWord (s.setLane i y) i 3 m.bestPreset.toNat else s.setLane i y) = v
    have hvi : (v.lane i).unseeded = y.unseeded := by
      rw [← hv]
      split
      · rw [(sendWord_seeded _ _ _ _).1, State.setLane_lane, if_pos rfl]
      · rw [State.setLane_lane, if_pos rfl]
    have hvp : v.port (lanePort i) = s.port (lanePort i) := by
      rw [← hv]
      split <;> rfl
    have hvo : (s.lane i).phase = 8 → .control i (ctrlWord 8 3 m.bestPreset.toNat (((s.lane i).sendSeq.toNat + 1) % 256)) ∈ v.out := by
      intro h
      have hs := sendWord_says (s.setLane i y) i 3 m.bestPreset.toNat
      rw [State.setLane_lane, if_pos rfl, r1, r3, h] at hs
      rwa [← hv, if_pos h]
    obtain ⟨e1, e2, e3, e4, e5, e6, e7⟩ := LaneSt.unseeded_inj hvi
    obtain ⟨a1, a2, a3, a4, a5, a6, a7⟩ := laneWorkDone_phase (s := v) (i := i) (by omega) (by omega)
    refine ⟨?_, fun hf => a3 (by rw [e2, r2, hf]), fun h => ?_, fun h => ?_, fun h => a1 _ (hvo h)⟩
    · rw [a2, e1, e2, r1, r2, hvp]
    · rw [a4, a5, e4, e5]
      exact r4 h
    · rw [a6, e6]
      exact r5 h
  · simp only [Bool.and_eq_true, decide_eq_true_eq, Bool.not_eq_true', not_and, not_lt]
    exact fun h => hm7 h.1 h.2
  · simp only [Bool.and_eq_true, decide_eq_true_eq, Bool.or_eq_true, not_and, not_or, not_lt]
    exact fun h => hm4 h.1 h.2

end

theorem port_congr {s t : State} (h : t.links.ports = s.links.ports) (p : Nat) : t.port p = s.port p := by
  rw [State.port, h, State.port]

/-! ### A lane that leaves a port in service (R565) -/

theorem reformDone_waits {s : State} {p : Nat} (h : (s.port p).reformFar = none) : reformDone s p = s := by
  unfold reformDone
  dsimp only
  rw [h]
  split
  · contradiction
  · rfl

/-- A port that proposes the lanes left to it reforms with them; no lane and no other port changes. -/
theorem startReform_frame {s : State} {p : Nat} (h : (s.port p).reformFar = none) (old left : BitVec 8) :
    (startReform s p old left).links.lanes = s.links.lanes ∧ ((startReform s p old left).port p).st = .reforming ∧
    ((startReform s p old left).port p).mask = left ∧ (startReform s p old left).hdrs = s.hdrs ∧
    (startReform s p old left).events = s.events ∧ ((startReform s p old left).port p).bertPass = (s.port p).bertPass := by
  unfold startReform
  dsimp only
  generalize hu : s.modPort p _ = u
  have hup : (u.port p).st = .reforming ∧ (u.port p).mask = left ∧ (u.port p).reformFar = none ∧ (u.port p).bertPass = (s.port p).bertPass := by
    rw [← hu, State.modPort_eq, State.setPort_port, if_pos rfl]
    exact ⟨rfl, rfl, h, rfl⟩
  have hm := (Sent.refl p u).sendMgmt 3 ([0] ++ leBytes 2 left.toNat)
  obtain ⟨_, _, _, _, e⟩ := hm.self
  rw [reformDone_waits (by rw [e]; exact hup.2.2.1), e, hm.lanes, hm.hdrs, hm.events]
  exact ⟨by rw [← hu]; rfl, hup.1, hup.2.1, by rw [← hu]; rfl, by rw [← hu]; rfl, hup.2.2.2⟩

theorem laneOff_lane (s : State) (i j : Nat) : (laneOff s i).lane j = if j = i then
    { freshTraining (s.lane i) with phase := 0, synth := false, lastSeq := none, msg := 0, msgPay := 0 } else s.lane j := by
  unfold laneOff
  simp

/-- A lane in service of an UP port that can go on without it is unpowered, and the port reforms. -/
theorem laneLeaves_up {s : State} {i : Nat} (h : leavesUp s i = true) : LeftUp s (laneLeaves s i) i ∧ (laneLeaves s i).hdrs = s.hdrs ∧
    (laneLeaves s i).events = s.events ∧ ∀ j, j ≠ i → (laneLeaves s i).lane j = s.lane j := by
  unfold leavesUp at h
  simp only [Bool.and_eq_true, decide_eq_true_eq, Option.isNone_iff_eq_none] at h
  obtain ⟨⟨⟨⟨hst, hm⟩, hl⟩, hc⟩, hf⟩ := h
  have heq : laneLeaves s i = startReform ((laneOff s i).modLane i (fun y => { y with dropped := true })) (lanePort i) (s.port (lanePort i)).mask
      ((s.port (lanePort i)).mask &&& ~~~ BitVec.ofNat 8 (2 ^ (i % 8))) := by
    unfold laneLeaves
    dsimp only
    rw [if_neg (by simp [hst]), if_neg (by simp [hm]), if_neg hl, if_neg (by omega), if_pos (by simp [hst])]
  obtain ⟨r1, r2, r3, r4, r5, _⟩ := startReform_frame (s := (laneOff s i).modLane i (fun y => { y with dropped := true })) (p := lanePort i)
    hf (s.port (lanePort i)).mask ((s.port (lanePort i)).mask &&& ~~~ BitVec.ofNat 8 (2 ^ (i % 8)))
  have hlane : ∀ j, (laneLeaves s i).lane j = ((laneOff s i).modLane i (fun y => { y with dropped := true })).lane j := fun j => by
    rw [heq, lane_congr r1]
  refine ⟨⟨?_, ?_, by rw [heq, r2], by rw [heq, r3]⟩, by rw [heq, r4]; rfl, by rw [heq, r5]; rfl, fun j hj => ?_⟩
  · rw [hlane, State.modLane_eq, State.setLane_lane, if_pos rfl, laneOff_lane, if_pos rfl]
  · rw [hlane, State.modLane_eq, State.setLane_lane, if_pos rfl]
  · rw [hlane, State.modLane_eq, State.setLane_lane, if_neg hj, laneOff_lane, if_neg hj]

theorem leavesUp_congr {s t : State} {i : Nat} (h : t.port (lanePort i) = s.port (lanePort i)) : leavesUp t i = leavesUp s i := by
  unfold leavesUp
  rw [h]

theorem LeftUp.of_port {s t u : State} {i : Nat} (h : LeftUp t u i) (hp : t.port (lanePort i) = s.port (lanePort i)) : LeftUp s u i := by
  obtain ⟨h1, h2, h3, h4⟩ := h
  exact ⟨h1, h2, h3, by rw [h4, hp]⟩

/-- A lane in data that leaves an UP port is told of, and the port reforms. -/
theorem laneFalls_up {s t : State} {i : Nat} (h : leavesUp s i = true) (hp : t.port (lanePort i) = s.port (lanePort i)) :
    LeftUp s (laneFalls t i) i ∧ caused (laneFalls t i) (.lane i) 1 = true ∧ (laneFalls t i).events = t.events := by
  have hr : (raise t (.lane i) 1).port (lanePort i) = s.port (lanePort i) := (raise_port _ _ _ _).trans hp
  obtain ⟨h1, h2, h3, _⟩ := laneLeaves_up ((leavesUp_congr hr).trans h)
  exact ⟨h1.of_port hr, (caused_congr h2 _ _).trans (caused_raise_same _ _ (by decide)), h3.trans (raise_events _ _ _)⟩

/-! ### RETRAIN (R537, R544) -/

section
variable {i : Nat} {w : RegWrite} {s : State} (hw : writeOk s (.lane i) w = true) (hgo : w.ones.getLsbD 0 = true)
include hw hgo

theorem retrain_refused (h : (s.lane i).phase = 0) : Answers (.retrain i w) s fun t =>
    t.links = s.links ∧ (t.hdr (.lane i)).lastRefusal = word [(0, 0x02), (8, 0x40), (24, w.master.num)] := by
  have hx : exec (.retrain i w) s = .next (writeLaneCtrl i w s).1 := rfl
  have hj : judge s (.lane i) w { wrongState := w.ones.getLsbD 0 && decide ((s.lane i).phase = 0) } = .wrongState := by
    rw [judge_of_writeOk hw]
    simp only [hgo, h, decide_true, Bool.and_self, if_true, Bool.false_eq_true, if_false]
  rw [Answers, hx, writeLaneCtrl]
  dsimp only
  rw [guarded_refuses hw 0x40 hj (by decide)]
  exact ⟨_, rfl, recordRefusal_links .., recordRefusal_last ..⟩

theorem retrain_runs (h : (s.lane i).phase ≠ 0) : ∃ u : State, ((u.lane i).phase = if (s.lane i).synth then 2 else 1) ∧
    (u.lane i).attempts = 0 ∧ u.links.ports = s.links.ports ∧ (∀ j, j ≠ i → u.lane j = s.lane j) ∧
    exec (.retrain i w) s = .next (if (s.lane i).phase = 10 || (s.lane i).phase = 11 || (s.lane i).phase = 12 then laneFalls u i else u) := by
  have hx : exec (.retrain i w) s = .next (writeLaneCtrl i w s).1 := rfl
  rw [hx, writeLaneCtrl]
  dsimp only
  rw [guarded_passes hw 0x40 (by simp [Checks.pass, h]), hgo]
  refine ⟨_, ?_, ?_, ?_, ?_, rfl⟩
  · simp [laneDetect]
  · simp [laneDetect, freshTraining]
  · rfl
  · intro j hj
    simp [laneDetect, hj]

theorem retrain_starts (h : (s.lane i).phase ≠ 0) (h10 : (s.lane i).phase ≠ 10) (h11 : (s.lane i).phase ≠ 11) (h12 : (s.lane i).phase ≠ 12) :
    Answers (.retrain i w) s fun t => (t.lane i).phase = (if (s.lane i).synth then 2 else 1) ∧ (t.lane i).attempts = 0 ∧
      t.links.ports = s.links.ports ∧ ∀ j, j ≠ i → t.lane j = s.lane j := by
  obtain ⟨u, h1, h2, h3, h4, hx⟩ := retrain_runs hw hgo h
  rw [if_neg (by simp [h10, h11, h12])] at hx
  exact ⟨u, hx, h1, h2, h3, h4⟩

theorem retrain_leaves (h : (s.lane i).phase = 10) (hl : leavesUp s i = true) :
    Answers (.retrain i w) s fun t => LeftUp s t i ∧ caused t (.lane i) 1 = true := by
  obtain ⟨u, _, _, h3, _, hx⟩ := retrain_runs hw hgo (by omega)
  rw [if_pos (by simp [h])] at hx
  obtain ⟨l1, l2, _⟩ := laneFalls_up hl (port_congr h3 _)
  exact ⟨_, hx, l1, l2⟩

end

/-- Settles O52: a lane trains phase by phase, and each way to fail is counted. -/
theorem lanesTrain : Obligations.LanesTrain := by
  unfold Obligations.LanesTrain
  refine ⟨?_, ?_, ?_, ?_⟩
  · rintro i s x rfl
    refine ⟨fun h => ?_, fun h hp => ?_, fun h => ?_, fun corr hc => ?_, fun corr hc h => ?_, fun corr hc h => preambleDetected_wake hc h,
      fun h hp => ?_, fun h9 hs hr u snr => ⟨fun h hp => ?_, fun h hu hp => ?_, fun h hu => ?_⟩⟩
    · have hx : exec (.synthLock i) s = execSynthLock i s := rfl
      rw [hx, execSynthLock, if_pos h]
      rfl
    · have hx : exec (.synthLockTimeout i) s = execSynthLockTimeout i s := rfl
      rw [execSynthLockTimeout, if_pos h] at hx
      exact trainFails_of hx rfl rfl (fun _ _ => rfl) hp
    · have hx : exec (.detectPreambleSend i) s = execDetectPreambleSend i s := rfl
      rw [hx, execDetectPreambleSend, if_pos h]
    · have hx : exec (.preambleDetected i corr) s = execPreambleDetected i corr s := rfl
      rw [hx, execPreambleDetected, if_pos (by simp [hc])]
    · exact ⟨_, preambleDetected_role hc h, laneRole_frame s i⟩
    · have hx : exec (.phaseBoundExpire i) s = execPhaseBoundExpire i s := rfl
      rw [execPhaseBoundExpire, if_pos h] at hx
      exact trainFails_of hx rfl rfl (fun _ _ => rfl) hp
    · exact verifyEnd_fails h9 hs hr hp (.inl ⟨h, rfl⟩)
    · exact verifyEnd_fails h9 hs hr hp (.inr ⟨h, hu, rfl⟩)
    · rw [hu]
      exact verifyEnd_up h9 hs hr h
  · rintro i w s x rfl
    refine ⟨fun h3 hw opt hopt => ?_, ready_held, presetReq_applied, seed_taken, abort_fails⟩
    rw [hopt]
    exact role_judged h3 hw
  · rintro i m s x opt rfl rfl ho
    exact ⟨fun h4 hf hm hp => phaseDone_fails ho hp (.inl ⟨rfl, h4, hf, hm⟩), fun h7 hopt hm hp => phaseDone_fails ho hp (.inr ⟨rfl, h7, hopt, hm⟩),
      phaseDone_done ho⟩
  · rintro i w s x hw rfl hgo
    exact ⟨retrain_refused hw hgo, retrain_starts hw hgo, retrain_leaves hw hgo⟩

/-! ### What a port's own operations leave alone -/

/-- A property of states that nothing done for port `p` touches: it survives any change of a lane, of the port, of the ledgers and of the
stream of free choices, and any output, event or cause. -/
structure LinkStable (p : Nat) (P : State → Prop) : Prop where
  lane : ∀ {t} k v, P t → P (t.setLane k v)
  port : ∀ {t} v, P t → P (t.setPort p v)
  ledgers : ∀ {t} x, P t → P { t with ledgers := x }
  free : ∀ {t} x, P t → P { t with free := x }
  emit : ∀ {t} o, P t → P (emit t o)
  raise : ∀ {t} q i, P t → P (raise t q i)
  logEvent : ∀ {t} code sev q a, P t → P (logEvent t code sev q a)

section
variable {p : Nat} {P : State → Prop} {t : State} (hP : LinkStable p P) (h : P t)
include hP h

theorem modReplay_linkStable (f : ReplayRow → ReplayRow) : P (modReplay t p f) := by
  unfold modReplay
  split
  · exact hP.ledgers _ h
  · exact h

theorem pump_linkStable (n : Nat) : P (pump t p n) := by
  induction n generalizing t with
  | zero => exact h
  | succ n ih =>
    unfold pump
    dsimp only
    split
    · exact h
    · split
      · exact h
      · exact ih (hP.emit _ (hP.port _ h))

theorem pushFlit_linkStable (vc : BitVec 2) (b : List Byte) : P (pushFlit t p vc b) :=
  pump_linkStable hP (modReplay_linkStable hP (hP.port _ h) _) 256

theorem sendMgmt_linkStable (type : Nat) (b : List Byte) : P (sendMgmt t p type b) := by
  unfold sendMgmt
  dsimp only
  split
  · exact pushFlit_linkStable hP (hP.emit _ h) _ _
  · exact hP.emit _ h

theorem resendAll_linkStable : P (resendAll t p) := holds_forEach (fun _ _ h => hP.emit _ h) _ h

theorem logWriteOff_linkStable (a b c d : Nat) : P (logWriteOff t a b c d) := hP.raise _ _ (hP.logEvent _ _ _ _ h)

theorem writeOffFlits_linkStable (f : TxFlit → Bool) : P (writeOffFlits t p f) := by
  unfold writeOffFlits
  dsimp only
  split
  · exact h
  · split
    · exact modReplay_linkStable hP (hP.port _ h) _
    · exact logWriteOff_linkStable hP (modReplay_linkStable hP (hP.port _ h) _) _ _ _ _

theorem enterIdentify_linkStable (b : Bool) : P (enterIdentify t p b) := sendMgmt_linkStable hP (hP.port _ h) _ _

theorem trainedCheck_linkStable : P (trainedCheck t p) := by
  obtain e | ⟨m, e⟩ := trainedCheck_cases t p <;> rw [e]
  · exact h
  · exact enterIdentify_linkStable hP (hP.port _ h) true

theorem sendWord_linkStable (i msg pay : Nat) : P (sendWord t i msg pay) := hP.emit _ (hP.lane _ _ h)

theorem sendRole_linkStable (i : Nat) : P (sendRole t i) := sendWord_linkStable hP (hP.lane _ _ (hP.free _ h)) _ _ _

theorem laneRole_linkStable (i : Nat) : P (laneRole t i) := sendRole_linkStable hP (hP.lane _ _ h) i

theorem portTime_linkStable (q : Nat) : P (portTime t q) := by
  unfold portTime
  refine holds_forEach (fun t i h => ?_) _ (hP.free _ h)
  split
  · exact hP.lane _ _ h
  · exact h

theorem laneWake_linkStable (i : Nat) (named : Option Nat) : P (laneWake t i named) := by
  unfold laneWake
  split
  · exact h
  · dsimp only
    split
    · exact sendWord_linkStable hP (hP.emit _ (hP.lane _ _ h)) _ _ _
    · exact hP.emit _ (hP.lane _ _ h)

theorem portWake_linkStable (q : Nat) : P (portWake t q) := by
  unfold portWake
  dsimp only
  refine holds_forEach ?_ _ (hP.free _ (portTime_linkStable hP h q))
  exact fun t i h => laneWake_linkStable hP h i _

theorem drainStep_linkStable : P (drainStep t p) := by
  unfold drainStep
  dsimp only
  split
  · exact sendMgmt_linkStable hP (hP.port _ h) _ _
  · exact h

theorem drainedCheck_linkStable : P (drainedCheck t p) := by
  unfold drainedCheck
  dsimp only
  split
  · exact hP.raise _ _ (hP.logEvent _ _ _ _ (hP.port _ h))
  · exact h

theorem startDrain_linkStable : P (startDrain t p) :=
  drainedCheck_linkStable hP (drainStep_linkStable hP (sendMgmt_linkStable hP (hP.port _ h) _ _))

theorem lanesOff_linkStable (q : Nat) : P (lanesOff t q) := holds_forEach (fun _ _ h => hP.lane _ _ h) _ h

theorem portOff_linkStable : P (portOff t p) :=
  lanesOff_linkStable hP (hP.port _ (writeOffFlits_linkStable hP h _)) p

theorem portTrain_linkStable : P (portTrain t p) := by
  unfold portTrain
  split
  · exact portOff_linkStable hP h
  · refine holds_forEach ?_ _ (lanesOff_linkStable hP (hP.port _ h) p)
    exact fun t i h => hP.lane _ _ h

theorem portDown_linkStable (cause : Nat) : P (portDown t p cause) := by
  unfold portDown
  have hd := hP.raise (.port p) 1 (hP.logEvent 0x6012 3 (.port p) [p, cause, (t.port p).unacked.length, 0]
    (writeOffFlits_linkStable hP h (fun _ => true)))
  dsimp only
  split
  · exact portOff_linkStable hP (hP.port _ hd)
  · split
    · exact lanesOff_linkStable hP (hP.port _ (hP.port _ hd)) p
    · exact portTrain_linkStable hP (hP.port _ hd)

theorem reformDone_linkStable : P (reformDone t p) := by
  unfold reformDone
  dsimp only
  split
  · generalize hu : forEach _ t _ = u
    have hp : P u := by
      rw [← hu]
      refine holds_forEach ?_ _ h
      exact fun t i h => hP.lane _ _ (hP.lane _ _ h)
    split
    · exact portDown_linkStable hP (hP.port _ hp) 3
    · split
      · exact startDrain_linkStable hP (pump_linkStable hP (resendAll_linkStable hP (hP.raise _ _ (hP.logEvent _ _ _ _ (hP.port _ (hP.port _ hp))))) 256)
      · exact pump_linkStable hP (resendAll_linkStable hP (hP.raise _ _ (hP.logEvent _ _ _ _ (hP.port _ (hP.port _ hp))))) 256
  · exact h

theorem startReform_linkStable (old left : BitVec 8) : P (startReform t p old left) :=
  reformDone_linkStable hP (sendMgmt_linkStable hP (hP.port _ h) _ _)

theorem portServes_linkStable : P (portServes t p) := by
  unfold portServes
  dsimp only
  split
  · exact startDrain_linkStable hP (hP.port _ h)
  · exact pump_linkStable hP (hP.port _ h) 256

theorem awakeCheck_linkStable : P (awakeCheck t p) := by
  unfold awakeCheck
  split
  · exact portServes_linkStable hP h
  · exact h

theorem askBert_linkStable : P (askBert t p) := sendMgmt_linkStable hP (hP.port _ (hP.free _ h)) _ _

theorem portUp_linkStable : P (portUp t p) := by
  unfold portUp
  dsimp only
  generalize hv : raise _ (.port p) 0 = v
  have hu : P v := by
    rw [← hv]
    exact hP.raise _ _ (hP.logEvent _ _ _ _ (hP.port _ h))
  generalize hw : (if (t.port p).install then askBert (v.modPort p fun x => { x with bertInstall := true }) p else v) = w
  have hb : P w := by
    rw [← hw]
    split
    · exact askBert_linkStable hP (hP.port _ hu)
    · exact hu
  split
  · exact startDrain_linkStable hP hb
  · exact hb

theorem quarantine_linkStable (cause : Nat) : P (quarantine t p cause) := by
  unfold quarantine
  dsimp only
  split
  · exact hP.raise _ _ (hP.raise _ _ (hP.logEvent _ _ _ _ (hP.port _ (writeOffFlits_linkStable hP h _))))
  · exact hP.raise _ _ (hP.logEvent _ _ _ _ (hP.port _ (writeOffFlits_linkStable hP h _)))

theorem countTo_linkStable (q : Nat) (k : Word) : P (countTo t q k) := holds_forEach (fun _ _ h => hP.lane _ _ h) _ h

theorem portSleep_linkStable (k : Word) : P (portSleep t p k) := by
  refine holds_forEach ?_ _ (hP.port _ (countTo_linkStable hP h p k))
  exact fun t i h => hP.lane _ _ h

theorem drainPort_linkStable : P (drainPort t p) := by
  unfold drainPort
  split
  · exact h
  · exact h
  · exact h
  · exact h
  · exact startDrain_linkStable hP h
  · exact portWake_linkStable hP (hP.port _ h) p
  · exact hP.port _ h

end

theorem laneLeaves_linkStable {P : State → Prop} {t : State} {i : Nat} (hP : LinkStable (lanePort i) P) (h : P t) : P (laneLeaves t i) := by
  have hoff := hP.lane (t := laneOff t i) i { (laneOff t i).lane i with dropped := true } (hP.lane _ _ h)
  unfold laneLeaves
  dsimp only
  split
  · exact trainedCheck_linkStable hP h
  · split
    · exact h
    · split
      · exact portDown_linkStable hP hoff 0
      · split
        · exact portDown_linkStable hP hoff 3
        · split
          · exact startReform_linkStable hP hoff _ _
          · split
            · exact startReform_linkStable hP (portWake_linkStable hP hoff _) _ _
            · exact hP.port _ hoff

theorem linkStable_caused (p : Nat) (q : PageRef) (i : Nat) : LinkStable p (fun t => caused t q i = true) :=
  ⟨fun _ _ h => h, fun _ h => h, fun _ h => h, fun _ h => h, fun _ h => h, fun _ _ h => caused_raise _ _ h, fun _ _ _ _ h => caused_logEvent _ _ _ _ h⟩

theorem linkStable_port {p j : Nat} (hj : j ≠ p) (x : PortSt) : LinkStable p (fun t => t.port j = x) :=
  ⟨fun _ _ h => h, fun _ h => by simpa [hj] using h, fun _ h => h, fun _ h => h, fun _ h => h, fun _ _ h => by rwa [raise_port],
    fun _ _ _ _ h => by rwa [logEvent_port]⟩

/-! ### Lanes one by one -/

/-- A loop that updates each lane of a list on its own. -/
theorem lane_forEach (g : Nat → LaneSt → LaneSt) {f : State → Nat → State}
    (hf : ∀ t a j, (f t a).lane j = if j = a then g a (t.lane a) else t.lane j) (l : List Nat) (hn : l.Nodup) (s : State) (j : Nat) :
    (forEach l s f).lane j = if j ∈ l then g j (s.lane j) else s.lane j := by
  induction l generalizing s with
  | nil => rfl
  | cons a l ih =>
    obtain ⟨ha, hn⟩ := List.nodup_cons.1 hn
    refine (ih hn (f s a)).trans ?_
    by_cases hj : j = a
    · rw [hj, if_neg ha, hf, if_pos rfl, if_pos (by simp)]
    · rw [hf, if_neg hj]
      simp [hj]

theorem nodup_lanes (p n : Nat) : ((List.range n).map (· + 8 * p)).Nodup :=
  List.nodup_range.map (fun _ _ h => by simpa using h)

theorem mem_lanes {p j : Nat} : j ∈ (List.range 8).map (· + 8 * p) ↔ j / 8 = p := by
  simp only [List.mem_map, List.mem_range]
  constructor
  · rintro ⟨k, hk, rfl⟩
    omega
  · intro h
    exact ⟨j % 8, by omega, by omega⟩

/-- A lane after `v` superblock periods. -/
def LaneSt.later (x : LaneSt) (v : Word) : LaneSt := if 9 ≤ x.phase && x.phase ≤ 12 then { x with count := x.count + v } else x

theorem portTime_lane (s : State) (p j : Nat) :
    (portTime s p).lane j = if j / 8 = p then (s.lane j).later (Config.freeWord s.free) else s.lane j := by
  unfold portTime
  dsimp only
  rw [lane_forEach (fun _ x => x.later (Config.freeWord s.free)) ?_ _ (nodup_lanes p 8)]
  · by_cases h : j / 8 = p
    · rw [if_pos (mem_lanes.2 h), if_pos h]
      rfl
    · rw [if_neg (fun hm => h (mem_lanes.1 hm)), if_neg h]
      rfl
  · intro t a j
    unfold LaneSt.later
    by_cases hc : (decide (9 ≤ (t.lane a).phase) && decide ((t.lane a).phase ≤ 12)) = true
    · rw [if_pos hc, if_pos hc]
      exact State.setLane_lane _ _ _ _
    · rw [if_neg hc, if_neg hc]
      split
      · next h => rw [h]
      · rfl

/-- Nothing but lanes and the stream of free choices changes as time passes for a port. -/
theorem portTime_frame (s : State) (p : Nat) : ∃ l, portTime s p = { s with links := { s.links with lanes := l }, free := s.free + 1 } := by
  unfold portTime
  dsimp only
  refine holds_forEach (P := fun t => ∃ l, t = { s with links := { s.links with lanes := l }, free := s.free + 1 }) (fun t i h => ?_) _ ⟨s.links.lanes, rfl⟩
  obtain ⟨l, rfl⟩ := h
  split
  · exact ⟨_, rfl⟩
  · exact ⟨l, rfl⟩

theorem caused_laneLeaves {s : State} {q : PageRef} {k : Nat} (h : caused s q k = true) (i : Nat) : caused (laneLeaves s i) q k = true :=
  laneLeaves_linkStable (linkStable_caused _ q k) h

theorem logLimited_links (s : State) (key us code sev : Nat) (p : PageRef) (a : List Nat) : (logLimited s key us code sev p a).links = s.links := by
  obtain h | ⟨e, h⟩ := logLimited_cases s key us code sev p a <;> rw [h]
  exact logEvent_links ..

section
variable {i : Nat} {s : State}

/-! ### Steering, SNR and alignment (R519, R531, R544, R545) -/

/-- The state in which a lane that has lost alignment is told of. -/
def lostAt (s : State) (i cause : Nat) : State :=
  logEvent (portTime s (lanePort i)) 0x6005 2 (.lane i) [i, cause, ((s.lane i).count + Config.freeWord s.free).toNat, 0]

theorem alignmentLost_eq (h10 : (s.lane i).phase = 10) (cause : Nat) : alignmentLost s i cause = laneFalls (laneRole (lostAt s i cause) i) i := by
  unfold alignmentLost lostAt
  have hc : ((portTime s (lanePort i)).lane i).count = (s.lane i).count + Config.freeWord s.free := by
    rw [portTime_lane, if_pos (show i / 8 = lanePort i from rfl), LaneSt.later, if_pos (by simp [h10])]
  dsimp only
  rw [hc]

theorem lostAt_port (s : State) (i cause p : Nat) : (lostAt s i cause).port p = s.port p := by
  obtain ⟨l, e⟩ := portTime_frame s (lanePort i)
  unfold lostAt
  rw [logEvent_port, e]
  rfl

theorem lostAt_tells (h : logOpen s = true) (cause : Nat) : newest (lostAt s i cause) 0x6005
    [i % 2 ^ 32, cause % 2 ^ 32, ((s.lane i).count + Config.freeWord s.free).toNat, 0] = true := by
  obtain ⟨l, e⟩ := portTime_frame s (lanePort i)
  have hn := newest_logEvent (s := portTime s (lanePort i)) (by rw [e]; exact h) 0x6005 2 (.lane i)
    [i, cause, ((s.lane i).count + Config.freeWord s.free).toNat, 0]
  rwa [show [i, cause, ((s.lane i).count + Config.freeWord s.free).toNat, 0].getD 2 0 = ((s.lane i).count + Config.freeWord s.free).toNat from rfl,
    Nat.mod_eq_of_lt (BitVec.isLt _)] at hn

theorem laneRole_events (s : State) (i : Nat) : (laneRole s i).events = s.events := by
  obtain ⟨u, _, _, _, he, e⟩ := laneRole_eq s i
  generalize rolePayload (laneRole s i) i = pay at e
  rw [e, ← he]
  rfl

theorem alignmentLost_up (hl : leavesUp s i = true) (h10 : (s.lane i).phase = 10) (cause : Nat) :
    LeftUp s (alignmentLost s i cause) i ∧ caused (alignmentLost s i cause) (.lane i) 1 = true ∧
    (logOpen s = true → newest (alignmentLost s i cause) 0x6005
      [i % 2 ^ 32, cause % 2 ^ 32, ((s.lane i).count + Config.freeWord s.free).toNat, 0] = true) := by
  rw [alignmentLost_eq h10]
  obtain ⟨h1, h2, h3⟩ := laneFalls_up (t := laneRole (lostAt s i cause) i) hl
    ((port_congr (laneRole_frame _ _).2.2.2.2.2.2 _).trans (lostAt_port s i cause _))
  exact ⟨h1, h2, fun ho => by rw [newest_congr (h3.trans (laneRole_events _ _)), lostAt_tells ho]⟩

theorem steering_steps {ofs : Int} (h10 : (s.lane i).phase = 10) : exec (.steeringUpdate i ofs) s =
    if !(s.lane i).follower then .next (s.setLane i { s.lane i with fofs := ofs })
    else if (s.lane i).holdAdapt || 0 < (s.lane i).runBlocks then .next s
    else if (s.lane i).trim + clampI (-10) 10 ofs < -25000 || 25000 < (s.lane i).trim + clampI (-10) 10 ofs then .next (alignmentLost s i 4)
    else .next (s.setLane i { s.lane i with fofs := ofs, trim := (s.lane i).trim + clampI (-10) 10 ofs }) := by
  have hx : exec (.steeringUpdate i ofs) s = execSteeringUpdate i ofs s := rfl
  rw [hx, execSteeringUpdate]
  dsimp only
  rw [if_neg (by simp [h10]), if_neg (by simp [h10])]

/-- A degraded lane as it is told of. -/
def degradedAt (s : State) (i : Nat) : State :=
  logLimited (raise (s.setLane i { s.lane i with degraded := true }) (.lane i) 4) (0x60040000 + i) 1000000 0x6004 2 (.lane i)
    [i, (s.lane i).snr, (s.lane i).qsnr, 0]

theorem degradedAt_frame (s : State) (i : Nat) : (degradedAt s i).links.ports = s.links.ports ∧ caused (degradedAt s i) (.lane i) 4 = true ∧
    ∀ j, (degradedAt s i).lane j = if j = i then { s.lane i with degraded := true } else s.lane j := by
  unfold degradedAt
  refine ⟨?_, caused_logLimited _ _ _ _ _ _ (caused_raise_same _ _ (by decide)), fun j => ?_⟩
  · rw [logLimited_links, raise_links]
    rfl
  · rw [State.lane, logLimited_links, raise_links]
    exact State.setLane_lane _ _ _ _

theorem laneDegraded_runs (h10 : (s.lane i).phase = 10) {k : Nat} (hk : (s.lane i).lowSince = some k) (hw : withinUs s k 10000 = false) :
    exec (.laneDegraded i) s = .next (if (s.port (lanePort i)).dropDegraded && (s.port (lanePort i)).st = .up then laneLeaves (degradedAt s i) i
      else degradedAt s i) := by
  have hx : exec (.laneDegraded i) s = execLaneDegraded i s := rfl
  have hlow : snrLow s (s.lane i) = true := by rw [snrLow, hk, Option.any_some, hw, Bool.not_false]
  rw [hx, execLaneDegraded]
  dsimp only
  rw [if_neg (by simp [h10, hlow]), ← degradedAt, port_congr (degradedAt_frame s i).1]

theorem laneDegraded_tells (h10 : (s.lane i).phase = 10) {k : Nat} (hk : (s.lane i).lowSince = some k) (hw : withinUs s k 10000 = false) :
    ((s.port (lanePort i)).dropDegraded = false ∨ (s.port (lanePort i)).st ≠ .up → Answers (.laneDegraded i) s fun t =>
      t.lane i = { s.lane i with degraded := true } ∧ caused t (.lane i) 4 = true ∧ (∀ j, j ≠ i → t.lane j = s.lane j) ∧
      t.links.ports = s.links.ports) ∧
    ((s.port (lanePort i)).dropDegraded = true → leavesUp s i = true → Answers (.laneDegraded i) s fun t => LeftUp s t i ∧ caused t (.lane i) 4 = true) := by
  have hx := laneDegraded_runs h10 hk hw
  obtain ⟨hp, hc, hlane⟩ := degradedAt_frame s i
  refine ⟨fun h => ?_, fun hd hl => ?_⟩
  · rw [if_neg] at hx
    · exact ⟨_, hx, (hlane i).trans (if_pos rfl), hc, fun j hj => (hlane j).trans (if_neg hj), hp⟩
    · obtain h | h := h <;> simp [h]
  · have hup : (s.port (lanePort i)).st = .up := by
      unfold leavesUp at hl
      simp only [Bool.and_eq_true, decide_eq_true_eq] at hl
      exact hl.1.1.1.1
    rw [if_pos (by simp [hd, hup])] at hx
    have hpi := port_congr hp (lanePort i)
    exact ⟨_, hx, (laneLeaves_up ((leavesUp_congr hpi).trans hl)).1.of_port hpi, caused_laneLeaves hc i⟩

/-! ### Impulses and sleep (R529 to R536) -/

theorem impulseRun_ends {u gap : Nat} (hr : (s.lane i).runBlocks ≠ 0) (hg : (s.lane i).impHold < gap) : Answers (.impulseRunEnd i u gap) s fun t =>
    t.lane i = { s.lane i with runs := satInc (s.lane i).runs 0xFFFF, runBlocks := 0 } ∧ caused t (.lane i) 3 = true ∧
    (∀ j, j ≠ i → t.lane j = s.lane j) ∧ t.links.ports = s.links.ports := by
  have hx : exec (.impulseRunEnd i u gap) s = execImpulseRunEnd i u gap s := rfl
  rw [Answers, hx, execImpulseRunEnd]
  dsimp only
  rw [if_neg (by simp [hr]; omega)]
  refine ⟨_, rfl, ?_⟩
  generalize hv : logLimited _ _ _ _ _ _ _ = v
  have hlinks : v.links = (s.setLane i { s.lane i with runs := satInc (s.lane i).runs 0xFFFF, runBlocks := 0 }).links := by
    rw [← hv, logLimited_links, raise_links]
  have hlane : ∀ j, v.lane j = if j = i then { s.lane i with runs := satInc (s.lane i).runs 0xFFFF, runBlocks := 0 } else s.lane j := fun j => by
    rw [State.lane, hlinks]
    exact State.setLane_lane _ _ _ _
  refine ⟨(hlane i).trans (if_pos rfl), ?_, fun j hj => (hlane j).trans (if_neg hj), by rw [hlinks]; rfl⟩
  rw [← hv]
  exact caused_logLimited _ _ _ _ _ _ (caused_raise_same _ _ (by decide))

theorem alignmentLost_retrains (h10 : (s.lane i).phase = 10) (hst : (s.port (lanePort i)).st ≠ .training)
    (hm : (s.port (lanePort i)).mask.getLsbD (i % 8) = false) (cause : Nat) :
    ((alignmentLost s i cause).lane i).phase = 3 ∧ caused (alignmentLost s i cause) (.lane i) 1 = true ∧
    (alignmentLost s i cause).links.ports = s.links.ports := by
  rw [alignmentLost_eq h10]
  obtain ⟨r1, _, _, _, _, _, r7⟩ := laneRole_frame (lostAt s i cause) i
  have hports : (lostAt s i cause).links.ports = s.links.ports := by
    obtain ⟨l, e⟩ := portTime_frame s (lanePort i)
    unfold lostAt
    rw [logEvent_links, e]
  have hleave : laneFalls (laneRole (lostAt s i cause) i) i = raise (laneRole (lostAt s i cause) i) (.lane i) 1 := by
    unfold laneFalls laneLeaves
    dsimp only
    rw [raise_port, port_congr (r7.trans hports), if_neg hst, if_pos (by simp [hm])]
  rw [hleave]
  exact ⟨by rw [raise_lane, r1], caused_raise_same _ _ (by decide), by rw [raise_links, r7, hports]⟩

theorem wake_names {w : DWord} (h12 : (s.lane i).phase = 12) (hw : wordNew (s.lane i) 5 w = true) : Answers (.wake i w) s fun t =>
    t.lane i = { s.lane i with
      lastSeq := some (BitVec.ofNat 8 (cwSeq w)),
      wakeAt := some ((s.lane i).wakeAt.elim (cwPay w % 65536) (fun a => laterBlock a (cwPay w % 65536))) } ∧
    ∀ j, j ≠ i → t.lane j = s.lane j := by
  have hx : exec (.wake i w) s = execWake i w s := rfl
  rw [Answers, hx, execWake, if_neg (by simp [h12]), takeWord_of_wordNew hw]
  refine ⟨_, rfl, ?_, fun j hj => by simp [hj]⟩
  rw [State.modLane_eq, State.setLane_lane, if_pos rfl, State.setLane_lane, if_pos rfl]
  dsimp only
  cases (s.lane i).wakeAt <;> rfl

/-! ### Data resumes (R535, R540, R567) -/

theorem drainStep_sent (s : State) (p : Nat) : (drainStep s p).links.lanes = s.links.lanes := by
  unfold drainStep
  dsimp only
  split
  · exact ((Sent.refl p _).sendMgmt 9 []).lanes
  · rfl

theorem drainedCheck_lanes (s : State) (p : Nat) : (drainedCheck s p).links.lanes = s.links.lanes := by
  unfold drainedCheck
  dsimp only
  split
  · rw [raise_links, logEvent_links]
    rfl
  · rfl

theorem startDrain_lanes (s : State) (p : Nat) : (startDrain s p).links.lanes = s.links.lanes := by
  unfold startDrain
  dsimp only
  rw [drainedCheck_lanes, drainStep_sent, ((Sent.refl p _).sendMgmt 8 []).lanes]
  rfl

theorem portServes_lanes (s : State) (p : Nat) : (portServes s p).links.lanes = s.links.lanes := by
  unfold portServes
  dsimp only
  split
  · rw [startDrain_lanes]
    rfl
  · rw [((Sent.refl p _).pump 256).lanes]
    rfl

theorem portServes_up {s : State} {p : Nat} (h : (s.port p).drainDue = false) : ((portServes s p).port p).st = .up := by
  unfold portServes
  dsimp only
  rw [if_neg (by simp [h])]
  obtain ⟨_, _, _, _, e⟩ := ((Sent.refl p (s.modPort p fun x => { x with st := .up })).pump 256).self
  rw [e]
  simp

theorem awakeCheck_lanes (s : State) (p : Nat) : (awakeCheck s p).links.lanes = s.links.lanes := by
  unfold awakeCheck
  split
  · exact portServes_lanes s p
  · rfl

theorem dataResume_resumes {seen : Bool} {a : Nat} (h12 : (s.lane i).phase = 12) (ha : (s.lane i).wakeAt = some a) (hs : seen = true)
    (hi : (s.lane i).impSeen = false) : Answers (.wakeDataResume i seen) s fun t =>
      t.lane i = { s.lane i with phase := 10, wakes := satInc (s.lane i).wakes 0xFFFF, count := countReached (s.lane i).count a } ∧
      (∀ j, j ≠ i → t.lane j = s.lane j) ∧
      ((s.port (lanePort i)).st = .asleep → (s.port (lanePort i)).drainDue = false →
        (∀ j ∈ maskLanes (lanePort i) (s.port (lanePort i)).mask, j ≠ i → (s.lane j).phase = 10) → (t.port (lanePort i)).st = .up) := by
  have hx : exec (.wakeDataResume i seen) s = execWakeDataResume i seen s := rfl
  rw [Answers, hx, execWakeDataResume]
  dsimp only
  rw [if_neg (by simp [h12, ha]), if_pos (by simp [hs, hi]), show (s.lane i).wakeAt.getD 0 = a by rw [ha]; rfl]
  refine ⟨_, rfl, ?_⟩
  generalize hv : s.setLane i _ = v
  have hlane : ∀ j, v.lane j = if j = i then
      { s.lane i with phase := 10, wakes := satInc (s.lane i).wakes 0xFFFF, count := countReached (s.lane i).count a } else s.lane j := by
    intro j
    rw [← hv, State.setLane_lane]
  have hport : v.port (lanePort i) = s.port (lanePort i) := by
    rw [← hv]
    rfl
  refine ⟨?_, fun j hj => ?_, fun hst hd hall => ?_⟩
  · rw [lane_congr (awakeCheck_lanes _ _), hlane, if_pos rfl]
  · rw [lane_congr (awakeCheck_lanes _ _), hlane, if_neg hj]
  · unfold awakeCheck
    rw [if_pos, portServes_up (by rw [hport, hd])]
    rw [hport, hst]
    simp only [decide_true, Bool.true_and, List.all_eq_true, decide_eq_true_eq]
    intro j hj
    by_cases hji : j = i
    · rw [hji, hlane, if_pos rfl]
    · rw [hlane, if_neg hji, hall j hj hji]

/-- The sequence number of the next word. -/
theorem nextSeq (x : Byte) : BitVec.ofNat 8 ((x.toNat + 1) % 256) = x + 1 := by
  apply BitVec.eq_of_toNat_eq
  simp

/-- A lane that tries its wake once more, from superblock `n`, and names `k`. -/
def LaneSt.retrying (x : LaneSt) (n : Word) (k : Nat) : LaneSt :=
  { x with wakeRetried := true, impSeen := false, waker := true, wakeAt := some k, count := n }

theorem dataResume_retry (h12 : (s.lane i).phase = 12) {n : Word} (hn : n = (s.lane i).count + Config.freeWord s.free) : ∃ u : State,
    u.lane i = { s.lane i with count := n } ∧ u.links.ports = s.links.ports ∧ freeVal (portTime s (lanePort i)) = (Config.freeWord (s.free + 1), u) := by
  obtain ⟨l, hl⟩ := portTime_frame s (lanePort i)
  have hlane : (portTime s (lanePort i)).lane i = { s.lane i with count := n } := by
    rw [portTime_lane, if_pos (show i / 8 = lanePort i from rfl), LaneSt.later, if_pos (by simp [h12]), hn]
  have hports : (portTime s (lanePort i)).links.ports = s.links.ports := by rw [hl]
  have hfree : (portTime s (lanePort i)).free = s.free + 1 := by rw [hl]
  generalize portTime s (lanePort i) = u at hlane hports hfree
  exact ⟨{ u with free := u.free + 1 }, hlane, hports, by rw [freeVal, hfree]⟩

theorem dataResume_retries {seen : Bool} {a : Nat} (h12 : (s.lane i).phase = 12) (ha : (s.lane i).wakeAt = some a)
    (hs : seen = false ∨ (s.lane i).impSeen = true) (hr : (s.lane i).wakeRetried = false) {n : Word} {k : Nat}
    (hn : n = (s.lane i).count + Config.freeWord s.free) (hk : k = wakeName (s.lane i).log2nUsed n (Config.freeWord (s.free + 1))) :
    Answers (.wakeDataResume i seen) s fun t =>
      t.lane i = { s.lane i with wakeRetried := true, impSeen := false, waker := true, wakeAt := some k, count := n,
                                 sendSeq := (s.lane i).sendSeq + 1, msg := 5, msgPay := k } ∧ .preamble i ∈ t.out ∧
      .control i (ctrlWord 12 5 k (((s.lane i).sendSeq.toNat + 1) % 256)) ∈ t.out ∧ t.links.ports = s.links.ports := by
  have hx : exec (.wakeDataResume i seen) s = execWakeDataResume i seen s := rfl
  have hd : (seen && !(s.lane i).impSeen) = false := by
    obtain h | h := hs <;> simp [h]
  obtain ⟨u, hu, hp, hf⟩ := dataResume_retry h12 hn
  rw [Answers, hx, execWakeDataResume]
  dsimp only
  rw [if_neg (by simp [h12, ha]), if_neg (by simp [hd]), if_pos (by simp [hr]), hf, hu]
  dsimp only
  rw [← hk]
  refine ⟨_, rfl, ?_⟩
  generalize hv : emit (u.setLane i _) (.preamble i) = v
  have hvi : v.lane i = (s.lane i).retrying n k := by
    rw [← hv, emit_lane, State.setLane_lane, if_pos rfl]
    rfl
  have hw := sendWord_says v i 5 k
  rw [hvi] at hw
  have hpre : .preamble i ∈ v.out := by
    rw [← hv]
    exact mem_out_emit_self _ _
  refine ⟨?_, mem_out_emit (s := v.setLane i _) hpre _, ?_, ?_⟩
  · rw [sendWord_lane, if_pos rfl, hvi, nextSeq]
    rfl
  · rwa [show ((s.lane i).retrying n k).phase = 12 from h12] at hw
  · rw [sendWord_ports, ← hv, ← hp]
    rfl

theorem dataResume_fails {seen : Bool} {a : Nat} (h12 : (s.lane i).phase = 12) (ha : (s.lane i).wakeAt = some a)
    (hs : seen = false ∨ (s.lane i).impSeen = true) (hr : (s.lane i).wakeRetried = true) :
    Answers (.wakeDataResume i seen) s fun t => caused t (.lane i) 1 = true ∧ caused t (.lane i) 5 = true := by
  have hx : exec (.wakeDataResume i seen) s = execWakeDataResume i seen s := rfl
  have hd : (seen && !(s.lane i).impSeen) = false := by
    obtain h | h := hs <;> simp [h]
  rw [Answers, hx, execWakeDataResume]
  dsimp only
  rw [if_neg (by simp [h12, ha]), if_neg (by simp [hd]), if_neg (by simp [hr])]
  refine ⟨_, rfl, caused_laneLeaves (caused_raise_same _ _ (by decide)) i, caused_laneLeaves (caused_raise _ _ ?_) i⟩
  exact laneRole_linkStable (p := 0) (linkStable_caused _ (.lane i) 5) (caused_raise_same _ _ (by decide)) i

end

/-- Settles O53: a lane in data is steered, measured and told of; it sleeps, wakes and resumes, or is down. -/
theorem lanesCarrySleepAndWake : Obligations.LanesCarrySleepAndWake := by
  unfold Obligations.LanesCarrySleepAndWake
  refine ⟨?_, ?_, ?_, ?_, ?_, ?_⟩
  · rintro i ofs s x rfl h10
    have hx := steering_steps (ofs := ofs) h10
    refine ⟨fun hf => ?_, fun hf hh => ?_, fun hf hh hr v hv => ⟨fun h1 h2 => ?_, fun h hl => ?_⟩⟩
    · rw [hx, if_pos (by simp [hf])]
    · rw [hx, if_neg (by simp [hf]), if_pos (by simpa using hh)]
    · rw [hx, if_neg (by simp [hf]), if_neg (by simp [hh, hr]), ← hv, if_neg (by simp [h1, h2])]
    · rw [if_neg (by simp [hf]), if_neg (by simp [hh, hr]), ← hv, if_pos (by simpa using h)] at hx
      obtain ⟨l1, l2, _⟩ := alignmentLost_up hl h10 4
      exact ⟨_, hx, l1, l2⟩
  · rintro i snr c u s x rfl h10
    have hx : exec (.snrUpdate i snr c u none) s = execSnrUpdate i snr c u none s := rfl
    rw [hx, execSnrUpdate, if_pos h10]
    rfl
  · rintro i s x y rfl rfl h10
    refine ⟨fun h => ?_, fun k hk hw => laneDegraded_tells h10 hk hw⟩
    have hx : exec (.laneDegraded i) s = execLaneDegraded i s := rfl
    have hlow : snrLow s (s.lane i) = false := by
      rw [snrLow]
      obtain h | ⟨k, hk, hw⟩ := h
      · rw [h, Option.any_none]
      · rw [hk, Option.any_some, hw, Bool.not_true]
    rw [hx, execLaneDegraded]
    dsimp only
    rw [if_pos (by simp [hlow])]
  · rintro i s x rfl
    refine ⟨fun q h => ?_, rfl, fun err mean h => ?_, fun err mean h ht => ?_, fun u gap h => ?_, fun u gap => impulseRun_ends,
      fun f h10 => ⟨fun hl => ?_, fun hst hm => ?_⟩⟩
    · have hx : exec (.quietWindow i (some q)) s = execQuietWindow i (some q) s := rfl
      rw [hx, execQuietWindow, if_pos (by simpa using h)]
    · have hx : exec (.impulseBlock i err mean) s = execImpulseBlock i err mean s := rfl
      rw [hx, execImpulseBlock, if_neg (by simp [impulse, h])]
    · have hx : exec (.impulseBlock i err mean) s = execImpulseBlock i err mean s := rfl
      rw [hx, execImpulseBlock, if_pos (by simpa [impulse, h, or_assoc] using ht)]
    · have hx : exec (.impulseRunEnd i u gap) s = execImpulseRunEnd i u gap s := rfl
      rw [hx, execImpulseRunEnd, if_pos (by simp [h])]
    · have hx : exec (.alignmentLost i f) s = .next (alignmentLost s i (if f then 4 else 0)) := if_pos h10
      obtain ⟨h1, h2, h3⟩ := alignmentLost_up hl h10 (if f then 4 else 0)
      refine ⟨_, hx, h1, h2, fun ho => ?_⟩
      have hn := h3 ho
      cases f <;> exact hn
    · have hx : exec (.alignmentLost i f) s = .next (alignmentLost s i (if f then 4 else 0)) := if_pos h10
      exact ⟨_, hx, alignmentLost_retrains h10 hst hm _⟩
  · rintro i w s x k rfl h12 hw rfl
    exact wake_names h12 hw
  · rintro i s x rfl h12
    refine ⟨fun hw ha => ?_, fun seen a ha => ⟨fun hs hi => dataResume_resumes h12 ha hs hi, fun hs hr n k hn hk => dataResume_retries h12 ha hs hr hn hk,
      fun hs hr => dataResume_fails h12 ha hs hr⟩⟩
    have hx : exec (.wakeFalseDetect i) s = execWakeFalseDetect i s := rfl
    rw [hx, execWakeFalseDetect, if_pos (by simp [h12, hw, ha])]

end Sys2Proof.Machine
end

section
/-!
SUPPORT. Flits and their replay (chapter 17).
-/
namespace Sys2Proof.Machine
open Sys2Proof

/-! ### What a port sends, and what it writes off (R550, R554, R564, R566) -/

/-- `t` is `s` after flits of port `p` have gone out. -/
structure Pumped (p : Nat) (s t : State) : Prop where
  self : ∃ n m, t.port p = { s.port p with unsent := n, sentVc := m }
  other : ∀ j, j ≠ p → t.port j = s.port j
  lanes : t.links.lanes = s.links.lanes
  ledgers : t.ledgers = s.ledgers
  hdrs : t.hdrs = s.hdrs
  free : t.free = s.free
  out : ∀ o ∈ s.out, o ∈ t.out

theorem Pumped.refl (p : Nat) (s : State) : Pumped p s s := ⟨⟨_, _, rfl⟩, fun _ _ => rfl, rfl, rfl, rfl, rfl, fun _ h => h⟩

theorem Pumped.emit {p : Nat} {s t : State} (h : Pumped p s t) (o : Output) : Pumped p s (emit t o) :=
  ⟨h.self, h.other, h.lanes, h.ledgers, h.hdrs, h.free, fun x hx => mem_out_emit (h.out x hx) o⟩

theorem Pumped.send {p : Nat} {s t : State} (h : Pumped p s t) (n : Nat) (m : Sparse Nat) :
    Pumped p s (t.setPort p { t.port p with unsent := n, sentVc := m }) := by
  obtain ⟨a, b, e⟩ := h.self
  exact ⟨⟨n, m, by simp [e]⟩, fun j hj => by simpa [hj] using h.other j hj, h.lanes, h.ledgers, h.hdrs, h.free, h.out⟩

theorem Pumped.pump {p : Nat} {s t : State} (h : Pumped p s t) (n : Nat) : Pumped p s (pump t p n) := by
  induction n generalizing t with
  | zero => exact h
  | succ n ih =>
    unfold Machine.pump
    dsimp only
    split
    · exact h
    · split
      · exact h
      · exact ih ((h.send _ _).emit _)

theorem Pumped.resendAll {p : Nat} {s t : State} (h : Pumped p s t) : Pumped p s (resendAll t p) :=
  holds_forEach (fun _ _ h => h.emit _) _ h

/-- A port whose newest flit alone is unsent sends it when its VC has a credit. -/
theorem pump_sends {s : State} {p : Nat} {l : List TxFlit} {f : TxFlit} (hu : (s.port p).unacked = l ++ [f]) (h1 : (s.port p).unsent = 1)
    (hs : sending (s.port p) = true) (hc : vcCredit (s.port p) f.vc.toNat = true) (n : Nat) :
    .flit p f.seq.toNat ∈ (pump s p (n + 1)).out := by
  have hget : (s.port p).unacked[(s.port p).unacked.length - (s.port p).unsent]? = some f := by
    rw [hu, h1]
    simp
  unfold pump
  dsimp only
  rw [hget]
  dsimp only
  rw [if_neg (by simp [h1, hs, hc])]
  exact ((Pumped.refl p _).pump n).out _ (mem_out_emit_self _ _)

theorem resendAll_sends {s : State} {p : Nat} {f : TxFlit} (hf : f ∈ (s.port p).unacked.take ((s.port p).unacked.length - (s.port p).unsent)) :
    .flit p f.seq.toNat ∈ (resendAll s p).out := by
  unfold resendAll
  dsimp only
  generalize (s.port p).unacked.take _ = l at hf
  induction l generalizing s with
  | nil => cases hf
  | cons g l ih =>
    change Output.flit p f.seq.toNat ∈ (forEach l (emit s (.flit p g.seq.toNat)) _).out
    obtain rfl | hf := List.mem_cons.1 hf
    · exact holds_forEach (P := fun t => Output.flit p f.seq.toNat ∈ t.out) (fun _ _ h => mem_out_emit h _) l (mem_out_emit_self _ _)
    · exact ih hf

theorem writeOffFlits_port (s : State) (p : Nat) (f : TxFlit → Bool) : ∃ n, (writeOffFlits s p f).port p =
    { s.port p with unacked := (s.port p).unacked.filter (fun y => !f y), unsent := n } ∧ (writeOffFlits s p f).ao = s.ao := by
  unfold writeOffFlits
  dsimp only
  split
  · next h =>
    refine ⟨(s.port p).unsent, ?_, rfl⟩
    rw [List.filter_eq_self.2 (by simpa [List.all_eq_true] using h)]
  · have hm : ∀ (t : State) g, (modReplay t p g).port p = t.port p ∧ (modReplay t p g).ao = t.ao := fun t g => by
      unfold modReplay
      split <;> exact ⟨rfl, rfl⟩
    refine ⟨((((s.port p).unacked.drop ((s.port p).unacked.length - (s.port p).unsent)).filter (fun y => !f y)).length), ?_, ?_⟩
    · split
      · rw [(hm _ _).1]
        simp
      · unfold logWriteOff
        rw [raise_port, logEvent_port, (hm _ _).1]
        simp
    · split
      · rw [(hm _ _).2]
        rfl
      · unfold logWriteOff
        rw [raise_ao, logEvent_ao, (hm _ _).2]
        rfl

theorem lanesOff_ports (s : State) (p : Nat) : (lanesOff s p).links.ports = s.links.ports := by
  unfold lanesOff
  refine forEach_keeps (fun t => t.links.ports) _ _ (fun t i _ => ?_) s
  rfl

theorem portOff_port (s : State) (p : Nat) : ((portOff s p).port p).st = .off ∧ ((portOff s p).port p).unacked = [] ∧
    ((portOff s p).port p).enable = false ∧ ((portOff s p).port p).closing = false := by
  obtain ⟨n, e, _⟩ := writeOffFlits_port s p (fun _ => true)
  unfold portOff
  dsimp only
  rw [port_congr (lanesOff_ports _ _), State.modPort_eq, State.setPort_port, if_pos rfl, e]
  simp

theorem portTrain_port (s : State) (p : Nat) : ((portTrain s p).port p).st = (if (s.port p).valid then .training else .off) ∧
    ((s.port p).unacked = [] → ((portTrain s p).port p).unacked = []) ∧
    ((s.port p).valid = true → ((portTrain s p).port p).enable = (s.port p).enable) := by
  unfold portTrain
  cases hv : (s.port p).valid with
  | false =>
    rw [if_pos (by simp)]
    exact ⟨(portOff_port s p).1, fun _ => (portOff_port s p).2.1, fun h => by cases h⟩
  | true =>
    rw [if_neg (by simp)]
    dsimp only
    generalize hu : lanesOff _ p = u
    have hup : u.port p = { s.port p with
        st := .training, mask := 0, reformOwn := none, reformFar := none, replayHeld := false, far := none, bertAsked := false } := by
      rw [← hu, port_congr (lanesOff_ports _ _), State.modPort_eq, State.setPort_port, if_pos rfl]
    have hk : ∀ l, (forEach l u laneStart).port p = u.port p := by
      intro l
      refine forEach_keeps (fun t => t.port p) l laneStart (fun t i _ => ?_) u
      rfl
    rw [hk, hup]
    exact ⟨rfl, fun h => h, fun _ => rfl⟩

/-- A port goes down: its flits are written off, and it trains anew, is FAILED, or is OFF. -/
theorem portDown_port (s : State) (p cause : Nat) : ((portDown s p cause).port p).unacked = [] ∧ caused (portDown s p cause) (.port p) 1 = true ∧
    ((portDown s p cause).port p).st = (if (s.port p).closing then .off
      else if 2 ≤ ((s.port p).downs.filter (fun a => withinUs s a 1000000)).length then .failed
      else if (s.port p).valid then .training else .off) := by
  obtain ⟨n, e, hao⟩ := writeOffFlits_port s p (fun _ => true)
  unfold portDown
  dsimp only
  generalize hu : raise (logEvent (writeOffFlits s p fun _ => true) 0x6012 3 (.port p) [p, cause, (s.port p).unacked.length, 0]) (.port p) 1 = u
  have hc : caused u (.port p) 1 = true := by
    rw [← hu]
    exact caused_raise_same _ _ (by decide)
  have hup : u.port p = { s.port p with unacked := (s.port p).unacked.filter (fun _ => !true), unsent := n } := by
    rw [← hu, raise_port, logEvent_port, e]
  have ha : u.ao = s.ao := by
    rw [← hu, raise_ao, logEvent_ao, hao]
  have hw : ∀ a, withinUs u a 1000000 = withinUs s a 1000000 := fun a => by rw [withinUs, withinUs, ha]
  generalize hd : u.ao.ticks :: (u.port p).downs.filter (fun t => withinUs u t 1000000) = downs
  have hlen : downs.length = ((s.port p).downs.filter (fun a => withinUs s a 1000000)).length + 1 := by
    rw [← hd, hup]
    simp [hw]
  generalize hv : u.modPort p (fun x => { x with downs := downs }) = v
  have hvp : (v.port p).closing = (s.port p).closing ∧ (v.port p).valid = (s.port p).valid ∧ (v.port p).unacked = [] := by
    rw [← hv, State.modPort_eq, State.setPort_port, if_pos rfl, hup]
    simp
  have hvc : caused v (.port p) 1 = true := by
    rw [← hv]
    exact hc
  obtain ⟨v1, v2, v3⟩ := hvp
  have hst := linkStable_caused p (.port p) 1
  rw [v1]
  split
  · obtain ⟨o1, o2, _⟩ := portOff_port v p
    exact ⟨o2, portOff_linkStable hst hvc, o1⟩
  · rw [hlen]
    split
    · next h3 =>
      rw [if_pos (by omega), port_congr (lanesOff_ports _ _), State.modPort_eq, State.setPort_port, if_pos rfl]
      exact ⟨v3, lanesOff_linkStable hst (hst.port _ hvc) p, rfl⟩
    · next h3 =>
      rw [if_neg (by omega)]
      obtain ⟨t1, t2, _⟩ := portTrain_port v p
      exact ⟨t2 v3, portTrain_linkStable hst hvc, by rw [t1, v2]⟩

/-- A command that takes a port down, whatever it has changed of the port's bookkeeping before. -/
theorem portGoesDown_of {c : Instr} {s u t : State} {p cause : Nat} (hx : exec c s = .next t) (ht : Pumped p (portDown u p cause) t)
    (h1 : (u.port p).closing = (s.port p).closing) (h2 : (u.port p).downs = (s.port p).downs) (h3 : (u.port p).valid = (s.port p).valid)
    (ha : u.ao = s.ao) (ho : ∀ j, j ≠ p → u.port j = s.port j) : PortGoesDown c s p := by
  obtain ⟨d1, d2, d3⟩ := portDown_port u p cause
  obtain ⟨n, m, e⟩ := ht.self
  have hw : ∀ a, withinUs u a 1000000 = withinUs s a 1000000 := fun a => by rw [withinUs, withinUs, ha]
  refine ⟨t, hx, by rw [e]; exact d1, (caused_congr ht.hdrs _ _).trans d2, ?_, fun j hj => ?_⟩
  · have hf : (s.port p).downs.filter (fun a => withinUs u a 1000000) = (s.port p).downs.filter (fun a => withinUs s a 1000000) :=
      List.filter_congr (fun a _ => hw a)
    rw [h1, h2, h3, hf] at d3
    rw [e]
    dsimp only
    rw [d3]
  · exact (ht.other j hj).trans ((portDown_linkStable (linkStable_port hj (u.port j)) rfl cause).trans (ho j hj))

section
variable {p : Nat} {s : State}

/-! ### Submitting (R557, R567) -/

theorem modReplay_look (t : State) (f : ReplayRow → ReplayRow) (h : counting t = true) :
    look {} (modReplay t p f).ledgers.replay p = f (look {} t.ledgers.replay p) := by
  unfold modReplay
  rw [if_pos h]
  simp [modAt]

theorem modReplay_links (t : State) (f : ReplayRow → ReplayRow) : (modReplay t p f).links = t.links ∧ (modReplay t p f).free = t.free := by
  unfold modReplay
  split <;> exact ⟨rfl, rfl⟩

/-- A flit enters the replay buffer, and goes out when it is alone and its VC has a credit. -/
theorem pushFlit_enters (s : State) (p : Nat) (vc : BitVec 2) (b : List Byte) :
    ((pushFlit s p vc b).port p).unacked = (s.port p).unacked ++ [⟨(s.port p).nextTx, vc, b, true⟩] ∧
    ((pushFlit s p vc b).port p).nextTx = (s.port p).nextTx + 1 ∧ (pushFlit s p vc b).links.lanes = s.links.lanes ∧
    (pushFlit s p vc b).free = s.free ∧
    (counting s = true → look {} (pushFlit s p vc b).ledgers.replay p =
      { look {} s.ledgers.replay p with
        free := (look {} s.ledgers.replay p).free - 1, unacked := (look {} s.ledgers.replay p).unacked + 1, sent := (look {} s.ledgers.replay p).sent + 1 }) ∧
    ((s.port p).unsent = 0 → sending (s.port p) = true → vcCredit (s.port p) vc.toNat = true →
      .flit p (s.port p).nextTx.toNat ∈ (pushFlit s p vc b).out) := by
  unfold pushFlit
  dsimp only
  generalize hu : s.setPort p _ = u
  have hup : u.port p = { s.port p with
      unacked := (s.port p).unacked ++ [⟨(s.port p).nextTx, vc, b, true⟩], nextTx := (s.port p).nextTx + 1, unsent := (s.port p).unsent + 1 } := by
    rw [← hu, State.setPort_port, if_pos rfl]
  have hul : u.links.lanes = s.links.lanes ∧ u.free = s.free ∧ u.ledgers = s.ledgers ∧ counting u = counting s := by
    rw [← hu]
    exact ⟨rfl, rfl, rfl, rfl⟩
  obtain ⟨h1, h2, h3, h4⟩ := hul
  generalize hv : modReplay u p _ = v
  have hvl : v.links = u.links ∧ v.free = u.free := by
    rw [← hv]
    exact modReplay_links u _
  have hvp : v.port p = u.port p := by rw [State.port, hvl.1, State.port]
  have hp := (Pumped.refl p v).pump 256
  obtain ⟨n, m, e⟩ := hp.self
  refine ⟨by rw [e, hvp, hup], by rw [e, hvp, hup], by rw [hp.lanes, hvl.1, h1], by rw [hp.free, hvl.2, h2], fun hc => ?_, fun h0 hs hcr => ?_⟩
  · rw [hp.ledgers, ← hv, modReplay_look u _ (h4.trans hc), h3]
  · refine pump_sends (f := ⟨(s.port p).nextTx, vc, b, true⟩) (by rw [hvp, hup]) (by rw [hvp, hup]; exact congrArg (· + 1) h0) ?_ ?_ 255
    · rw [hvp, hup]
      exact hs
    · rw [hvp, hup]
      exact hcr

/-- A lane asleep that wakes with `v` drawn, as end A. -/
def LaneSt.woken (x : LaneSt) (v : Word) : LaneSt :=
  if x.phase = 11 then { x with
    phase := 12, waker := true, wakeAt := some (wakeName x.log2nUsed x.count v), wakeRetried := false, impSeen := false,
    sendSeq := BitVec.ofNat 8 ((x.sendSeq.toNat + 1) % 256), msg := 5, msgPay := wakeName x.log2nUsed x.count v }
  else x

theorem laneWake_lane (t : State) (a j : Nat) (v : Word) :
    (laneWake t a (some (wakeName (t.lane a).log2nUsed (t.lane a).count v))).lane j = if j = a then (t.lane a).woken v else t.lane j := by
  unfold laneWake LaneSt.woken
  by_cases h : (t.lane a).phase = 11
  · rw [if_neg (by simp [h]), if_pos h]
    dsimp only
    rw [sendWord_lane]
    by_cases hj : j = a
    · simp [hj]
    · simp [hj]
  · rw [if_pos h, if_neg h]
    split
    · next hj => rw [hj]
    · rfl

theorem nodup_maskLanes (p : Nat) (m : BitVec 8) : (maskLanes p m).Nodup :=
  (List.nodup_range.filter _).map (fun _ _ h => by simpa using h)

theorem div_of_mem_maskLanes {p i : Nat} {m : BitVec 8} (h : i ∈ maskLanes p m) : i / 8 = p := by
  obtain ⟨k, hk, rfl⟩ := List.mem_map.1 h
  have := (mem_bitsOf.1 hk).1
  omega

/-- A lane asleep that its port wakes names the superblock at which data resumes. -/
theorem portWake_lane {i : Nat} (hi : i ∈ maskLanes p (s.port p).mask) (h : (s.lane i).phase = 11) : ((portWake s p).lane i).phase = 12 ∧
    ((portWake s p).lane i).wakeAt = some (wakeName (s.lane i).log2nUsed ((s.lane i).count + Config.freeWord s.free) (Config.freeWord (s.free + 1))) := by
  obtain ⟨l, e⟩ := portTime_frame s p
  have hl := portTime_lane s p i
  have hf : (portTime s p).free = s.free + 1 := by rw [e]
  have hp : (portTime s p).port p = s.port p := by
    rw [e]
    rfl
  rw [if_pos (div_of_mem_maskLanes hi), LaneSt.later, if_pos (by simp [h])] at hl
  unfold portWake
  dsimp only
  generalize portTime s p = u at hl hf hp
  have hk : (forEach (maskLanes p ((freeVal u).2.port p).mask) (freeVal u).2 fun s i =>
      laneWake s i (some (wakeName (s.lane i).log2nUsed (s.lane i).count (freeVal u).1))).lane i = (u.lane i).woken (freeVal u).1 := by
    rw [lane_forEach (fun _ x => x.woken (freeVal u).1) (fun t a j => laneWake_lane t a j _) _ (nodup_maskLanes _ _),
      if_pos (show i ∈ maskLanes p ((freeVal u).2.port p).mask by rw [show (freeVal u).2.port p = u.port p from rfl, hp]; exact hi)]
    rfl
  rw [hk, hl, LaneSt.woken, if_pos (by exact h), freeVal, hf]
  exact ⟨rfl, rfl⟩

theorem sendWord_ledgers (s : State) (i msg pay : Nat) : (sendWord s i msg pay).ledgers = s.ledgers := by
  unfold sendWord
  simp

theorem laneWake_frame (t : State) (i : Nat) (named : Option Nat) : (laneWake t i named).links.ports = t.links.ports ∧
    (laneWake t i named).ledgers = t.ledgers := by
  unfold laneWake
  split
  · exact ⟨rfl, rfl⟩
  · cases named with
    | none => exact ⟨rfl, rfl⟩
    | some k => exact ⟨(sendWord_ports _ _ _ _).trans rfl, (sendWord_ledgers _ _ _ _).trans rfl⟩

theorem portWake_frame (s : State) (p : Nat) : (portWake s p).links.ports = s.links.ports ∧ (portWake s p).ledgers = s.ledgers := by
  obtain ⟨l, e⟩ := portTime_frame s p
  have hp : (portTime s p).links.ports = s.links.ports ∧ (portTime s p).ledgers = s.ledgers := by
    rw [e]
    exact ⟨rfl, rfl⟩
  unfold portWake
  dsimp only
  generalize portTime s p = u at hp
  rw [← hp.1, ← hp.2]
  refine holds_forEach (P := fun t => t.links.ports = u.links.ports ∧ t.ledgers = u.ledgers) ?_ _ ?_
  · intro t i h
    obtain ⟨h1, h2⟩ := laneWake_frame t i (some (wakeName (t.lane i).log2nUsed (t.lane i).count (freeVal u).1))
    exact ⟨h1.trans h.1, h2.trans h.2⟩
  · exact ⟨rfl, rfl⟩

theorem flitSubmit_queues {vc : BitVec 2} {b : List Byte} (hv : vc ≠ 3) (hb : b.length ≤ 304) (hc : (s.port p).closing = false)
    (hd : (s.port p).farDraining = false) (hl : (s.port p).unacked.length < 256)
    (hst : (s.port p).st = .up ∨ (s.port p).st = .reforming ∨ (s.port p).st = .testing ∨ (s.port p).st = .asleep) :
    Answers (.flitSubmit p vc b) s fun t =>
      (t.port p).unacked = (s.port p).unacked ++ [⟨(s.port p).nextTx, vc, b, true⟩] ∧ (t.port p).nextTx = (s.port p).nextTx + 1 ∧
      (∀ j, j ≠ p → t.port j = s.port j) ∧
      (counting s = true → ∀ r : ReplayRow, r = look {} s.ledgers.replay p →
        look {} t.ledgers.replay p = { r with free := r.free - 1, unacked := r.unacked + 1, sent := r.sent + 1 }) ∧
      ((s.port p).st = .asleep → ∀ i ∈ maskLanes p (s.port p).mask, (s.lane i).phase = 11 → (t.lane i).phase = 12 ∧ (t.lane i).wakeAt =
        some (wakeName (s.lane i).log2nUsed ((s.lane i).count + Config.freeWord s.free) (Config.freeWord (s.free + 1)))) ∧
      ((s.port p).st = .up → (s.port p).unsent = 0 → (s.port p).replayHeld = false → vcCredit (s.port p) vc.toNat = true →
        .flit p (s.port p).nextTx.toNat ∈ t.out) := by
  have hx : exec (.flitSubmit p vc b) s = execFlitSubmit p vc b s := rfl
  have hn : (decide (vc = 3) || decide (304 < b.length) || (s.port p).closing || (s.port p).farDraining ||
      decide (256 ≤ (s.port p).unacked.length)) = false := by
    rw [decide_eq_false hv, hc, hd, decide_eq_false (by omega), decide_eq_false (by omega)]
    rfl
  rw [execFlitSubmit] at hx
  rw [hn, if_neg (by simp)] at hx
  rw [Answers]
  by_cases ha : (s.port p).st = .asleep
  · obtain ⟨e1, e2, e3, e4, e5, _⟩ := pushFlit_enters s p vc b
    have hsent := (Sent.refl p s).pushFlit vc b
    obtain ⟨_, _, _, _, e⟩ := hsent.self
    have hw := port_congr ((portWake_frame (pushFlit s p vc b) p).1)
    simp only [ha] at hx
    refine ⟨_, hx, by rw [hw, e1], by rw [hw, e2], fun j hj => by rw [hw, hsent.other j hj], ?_, fun _ i hi h11 => ?_, fun h => by rw [ha] at h; cases h⟩
    · rintro hcount r rfl
      rw [(portWake_frame _ _).2, e5 hcount]
    · have hl : (pushFlit s p vc b).lane i = s.lane i := lane_congr e3 i
      have := portWake_lane (s := pushFlit s p vc b) (p := p) (i := i) (by rw [e]; exact hi) (by rw [hl, h11])
      rwa [hl, e4] at this
  · obtain ⟨e1, e2, e3, e4, e5, e6⟩ := pushFlit_enters (s.setPort p { s.port p with sleepSent := false }) p vc b
    have hsent := (Sent.refl p (s.setPort p { s.port p with sleepSent := false })).pushFlit vc b
    have hrun : exec (.flitSubmit p vc b) s = .next (pushFlit (s.setPort p { s.port p with sleepSent := false }) p vc b) := by
      rw [hx]
      obtain h | h | h | h := hst
      · simp only [h]
      · simp only [h]
      · simp only [h]
      · exact absurd h ha
    rw [State.setPort_port, if_pos rfl] at e1 e2 e6
    refine ⟨_, hrun, e1, e2, fun j hj => (hsent.other j hj).trans (by simp [hj]), fun hcount r hr => ?_, fun h => absurd h ha, fun hup h0 hh hcr => ?_⟩
    · rw [hr]
      exact e5 hcount
    · exact e6 h0 (by simp [sending, hup, hh]) hcr

end

section
variable {p : Nat} {s : State}

/-! ### Receiving (R550 to R553, R576) -/

theorem flitReceived_bad {f : Flit} (hr : receiving (s.port p) = true) (h : f.crcOk = false ∨ f.decoded = false) :
    exec (.flitReceived p f) s = .next (s.setPort p { s.port p with nak := true }) := by
  have hx : exec (.flitReceived p f) s = execFlitReceived p f s := rfl
  have hb : (!f.crcOk || !f.decoded) = true := by
    obtain h | h := h <;> simp [h]
  rw [hx, execFlitReceived, if_neg (by simp [hr]), if_pos hb]

/-- A port once it has read the freed count that a flit reports. -/
def PortSt.credited (x : PortSt) (f : Flit) : PortSt := { x with freedFar := put 0 x.freedFar f.cvc.toNat f.credit.toNat }

theorem flitReceived_good {f : Flit} (hr : receiving (s.port p) = true) (hc : f.crcOk = true) (hd : f.decoded = true) {u : State} {d : Nat}
    (hu : u = s.setPort p ((s.port p).credited f)) (hdd : d = (f.seq - (s.port p).rxNext).toNat) : exec (.flitReceived p f) s =
    if 256 < d && d < 32768 then .next (portDown u p 2)
    else if f.null then .next (pump u p 256)
    else if d = 0 then .next (pump (acceptFlit u p f) p 256)
    else if d ≤ 256 then .next (pump (u.modPort p (fun x => { x with nak := true })) p 256)
    else .next (pump u p 256) := by
  have hx : exec (.flitReceived p f) s = execFlitReceived p f s := rfl
  rw [hx, execFlitReceived, if_neg (by simp [hr]), if_neg (by simp [hc, hd]), hu, hdd]
  rfl

theorem flitReceived_down {f : Flit} {d : Nat} (hdd : d = (f.seq - (s.port p).rxNext).toNat) (hr : receiving (s.port p) = true) (hc : f.crcOk = true) (hd : f.decoded = true)
    (h : 256 < d ∧ d < 32768 ∨
      f.null = false ∧ d = 0 ∧ (Config.rxBuffers f.vc.toNat).toNat ≤ look 0 (s.port p).usedVc f.vc.toNat) :
    PortGoesDown (.flitReceived p f) s p := by
  have hx := flitReceived_good hr hc hd rfl hdd
  generalize hu : s.setPort p ((s.port p).credited f) = u at hx
  have hup : u.port p = (s.port p).credited f := by rw [← hu, State.setPort_port, if_pos rfl]
  have hrest : u.ao = s.ao ∧ ∀ j, j ≠ p → u.port j = s.port j := by
    rw [← hu]
    exact ⟨rfl, fun j hj => by rw [State.setPort_port, if_neg hj]⟩
  obtain ⟨h1, h2⟩ | ⟨hn, h0, hfull⟩ := h
  · rw [if_pos (by simp [h1, h2])] at hx
    exact portGoesDown_of hx (Pumped.refl _ _) (by rw [hup]; rfl) (by rw [hup]; rfl) (by rw [hup]; rfl) hrest.1 hrest.2
  · rw [h0, if_neg (by decide), hn, if_neg (by decide), if_pos rfl] at hx
    have ha : acceptFlit u p f = portDown u p 2 := by
      unfold acceptFlit
      dsimp only
      rw [if_pos (by rw [hup]; exact hfull)]
    rw [ha] at hx
    exact portGoesDown_of hx ((Pumped.refl _ _).pump 256) (by rw [hup]; rfl) (by rw [hup]; rfl) (by rw [hup]; rfl) hrest.1 hrest.2

theorem flitReceived_null {f : Flit} {d : Nat} (hdd : d = (f.seq - (s.port p).rxNext).toNat) (hr : receiving (s.port p) = true) (hc : f.crcOk = true) (hd : f.decoded = true) (hn : f.null = true)
    (h : d ≤ 256 ∨ 32768 ≤ d) : Answers (.flitReceived p f) s fun t =>
      look 0 (t.port p).freedFar f.cvc.toNat = f.credit.toNat ∧ (t.port p).rxNext = (s.port p).rxNext ∧ (t.port p).ack = (s.port p).ack ∧
      (t.port p).unacked = (s.port p).unacked ∧ ∀ j, j ≠ p → t.port j = s.port j := by
  have hx := flitReceived_good hr hc hd rfl hdd
  rw [if_neg (by simp; omega), if_pos hn] at hx
  have hp := (Pumped.refl p (s.setPort p ((s.port p).credited f))).pump 256
  obtain ⟨n, m, e⟩ := hp.self
  rw [State.setPort_port, if_pos rfl] at e
  refine ⟨_, hx, ?_, by rw [e]; rfl, by rw [e]; rfl, by rw [e]; rfl, fun j hj => (hp.other j hj).trans (by simp [hj])⟩
  rw [e]
  simp [PortSt.credited]

theorem flitReceived_accepted {f : Flit} {d : Nat} (hdd : d = (f.seq - (s.port p).rxNext).toNat) (hr : receiving (s.port p) = true) (hc : f.crcOk = true) (hd : f.decoded = true) (hn : f.null = false)
    (h0 : d = 0) (hfree : look 0 (s.port p).usedVc f.vc.toNat < (Config.rxBuffers f.vc.toNat).toNat) :
    Answers (.flitReceived p f) s fun t =>
      (t.port p).rxNext = f.seq + 1 ∧ (t.port p).ack = f.seq ∧ (t.port p).nak = false ∧ (t.port p).unacked = (s.port p).unacked ∧
      (f.vc ≠ 3 → look 0 (t.port p).usedVc f.vc.toNat = look 0 (s.port p).usedVc f.vc.toNat + 1) ∧
      (f.vc ≠ 3 → (s.port p).st ≠ .identify → (s.port p).st ≠ .quarantine → .deliver p f.vc.toNat (f.body.take f.len) ∈ t.out) := by
  have hx := flitReceived_good hr hc hd rfl hdd
  generalize hu : s.setPort p ((s.port p).credited f) = u at hx
  have hup : u.port p = (s.port p).credited f := by rw [← hu, State.setPort_port, if_pos rfl]
  rw [h0, if_neg (by decide), hn, if_neg (by decide), if_pos rfl] at hx
  have hp := (Pumped.refl p (acceptFlit u p f)).pump 256
  obtain ⟨n, m, e⟩ := hp.self
  have ha : ((acceptFlit u p f).port p).rxNext = f.seq + 1 ∧ ((acceptFlit u p f).port p).ack = f.seq ∧ ((acceptFlit u p f).port p).nak = false ∧
      ((acceptFlit u p f).port p).unacked = (s.port p).unacked ∧
      (f.vc ≠ 3 → look 0 ((acceptFlit u p f).port p).usedVc f.vc.toNat = look 0 (s.port p).usedVc f.vc.toNat + 1) ∧
      (f.vc ≠ 3 → (s.port p).st ≠ .identify → (s.port p).st ≠ .quarantine → .deliver p f.vc.toNat (f.body.take f.len) ∈ (acceptFlit u p f).out) := by
    unfold acceptFlit
    dsimp only
    rw [if_neg (by rw [hup]; exact Nat.not_le.2 hfree), hup]
    by_cases hv : f.vc = 3
    · rw [if_pos hv, State.setPort_port, if_pos rfl]
      exact ⟨rfl, rfl, rfl, rfl, fun h => absurd hv h, fun h => absurd hv h⟩
    · rw [if_neg hv]
      split
      · next hst =>
        rw [State.setPort_port, if_pos rfl]
        refine ⟨rfl, rfl, rfl, rfl, fun _ => by simp [modAt, PortSt.credited], fun _ h1 h2 => ?_⟩
        have : ((s.port p).credited f).st = .identify ∨ ((s.port p).credited f).st = .quarantine := by simpa using hst
        simp only [PortSt.credited] at this
        tauto
      · rw [emit_port, State.setPort_port, if_pos rfl]
        exact ⟨rfl, rfl, rfl, rfl, fun _ => by simp [modAt, PortSt.credited], fun _ _ _ => mem_out_emit_self _ _⟩
  obtain ⟨a1, a2, a3, a4, a5, a6⟩ := ha
  refine ⟨_, hx, ?_⟩
  beta_reduce
  rw [e]
  exact ⟨a1, a2, a3, a4, a5, fun h1 h2 h3 => hp.out _ (a6 h1 h2 h3)⟩

theorem flitReceived_ahead {f : Flit} {d : Nat} (hdd : d = (f.seq - (s.port p).rxNext).toNat) (hr : receiving (s.port p) = true) (hc : f.crcOk = true) (hd : f.decoded = true) (hn : f.null = false)
    (h0 : 0 < d) (h : d ≤ 256) : Answers (.flitReceived p f) s fun t =>
      (t.port p).nak = true ∧ (t.port p).rxNext = (s.port p).rxNext ∧ (t.port p).usedVc = (s.port p).usedVc := by
  have hx := flitReceived_good hr hc hd rfl hdd
  rw [if_neg (by simp; omega), hn, if_neg (by decide), if_neg (by omega), if_pos h] at hx
  obtain ⟨n, m, e⟩ := ((Pumped.refl p ((s.setPort p ((s.port p).credited f)).modPort p (fun x => { x with nak := true }))).pump 256).self
  have hup : ((s.setPort p ((s.port p).credited f)).modPort p (fun x => { x with nak := true })).port p =
      { (s.port p).credited f with nak := true } := by simp
  rw [hup] at e
  exact ⟨_, hx, by rw [e], by rw [e]; rfl, by rw [e]; rfl⟩

theorem flitReceived_again {f : Flit} {d : Nat} (hdd : d = (f.seq - (s.port p).rxNext).toNat) (hr : receiving (s.port p) = true) (hc : f.crcOk = true) (hd : f.decoded = true) (hn : f.null = false)
    (h : 32768 ≤ d) : Answers (.flitReceived p f) s fun t =>
      (t.port p).nak = (s.port p).nak ∧ (t.port p).rxNext = (s.port p).rxNext ∧ (t.port p).usedVc = (s.port p).usedVc := by
  have hx := flitReceived_good hr hc hd rfl hdd
  rw [if_neg (by simp; omega), hn, if_neg (by decide), if_neg (by omega), if_neg (by omega)] at hx
  obtain ⟨n, m, e⟩ := ((Pumped.refl p (s.setPort p ((s.port p).credited f))).pump 256).self
  rw [State.setPort_port, if_pos rfl] at e
  exact ⟨_, hx, by rw [e]; rfl, by rw [e]; rfl, by rw [e]; rfl⟩

/-! ### Acknowledgements and replays (R554, R555) -/

theorem ackPos_le (k : BitVec 16) (l : List TxFlit) : ackPos k l ≤ l.length := by
  induction l with
  | nil => exact Nat.le_refl 0
  | cons f l ih =>
    unfold ackPos
    split
    · simp
    · split
      · simp
      · simp only [List.length_cons]
        omega

theorem takeAck_none {k : BitVec 16} (h : ackPos k ((s.port p).unacked.take ((s.port p).unacked.length - (s.port p).unsent)) = 0) :
    takeAck s p k = s := by
  unfold takeAck
  dsimp only
  rw [if_pos h]

theorem drainStep_waits (h1 : (s.port p).st ≠ .draining) (h2 : (s.port p).farDraining = false) : drainStep s p = s := by
  unfold drainStep
  dsimp only
  rw [if_neg (by simp [h1, h2])]

theorem drainedCheck_frame (s : State) (p : Nat) : ((drainedCheck s p).port p).unacked = (s.port p).unacked ∧
    ((drainedCheck s p).port p).resends = (s.port p).resends ∧ (drainedCheck s p).ledgers = s.ledgers ∧
    ∀ j, j ≠ p → (drainedCheck s p).port j = s.port j := by
  unfold drainedCheck
  dsimp only
  split
  · exact ⟨by simp, by simp, by simp, fun j hj => by simp [hj]⟩
  · exact ⟨rfl, rfl, rfl, fun _ _ => rfl⟩

theorem ackReceived_frees {k : BitVec 16} {n : Nat} (hn : n = ackPos k ((s.port p).unacked.take ((s.port p).unacked.length - (s.port p).unsent)))
    (h0 : n ≠ 0) (hst : (s.port p).st = .up) (hd : (s.port p).farDraining = false) : Answers (.ackReceived p k) s fun t =>
      (t.port p).unacked = (s.port p).unacked.drop n ∧ (t.port p).resends = 0 ∧ (∀ j, j ≠ p → t.port j = s.port j) ∧
      (counting s = true → ∀ r : ReplayRow, r = look {} s.ledgers.replay p → (∀ f ∈ (s.port p).unacked.take n, f.counted = true) →
        look {} t.ledgers.replay p = { r with free := r.free + n, unacked := r.unacked - n, acked := r.acked + w32 n }) := by
  have hx : exec (.ackReceived p k) s = .next (takeAck s p k) := rfl
  unfold takeAck at hx
  dsimp only at hx
  rw [← hn, if_neg h0] at hx
  generalize hu : s.setPort p { s.port p with unacked := (s.port p).unacked.drop n, resends := 0 } = u at hx
  generalize hm : (((s.port p).unacked.take n).filter (fun y => y.counted)).length = m at hx
  generalize hv : modReplay u p _ = v at hx
  have hvl : v.links = u.links := by
    rw [← hv]
    exact (modReplay_links u _).1
  have hvp : ∀ j, v.port j = if j = p then { s.port p with unacked := (s.port p).unacked.drop n, resends := 0 } else s.port j := by
    intro j
    rw [State.port, hvl, ← hu]
    exact State.setPort_port _ _ _ _
  have hvpp := (hvp p).trans (if_pos rfl)
  rw [drainStep_waits (by rw [hvpp]; simp [hst]) (by rw [hvpp]; exact hd)] at hx
  obtain ⟨d1, d2, d3, d4⟩ := drainedCheck_frame v p
  refine ⟨_, hx, by rw [d1, hvpp], by rw [d2, hvpp], fun j hj => by rw [d4 j hj, hvp, if_neg hj], ?_⟩
  rintro hcount r rfl hall
  have hmn : m = n := by
    rw [← hm, List.filter_eq_self.2 (fun f hf => hall f hf), List.length_take]
    have hle : n ≤ ((s.port p).unacked.take ((s.port p).unacked.length - (s.port p).unsent)).length := by
      rw [hn]
      exact ackPos_le _ _
    rw [List.length_take] at hle
    omega
  have hcu : counting u = true := by
    rw [← hu]
    exact hcount
  have hlu : u.ledgers = s.ledgers := by
    rw [← hu]
    rfl
  rw [d3, ← hv, modReplay_look u _ hcu, hlu, hmn]

/-- Each unacknowledged flit goes out again, and the sixteenth time in a row the port goes down instead. -/
theorem startReplay_replays {c : Instr} {u : State} {b : Bool} (hx : exec c s = .next (startReplay u p b))
    (hu : ∀ j, j ≠ p → u.port j = s.port j) (ha : u.ao = s.ao) (hc : (u.port p).closing = (s.port p).closing)
    (hd : (u.port p).downs = (s.port p).downs) (hv : (u.port p).valid = (s.port p).valid) :
    ((u.port p).resends < 15 → Answers c s fun t =>
      (t.port p).resends = (u.port p).resends + 1 ∧ (t.port p).replays = satInc (u.port p).replays 0xFFFF ∧
      (t.port p).timeouts = (if b then satInc (u.port p).timeouts 0xFFFF else (u.port p).timeouts) ∧ (t.port p).lastNak = (u.port p).lastNak ∧
      (t.port p).unacked = (u.port p).unacked ∧
      ∀ f ∈ (u.port p).unacked.take ((u.port p).unacked.length - (u.port p).unsent), .flit p f.seq.toNat ∈ t.out) ∧
    (15 ≤ (u.port p).resends → PortGoesDown c s p) := by
  unfold startReplay at hx
  dsimp only at hx
  generalize hw : u.setPort p _ = w at hx
  have hwp : w.port p = { u.port p with
      resends := (u.port p).resends + 1, replays := satInc (u.port p).replays 0xFFFF,
      timeouts := if b then satInc (u.port p).timeouts 0xFFFF else (u.port p).timeouts } := by
    rw [← hw, State.setPort_port, if_pos rfl]
  refine ⟨fun h => ?_, fun h => ?_⟩
  · rw [if_neg (by omega)] at hx
    have hp := (Pumped.refl p w).resendAll.pump 256
    obtain ⟨n, m, e⟩ := hp.self
    rw [hwp] at e
    refine ⟨_, hx, by rw [e], by rw [e], by rw [e], by rw [e], by rw [e], fun f hf => ?_⟩
    exact ((Pumped.refl p _).pump 256).out _ (resendAll_sends (by rw [hwp]; exact hf))
  · rw [if_pos (by omega)] at hx
    refine portGoesDown_of hx (Pumped.refl _ _) (by rw [hwp]; exact hc) (by rw [hwp]; exact hd) (by rw [hwp]; exact hv) ?_ fun j hj => ?_
    · rw [← hw]
      exact ha
    · rw [← hw, State.setPort_port, if_neg hj, hu j hj]

theorem nakReceived_replays {k : BitVec 16} (h0 : ackPos k ((s.port p).unacked.take ((s.port p).unacked.length - (s.port p).unsent)) = 0)
    (hk : (s.port p).lastNak ≠ some k) (hl : (s.port p).unsent < (s.port p).unacked.length) (hs : sending (s.port p) = true) :
    exec (.nakReceived p k) s = .next (startReplay (s.setPort p { s.port p with lastNak := some k }) p false) := by
  have hx : exec (.nakReceived p k) s = execNakReceived p k s := rfl
  have hn : (decide ((s.port p).lastNak = some k) || decide ((s.port p).unacked.length ≤ (s.port p).unsent) || !sending (s.port p)) = false := by
    rw [decide_eq_false hk, decide_eq_false (by omega), hs]
    rfl
  rw [hx, execNakReceived, takeAck_none h0]
  dsimp only
  rw [hn, if_neg (by decide)]

theorem replayTimeout_replays (hl : (s.port p).unsent < (s.port p).unacked.length) (hs : sending (s.port p) = true) :
    exec (.replayTimeout p) s = .next (startReplay s p true) := by
  have hx : exec (.replayTimeout p) s = execReplayTimeout p s := rfl
  have hn : (decide ((s.port p).unacked.length ≤ (s.port p).unsent) || !sending (s.port p)) = false := by
    rw [decide_eq_false (by omega), hs]
    rfl
  rw [hx, execReplayTimeout]
  rw [hn, if_neg (by decide)]

end

/-- Settles O54: flits are kept until they are acknowledged, and sent again until then. -/
theorem flitsAreReplayed : Obligations.FlitsAreReplayed := by
  unfold Obligations.FlitsAreReplayed
  refine ⟨?_, ?_, ?_, ?_, ?_⟩
  · rintro p vc b s x rfl hv hb hc hd hl hst
    exact flitSubmit_queues hv hb hc hd hl hst
  · rintro p f s x rfl hr
    refine ⟨flitReceived_bad hr, fun hc hd d hdd => ⟨fun h1 h2 => flitReceived_down hdd hr hc hd (.inl ⟨h1, h2⟩), flitReceived_null hdd hr hc hd,
      fun hn h0 hf => flitReceived_down hdd hr hc hd (.inr ⟨hn, h0, hf⟩), flitReceived_accepted hdd hr hc hd, flitReceived_ahead hdd hr hc hd,
      flitReceived_again hdd hr hc hd⟩⟩
  · rintro p k s x n rfl hn
    refine ⟨fun h0 => ?_, fun h0 hst hd => ackReceived_frees hn h0 hst hd, fun h0 hk hl hs => ?_⟩
    · have hx : exec (.ackReceived p k) s = .next (takeAck s p k) := rfl
      rw [hx, takeAck_none (hn.symm.trans h0)]
    · have hx := nakReceived_replays (hn.symm.trans h0) hk hl hs
      obtain ⟨r1, r2⟩ := startReplay_replays hx (fun j hj => by simp [hj]) rfl (by simp) (by simp) (by simp)
      rw [State.setPort_port, if_pos rfl] at r1 r2
      refine ⟨fun h => ?_, r2⟩
      obtain ⟨t, ht, h1, h2, h3, h4, h5, h6⟩ := r1 h
      exact ⟨t, ht, h1, h2, h4, h5, h6⟩
  · rintro p s x rfl hs hl
    obtain ⟨r1, r2⟩ := startReplay_replays (replayTimeout_replays hl hs) (fun _ _ => rfl) rfl rfl rfl rfl
    refine ⟨fun h => ?_, r2⟩
    obtain ⟨t, ht, h1, h2, h3, h4, h5, h6⟩ := r1 h
    exact ⟨t, ht, h1, h3, h5, h6⟩
  · rintro p vc s x rfl h
    have hx : exec (.receiveBufferFree p vc) s = execReceiveBufferFree p vc s := rfl
    rw [hx, execReceiveBufferFree, if_neg h]
    rfl

end Sys2Proof.Machine
end

section
/-!
SUPPORT. Ports: identity, reforms, sleep, tests and drains (chapter 17).
-/
namespace Sys2Proof.Machine
open Sys2Proof

section
variable {p : Nat} {s : State}

/-! ### Verdicts (R558 to R560) -/

theorem sendMgmt_says (s : State) (p type : Nat) (b : List Byte) : .mgmt p type b ∈ (sendMgmt s p type b).out := by
  unfold sendMgmt
  dsimp only
  split
  · exact ((Sent.refl p _).pushFlit _ _).out _ (mem_out_emit_self _ _)
  · exact mem_out_emit_self _ _

theorem quarantine_frame (s : State) (p cause : Nat) : ((quarantine s p cause).port p).st = .quarantine ∧
    ((quarantine s p cause).port p).qCause = cause ∧ caused (quarantine s p cause) (.port p) 2 = true ∧
    (cause ≤ 5 → caused (quarantine s p cause) (.wiring p) 0 = true) := by
  unfold quarantine
  dsimp only
  generalize hv : raise _ (.port p) 2 = v
  have hp : (v.port p).st = .quarantine ∧ (v.port p).qCause = cause := by
    rw [← hv]
    simp
  have hc : caused v (.port p) 2 = true := by
    rw [← hv]
    exact caused_raise_same _ _ (by decide)
  split
  · exact ⟨by rw [raise_port, hp.1], by rw [raise_port, hp.2], caused_raise _ _ hc, fun _ => caused_raise_same _ _ (by decide)⟩
  · next h => exact ⟨hp.1, hp.2, hc, fun h' => absurd h' h⟩

theorem quarantines_of {c : Instr} {u : State} {cause : Nat} (hx : exec c s = .next (quarantine u p cause))
    (hu : ∀ j, j ≠ p → u.port j = s.port j) : Quarantines c s p cause := by
  obtain ⟨h1, h2, h3, h4⟩ := quarantine_frame u p cause
  exact ⟨_, hx, h1, h2, h3, h4, fun j hj => (quarantine_linkStable (linkStable_port hj (u.port j)) rfl cause).trans (hu j hj)⟩

/-- A test is asked for; the port stays as it is but for that. -/
theorem askBert_frame (s : State) (p : Nat) : ((askBert s p).port p).bertAsked = true ∧ ((askBert s p).port p).st = (s.port p).st ∧
    ((askBert s p).port p).drainDue = (s.port p).drainDue ∧ (askBert s p).hdrs = s.hdrs ∧
    .mgmt p 6 ([0, 0, 0] ++ leBytes 4 (Config.freeWord s.free).toNat ++ leBytes 4 (s.port p).bertMs) ∈ (askBert s p).out := by
  unfold askBert
  dsimp only
  generalize hu : ({ s with free := s.free + 1 } : State).modPort p (fun x => { x with bertAsked := true }) = u
  have hfv : (freeVal s).2.modPort p (fun x => { x with bertAsked := true }) = u := hu
  have hup : (u.port p).bertAsked = true ∧ (u.port p).st = (s.port p).st ∧ (u.port p).drainDue = (s.port p).drainDue := by
    rw [← hu, State.modPort_eq, State.setPort_port, if_pos rfl]
    exact ⟨rfl, rfl, rfl⟩
  have hh : u.hdrs = s.hdrs := by
    rw [← hu]
    rfl
  rw [hfv]
  have hs := (Sent.refl p u).sendMgmt 6 ([0, 0, 0] ++ leBytes 4 (freeVal s).1.toNat ++ leBytes 4 ((freeVal s).2.port p).bertMs)
  obtain ⟨_, _, _, _, e⟩ := hs.self
  rw [e]
  exact ⟨hup.1, hup.2.1, hup.2.2, hs.hdrs.trans hh, sendMgmt_says _ _ _ _⟩

theorem portUp_up {s : State} (hd : (s.port p).drainDue = false) : ((portUp s p).port p).st = .up ∧ caused (portUp s p) (.port p) 0 = true := by
  unfold portUp
  dsimp only
  generalize hv : raise _ (.port p) 0 = v
  have hvp : (v.port p).st = .up ∧ (v.port p).drainDue = false := by
    rw [← hv]
    simp [hd]
  have hvc : caused v (.port p) 0 = true := by
    rw [← hv]
    exact caused_raise_same _ _ (by decide)
  generalize hw : (if (s.port p).install then askBert (v.modPort p fun x => { x with bertInstall := true }) p else v) = w
  have hwp : (w.port p).st = .up ∧ (w.port p).drainDue = false ∧ caused w (.port p) 0 = true := by
    rw [← hw]
    split
    · obtain ⟨_, a2, a3, a4, _⟩ := askBert_frame (v.modPort p fun x => { x with bertInstall := true }) p
      rw [a2, a3, caused_congr a4, State.modPort_eq, State.setPort_port, if_pos rfl]
      exact ⟨hvp.1, hvp.2, hvc⟩
    · exact ⟨hvp.1, hvp.2, hvc⟩
  rw [if_neg (by simp [hwp.2.1])]
  exact ⟨hwp.1, hwp.2.2⟩

/-- A port that has checked a far record. -/
def PortSt.checked (x : PortSt) (r : IdentRec) : PortSt := { x with
  far := some r, sentMatch := decide (identCause x r = 0),
  farBufs := put 0 (put 0 (put 0 (put 0 [] 0 r.bufs0.toNat) 1 r.bufs1.toNat) 2 r.bufs2.toNat) 3 r.bufs3.toNat }

theorem identity_answers {r : IdentRec} (hst : (s.port p).st = .identify) (hm : r.magic = 0x4B4E494C) : ∃ u : State,
    Sent p (s.setPort p ((s.port p).checked r)) u ∧
    .mgmt p 2 [BitVec.ofNat 8 (b2n (identCause (s.port p) r = 0)), BitVec.ofNat 8 (identCause (s.port p) r)] ∈ u.out ∧
    exec (.identity p r) s = .next (if identCause (s.port p) r ≠ 0 then quarantine u p (identCause (s.port p) r)
      else if (s.port p).gotMatch then portUp u p else u) := by
  have hx : exec (.identity p r) s = execIdentity p r s := rfl
  refine ⟨_, (Sent.refl p _).sendMgmt 2 _, sendMgmt_says _ _ _ _, ?_⟩
  rw [hx, execIdentity]
  dsimp only
  rw [if_neg (by simp [hst, hm])]
  split
  · rfl
  · split <;> rfl

theorem identity_judged {r : IdentRec} {c : Nat} (hc : c = identCause (s.port p) r) (hst : (s.port p).st = .identify) (hm : r.magic = 0x4B4E494C) :
    (c ≠ 0 → Quarantines (.identity p r) s p c) ∧
    (c = 0 → (s.port p).gotMatch = false → Answers (.identity p r) s fun t =>
      (t.port p).st = .identify ∧ (t.port p).sentMatch = true ∧ (t.port p).far = some r ∧ .mgmt p 2 [1, 0] ∈ t.out) ∧
    (c = 0 → (s.port p).gotMatch = true → (s.port p).drainDue = false → Answers (.identity p r) s fun t =>
      (t.port p).st = .up ∧ caused t (.port p) 0 = true) := by
  obtain ⟨u, hs, ho, hx⟩ := identity_answers hst hm
  obtain ⟨_, _, _, _, e⟩ := hs.self
  rw [State.setPort_port, if_pos rfl] at e
  rw [← hc] at hx ho
  refine ⟨fun h => ?_, fun h hg => ?_, fun h hg hd => ?_⟩
  · rw [if_pos h] at hx
    exact quarantines_of hx (fun j hj => (hs.other j hj).trans (by rw [State.setPort_port, if_neg hj]))
  · rw [if_neg (by simp [h]), if_neg (by simp [hg])] at hx
    rw [h] at ho
    exact ⟨u, hx, by rw [e]; exact hst, by rw [e]; simp [PortSt.checked, ← hc, h], by rw [e]; rfl, ho⟩
  · rw [if_neg (by simp [h]), if_pos hg] at hx
    exact ⟨_, hx, portUp_up (by rw [e]; exact hd)⟩

/-! ### Reforming (R565) -/

theorem verdict_judged {c : Nat} (hst : (s.port p).st = .identify) :
    Quarantines (.verdict p false c) s p 5 ∧ ((s.port p).far = none → Quarantines (.identifyTimeout p) s p 7) ∧
    ((s.port p).sentMatch = false → exec (.verdict p true c) s = .next (s.setPort p { s.port p with gotMatch := true })) ∧
    ((s.port p).sentMatch = true → (s.port p).drainDue = false → Answers (.verdict p true c) s fun t => (t.port p).st = .up ∧ caused t (.port p) 0 = true) := by
  have hx : ∀ b, exec (.verdict p b c) s = execVerdict p b c s := fun _ => rfl
  refine ⟨?_, fun hf => ?_, fun hm => ?_, fun hm hd => ?_⟩
  · have h := hx false
    rw [execVerdict, if_neg (by simp [hst]), if_pos (by decide)] at h
    exact quarantines_of h (fun _ _ => rfl)
  · have h : exec (.identifyTimeout p) s = execIdentifyTimeout p s := rfl
    rw [execIdentifyTimeout, if_pos (by simp [hst, hf])] at h
    exact quarantines_of h (fun _ _ => rfl)
  · rw [hx, execVerdict, if_neg (by simp [hst]), if_neg (by decide)]
    dsimp only
    rw [if_neg (by simp [hm])]
  · have h := hx true
    rw [execVerdict, if_neg (by simp [hst]), if_neg (by decide)] at h
    dsimp only at h
    rw [if_pos hm] at h
    exact ⟨_, h, portUp_up (by simpa using hd)⟩

end

/-! ### Lanes that leave, and reforming (R565) -/

/-- A lane that has left service. -/
def LaneSt.left (x : LaneSt) : LaneSt := { freshTraining x with phase := 0, synth := false, lastSeq := none, msg := 0, msgPay := 0, dropped := true }

/-- A lane loses power and stays out of service. -/
def laneGone (s : State) (i : Nat) : State := (laneOff s i).modLane i (fun y => { y with dropped := true })

theorem laneGone_lane (t : State) (a j : Nat) : (laneGone t a).lane j = if j = a then (t.lane a).left else t.lane j := by
  unfold laneGone
  rw [State.modLane_eq, State.setLane_lane, laneOff_lane, laneOff_lane]
  split
  · rw [if_pos rfl]
    rfl
  · rfl

theorem lanesGone_lane {l : List Nat} (hn : l.Nodup) (s : State) (j : Nat) :
    (forEach l s laneGone).lane j = if j ∈ l then (s.lane j).left else s.lane j :=
  lane_forEach (fun _ x => x.left) laneGone_lane l hn s j

theorem nodup_portLanes (s : State) (p : Nat) : (portLanes s p).Nodup := nodup_lanes p _

/-- Lanes alone change in a loop over lanes. -/
theorem lanesGone_frame (l : List Nat) (s : State) : ∃ x, forEach l s laneGone = { s with links := { s.links with lanes := x } } := by
  refine holds_forEach (P := fun t => ∃ x, t = { s with links := { s.links with lanes := x } }) ?_ l ⟨s.links.lanes, rfl⟩
  rintro t i ⟨x, rfl⟩
  exact ⟨_, rfl⟩

section
variable {p : Nat} {s : State} {a b : BitVec 8} (ha : (s.port p).reformOwn = some a) (hb : (s.port p).reformFar = some b)
include ha hb

/-- Both masks are known: the lanes outside their intersection have left, and the port goes on with it, or goes down. -/
theorem reformDone_agreed : ∃ u : State, (u.port p).mask = a &&& b ∧ (u.port p).drainDue = (s.port p).drainDue ∧
    (u.port p).closing = (s.port p).closing ∧ (u.port p).downs = (s.port p).downs ∧ (u.port p).valid = (s.port p).valid ∧ u.ao = s.ao ∧ u.out = s.out ∧
    (∀ j, j ≠ p → u.port j = s.port j) ∧ (∀ i ∈ portLanes s p, (a &&& b).getLsbD (i % 8) = false → (u.lane i).phase = 0 ∧ (u.lane i).dropped = true) ∧
    reformDone s p = if popCount 8 (a &&& b).toNat < max 1 (s.port p).lanesMin then portDown u p 3
      else
        let v := pump (resendAll (raise (logEvent (u.modPort p (fun x => { x with st := .up })) 0x6013 2 (.port p)
          [p, (s.port p).reformOld.toNat, (a &&& b).toNat, 0]) (.port p) 3) p) p 256
        if (v.port p).drainDue then startDrain v p else v := by
  obtain ⟨x, hl⟩ := lanesGone_frame ((portLanes s p).filter (fun i => !(a &&& b).getLsbD (i % 8))) s
  have hlane := lanesGone_lane ((nodup_portLanes s p).filter (fun i => !(a &&& b).getLsbD (i % 8))) s
  have hdone : ∀ g, forEach ((portLanes s p).filter (fun i => !(a &&& b).getLsbD (i % 8))) s laneGone = g → reformDone s p =
      if popCount 8 (a &&& b).toNat < max 1 (s.port p).lanesMin then
        portDown (g.modPort p (fun x => { x with mask := a &&& b, reformOwn := none, reformFar := none, replayHeld := false })) p 3
      else
        let v := pump (resendAll (raise (logEvent ((g.modPort p (fun x => { x with mask := a &&& b, reformOwn := none, reformFar := none, replayHeld := false })).modPort p
          (fun x => { x with st := .up })) 0x6013 2 (.port p) [p, (s.port p).reformOld.toNat, (a &&& b).toNat, 0]) (.port p) 3) p) p 256
        if (v.port p).drainDue then startDrain v p else v := by
    rintro g rfl
    unfold reformDone
    dsimp only
    rw [ha, hb]
    rfl
  refine ⟨_, ?_, ?_, ?_, ?_, ?_, ?_, ?_, fun j hj => ?_, fun i hi hm => ?_, hdone _ rfl⟩
  case refine_9 =>
    have := hlane i
    rw [if_pos (List.mem_filter.2 ⟨hi, by simp [hm]⟩)] at this
    exact ⟨(congrArg LaneSt.phase this).trans rfl, (congrArg LaneSt.dropped this).trans rfl⟩
  all_goals rw [hl]
  · simp
  · rw [State.modPort_eq, State.setPort_port, if_pos rfl]
    rfl
  · rw [State.modPort_eq, State.setPort_port, if_pos rfl]
    rfl
  · rw [State.modPort_eq, State.setPort_port, if_pos rfl]
    rfl
  · rw [State.modPort_eq, State.setPort_port, if_pos rfl]
    rfl
  · rfl
  · rfl
  · rw [State.modPort_eq, State.setPort_port, if_neg hj]
    rfl

theorem reformDone_up (hm : max 1 (s.port p).lanesMin ≤ popCount 8 (a &&& b).toNat) (hd : (s.port p).drainDue = false) :
    ((reformDone s p).port p).st = .up ∧ ((reformDone s p).port p).mask = a &&& b ∧ caused (reformDone s p) (.port p) 3 = true ∧
    (∀ o ∈ s.out, o ∈ (reformDone s p).out) ∧
    ∀ i ∈ portLanes s p, (a &&& b).getLsbD (i % 8) = false → ((reformDone s p).lane i).phase = 0 ∧ ((reformDone s p).lane i).dropped = true := by
  obtain ⟨u, u1, u2, _, _, _, _, u7, _, u9, e⟩ := reformDone_agreed ha hb
  rw [if_neg (by omega)] at e
  dsimp only at e
  generalize hv : raise (logEvent (u.modPort p _) _ _ _ _) (.port p) 3 = v at e
  have hvp : (v.port p).st = .up ∧ (v.port p).mask = a &&& b ∧ (v.port p).drainDue = false ∧ ∀ i, v.lane i = u.lane i := by
    rw [← hv, raise_port, logEvent_port, State.modPort_eq, State.setPort_port, if_pos rfl]
    exact ⟨rfl, u1, u2.trans hd, fun i => by simp⟩
  have hvc : caused v (.port p) 3 = true := by
    rw [← hv]
    exact caused_raise_same _ _ (by decide)
  have hvo : ∀ o ∈ s.out, o ∈ v.out := fun o ho => by
    rw [← hv]
    exact mem_out_raise (mem_out_logEvent (u7 ▸ ho) _ _ _ _) _ _
  have hp := (Pumped.refl p v).resendAll.pump 256
  obtain ⟨n, m, ep⟩ := hp.self
  rw [if_neg (by rw [ep]; simp [hvp.2.2.1])] at e
  rw [e]
  refine ⟨by rw [ep]; exact hvp.1, by rw [ep]; exact hvp.2.1, (caused_congr hp.hdrs _ _).trans hvc, fun o ho => hp.out o (hvo o ho), fun i hi h => ?_⟩
  rw [lane_congr hp.lanes, hvp.2.2.2]
  exact u9 i hi h

end

section
variable {p : Nat} {s : State}

theorem sent_reform (s : State) (p : Nat) (b a : BitVec 8) : ∃ u : State, (∃ c d e g, u.port p = { (s.port p) with
      st := .reforming, mask := a, reformOwn := some a, reformFar := some b, replayHeld := true, reformOld := c, unacked := d, nextTx := e, unsent := g, sentVc := (u.port p).sentVc }) ∧
    (∀ j, j ≠ p → u.port j = s.port j) ∧ u.ao = s.ao ∧ .mgmt p 3 ([0] ++ leBytes 2 a.toNat) ∈ u.out ∧
    startReform (s.setPort p { s.port p with reformFar := some b }) p a a = reformDone u p := by
  unfold startReform
  dsimp only
  generalize hw : (s.setPort p { s.port p with reformFar := some b }).modPort p _ = w
  have hs := (Sent.refl p w).sendMgmt 3 ([0] ++ leBytes 2 a.toNat)
  obtain ⟨d, e, g, m, ep⟩ := hs.self
  refine ⟨_, ?_, fun j hj => (hs.other j hj).trans ?_, hs.ao.trans ?_, sendMgmt_says _ _ _ _, rfl⟩
  · refine ⟨(w.port p).reformOld, d, e, g, ?_⟩
    rw [ep, ← hw]
    simp
  · rw [← hw]
    simp [hj]
  · rw [← hw]
    rfl

theorem portLanes_congr {s t : State} (h : (t.port p).optical = (s.port p).optical) : portLanes t p = portLanes s p := by
  unfold portLanes modeLanes
  rw [h]

/-- The far end's proposal meets this end's: what a reform comes to. -/
theorem reform_runs {m16 : BitVec 16} {a : BitVec 8} (h : ((s.port p).st = .reforming ∧ (s.port p).reformOwn = some a) ∨ ((s.port p).st = .up ∧ (s.port p).mask = a)) :
    ∃ u : State, (u.port p).reformOwn = some a ∧ (u.port p).reformFar = some (m16.setWidth 8) ∧ (u.port p).lanesMin = (s.port p).lanesMin ∧
      (u.port p).drainDue = (s.port p).drainDue ∧ (u.port p).closing = (s.port p).closing ∧ (u.port p).downs = (s.port p).downs ∧
      (u.port p).valid = (s.port p).valid ∧ (u.port p).optical = (s.port p).optical ∧ u.ao = s.ao ∧ (∀ j, j ≠ p → u.port j = s.port j) ∧
      ((s.port p).st = .up → .mgmt p 3 ([0] ++ leBytes 2 a.toNat) ∈ u.out) ∧ exec (.reform p m16) s = .next (reformDone u p) := by
  have hx : exec (.reform p m16) s = execReform p m16 s := rfl
  obtain ⟨hst, ho⟩ | ⟨hst, hm⟩ := h
  · refine ⟨s.setPort p { s.port p with reformFar := some (m16.setWidth 8) }, ?_, ?_, ?_, ?_, ?_, ?_, ?_, ?_, rfl, fun j hj => by simp [hj],
      ?_, ?_⟩
    case refine_9 =>
      rw [hst]
      exact fun h => by cases h
    case refine_10 =>
      rw [hx, execReform]
      simp only [hst]
    all_goals rw [State.setPort_port, if_pos rfl]
    exact ho
  · obtain ⟨u, ⟨c, d, e, g, ep⟩, u2, u3, u4, u5⟩ := sent_reform s p (m16.setWidth 8) a
    refine ⟨u, by rw [ep], by rw [ep], by rw [ep], by rw [ep], by rw [ep], by rw [ep], by rw [ep], by rw [ep], u3, u2, fun _ => u4, ?_⟩
    rw [hx, execReform, ← u5]
    simp only [hst, hm]

theorem reform_judged {m16 : BitVec 16} {a m : BitVec 8} (hm : m = a &&& m16.setWidth 8)
    (h : ((s.port p).st = .reforming ∧ (s.port p).reformOwn = some a) ∨ ((s.port p).st = .up ∧ (s.port p).mask = a)) :
    (max 1 (s.port p).lanesMin ≤ popCount 8 m.toNat → (s.port p).drainDue = false → Answers (.reform p m16) s fun t =>
      (t.port p).st = .up ∧ (t.port p).mask = m ∧ caused t (.port p) 3 = true ∧ ((s.port p).st = .up → .mgmt p 3 ([0] ++ leBytes 2 a.toNat) ∈ t.out) ∧
      ∀ i ∈ portLanes s p, m.getLsbD (i % 8) = false → (t.lane i).phase = 0 ∧ (t.lane i).dropped = true) ∧
    (popCount 8 m.toNat < max 1 (s.port p).lanesMin → PortGoesDown (.reform p m16) s p) := by
  obtain ⟨u, hown, hfar, hmin, hdue, hcl, hdn, hval, hopt, hao, hoth, hout, hx⟩ := reform_runs (m16 := m16) h
  subst hm
  refine ⟨fun hc hd => ?_, fun hc => ?_⟩
  · obtain ⟨r1, r2, r3, r4, r5⟩ := reformDone_up hown hfar (by rw [hmin]; exact hc) (hdue.trans hd)
    exact ⟨_, hx, r1, r2, r3, fun hst => r4 _ (hout hst), fun i hi => r5 i (by rw [portLanes_congr hopt]; exact hi)⟩
  · obtain ⟨v, _, _, v3, v4, v5, v6, _, v8, _, e⟩ := reformDone_agreed hown hfar
    rw [if_pos (by rw [hmin]; exact hc)] at e
    rw [e] at hx
    exact portGoesDown_of hx (Pumped.refl _ _) (v3.trans hcl) (v4.trans hdn) (v5.trans hval) (v6.trans hao) (fun j hj => (v8 j hj).trans (hoth j hj))

end

/-! ### Sleep (R567, R573) -/

theorem countTo_lane (s : State) (p : Nat) (k : Word) (i : Nat) : (countTo s p k).lane i =
    if i ∈ maskLanes p (s.port p).mask then { s.lane i with count := k } else s.lane i := by
  refine lane_forEach (fun _ x => { x with count := k }) (fun t a j => ?_) _ (nodup_maskLanes _ _) s i
  exact State.setLane_lane _ _ _ _

theorem countTo_ports (s : State) (p : Nat) (k : Word) : (countTo s p k).links.ports = s.links.ports ∧ (countTo s p k).out = s.out := by
  unfold countTo
  refine holds_forEach (P := fun t => t.links.ports = s.links.ports ∧ t.out = s.out) ?_ _ ⟨rfl, rfl⟩
  exact fun t i h => h

/-- Each lane of a list is in the relation of one step to what it was. -/
theorem lane_forEach_rel {R : LaneSt → LaneSt → Prop} {f : State → Nat → State} (h1 : ∀ t a, R (t.lane a) ((f t a).lane a))
    (h2 : ∀ t a j, j ≠ a → (f t a).lane j = t.lane j) {l : List Nat} (hn : l.Nodup) (s : State) {i : Nat} (hi : i ∈ l) :
    R (s.lane i) ((forEach l s f).lane i) := by
  have hkeep : ∀ (l : List Nat) (t : State), i ∉ l → (forEach l t f).lane i = t.lane i := fun l t h =>
    forEach_keeps (fun u => u.lane i) l f (fun u a ha => h2 u a i (fun e => h (e ▸ ha))) t
  induction l generalizing s with
  | nil => cases hi
  | cons a l ih =>
    obtain ⟨ha, hn⟩ := List.nodup_cons.1 hn
    change R (s.lane i) ((forEach l (f s a) f).lane i)
    obtain rfl | hi := List.mem_cons.1 hi
    · rw [hkeep l _ ha]
      exact h1 s i
    · have := ih hn (f s a) hi
      rwa [h2 s a i (fun e => ha (e ▸ hi))] at this

theorem portSleep_sleeps (s : State) (p : Nat) (k : Word) : ((portSleep s p k).port p).st = .asleep ∧ (∀ o ∈ s.out, o ∈ (portSleep s p k).out) ∧
    ∀ i ∈ maskLanes p (s.port p).mask, (s.lane i).phase = 10 → ((portSleep s p k).lane i).phase = 11 ∧ ((portSleep s p k).lane i).count = k := by
  obtain ⟨hports, hout⟩ := countTo_ports s p k
  have hlane := countTo_lane s p k
  unfold portSleep
  generalize hu : (countTo s p k).modPort p (fun x => { x with st := .asleep, sleepSent := false }) = u
  have hup : (u.port p).st = .asleep := by
    rw [← hu]
    simp
  have huo : u.out = s.out := by
    rw [← hu]
    exact hout
  have hul : ∀ i, u.lane i = (countTo s p k).lane i := fun i => by
    rw [← hu]
    rfl
  have hall : ∀ (l : List Nat) (v : State), v.port p = u.port p ∧ v.out = u.out →
      (forEach l v fun s i => s.modLane i fun x => if x.phase = 10 then { x with phase := 11, sleepAt := s.ao.ticks } else x).port p = u.port p ∧
      (forEach l v fun s i => s.modLane i fun x => if x.phase = 10 then { x with phase := 11, sleepAt := s.ao.ticks } else x).out = u.out := by
    intro l v hv
    refine holds_forEach (P := fun t => t.port p = u.port p ∧ t.out = u.out) ?_ l hv
    exact fun t i h => h
  obtain ⟨h1, h2⟩ := hall (maskLanes p (s.port p).mask) u ⟨rfl, rfl⟩
  refine ⟨by rw [h1, hup], fun o ho => by rw [h2, huo]; exact ho, fun i hi h10 => ?_⟩
  have hr := lane_forEach_rel (R := fun x y => x.phase = 10 → y.phase = 11 ∧ y.count = x.count)
    (f := fun s i => s.modLane i fun x => if x.phase = 10 then { x with phase := 11, sleepAt := s.ao.ticks } else x)
    (fun t a h => by simp [h]) (fun t a j hj => by simp [hj]) (nodup_maskLanes p (s.port p).mask) u hi
  have hui : u.lane i = { s.lane i with count := k } := by rw [hul, hlane, if_pos hi]
  rw [hui] at hr
  exact hr h10

section
variable {p : Nat} {s : State}

theorem sleepReq_answers {n : Word} (hst : (s.port p).st = .up) :
    ((s.port p).sleepSent = true → exec (.sleepReq p n) s = .next (s.setPort p { s.port p with sleepSent := false })) ∧
    ((s.port p).sleepSent = false → (s.port p).unacked ≠ [] → exec (.sleepReq p n) s = .next s) ∧
    ((s.port p).sleepSent = false → (s.port p).unacked = [] → Answers (.sleepReq p n) s fun t =>
      (t.port p).st = .asleep ∧ .mgmt p 5 ([0, 0, 0] ++ leBytes 4 n.toNat) ∈ t.out ∧
      ∀ i ∈ maskLanes p (s.port p).mask, (s.lane i).phase = 10 → (t.lane i).phase = 11 ∧ (t.lane i).count = n) := by
  have hx : exec (.sleepReq p n) s = execSleepReq p n s := rfl
  rw [execSleepReq, if_neg (by simp [hst])] at hx
  refine ⟨fun h => ?_, fun h hu => ?_, fun h hu => ?_⟩
  · rw [hx, if_pos h]
  · rw [hx, if_neg (by simp [h]), if_neg hu]
  · rw [if_neg (by simp [h]), if_pos hu] at hx
    obtain ⟨h1, h2, h3⟩ := portSleep_sleeps (emit s (.mgmt p 5 ([0, 0, 0] ++ leBytes 4 n.toNat))) p n
    exact ⟨_, hx, h1, h2 _ (mem_out_emit_self _ _), h3⟩

theorem sleepAck_sleeps {n : Word} (hst : (s.port p).st = .up) (h : (s.port p).sleepSent = true) : Answers (.sleepAck p n) s fun t =>
    (t.port p).st = .asleep ∧ ∀ i ∈ maskLanes p (s.port p).mask, (s.lane i).phase = 10 → (t.lane i).phase = 11 ∧ (t.lane i).count = n := by
  have hx : exec (.sleepAck p n) s = execSleepAck p n s := rfl
  rw [execSleepAck, if_pos (by simp [hst, h])] at hx
  obtain ⟨h1, _, h3⟩ := portSleep_sleeps s p n
  exact ⟨_, hx, h1, h3⟩

theorem portCount_congr {s t : State} (hm : (t.port p).mask = (s.port p).mask) (hl : t.links.lanes = s.links.lanes) : portCount t p = portCount s p := by
  have hf : (fun i => (t.lane i).count) = fun i => (s.lane i).count := by
    funext i
    rw [lane_congr hl]
  unfold portCount
  rw [hm, hf]

theorem idleExpire_asks (hst : (s.port p).st = .up) (hi : (s.port p).idleUs ≠ 0) (hu : (s.port p).unacked = []) : Answers (.idleExpire p) s fun t =>
    t.port p = { s.port p with sleepSent := true } ∧
    .mgmt p 4 ([0, 0, 0] ++ leBytes 4 (((portCount t p).toNat + 7 + (Config.freeWord (s.free + 1)).toNat % 2 ^ 31) % 2 ^ 32)) ∈ t.out ∧
    ∀ i, (t.lane i).phase = (s.lane i).phase := by
  have hx : exec (.idleExpire p) s = execIdleExpire p s := rfl
  obtain ⟨l, e⟩ := portTime_frame s p
  have hlane := portTime_lane s p
  have hf : (portTime s p).free = s.free + 1 ∧ (portTime s p).links.ports = s.links.ports := by
    rw [e]
    exact ⟨rfl, rfl⟩
  rw [execIdleExpire, if_pos (by simp [hst, hi, hu])] at hx
  dsimp only at hx
  generalize portTime s p = u at hlane hf hx
  have hport := port_congr hf.2 p
  rw [freeVal, hf.1] at hx
  dsimp only at hx
  refine ⟨_, hx, ?_, ?_, fun i => ?_⟩
  · rw [emit_port, State.setPort_port, if_pos rfl]
  · have hc : ∀ o, portCount (emit (({ u with free := s.free + 1 + 1 } : State).setPort p { s.port p with sleepSent := true }) o) p =
        portCount { u with free := s.free + 1 + 1 } p := fun o => by
      refine portCount_congr ?_ rfl
      rw [emit_port, State.setPort_port, if_pos rfl]
      exact (congrArg PortSt.mask hport).symm
    rw [hc]
    exact mem_out_emit_self _ _
  · change (u.lane i).phase = _
    rw [hlane, LaneSt.later]
    split
    · split <;> rfl
    · rfl

/-! ### PORT_CTRL (Table 17.9, R560, R568, R570, R574) -/

variable {w : RegWrite} (hw : writeOk s (.port p) w = true) (hfull : w.full = true)
include hw hfull

theorem portCtrl_runs (h1 : w.value.getLsbD 1 = true → (s.port p).st = .quarantine) (h2 : w.value.getLsbD 2 = true → (s.port p).st = .up) :
    (writePortCtrl p w s).1 =
      (let s1 := if w.value.getLsbD 2 then askBert s p else s
       let s2 := if w.value.getLsbD 1 then enterIdentify s1 p false else s1
       if w.value.getLsbD 0 then drainPort s2 p else s2) := by
  unfold writePortCtrl
  dsimp only
  refine guarded_passes hw 0x40 ?_
  have hc : (w.value.getLsbD 1 && decide ((s.port p).st ≠ .quarantine) || w.value.getLsbD 2 && decide ((s.port p).st ≠ .up)) = false := by
    cases hb1 : w.value.getLsbD 1 <;> cases hb2 : w.value.getLsbD 2 <;> simp_all
  rw [hc, hfull]
  rfl

end

section
variable {p : Nat} {s : State}

/-- An identity record is of the port's wiring, and of nothing that changes as it is sent. -/
theorem ownIdent_congr {s t : State} (ho : (t.port p).optical = (s.port p).optical) (hm : (t.port p).mask = (s.port p).mask)
    (hk : (t.port p).expectPkg = (s.port p).expectPkg) (he : (t.port p).expectPort = (s.port p).expectPort)
    (hl : t.links.localPkg = s.links.localPkg) : ownIdent t p = ownIdent s p := by
  unfold ownIdent
  dsimp only
  rw [ho, hm, hk, he, hl]

/-- A port that has just said something still has something unacknowledged. -/
theorem sendMgmt_unacked (s : State) (p type : Nat) (b : List Byte) : ((sendMgmt s p type b).port p).unacked ≠ [] := by
  unfold sendMgmt
  dsimp only
  split
  · rw [(pushFlit_enters _ _ _ _).1]
    simp
  · next h =>
    intro he
    rw [he] at h
    simp at h

theorem startDrain_drains (hd : (s.port p).sentDrained = false) : ((startDrain s p).port p).st = .draining ∧ .mgmt p 8 [] ∈ (startDrain s p).out := by
  unfold startDrain
  dsimp only
  generalize hu : s.modPort p _ = u
  have hup : (u.port p).st = .draining ∧ (u.port p).sentDrained = false := by
    rw [← hu]
    simp [hd]
  obtain ⟨_, _, _, _, e⟩ := ((Sent.refl p u).sendMgmt 8 []).self
  have hstep : drainStep (sendMgmt u p 8 []) p = sendMgmt u p 8 [] := by
    unfold drainStep
    dsimp only
    rw [if_neg (by simp [sendMgmt_unacked])]
  have hcheck : drainedCheck (sendMgmt u p 8 []) p = sendMgmt u p 8 [] := by
    unfold drainedCheck
    dsimp only
    rw [if_neg (by rw [e]; simp [hup.2])]
  rw [hstep, hcheck]
  exact ⟨by rw [e]; exact hup.1, sendMgmt_says _ _ _ _⟩

variable {w : RegWrite} (hw : writeOk s (.port p) w = true) (hfull : w.full = true)
include hw hfull

theorem bertGo_asks (h2 : w.value.getLsbD 2 = true) (h1 : w.value.getLsbD 1 = false) (h0 : w.value.getLsbD 0 = false) :
    ((s.port p).st = .up → Answers (.bertGo p w) s fun t => (t.port p).bertAsked = true ∧ (t.port p).st = .up ∧
      .mgmt p 6 ([0, 0, 0] ++ leBytes 4 (Config.freeWord s.free).toNat ++ leBytes 4 (s.port p).bertMs) ∈ t.out) ∧
    ((s.port p).st ≠ .up → Answers (.bertGo p w) s fun t => t.links = s.links ∧
      (t.hdr (.port p)).lastRefusal = word [(0, 0x02), (8, 0x40), (24, w.master.num)]) := by
  have hx : exec (.bertGo p w) s = .next (writePortCtrl p w s).1 := rfl
  refine ⟨fun hst => ?_, fun hst => ?_⟩
  · have hrun := portCtrl_runs hw hfull (fun h => by rw [h1] at h; cases h) (fun _ => hst)
    simp only [h2, h1, h0, if_true, Bool.false_eq_true, if_false] at hrun
    rw [hrun] at hx
    obtain ⟨a1, a2, _, _, a5⟩ := askBert_frame s p
    exact ⟨_, hx, a1, a2.trans hst, a5⟩
  · unfold writePortCtrl at hx
    dsimp only at hx
    rw [guarded_refuses hw 0x40 (r := .wrongState) ?_ (by decide)] at hx
    · exact ⟨_, hx, recordRefusal_links .., recordRefusal_last ..⟩
    · rw [judge_of_writeOk hw]
      simp only [h2, h1, hfull, hst, ne_eq, not_false_eq_true, decide_true, Bool.false_and, Bool.and_self, Bool.false_or, Bool.not_true,
        Bool.false_eq_true, if_false, if_true]

theorem recheck_identifies (h1 : w.value.getLsbD 1 = true) (h2 : w.value.getLsbD 2 = false) (h0 : w.value.getLsbD 0 = false)
    (hst : (s.port p).st = .quarantine) : Answers (.recheck p w) s fun t =>
      (t.port p).st = .identify ∧ (t.port p).far = none ∧ (t.port p).sentMatch = false ∧ (t.port p).gotMatch = false ∧
      .mgmt p 1 (List.replicate 3 0 ++ identBytes (ownIdent s p)) ∈ t.out := by
  have hx : exec (.recheck p w) s = .next (writePortCtrl p w s).1 := rfl
  have hrun := portCtrl_runs hw hfull (fun _ => hst) (fun h => by rw [h2] at h; cases h)
  simp only [h2, h1, h0, if_true, Bool.false_eq_true, if_false] at hrun
  rw [hrun] at hx
  unfold enterIdentify at hx
  dsimp only at hx
  generalize hu : s.modPort p _ = u at hx
  have hup : u.port p = { s.port p with st := .identify, far := none, sentMatch := false, gotMatch := false, replayHeld := false } := by
    rw [← hu]
    simp
  have hid : ownIdent u p = ownIdent s p :=
    ownIdent_congr (by rw [hup]) (by rw [hup]) (by rw [hup]) (by rw [hup]) (by rw [← hu]; rfl)
  obtain ⟨_, _, _, _, e⟩ := ((Sent.refl p u).sendMgmt 1 (List.replicate 3 0 ++ identBytes (ownIdent u p))).self
  refine ⟨_, hx, by rw [e, hup], by rw [e, hup], by rw [e, hup], by rw [e, hup], ?_⟩
  rw [← hid]
  exact sendMgmt_says _ _ _ _

theorem portDrain_asked (h0 : w.value.getLsbD 0 = true) (h1 : w.value.getLsbD 1 = false) (h2 : w.value.getLsbD 2 = false) :
    ((s.port p).st = .up → (s.port p).sentDrained = false → Answers (.portDrain p w) s fun t => (t.port p).st = .draining ∧ .mgmt p 8 [] ∈ t.out) ∧
    ((s.port p).st = .testing ∨ (s.port p).st = .quarantine → Answers (.portDrain p w) s fun t =>
      t.port p = { s.port p with drainDue := true } ∧ t.links.lanes = s.links.lanes) := by
  have hx : exec (.portDrain p w) s = .next (writePortCtrl p w s).1 := rfl
  have hrun := portCtrl_runs hw hfull (fun h => by rw [h1] at h; cases h) (fun h => by rw [h2] at h; cases h)
  simp only [h2, h1, h0, if_true, Bool.false_eq_true, if_false] at hrun
  rw [hrun] at hx
  refine ⟨fun hst hd => ?_, fun hst => ?_⟩
  · unfold drainPort at hx
    simp only [hst] at hx
    exact ⟨_, hx, startDrain_drains hd⟩
  · have hdp : drainPort s p = s.modPort p (fun x => { x with drainDue := true }) := by
      unfold drainPort
      obtain h | h := hst <;> simp only [h]
    rw [hdp] at hx
    exact ⟨_, hx, by simp, rfl⟩

end

/-! ### Tests (R568, R569) -/

section
variable {p : Nat} {s : State}

theorem bertHours_ask (hst : (s.port p).st = .up) (hb : (s.port p).bertHours ≠ 0) : Answers (.bertHoursExpire p) s fun t =>
    (t.port p).bertAsked = true ∧ (t.port p).st = .up := by
  have hx : exec (.bertHoursExpire p) s = execBertHoursExpire p s := rfl
  rw [execBertHoursExpire, if_pos (by simp [hst, hb])] at hx
  obtain ⟨a1, a2, _⟩ := askBert_frame s p
  exact ⟨_, hx, a1, a2.trans hst⟩

theorem bertReq_answers {n ms : Word} (hst : (s.port p).st = .up) : Answers (.bertReq p n ms) s fun t =>
    (t.port p).st = .testing ∧ (t.port p).bertAsked = false ∧ .mgmt p 7 ([0, 0, 0] ++ leBytes 4 n.toNat ++ leBytes 4 ms.toNat) ∈ t.out := by
  have hx : exec (.bertReq p n ms) s = execBertReq p n ms s := rfl
  rw [execBertReq, if_pos hst] at hx
  refine ⟨_, hx, by simp, by simp, ?_⟩
  change _ ∈ (countTo (sendMgmt s p 7 ([0, 0, 0] ++ leBytes 4 n.toNat ++ leBytes 4 ms.toNat)) p n).out
  rw [(countTo_ports _ _ _).2]
  exact sendMgmt_says _ _ _ _

theorem bertAck_starts {n ms : Word} (hst : (s.port p).st = .up) (hb : (s.port p).bertAsked = true) : Answers (.bertAck p n ms) s fun t =>
    t.port p = { s.port p with st := .testing, bertAsked := false } ∧ ∀ i ∈ maskLanes p (s.port p).mask, t.lane i = { s.lane i with count := n } := by
  have hx : exec (.bertAck p n ms) s = execBertAck p n ms s := rfl
  rw [execBertAck, if_pos (by simp [hst, hb])] at hx
  refine ⟨_, hx, by simp, fun i hi => ?_⟩
  rw [State.setPort_lane, countTo_lane, if_pos hi]

/-- Of a port whose test has ended: what is told of it. -/
theorem bertEnd_told (bits : Nat) (errs : List Nat) (hst : (s.port p).st = .testing) {bad : List Nat}
    (hbad : bad = (bitsOf 8 (s.port p).mask.toNat).filter (fun l => decide (bits < errs.getD l 0 * 10 ^ (s.port p).berExp))) : ∃ u : State,
      (u.port p).st = .up ∧ (u.port p).bertPass = decide (bad = []) ∧ (u.port p).drainDue = (s.port p).drainDue ∧
      (u.port p).reformFar = (s.port p).reformFar ∧ caused u (.port p) 4 = true ∧ (∀ j, j ≠ p → u.port j = s.port j) ∧
      exec (.bertEnd p bits errs) s = .next (if bad = [] then portServes u p
        else
          let left := (bitsOf 8 (s.port p).mask.toNat).filter (fun l => !bad.contains l)
          let m := BitVec.ofNat 8 ((left.map (fun l => 2 ^ l)).sum)
          let v := forEach bad u (fun s l => laneGone s (8 * p + l))
          if left.length < max 1 (s.port p).lanesMin then quarantine (v.modPort p (fun x => { x with mask := m })) p 6
          else startReform v p (s.port p).mask m) := by
  have hx : exec (.bertEnd p bits errs) s = execBertEnd p bits errs s := rfl
  unfold execBertEnd at hx
  dsimp only at hx
  rw [if_neg (by simp [hst]), ← hbad] at hx
  generalize hu : raise (logEvent (s.setPort p _) _ _ _ _) (.port p) 4 = u at hx
  refine ⟨u, ?_, ?_, ?_, ?_, ?_, fun j hj => ?_, ?_⟩
  case refine_5 =>
    rw [← hu]
    exact caused_raise_same _ _ (by decide)
  case refine_7 =>
    rw [hx]
    by_cases hb : bad = []
    · rw [if_pos (by simp [hb]), if_pos hb]
    · rw [if_neg (by simp [hb]), if_neg hb]
      dsimp only
      split <;> rfl
  all_goals rw [← hu]
  · simp
  · simp
  · simp
  · simp
  · simp [hj]

theorem forEach_map {α β : Type} (g : α → β) (f : State → β → State) (l : List α) (s : State) :
    forEach l s (fun s a => f s (g a)) = forEach (l.map g) s f := by
  unfold forEach
  rw [List.foldl_map]

/-- What is left of a list without what a filter of it picks. -/
theorem length_left {l bad : List Nat} {q : Nat → Bool} (hb : bad = l.filter q) :
    (l.filter (fun a => !bad.contains a)).length = l.length - bad.length := by
  have hleft : l.filter (fun a => !bad.contains a) = l.filter (fun a => !q a) := by
    refine List.filter_congr (fun a ha => ?_)
    have : bad.contains a = q a := by
      rw [hb, Bool.eq_iff_iff]
      simp [ha]
    rw [this]
  have := List.length_eq_length_filter_add (l := l) q
  rw [hleft, hb]
  omega

theorem bertEnd_judged {bits : Nat} {errs bad : List Nat} (hst : (s.port p).st = .testing)
    (hbad : bad = (bitsOf 8 (s.port p).mask.toNat).filter (fun l => decide (bits < errs.getD l 0 * 10 ^ (s.port p).berExp))) :
    (bad = [] → (s.port p).drainDue = false → Answers (.bertEnd p bits errs) s fun t =>
      (t.port p).st = .up ∧ (t.port p).bertPass = true ∧ caused t (.port p) 4 = true) ∧
    (bad ≠ [] → (max 1 (s.port p).lanesMin ≤ (bitsOf 8 (s.port p).mask.toNat).length - bad.length → (s.port p).reformFar = none →
        Answers (.bertEnd p bits errs) s fun t =>
          (t.port p).st = .reforming ∧ (t.port p).bertPass = false ∧ caused t (.port p) 4 = true ∧
          ∀ l ∈ bad, (t.lane (8 * p + l)).phase = 0 ∧ (t.lane (8 * p + l)).dropped = true) ∧
      ((bitsOf 8 (s.port p).mask.toNat).length - bad.length < max 1 (s.port p).lanesMin → Quarantines (.bertEnd p bits errs) s p 6)) := by
  obtain ⟨u, u1, u2, u3, u4, u5, u6, hx⟩ := bertEnd_told bits errs hst hbad
  refine ⟨fun hb hd => ?_, fun hb => ?_⟩
  · rw [if_pos hb] at hx
    refine ⟨_, hx, portServes_up (u3.trans hd), ?_, portServes_linkStable (linkStable_caused p _ _) u5⟩
    unfold portServes
    dsimp only
    rw [if_neg (by simp [u3, hd])]
    obtain ⟨_, _, e⟩ := ((Pumped.refl p (u.modPort p fun x => { x with st := .up })).pump 256).self
    rw [e]
    simp [u2, hb]
  · rw [if_neg hb] at hx
    dsimp only at hx
    rw [length_left hbad] at hx
    generalize hv : forEach bad u _ = v at hx
    have hmap : v = forEach (bad.map (8 * p + ·)) u laneGone := by
      rw [← hv]
      exact forEach_map _ laneGone bad u
    have hn : (bad.map (8 * p + ·)).Nodup := by
      rw [hbad]
      exact ((List.nodup_range.filter _).filter _).map (fun _ _ h => by simpa using h)
    have hlane := lanesGone_lane hn u
    obtain ⟨x, hf⟩ := lanesGone_frame (bad.map (8 * p + ·)) u
    rw [← hmap] at hlane hf
    have hport : ∀ j, v.port j = u.port j := fun j => by
      rw [hf]
      rfl
    refine ⟨fun hm hr => ?_, fun hm => ?_⟩
    · rw [if_neg (by omega)] at hx
      obtain ⟨r1, r2, _, r4, _, r6⟩ := startReform_frame (s := v) (p := p) (by rw [hport, u4, hr]) (s.port p).mask
        (BitVec.ofNat 8 ((((bitsOf 8 (s.port p).mask.toNat).filter (fun l => !bad.contains l)).map (fun l => 2 ^ l)).sum))
      refine ⟨_, hx, r2, by rw [r6, hport, u2]; simp [hb], ?_, fun l hl => ?_⟩
      · rw [caused_congr r4, hf]
        exact u5
      · rw [lane_congr r1, hlane, if_pos (List.mem_map_of_mem hl)]
        exact ⟨rfl, rfl⟩
    · rw [if_pos hm] at hx
      exact quarantines_of hx (fun j hj => by rw [State.modPort_eq, State.setPort_port, if_neg hj, hport, u6 j hj])

end

/-! ### Seeds held for lanes that stay behind (R564) -/

section
variable {p : Nat} {s : State}

theorem sendSeed_lane_other (s : State) {i j : Nat} (h : j ≠ i) : (sendSeed s i).lane j = s.lane j := by
  unfold sendSeed
  split
  · rw [sendWord_lane, if_neg h, State.modLane_eq, State.setLane_lane, if_neg h]
    rfl
  · rfl

/-- A lane that waits for its seed in phase 9 has sent it. -/
theorem sendSeed_lane_self (s : State) (i : Nat) : (s.lane i).phase = 9 → ((sendSeed s i).lane i).seedSent = true := by
  intro h9
  unfold sendSeed
  cases hs : (s.lane i).seedSent with
  | true =>
    rw [if_neg (by simp)]
    exact hs
  | false =>
    rw [if_pos (by simp [h9])]
    dsimp only
    rw [sendWord_lane, if_pos rfl, State.modLane_eq, State.setLane_lane, if_pos rfl]

theorem LaneSt.unseeded_dropped {x y : LaneSt} (h : x.unseeded = y.unseeded) : x.dropped = y.dropped := (congrArg LaneSt.dropped h :)

theorem seedHold_drops (hst : (s.port p).st = .training) (hex : ∃ i ∈ portLanes s p, (s.lane i).presetPassed = true) :
    Answers (.seedHoldExpire p) s fun t =>
      ∀ i ∈ portLanes s p, ((s.lane i).presetPassed = false → (t.lane i).phase = 0 ∧ (t.lane i).dropped = true) ∧
        ((s.lane i).presetPassed = true → (s.lane i).dropped = false → (s.lane i).phase = 9 → (t.lane i).seedSent = true) := by
  have hx : exec (.seedHoldExpire p) s = execSeedHoldExpire p s := rfl
  obtain ⟨k, hk, hkp⟩ := hex
  unfold execSeedHoldExpire at hx
  dsimp only at hx
  rw [if_pos (by rw [hst]; simpa using ⟨k, hk, hkp⟩)] at hx
  refine ⟨_, hx, fun i hi => ?_⟩
  rw [lane_congr (trainedCheck_frame _ p).1]
  change (_ → ((seedCheck (forEach ((portLanes s p).filter fun i => !(s.lane i).presetPassed) s laneGone) p).lane i).phase = 0 ∧
      ((seedCheck (forEach ((portLanes s p).filter fun i => !(s.lane i).presetPassed) s laneGone) p).lane i).dropped = true) ∧
    (_ → _ → _ → ((seedCheck (forEach ((portLanes s p).filter fun i => !(s.lane i).presetPassed) s laneGone) p).lane i).seedSent = true)
  have hgone := lanesGone_lane ((nodup_portLanes s p).filter fun i => !(s.lane i).presetPassed) s
  obtain ⟨x, hf⟩ := lanesGone_frame ((portLanes s p).filter fun i => !(s.lane i).presetPassed) s
  generalize forEach ((portLanes s p).filter fun i => !(s.lane i).presetPassed) s laneGone = u at hgone hf
  have hls : portLanes u p = portLanes s p := portLanes_congr (by rw [hf]; rfl)
  refine ⟨fun hp => ?_, fun hp hd h9 => ?_⟩
  · have hu : u.lane i = (s.lane i).left := by rw [hgone, if_pos (List.mem_filter.2 ⟨hi, by simp [hp]⟩)]
    have hs := (seedCheck_seeded u p).1 i
    exact ⟨(LaneSt.unseeded_inj hs).1.trans (by rw [hu]; rfl), (LaneSt.unseeded_dropped hs).trans (by rw [hu]; rfl)⟩
  · have hu : u.lane i = s.lane i := by rw [hgone, if_neg (by simp [hp])]
    have hall : ((portLanes u p).filter (fun i => !(u.lane i).dropped)).all (fun i => (u.lane i).presetPassed) = true := by
      rw [List.all_eq_true, hls]
      intro j hj
      obtain ⟨hj, hjd⟩ := List.mem_filter.1 hj
      cases hjp : (s.lane j).presetPassed with
      | true => rw [hgone, if_neg (by simp [hjp]), hjp]
      | false =>
        rw [hgone, if_pos (List.mem_filter.2 ⟨hj, by simp [hjp]⟩)] at hjd
        cases hjd
    unfold seedCheck
    dsimp only
    rw [if_pos hall]
    exact lane_forEach_rel (R := fun x y => x.phase = 9 → y.seedSent = true) sendSeed_lane_self (fun t a j hj => sendSeed_lane_other t hj)
      ((nodup_portLanes u p).filter _) u (List.mem_filter.2 ⟨hls ▸ hi, by simp [hu, hd]⟩) (hu ▸ h9)

/-! ### Ports switched on and off (R561) -/

theorem lanesOff_lane (s : State) (p i : Nat) : (lanesOff s p).lane i = if i ∈ (List.range 8).map (· + 8 * p) then
    { freshTraining (s.lane i) with phase := 0, synth := false, lastSeq := none, msg := 0, msgPay := 0 } else s.lane i :=
  lane_forEach (fun _ x => { freshTraining x with phase := 0, synth := false, lastSeq := none, msg := 0, msgPay := 0 })
    laneOff_lane _ (nodup_lanes p 8) s i

theorem portOff_static (s : State) (p : Nat) : ((portOff s p).port p).optical = (s.port p).optical ∧ ((portOff s p).port p).valid = (s.port p).valid := by
  obtain ⟨n, e, _⟩ := writeOffFlits_port s p (fun _ => true)
  unfold portOff
  dsimp only
  rw [port_congr (lanesOff_ports _ _), State.modPort_eq, State.setPort_port, if_pos rfl, e]
  exact ⟨rfl, rfl⟩

theorem portDisableDone_off (hc : (s.port p).closing = true) : Answers (.portDisableDone p) s fun t =>
    (t.port p).st = .off ∧ (t.port p).enable = false ∧ (t.port p).closing = false ∧ (t.port p).unacked = [] ∧
    (∀ l, l < 8 → (t.lane (8 * p + l)).phase = 0) ∧ ∀ j, j ≠ p → t.port j = s.port j := by
  have hx : exec (.portDisableDone p) s = execPortDisableDone p s := rfl
  rw [execPortDisableDone, if_pos hc] at hx
  obtain ⟨h1, h2, h3, h4⟩ := portOff_port s p
  refine ⟨_, hx, h1, h3, h4, h2, fun l hl => ?_, fun j hj => portOff_linkStable (linkStable_port hj _) rfl⟩
  unfold portOff
  dsimp only
  rw [lanesOff_lane, if_pos (mem_lanes.2 (by omega))]

theorem portTrain_lane (hv : (s.port p).valid = true) {i : Nat} (hi : i ∈ portLanes s p) : ((portTrain s p).lane i).phase = 1 := by
  unfold portTrain
  rw [if_neg (by simp [hv])]
  dsimp only
  generalize hu : s.modPort p _ = u
  have hl : portLanes u p = portLanes s p := portLanes_congr (by rw [← hu]; simp)
  rw [hl]
  exact lane_forEach_rel (R := fun _ y => y.phase = 1) (fun t a => by simp [laneStart]) (fun t a j hj => by simp [laneStart, hj])
    (nodup_portLanes s p) (lanesOff u p) hi

theorem setFreeze_same {q : PageRef} {b : Bool} (h : b = (s.hdr q).freeze) : setFreeze q b s = s := by
  unfold setFreeze
  rw [if_pos h.symm]

theorem writeReg_pageCtrl {q : PageRef} {w : RegWrite} (hw : writeOk s q w = true) : writeReg q 0x08 w s = writePageCtrl q w s := by
  obtain ⟨_, he, _⟩ := (writeOk_iff s q w).1 hw
  unfold writeReg
  rw [if_neg (by simp [he]), if_neg (by decide)]
  rfl

theorem portWrite_eq {w : RegWrite} (hw : writeOk s (.port p) w = true) :
    (Host.Outcome.next (writeReg (.port p) 0x08 w s).1 : Host.Outcome State Fault Refusal) = .next (writePortEnable p (setFreeze (.port p)) w s).1 := by
  rw [writeReg_pageCtrl hw]
  rfl

section
variable {w : RegWrite} {v : Word} (hw : writeOk s (.port p) w = true)
  (hv : v = w.merged (word [(0, b2n (s.port p).enable), (1, b2n (s.hdr (.port p)).freeze)])) (hf : v.getLsbD 1 = (s.hdr (.port p)).freeze)
include hw hv

theorem portEnable_refused (h0 : v.getLsbD 0 = true) (hn : (s.port p).enable = false ∨ (s.port p).st = .failed)
    (hr : (s.port p).valid = false ∨ zonesAllowLinks s = false) : Answers (.portEnable p w) s fun t =>
      t.links = s.links ∧ (t.hdr (.port p)).lastRefusal = word [(0, 0x02), (8, 0x08), (24, w.master.num)] := by
  have hx : exec (.portEnable p w) s = .next (writePortEnable p (setFreeze (.port p)) w s).1 := portWrite_eq hw
  unfold writePortEnable at hx
  dsimp only at hx
  rw [← hv, guarded_refuses hw 0x08 (r := .wrongState) ?_ (by decide)] at hx
  · exact ⟨_, hx, recordRefusal_links .., recordRefusal_last ..⟩
  · rw [judge_of_writeOk hw]
    obtain hn | hn := hn <;> obtain hr | hr := hr <;> simp [h0, hn, hr]

include hf

theorem portEnable_trains (h0 : v.getLsbD 0 = true) (hn : (s.port p).enable = false ∨ (s.port p).st = .failed)
    (hval : (s.port p).valid = true) (hz : zonesAllowLinks s = true) : Answers (.portEnable p w) s fun t =>
      (t.port p).st = .training ∧ (t.port p).enable = true ∧ (∀ i ∈ portLanes s p, (t.lane i).phase = 1) ∧ ∀ j, j ≠ p → t.port j = s.port j := by
  have hx : exec (.portEnable p w) s = .next (writePortEnable p (setFreeze (.port p)) w s).1 := portWrite_eq hw
  have hfresh : (v.getLsbD 0 && (!(s.port p).enable || decide ((s.port p).st = .failed))) = true := by
    obtain hn | hn := hn <;> simp [h0, hn]
  unfold writePortEnable at hx
  dsimp only at hx
  rw [← hv, guarded_passes hw 0x08 (by simp [Checks.pass, hval, hz]), setFreeze_same hf, if_pos hfresh] at hx
  generalize ha : (if (s.port p).closing = true then portOff s p else s) = a at hx
  have hstab : ∀ {P : State → Prop}, LinkStable p P → P s → P a := fun hP h => by
    rw [← ha]
    split
    · exact portOff_linkStable hP h
    · exact h
  have hstat : (a.port p).optical = (s.port p).optical ∧ (a.port p).valid = (s.port p).valid := by
    rw [← ha]
    split
    · exact portOff_static s p
    · exact ⟨rfl, rfl⟩
  generalize hb : a.modPort p _ = b at hx
  have hbp : (b.port p).optical = (s.port p).optical ∧ (b.port p).valid = true ∧ (b.port p).enable = true := by
    rw [← hb, State.modPort_eq, State.setPort_port, if_pos rfl]
    exact ⟨hstat.1, hstat.2.trans hval, rfl⟩
  obtain ⟨t1, _, t3⟩ := portTrain_port b p
  refine ⟨_, hx, by rw [t1, if_pos hbp.2.1], (t3 hbp.2.1).trans hbp.2.2, fun i hi => ?_, fun j hj => ?_⟩
  · exact portTrain_lane hbp.2.1 (by rw [portLanes_congr hbp.1]; exact hi)
  · have hj' := linkStable_port hj (s.port j)
    exact portTrain_linkStable hj' (hb ▸ hj'.port _ (hstab hj' rfl))

theorem portDisable_closes (h0 : v.getLsbD 0 = false) (he : (s.port p).enable = true) :
    exec (.portDisable p w) s = .next (s.setPort p { s.port p with enable := false, closing := true }) := by
  have hx : exec (.portDisable p w) s = .next (writePortEnable p (setFreeze (.port p)) w s).1 := portWrite_eq hw
  unfold writePortEnable at hx
  dsimp only at hx
  rw [← hv, h0, Bool.false_and, Bool.false_and, guarded_passes hw 0x08 rfl, setFreeze_same hf, he] at hx
  exact hx

end

/-! ### Drains (R566, R574) -/

theorem drainNotice_held (hst : (s.port p).st = .up) (hu : (s.port p).unacked ≠ []) (hg : (s.port p).gotDrained = false) :
    exec (.drainNotice p) s = .next (s.setPort p { s.port p with farDraining := true }) := by
  have hx : exec (.drainNotice p) s = execDrainNotice p s := rfl
  unfold execDrainNotice at hx
  dsimp only at hx
  rw [if_pos (by simp [hst])] at hx
  generalize hv : s.setPort p _ = v at hx ⊢
  have hvp : v.port p = { s.port p with farDraining := true } := by
    rw [← hv]
    simp
  have hstep : drainStep v p = v := by
    unfold drainStep
    dsimp only
    rw [if_neg (by simp [hvp, hu])]
  have hcheck : drainedCheck v p = v := by
    unfold drainedCheck
    dsimp only
    rw [if_neg (by simp [hvp, hg])]
  rw [hx, hstep, hcheck]

theorem drainNotice_answers (hst : (s.port p).st = .up) (hd : (s.port p).sentDrained = false) (hu : (s.port p).unacked = [])
    (hg : (s.port p).gotDrained = false) : Answers (.drainNotice p) s fun t =>
      (t.port p).farDraining = true ∧ (t.port p).sentDrained = true ∧ (t.port p).st = .up ∧ .mgmt p 9 [] ∈ t.out := by
  have hx : exec (.drainNotice p) s = execDrainNotice p s := rfl
  unfold execDrainNotice at hx
  dsimp only at hx
  rw [if_pos (by simp [hst])] at hx
  generalize hv : s.setPort p _ = v at hx
  have hvp : v.port p = { s.port p with farDraining := true } := by
    rw [← hv]
    simp
  have hstep : drainStep v p = sendMgmt (v.modPort p (fun x => { x with sentDrained := true })) p 9 [] := by
    unfold drainStep
    dsimp only
    rw [if_pos (by simp [hvp, hst, hd, hu])]
  rw [hstep] at hx
  generalize hu' : v.modPort p _ = u at hx
  have hup : u.port p = { s.port p with farDraining := true, sentDrained := true } := by
    rw [← hu', State.modPort_eq, State.setPort_port, if_pos rfl, hvp]
  obtain ⟨_, _, _, _, e⟩ := ((Sent.refl p u).sendMgmt 9 []).self
  have hcheck : drainedCheck (sendMgmt u p 9 []) p = sendMgmt u p 9 [] := by
    unfold drainedCheck
    dsimp only
    rw [if_neg (by rw [e]; simp [hup, hg])]
  rw [hcheck] at hx
  exact ⟨_, hx, by rw [e, hup], by rw [e, hup], by rw [e, hup]; exact hst, sendMgmt_says _ _ _ _⟩

theorem drained_ends (hst : (s.port p).st = .up ∨ (s.port p).st = .draining) :
    ((s.port p).sentDrained = false → exec (.drained p) s = .next (s.setPort p { s.port p with gotDrained := true })) ∧
    ((s.port p).sentDrained = true → Answers (.drained p) s fun t => (t.port p).st = .drained ∧ caused t (.port p) 5 = true) := by
  have hx : exec (.drained p) s = execDrained p s := rfl
  unfold execDrained at hx
  dsimp only at hx
  rw [if_pos (by simpa using hst)] at hx
  generalize hv : s.setPort p _ = v at hx ⊢
  have hvp : v.port p = { s.port p with gotDrained := true } := by
    rw [← hv]
    simp
  unfold drainedCheck at hx
  dsimp only at hx
  refine ⟨fun hd => ?_, fun hd => ?_⟩
  · rw [hx, if_neg (by simp [hvp, hd])]
  · rw [if_pos (by rw [hvp]; simpa [hd] using hst.symm)] at hx
    exact ⟨_, hx, by simp, caused_raise_same _ _ (by decide)⟩

end

/-- Settles O55: ports identify, reform, sleep, test, drain, are enabled and disabled. -/
theorem portsIdentifyAndServe : Obligations.PortsIdentifyAndServe := by
  unfold Obligations.PortsIdentifyAndServe
  refine ⟨?_, ?_, ?_, ?_, ?_, ?_, ?_⟩
  · rintro p r s x c rfl hc hst hm
    exact identity_judged hc hst hm
  · rintro p c s x rfl hst
    exact verdict_judged hst
  · rintro p m16 s x a m rfl hm h
    exact reform_judged hm h
  · rintro p n s x rfl hst
    obtain ⟨h1, h2, h3⟩ := sleepReq_answers (n := n) hst
    exact ⟨h1, h2, h3, sleepAck_sleeps hst, idleExpire_asks hst⟩
  · rintro p w s x hw hfull rfl
    exact ⟨bertGo_asks hw hfull, fun h1 h2 h0 => recheck_identifies hw hfull h1 h2 h0, portDrain_asked hw hfull⟩
  · rintro p s x rfl
    refine ⟨bertHours_ask, fun n ms => ⟨bertReq_answers, bertAck_starts⟩, fun bits errs bad hst hbad => bertEnd_judged hst hbad,
      seedHold_drops, portDisableDone_off, fun hst hd hg => ⟨fun hu => drainNotice_answers hst hd hu hg, fun hu => drainNotice_held hst hu hg⟩,
      drained_ends⟩
  · rintro p w s x v hw rfl hv hf
    exact ⟨fun h0 hn => ⟨portEnable_trains hw hv hf h0 hn, portEnable_refused hw hv h0 hn⟩, portDisable_closes hw hv hf⟩

end Sys2Proof.Machine
end

section
/-!
SUPPORT. Queues, descriptors and the slots of their commands (chapter 15).
-/
namespace Sys2Proof.Machine
open Sys2Proof

/-! ### Slots and their commands (R487) -/

theorem mem_putNew {α : Type} {m : Sparse α} {k : Nat} {v : α} {e : Nat × α} (h : e ∈ putNew m k v) : e ∈ m ∨ e = (k, v) := by
  induction m with
  | nil => exact .inr (by simpa [putNew] using h)
  | cons a m ih =>
    unfold putNew at h
    split at h
    · rcases List.mem_cons.1 h with h | h
      · exact .inr h
      · exact .inl h
    · split at h
      · rcases List.mem_cons.1 h with h | h
        · exact .inr h
        · exact .inl (List.mem_cons_of_mem _ h)
      · rcases List.mem_cons.1 h with h | h
        · exact .inl (h ▸ List.mem_cons_self)
        · exact (ih h).imp (List.mem_cons_of_mem _) id

theorem mem_of_mem_put {α : Type} [DecidableEq α] {d : α} {m : Sparse α} {k : Nat} {v : α} {e : Nat × α} (h : e ∈ put d m k v) :
    e ∈ m ∨ e = (k, v) := by
  unfold put at h
  split at h
  · exact .inl (List.mem_of_mem_filter h)
  · exact mem_putNew h

theorem modSlotOf_host (c : Cmd) (s : State) (f : SlotLedger → SlotLedger) : (modSlotOf c s f).host = s.host := by
  unfold modSlotOf modSlots
  split
  · split <;> rfl
  · rfl

theorem modSlots_host (s : State) (f : SlotLedger → SlotLedger) : (modSlots s f).host = s.host := by
  unfold modSlots
  split <;> rfl

/-- A command that has not completed and whose record is not to be discarded is COMPLETING with its record. -/
theorem completeCmd_completes {s : State} {k : Nat} {c : Cmd} (r : CompRec) (hc : s.cmd k = some c) (hst : c.st ≠ .completing)
    (hkeep : c.discard = false) : CompletesWith (completeCmd s k r) k r.status := by
  simp only [completeCmd, hc, hkeep, Bool.false_eq_true, if_false]
  rw [CompletesWith, modSlotOf_cmd]
  split <;> exact ⟨_, r, cmd_of_cmds_put rfl, rfl, rfl, rfl⟩

/-- The completion of a command leaves every queue as it is. -/
theorem completeCmd_queue {s : State} {k : Nat} {c : Cmd} (r : CompRec) (hc : s.cmd k = some c) (hkeep : c.discard = false) (q : Nat) :
    (completeCmd s k r).queue q = s.queue q := by
  simp only [completeCmd, hc, hkeep, Bool.false_eq_true, if_false]
  have hcores : ∀ l, (forEach l s fun s n => s.modCore n fun x => if x.slot = some k then { x with slot := none } else x).queue q = s.queue q := by
    intro l
    refine forEach_keeps (fun t => t.queue q) l _ (fun t n _ => ?_) s
    rfl
  split
  · rfl
  · rw [State.queue, modSlotOf_host]
    split <;> exact hcores c.cores

theorem completePlain_completes {s : State} {k : Nat} {c : Cmd} (status result detail : Nat) (hc : s.cmd k = some c) (hst : c.st ≠ .completing)
    (hkeep : c.discard = false) : CompletesWith (completePlain s k status result detail) k status := by
  simp only [completePlain, hc]
  exact completeCmd_completes (mkRec s c status result detail 0 c.desc.handle) hc hst hkeep

theorem completePlain_queue {s : State} {k : Nat} {c : Cmd} (status result detail : Nat) (hc : s.cmd k = some c) (hkeep : c.discard = false) (q : Nat) :
    (completePlain s k status result detail).queue q = s.queue q := by
  simp only [completePlain, hc]
  exact completeCmd_queue _ hc hkeep q

theorem drainCheck_host (s : State) (n : Nat) : (drainCheck s n).host = s.host := by
  unfold drainCheck
  dsimp only
  split
  · rw [raise_host, logEvent_host]
    rfl
  · rfl

theorem readChecks_host (s : State) (l : List (Nat × Bool)) : (readChecks s l).host = s.host :=
  forEach_keeps State.host _ _ (fun t n _ => drainCheck_host t n) s

/-! ### Queues on and off (R482) -/

theorem word_bit0 (a b : Bool) : (word [(0, b2n a), (1, b2n b)]).getLsbD 0 = a := by cases a <;> cases b <;> decide

theorem beMask_bit0 (be : BitVec 4) : (beMask be).getLsbD 0 = be.getLsbD 0 := by
  revert be
  decide

theorem merged_bit0 (w : RegWrite) (old : Word) : (w.merged old).getLsbD 0 = if w.be.getLsbD 0 then w.value.getLsbD 0 else old.getLsbD 0 := by
  unfold RegWrite.merged
  rw [BitVec.getLsbD_or, BitVec.getLsbD_and, BitVec.getLsbD_and, BitVec.getLsbD_not, beMask_bit0]
  cases w.be.getLsbD 0 <;> simp

theorem merged_be {w : RegWrite} {a b : Bool} (h : (w.merged (word [(0, b2n a), (1, b2n b)])).getLsbD 0 ≠ a) : w.be.getLsbD 0 = true := by
  rw [merged_bit0, word_bit0] at h
  cases hb : w.be.getLsbD 0 with
  | true => rfl
  | false =>
    rw [hb, if_neg Bool.false_ne_true] at h
    exact absurd rfl h

theorem queuePage_of_lt {q : Nat} (h : q < 256) : queuePage q = .queue q ∧ isAdm q = false := by
  have : isAdm q = false := by simpa [isAdm] using h
  exact ⟨by rw [queuePage, this]; rfl, this⟩

theorem queuePage_of_adm {q : Nat} (h : 256 ≤ q) : queuePage q = .hostif ∧ isAdm q = true := by
  have : isAdm q = true := by simpa [isAdm] using h
  exact ⟨by rw [queuePage, this]; rfl, this⟩

theorem admReg_queueOff {q i : Nat} (h : 256 ≤ q) (h' : q < 258) (hi : i < 16) : admReg (queueOff q i) = some (q, i) := by
  have hadm := (queuePage_of_adm h).2
  unfold queueOff admReg
  rw [if_pos hadm, if_pos (by simp only [Bool.and_eq_true, decide_eq_true_eq]; omega)]
  have h1 : 256 + (256 + (q - 256) * 64 + 4 * i - 256) / 64 = q := by omega
  have h2 : (256 + (q - 256) * 64 + 4 * i - 256) % 64 / 4 = i := by omega
  rw [h1, h2]

theorem queueOff_ge (q i : Nat) : 0x40 ≤ queueOff q i := by
  unfold queueOff
  split <;> omega

/-- The freeze of a queue's page: an administrative queue has none of its own. -/
def queueFreeze (q : Nat) : Bool → State → State := if q < 256 then setFreeze (.queue q) else fun _ s => s

theorem writeEnable_eq {s : State} {q : Nat} {w : RegWrite} (hq : q < 258) (hw : writeOk s (queuePage q) w = true) :
    (writeEnable q w s).1 = (writeQueueEnable q (queueFreeze q) w s).1 := by
  unfold writeEnable queueFreeze
  by_cases h : q < 256
  · rw [(queuePage_of_lt h).1] at hw
    rw [if_pos h, if_pos h, writeReg_pageCtrl hw]
    rfl
  · have hadm := queuePage_of_adm (by omega : 256 ≤ q)
    rw [hadm.1] at hw
    have hoff := admReg_queueOff (i := 12) (by omega) hq (by omega)
    have h40 := queueOff_ge q 12
    rw [if_neg h, if_pos hq, if_neg h]
    obtain ⟨_, he, _⟩ := (writeOk_iff s _ w).1 hw
    unfold writeReg
    rw [if_neg (by simp [he]), if_pos h40]
    unfold writeBlock writeHostif
    dsimp only
    rw [hoff]
    rfl

/-! ### Queues on and off (R482) -/

section
variable {q : Nat} {w : RegWrite} {s : State}

theorem dropRead_queues (s : State) (q : Nat) : (dropRead s q).host.queues = s.host.queues ∧ (dropRead s q).host.cmds = s.host.cmds := by
  unfold dropRead
  split
  · rw [readChecks_host]
    exact ⟨rfl, rfl⟩
  · exact ⟨rfl, rfl⟩

section
variable {v : Word} (hq : q < 258) (hw : writeOk s (queuePage q) w = true)
  (hv : v = w.merged (word [(0, b2n (s.queue q).enable), (1, b2n (s.hdr (queuePage q)).freeze)]))
include hq hw hv

/-- A write of ENABLE that its queue takes: the queue starts afresh, or stops. -/
theorem writeQueueEnable_runs (hf : v.getLsbD 1 = (s.hdr (queuePage q)).freeze) (hne : v.getLsbD 0 ≠ (s.queue q).enable)
    (hok : v.getLsbD 0 = true ∨ queueCmds s q = []) :
    (writeEnable q w s).1 = if v.getLsbD 0 then enableQueue s q else disableQueue s q := by
  have hbe : w.be.getLsbD 0 = true := merged_be (hv ▸ hne)
  have hfr : (if isAdm q = true then s else queueFreeze q (v.getLsbD 1) s) = s := by
    by_cases h : q < 256
    · obtain ⟨hp, ha⟩ := queuePage_of_lt h
      rw [hp] at hf
      rw [ha, queueFreeze, if_pos h]
      exact setFreeze_same hf
    · rw [if_pos (queuePage_of_adm (by omega)).2]
  rw [writeEnable_eq hq hw]
  unfold writeQueueEnable
  dsimp only
  rw [← hv, guarded_passes hw _ (by obtain h | h := hok <;> simp [Checks.pass, h, -BitVec.getLsbD_eq_getElem]), hfr, hbe]
  cases v.getLsbD 0 <;> rfl

theorem queueEnable_starts (hf : v.getLsbD 1 = (s.hdr (queuePage q)).freeze) (h0 : v.getLsbD 0 = true) (he : (s.queue q).enable = false) :
    Answers (.queueEnable q w) s fun t => t = s.setQueue q (t.queue q) ∧ (t.queue q).enable = true ∧ (t.queue q).fault = false ∧
      (t.queue q).sqHead = 0 ∧ (t.queue q).sqTail = 0 ∧ (t.queue q).cqHead = 0 ∧ (t.queue q).cqTail = 0 ∧ (t.queue q).phase = true ∧
      (t.queue q).history = [] ∧ (t.queue q).sqBase = (s.queue q).sqBase ∧ (t.queue q).cqBase = (s.queue q).cqBase ∧ (t.queue q).log2 = (s.queue q).log2 := by
  have hx : exec (.queueEnable q w) s = .next (writeEnable q w s).1 := rfl
  rw [writeQueueEnable_runs hq hw hv hf (by rw [h0, he]; decide) (.inl h0), h0, if_pos rfl] at hx
  refine ⟨_, hx, ?_⟩
  beta_reduce
  rw [enableQueue, State.modQueue_eq, State.setQueue_queue, if_pos rfl, he]
  exact ⟨rfl, rfl, rfl, rfl, rfl, rfl, rfl, rfl, rfl, rfl, rfl, rfl⟩

theorem queueDisable_stops (hf : v.getLsbD 1 = (s.hdr (queuePage q)).freeze) (h0 : v.getLsbD 0 = false) (he : (s.queue q).enable = true)
    (hfault : (s.queue q).fault = false) (hc : queueCmds s q = []) : Answers (.queueDisable q w) s fun t =>
      (t.queue q).enable = false ∧ (t.queue q).history = (s.queue q).history ∧ (∀ j, j ≠ q → t.queue j = s.queue j) ∧ t.host.cmds = s.host.cmds := by
  have hx : exec (.queueDisable q w) s = .next (writeEnable q w s).1 := rfl
  rw [writeQueueEnable_runs hq hw hv hf (by rw [h0, he]; decide) (.inr hc), h0, if_neg Bool.false_ne_true] at hx
  obtain ⟨hqs, hcs⟩ := dropRead_queues s q
  have hqj : ∀ j, (dropRead s q).queue j = s.queue j := fun j => by rw [State.queue, hqs, State.queue]
  unfold disableQueue at hx
  rw [hfault, if_neg Bool.false_ne_true] at hx
  refine ⟨_, hx, by simp, by simp [hqj], fun j hj => by simp [hqj, hj], hcs⟩

theorem queueDisable_refused (h0 : v.getLsbD 0 = false) (he : (s.queue q).enable = true)
    (hfault : (s.queue q).fault = false) (hc : queueCmds s q ≠ []) : Answers (.queueDisable q w) s fun t => t.host = s.host := by
  have hx : exec (.queueDisable q w) s = .next (writeEnable q w s).1 := rfl
  have hbe : w.be.getLsbD 0 = true := merged_be (a := (s.queue q).enable) (by rw [← hv, h0, he]; decide)
  rw [writeEnable_eq hq hw] at hx
  unfold writeQueueEnable at hx
  dsimp only at hx
  rw [← hv, hbe, h0, hfault] at hx
  rw [guarded_refuses hw _ (r := .wrongState) ?_ (by decide)] at hx
  · exact ⟨_, hx, recordRefusal_host ..⟩
  · rw [judge_of_writeOk hw]
    simp [hc]

end

/-! ### Doorbells, returned entries and SLOT_LIMIT (R481, R483, R504) -/

theorem word_zero (n : Nat) : word [(0, n)] = w32 n := by simp [word, w32]

theorem sqTail_written (hq : q < 258) (hw : writeOk s (queuePage q) w = true) {v : Nat} (hv : v = fld (w.merged (w32 (s.queue q).sqTail)).toNat 0 12) :
    (v < ringSize (s.queue q) → (s.queue q).enable = true → exec (.sqTail q w) s = .next (s.setQueue q { s.queue q with sqTail := v })) ∧
    (ringSize (s.queue q) ≤ v → Answers (.sqTail q w) s fun t =>
      t.host = s.host ∧ (t.hdr (queuePage q)).lastRefusal = word [(0, 0x03), (8, queueOff q 6), (24, w.master.num)]) := by
  have hx : exec (.sqTail q w) s = execSqTail q w s := rfl
  have hr : readQueue s q 6 = w32 (s.queue q).sqTail := word_zero _
  rw [execSqTail, if_pos hq] at hx
  unfold writeSqTail at hx
  dsimp only at hx
  rw [hr, ← hv] at hx
  refine ⟨fun hl he => ?_, fun hl => ?_⟩
  · rw [hx, guarded_passes hw _ (by simp [Checks.pass, hl, he])]
    rfl
  · rw [guarded_refuses hw _ (r := .outOfRange) ?_ (by decide)] at hx
    · have hoff : queueOff q 6 % 0x10000 = queueOff q 6 := by
        unfold queueOff
        split <;> omega
      refine ⟨_, hx, recordRefusal_host .., ?_⟩
      have := recordRefusal_last s (queuePage q) (queueOff q 6) w.master .outOfRange
      rw [hoff] at this
      exact this
    · rw [judge_of_writeOk hw]
      simp [hl]

theorem cqHead_written (hq : q < 258) (hw : writeOk s (queuePage q) w = true) {v : Nat} (hv : v = fld (w.merged (w32 (s.queue q).cqHead)).toNat 0 12)
    (hl : v < ringSize (s.queue q))
    (hm : (v + ringSize (s.queue q) - (s.queue q).cqHead) % ringSize (s.queue q) ≤
      ((s.queue q).cqTail + ringSize (s.queue q) - (s.queue q).cqHead) % ringSize (s.queue q)) : Answers (.cqHead q w) s fun t =>
        (t.queue q).cqHead = v ∧ t = s.setQueue q { s.queue q with cqHead := v, fullLogged := (t.queue q).fullLogged } := by
  have hx : exec (.cqHead q w) s = execCqHead q w s := rfl
  have hr : readQueue s q 8 = w32 (s.queue q).cqHead := word_zero _
  rw [execCqHead, if_pos hq] at hx
  unfold writeCqHead at hx
  dsimp only at hx
  rw [hr, ← hv, guarded_passes hw _ (by simp [Checks.pass, hl, hm])] at hx
  exact ⟨_, hx, by simp, by simp⟩

theorem slotLimit_written (hw : writeOk s .hostif w = true) {v : Nat} (hv : v = fld (w.merged (word [(0, (s.tenant s.host.tenSel).slotLimit)])).toNat 0 9)
    (h1 : 1 ≤ v) (h2 : v ≤ 256) :
    exec (.slotLimitWrite w) s = .next (s.setTenant s.host.tenSel { s.tenant s.host.tenSel with slotLimit := v }) := by
  have hx : exec (.slotLimitWrite w) s = .next (writeSlotLimit w s).1 := rfl
  have hr : readHostif s 0x4C = word [(0, (s.tenant s.host.tenSel).slotLimit)] := rfl
  unfold writeSlotLimit at hx
  dsimp only at hx
  rw [hr, ← hv, guarded_passes hw _ (by simp [Checks.pass]; omega)] at hx
  exact hx

theorem logLimited_host (s : State) (key us code sev : Nat) (p : PageRef) (a : List Nat) : (logLimited s key us code sev p a).host = s.host := by
  obtain h | ⟨e, h⟩ := logLimited_cases s key us code sev p a <;> rw [h]
  exact logEvent_host ..

/-! ### Descriptors (R485 to R489, R497) -/

theorem descriptorFetch_starts (hready : isReady s = true) (hl0 : s.ao.l0 = true) (hf : s.host.fetching = none) (hl : (slotList s).length < 256)
    (hn : nextFetch s = some q) : exec .descriptorFetchStart s = .next { s with
      host := { s.host with
        fetching := some q, fetchDrains := [], fetchReset := false, lastFetched := (q + 1) % 258 },
      out := s.out ++ [.hostRead (queueFn q) ((s.queue q).sqBase.toNat + 64 * (s.queue q).sqHead) 64] } := by
  have hx : exec .descriptorFetchStart s = execDescriptorFetchStart s := rfl
  rw [hx, execDescriptorFetchStart, if_neg (by simp [hready, hl0, hf, hl]), hn]
  rfl

/-- The command of a descriptor that queue `q` has just brought. -/
def broughtCmd (s : State) (q : Nat) (d : Desc) : Cmd := newCmd q (if isAdm q then d.tenantByte % 32 else q / 8) s.host.nextOrder d

section
variable {d : Desc} {k : Nat}

theorem takeDesc_frame (hr : s.host.fetchReset = false) (c : Cmd) : ∃ u : State, takeDesc s q k c = u ∧ u.cmd k = some c ∧
    u.queue q = { s.queue q with
      sqHead := ((s.queue q).sqHead + 1) % ringSize (s.queue q), readFailed := false } ∧
    u.host.fetching = none ∧ u.host.pathLost = s.host.pathLost ∧ u.host.cmds = put none s.host.cmds k (some c) ∧
    (counting s = true → u.ledgers.slots = { s.ledgers.slots with
      free := s.ledgers.slots.free - 1, fetched := s.ledgers.slots.fetched + 1 }) := by
  refine ⟨_, rfl, ?_⟩
  unfold takeDesc
  dsimp only
  rw [hr]
  simp only [Bool.false_and, Bool.false_eq_true, if_false]
  refine ⟨?_, ?_, ?_, ?_, ?_, fun hc => ?_⟩
  · rw [State.cmd, modSlots_host]
    exact cmd_of_cmds_put rfl
  · rw [State.queue, modSlots_host]
    exact (look_put _ _ _ _ _).trans (if_pos rfl)
  · rw [modSlots_host]
    rfl
  · rw [modSlots_host]
    rfl
  · rw [modSlots_host]
    rfl
  · unfold modSlots
    rw [if_pos (by exact hc)]
    rfl

variable {b : List Byte} (hfe : s.host.fetching = some q) (hb : b.length = 64) (hd : d = descOf b) (hk : k = freeSlotNo s)
  (hp : s.host.pathLost = false) (hl0 : s.ao.l0 = true) (hr : s.host.fetchReset = false) (hdr : s.host.fetchDrains = [])
include hfe hb hd hk hp hl0 hr hdr

/-- A descriptor is taken, and then judged. -/
theorem descriptorReceived_judges : ∃ u : State, u.cmd k = some (broughtCmd s q d) ∧
    u.queue q = { s.queue q with
      sqHead := ((s.queue q).sqHead + 1) % ringSize (s.queue q), readFailed := false } ∧
    u.host.fetching = none ∧ u.host.pathLost = false ∧ u.host.cmds = put none s.host.cmds k (some (broughtCmd s q d)) ∧
    (counting s = true → u.ledgers.slots = { s.ledgers.slots with
      free := s.ledgers.slots.free - 1, fetched := s.ledgers.slots.fetched + 1 }) ∧
    exec (.descriptorReceived b) s = .next (judgeDesc u k (broughtCmd s q d)) := by
  have hx : exec (.descriptorReceived b) s = execDescriptorReceived b s := rfl
  unfold execDescriptorReceived at hx
  rw [hfe] at hx
  dsimp only at hx
  rw [if_neg (by simp [hb, hl0]), ← hd, ← hk, hr, hdr] at hx
  obtain ⟨u, hu, h1, h2, h3, h4, h5, h6⟩ := takeDesc_frame (q := q) (k := k) hr (broughtCmd s q d)
  have hc : ({ newCmd q (if isAdm q = true then d.tenantByte % 32 else q / 8) s.host.nextOrder d with discard := false } : Cmd) = broughtCmd s q d := rfl
  rw [hc, hu] at hx
  exact ⟨u, h1, h2, h3, h4.trans hp, h5, h6, hx⟩

theorem descriptorReceived_forbidden {o : Nat} (ho : firstOff (descRules (isAdm q) d) = some o) : Answers (.descriptorReceived b) s fun t =>
    CompletesWith t k 0x03 ∧ (t.queue q).refused = satInc (s.queue q).refused 0xFFFF ∧
    (t.queue q).sqHead = ((s.queue q).sqHead + 1) % ringSize (s.queue q) := by
  obtain ⟨u, h1, h2, _, _, _, _, hx⟩ := descriptorReceived_judges hfe hb hd hk hp hl0 hr hdr
  unfold judgeDesc at hx
  have ho' : firstOff (descRules (isAdm (broughtCmd s q d).queue) (broughtCmd s q d).desc) = some o := ho
  rw [ho'] at hx
  dsimp only at hx
  generalize hv : logEvent _ _ _ _ _ = v at hx
  have hvc : v.cmd k = some (broughtCmd s q d) := by
    rw [← hv, logEvent_cmd]
    exact h1
  have hvq : v.queue q = { u.queue q with refused := satInc (u.queue q).refused 0xFFFF } := by
    rw [← hv, logEvent_queue]
    exact (State.setQueue_queue _ _ _ _).trans (if_pos rfl)
  refine ⟨_, hx, completePlain_completes _ _ _ hvc CmdState.noConfusion rfl, ?_, ?_⟩
  · rw [completePlain_queue _ _ _ hvc rfl, hvq, h2]
  · rw [completePlain_queue _ _ _ hvc rfl, hvq, h2]

theorem descriptorReceived_again (ho : firstOff (descRules (isAdm q) d) = none) {r : CompRec}
    (hr' : (s.queue q).history.find? (fun r => r.tag = d.tag) = some r) : Answers (.descriptorReceived b) s fun t =>
      CompletesWith t k r.status ∧ (t.queue q).dups = satInc (s.queue q).dups 0xFFFF := by
  obtain ⟨u, h1, h2, _, h4, _, _, hx⟩ := descriptorReceived_judges hfe hb hd hk hp hl0 hr hdr
  unfold judgeDesc at hx
  have ho' : firstOff (descRules (isAdm (broughtCmd s q d).queue) (broughtCmd s q d).desc) = none := ho
  have hfind : (u.queue (broughtCmd s q d).queue).history.find? (fun r => r.tag = (broughtCmd s q d).desc.tag) = some r := by
    change (u.queue q).history.find? (fun r => r.tag = d.tag) = some r
    rw [h2]
    exact hr'
  rw [ho'] at hx
  dsimp only at hx
  rw [h4, if_neg Bool.false_ne_true, hfind] at hx
  dsimp only at hx
  unfold completeDup at hx
  dsimp only at hx
  generalize hv : logLimited _ _ _ _ _ _ _ = v at hx
  have hvh : v.host = (u.modQueue q (fun x => { x with dups := satInc x.dups 0xFFFF })).host := by
    rw [← hv, logLimited_host]
    rfl
  have hvc : v.cmd k = some (broughtCmd s q d) := by
    rw [State.cmd, hvh]
    exact h1
  refine ⟨_, hx, completeCmd_completes (dupRec (broughtCmd s q d) r) hvc CmdState.noConfusion rfl, ?_⟩
  rw [completeCmd_queue _ hvc rfl, State.queue, hvh]
  exact (congrArg QueueSt.dups (State.setQueue_queue u q _ _)).trans (by rw [if_pos rfl, h2])

theorem descriptorReceived_fetched (ho : firstOff (descRules (isAdm q) d) = none)
    (hn : (s.queue q).history.find? (fun r => r.tag = d.tag) = none) (hq0 : queueCmds s q = []) : Answers (.descriptorReceived b) s fun t =>
      (∃ c, t.cmd k = some c ∧ c.st = .fetched ∧ c.desc = d ∧ c.queue = q ∧ c.dupOf = none) ∧ t.host.fetching = none ∧
      (counting s = true → t.ledgers.slots = { s.ledgers.slots with
        free := s.ledgers.slots.free - 1, fetched := s.ledgers.slots.fetched + 1 }) := by
  obtain ⟨u, h1, h2, h3, h4, h5, h6, hx⟩ := descriptorReceived_judges hfe hb hd hk hp hl0 hr hdr
  unfold judgeDesc at hx
  have ho' : firstOff (descRules (isAdm (broughtCmd s q d).queue) (broughtCmd s q d).desc) = none := ho
  have hfind : (u.queue (broughtCmd s q d).queue).history.find? (fun r => r.tag = (broughtCmd s q d).desc.tag) = none := by
    change (u.queue q).history.find? (fun r => r.tag = d.tag) = none
    rw [h2]
    exact hn
  have hlive : liveTag u k (broughtCmd s q d) = none := by
    have hempty : (queueCmds u q).filter (fun e => e.1 ≠ k && e.2.desc.tag = (broughtCmd s q d).desc.tag) = [] := by
      rw [List.filter_eq_nil_iff]
      rintro ⟨j, c⟩ he
      simp only [Bool.and_eq_true, decide_eq_true_eq, not_and]
      intro hj
      exfalso
      obtain ⟨hc, hcq⟩ := List.mem_filter.1 he
      obtain ⟨⟨j', c'⟩, hm, hjc⟩ := List.mem_filterMap.1 hc
      cases c' with
      | none => cases hjc
      | some c' =>
        obtain ⟨rfl, rfl⟩ := Prod.mk.inj (Option.some.inj hjc)
        rw [h5] at hm
        rcases mem_of_mem_put hm with hm | hm
        · have : (j', c') ∈ queueCmds s q := List.mem_filter.2 ⟨List.mem_filterMap.2 ⟨_, hm, rfl⟩, hcq⟩
          rw [hq0] at this
          cases this
        · exact hj (Prod.mk.inj hm).1
    unfold liveTag
    change ((((queueCmds u q).filter (fun e => e.1 ≠ k && e.2.desc.tag = (broughtCmd s q d).desc.tag)).foldr insertCmd []).head?.map _) = none
    rw [hempty]
    rfl
  rw [ho'] at hx
  dsimp only at hx
  rw [h4, if_neg Bool.false_ne_true, hfind, hlive] at hx
  exact ⟨u, hx, ⟨_, h1, rfl, rfl, rfl, rfl⟩, h3, h6⟩

end

end

/-- Settles O50: queues are enabled, written and served with descriptors. -/
theorem queuesAndDescriptors : Obligations.QueuesAndDescriptors := by
  unfold Obligations.QueuesAndDescriptors
  refine ⟨?_, ?_, ?_, ?_, ?_⟩
  · rintro q w s x v hq hw rfl hv hf
    exact ⟨queueEnable_starts hq hw hv hf, queueDisable_stops hq hw hv hf, queueDisable_refused hq hw hv⟩
  · rintro q w s x hq hw rfl
    exact ⟨fun v hv _ => sqTail_written hq hw hv, fun v hv _ hl hm => cqHead_written hq hw hv hl hm⟩
  · exact fun w s v hw hv h1 h2 => slotLimit_written hw hv h1 h2
  · exact fun s q h1 h2 h3 h4 h5 => descriptorFetch_starts h1 h2 h3 h4 h5
  · exact fun b s q k d h1 h2 h3 h4 h5 h6 h7 h8 => ⟨fun o ho => descriptorReceived_forbidden h1 h2 h3 h4 h5 h6 h7 h8 ho,
      fun ho => ⟨fun r hr => descriptorReceived_again h1 h2 h3 h4 h5 h6 h7 h8 ho hr,
        fun hn hq _ => descriptorReceived_fetched h1 h2 h3 h4 h5 h6 h7 h8 ho hn hq⟩⟩

end Sys2Proof.Machine
end

section
/-!
SUPPORT. Partitions, quotas and drains of tenants (chapter 14).
-/
namespace Sys2Proof.Machine
open Sys2Proof

/-! ### Drains that abort (R462) -/

theorem rejudge_frame (s : State) : ∃ x, rejudge s = { s with token := x } := by
  unfold rejudge
  dsimp only
  refine holds_forEach (P := fun t => ∃ x, t = { s with token := x }) ?_ _ ⟨_, rfl⟩
  rintro t r ⟨x, rfl⟩
  split
  · exact ⟨_, rfl⟩
  · split <;> exact ⟨_, rfl⟩

theorem stable_host (x : HostSt) : Stable (fun t => t.host = x) :=
  ⟨fun _ _ h => h, fun _ _ _ h => h, fun _ h => h, fun _ _ h => h, fun _ _ h => (raise_host ..).trans h, fun _ _ _ _ h => (logEvent_host ..).trans h⟩

theorem cmd_congr {s t : State} (h : t.host = s.host) (k : Nat) : t.cmd k = s.cmd k := by
  rw [State.cmd, h, State.cmd]

section
variable {k j : Nat} (hj : j ≠ k)
include hj

theorem setCmd_other (s : State) (v : Option Cmd) : (s.setCmd j v).cmd k = s.cmd k := by
  rw [State.setCmd_cmd, if_neg (Ne.symm hj)]

theorem freeSlot_other (s : State) : (freeSlot s j).cmd k = s.cmd k := by
  unfold freeSlot
  split
  · rw [cmd_congr (drainCheck_host _ _), modSlotOf_cmd, setCmd_other hj]
  · rfl

/-- The end of one command leaves every other slot as it is. -/
theorem completeCmd_other (s : State) (r : CompRec) : (completeCmd s j r).cmd k = s.cmd k := by
  unfold completeCmd
  split
  · rfl
  · next c hc =>
    split
    · rfl
    · have hcores : ∀ l, (forEach l s fun s n => s.modCore n fun x => if x.slot = some j then { x with slot := none } else x).cmd k = s.cmd k := by
        intro l
        refine forEach_keeps (fun t => t.cmd k) l _ (fun t n _ => ?_) s
        rfl
      have hv := hcores c.cores
      dsimp only
      generalize forEach c.cores s _ = v at hv ⊢
      generalize hx : v.setCmd j _ = u
      have hu : u.cmd k = s.cmd k := by
        rw [← hx, setCmd_other hj]
        exact hv
      split
      · rw [freeSlot_other hj, modSlotOf_cmd]
        split <;> exact hu
      · rw [modSlotOf_cmd]
        split <;> exact hu

theorem completePlain_other (s : State) (status result detail : Nat) : (completePlain s j status result detail).cmd k = s.cmd k := by
  unfold completePlain
  split
  · rfl
  · exact completeCmd_other hj _ _

theorem endCmd_other (s : State) (status result detail : Nat) : (endCmd s j status result detail).cmd k = s.cmd k := by
  unfold endCmd
  split
  · rfl
  · next c hc =>
    split
    · rfl
    · exact completePlain_other hj _ _ _ _
    · split
      · rfl
      · have hhost : ∀ l, (forEach l s fun s n => if (s.core n).slot = some j && ((s.core n).st = .running || (s.core n).st = .stopped)
            then haltCore s n .idle else s).host = s.host := fun l =>
          holds_forEach (P := fun t => t.host = s.host) (fun t n h => by
            split
            · exact haltCore_stable (stable_host _) h n .idle
            · exact h) l rfl
        dsimp only
        split
        · exact (setCmd_other hj _ _).trans (cmd_congr (hhost c.cores) k)
        · exact (completeCmd_other hj _ _).trans (cmd_congr (hhost c.cores) k)

theorem abortCheck_other (s : State) : (abortCheck s j).cmd k = s.cmd k := by
  unfold abortCheck
  split
  · split
    · exact endCmd_other hj _ _ _ _
    · rfl
  · rfl

theorem stopForAbort_other (s : State) (c : Cmd) : (stopForAbort s j c).cmd k = s.cmd k := by
  have hcores : ∀ l, (forEach l s stopCore).cmd k = s.cmd k := by
    intro l
    refine forEach_keeps (fun t => t.cmd k) l stopCore (fun t n _ => ?_) s
    rfl
  exact (abortCheck_other hj _).trans (hcores _)

theorem abortCmd_other (s : State) : (abortCmd s j).cmd k = s.cmd k := by
  unfold abortCmd
  split
  · rfl
  · split
    · rfl
    · split
      · exact completePlain_other hj _ _ _ _
      · rfl
    · split
      · rfl
      · dsimp only
        split
        · exact (stopForAbort_other hj _ _).trans (setCmd_other hj _ _)
        · exact (stopForAbort_other hj _ _).trans ((setCmd_other hj _ _).trans (setCmd_other hj _ _))
        · exact setCmd_other hj _ _
        · exact (endCmd_other hj _ _ _ _).trans (setCmd_other hj _ _)
        · exact setCmd_other hj _ _

end

section
variable {k : Nat}

theorem CompletesWith.congr {s t : State} {st : Nat} (h : CompletesWith s k st) (he : t.cmd k = s.cmd k) : CompletesWith t k st := by
  obtain ⟨c, r, hc, hrest⟩ := h
  exact ⟨c, r, he.trans hc, hrest⟩

theorem CompletesWith.abortCmd {s : State} {st : Nat} (h : CompletesWith s k st) (j : Nat) : CompletesWith (abortCmd s j) k st := by
  by_cases hj : j = k
  · obtain ⟨c, r, hc, hst, hr⟩ := h
    have : Machine.abortCmd s k = s := by
      simp only [Machine.abortCmd, hc, hst]
    rw [hj, this]
    exact ⟨c, r, hc, hst, hr⟩
  · exact h.congr (abortCmd_other hj s)

/-- An ABORT drain completes a command that is fetched and does not repeat another. -/
theorem abortCmd_fetched {s : State} {c : Cmd} (hc : s.cmd k = some c) (hst : c.st = .fetched) (hex : executes c = true) (hd : c.discard = false) :
    CompletesWith (abortCmd s k) k 0x22 := by
  simp only [abortCmd, hc, hst, hex, if_true]
  exact completePlain_completes _ _ _ hc (by rw [hst]; decide) hd

theorem abortCmds_fetched {c : Cmd} (hst : c.st = .fetched) (hex : executes c = true) (hd : c.discard = false) {l : List Nat} (hk : k ∈ l) {s : State}
    (hc : s.cmd k = some c) : CompletesWith (forEach l s abortCmd) k 0x22 := by
  induction l generalizing s with
  | nil => cases hk
  | cons j l ih =>
    change CompletesWith (forEach l (abortCmd s j) abortCmd) k 0x22
    by_cases hj : j = k
    · exact holds_forEach (P := fun t => CompletesWith t k 0x22) (fun t a h => h.abortCmd a) l (hj ▸ abortCmd_fetched (hj ▸ hc) hst hex hd)
    · exact ih ((List.mem_cons.1 hk).resolve_left (Ne.symm hj)) ((abortCmd_other hj s).trans hc)

theorem mem_slotList {s : State} {c : Cmd} (hc : s.cmd k = some c) : (k, c) ∈ slotList s := by
  have hm := mem_of_look_ne none s.host.cmds k (by change s.cmd k ≠ none; rw [hc]; simp)
  change (k, s.cmd k) ∈ s.host.cmds at hm
  rw [hc] at hm
  exact List.mem_filterMap.2 ⟨_, hm, rfl⟩

end

/-! ### Partitions (R441 to R443) -/

theorem mapSpare_frame (s : State) (n : Nat) : (mapSpare s n).parts = s.parts ∧ (mapSpare s n).tenants = s.tenants ∧ (mapSpare s n).mem = s.mem := by
  unfold mapSpare
  dsimp only
  split
  · exact ⟨rfl, rfl, rfl⟩
  · rw [raise_parts, raise_tenants, raise_mem, logEvent_parts, logEvent_tenants, logEvent_mem]
    generalize hu : State.setCore _ n {} = u
    have hup : u.parts = s.parts ∧ u.tenants = s.tenants ∧ u.mem = s.mem := by
      rw [← hu]
      exact ⟨rfl, rfl, rfl⟩
    split
    · unfold modTok
      split <;> exact hup
    · exact hup

theorem commitPart_frame (s : State) (n : Nat) : (commitPart s n).parts = (s.modPart n (fun x => { x with active := x.staged })).parts ∧
    (commitPart s n).tenants = s.tenants ∧ (commitPart s n).mem = s.mem := by
  unfold commitPart
  dsimp only
  rw [logEvent_parts, logEvent_tenants, logEvent_mem]
  refine holds_forEach (P := fun t => t.parts = (s.modPart n (fun x => { x with active := x.staged })).parts ∧ t.tenants = s.tenants ∧ t.mem = s.mem)
    (fun t a h => ?_) _ ⟨rfl, rfl, rfl⟩
  obtain ⟨h1, h2, h3⟩ := mapSpare_frame t a
  exact ⟨h1.trans h.1, h2.trans h.2.1, h3.trans h.2.2⟩

section
variable {n : Nat} {w : RegWrite} {s : State} (hw : writeOk s (.tenant n) w = true)
include hw

section
variable (hfull : w.full = true)
include hfull

theorem commit_done (h0 : w.value.getLsbD 0 = true) (hb : defBeyond s (s.part n).staged = false) (hp : platesIn s n = 0)
    (hm : s.parts.any (fun e => decide (e.1 ≠ n) && defsMeet (s.part n).staged e.2.active) = false) : Answers (.commit n w) s fun t =>
      (t.part n).active = (s.part n).staged ∧ (t.part n).staged = (s.part n).staged ∧ (∀ j, j ≠ n → t.part j = s.part j) ∧
      t.tenants = s.tenants ∧ t.mem = s.mem := by
  have hx : exec (.commit n w) s = .next (writePartCtrl n w s).1 := rfl
  unfold writePartCtrl at hx
  dsimp only at hx
  rw [h0, guarded_passes hw _ (by rw [hm]; simp [Checks.pass, hfull, hb, hp]), if_pos rfl] at hx
  obtain ⟨h1, h2, h3⟩ := commitPart_frame s n
  have hpart : ∀ j, (commitPart s n).part j = (s.modPart n (fun x => { x with active := x.staged })).part j := fun j => by
    rw [State.part, h1, State.part]
  refine ⟨_, hx, by rw [hpart]; simp, by rw [hpart]; simp, fun j hj => by rw [hpart]; simp [hj], h2, h3⟩

theorem commit_meets (h0 : w.value.getLsbD 0 = true) (hb : defBeyond s (s.part n).staged = false) (hp : platesIn s n = 0)
    (hm : s.parts.any (fun e => decide (e.1 ≠ n) && defsMeet (s.part n).staged e.2.active) = true) : Answers (.commit n w) s fun t =>
      t.parts = s.parts ∧ (t.hdr (.tenant n)).lastRefusal = word [(0, 0x07), (8, 0x9C), (24, w.master.num)] := by
  have hx : exec (.commit n w) s = .next (writePartCtrl n w s).1 := rfl
  unfold writePartCtrl at hx
  dsimp only at hx
  rw [h0, hm, guarded_refuses hw _ (r := .noResource) ?_ (by decide)] at hx
  · exact ⟨_, hx, recordRefusal_parts .., recordRefusal_last ..⟩
  · rw [judge_of_writeOk hw]
    simp [hfull, hb, hp]

theorem commit_inUse (h0 : w.value.getLsbD 0 = true) (hb : defBeyond s (s.part n).staged = false) (hp : platesIn s n ≠ 0) :
    Answers (.commit n w) s fun t =>
      t.parts = s.parts ∧ (t.hdr (.tenant n)).lastRefusal = word [(0, 0x02), (8, 0x9C), (24, w.master.num)] := by
  have hx : exec (.commit n w) s = .next (writePartCtrl n w s).1 := rfl
  unfold writePartCtrl at hx
  dsimp only at hx
  rw [h0, guarded_refuses hw _ (r := .wrongState) ?_ (by decide)] at hx
  · exact ⟨_, hx, recordRefusal_parts .., recordRefusal_last ..⟩
  · rw [judge_of_writeOk hw]
    simp [hfull, hb, hp]

theorem discard_drops (h0 : w.value.getLsbD 0 = false) (h1 : w.value.getLsbD 1 = true) :
    exec (.discard n w) s = .next (s.setPart n { s.part n with staged := (s.part n).active }) := by
  have hx : exec (.discard n w) s = .next (writePartCtrl n w s).1 := rfl
  unfold writePartCtrl at hx
  dsimp only at hx
  rw [h0, h1, guarded_passes hw _ (by simp [Checks.pass, hfull])] at hx
  exact hx

end

/-! ### Quotas (R444, R445) -/

theorem partWrite_sets {v : Word} (hv : v = w.merged (tenCfgWord (s.tenant n))) (hp : platesHeld s n = 0) :
    exec (.partWrite n w) s = .next (s.setTenant n { s.tenant n with part := fld v.toNat 0 5, assigned := v.getLsbD 8 }) := by
  have hx : exec (.partWrite n w) s = .next (writeTenCfg n w s).1 := rfl
  unfold writeTenCfg at hx
  dsimp only at hx
  rw [← hv, guarded_passes hw _ (by simp [Checks.pass, hp])] at hx
  exact hx

theorem tokQuota_set {v : Nat} (hv : v = fld (w.merged (w32 (s.tenant n).tokQuota)).toNat 0 13) (h1 : 1 ≤ v) (h2 : v ≤ 4928) (hl : largestTokens s n ≤ v) :
    Answers (.tokQuotaWrite n w) s fun t => t.tenant n = { s.tenant n with tokQuota := v } ∧ (∀ j, j ≠ n → t.tenant j = s.tenant j) ∧
      t.cores = s.cores ∧ t.ledgers = s.ledgers := by
  have hx : exec (.tokQuotaWrite n w) s = .next (writeTokQuota n w s).1 := rfl
  unfold writeTokQuota at hx
  dsimp only at hx
  rw [← hv, guarded_passes hw _ (by simp [Checks.pass]; omega)] at hx
  obtain ⟨x, hr⟩ := rejudge_frame (s.modTenant n (fun t => { t with tokQuota := v }))
  rw [hr] at hx
  have hten : ∀ j, ({ s.modTenant n (fun t => { t with tokQuota := v }) with token := x } : State).tenant j =
      (s.modTenant n (fun t => { t with tokQuota := v })).tenant j := fun j => rfl
  exact ⟨_, hx, by rw [hten]; simp, fun j hj => by rw [hten]; simp [hj], rfl, rfl⟩

theorem tokQuota_refused {v : Nat} (hv : v = fld (w.merged (w32 (s.tenant n).tokQuota)).toNat 0 13) (h : v = 0 ∨ 4928 < v) :
    Answers (.tokQuotaWrite n w) s fun t =>
      t.tenants = s.tenants ∧ (t.hdr (.tenant n)).lastRefusal = word [(0, 0x03), (8, 0x44), (24, w.master.num)] := by
  have hx : exec (.tokQuotaWrite n w) s = .next (writeTokQuota n w s).1 := rfl
  unfold writeTokQuota at hx
  dsimp only at hx
  rw [← hv, guarded_refuses hw _ (r := .outOfRange) ?_ (by decide)] at hx
  · exact ⟨_, hx, recordRefusal_tenants .., recordRefusal_last ..⟩
  · rw [judge_of_writeOk hw]
    obtain h | h := h <;> simp [h]

theorem tallyQuota_set {v : Nat} (hv : v = fld (w.merged (w32 (s.tenant n).tallyQuota)).toNat 0 13) (h : v ≤ 4096) (hl : talliesHeld s n ≤ v) :
    exec (.tallyQuotaWrite n w) s = .next (s.setTenant n { s.tenant n with tallyQuota := v }) := by
  have hx : exec (.tallyQuotaWrite n w) s = .next (writeTallyQuota n w s).1 := rfl
  unfold writeTallyQuota at hx
  dsimp only at hx
  rw [← hv, guarded_passes hw _ (by simp [Checks.pass, h, hl])] at hx
  exact hx

/-! ### Tenant drains (R460, R461) -/

section
variable {v : Word} (hv : v = w.merged (drainWord (s.tenant n)))
include hv

/-- No VF owns a tenant's page, and a drain that goes on may not change its mode. -/
theorem writeDrain_runs (hm : (s.tenant n).go = true → v.getLsbD 1 = (s.tenant n).mode) : (writeDrain n w s).1 =
    if (v.getLsbD 0 && !(s.tenant n).go) = true then tenantDrain s n (v.getLsbD 1)
    else if (!v.getLsbD 0 && (s.tenant n).go) = true then s.modTenant n (fun t => { t with go := false, done := false })
    else s.modTenant n (fun t => { t with mode := v.getLsbD 1 }) := by
  obtain ⟨_, _, _, _, hown, _⟩ := (writeOk_iff s _ w).1 hw
  have hwrong : ((s.tenant n).go && decide (v.getLsbD 1 ≠ (s.tenant n).mode)) = false := by
    cases hg : (s.tenant n).go with
    | true => rw [hm hg]; simp
    | false => rfl
  unfold writeDrain
  dsimp only
  rw [← hv]
  split
  · next hvf =>
    rw [hvf] at hown
    exact absurd hown (by simp [ownsPage])
  · rw [hwrong, guarded_passes hw _ rfl]

theorem tenantDrain_starts (h0 : v.getLsbD 0 = true) (hg : (s.tenant n).go = false) :
    exec (.tenantDrainStart n w) s = .next (tenantDrain s n (v.getLsbD 1)) := by
  have hx : exec (.tenantDrainStart n w) s = .next (writeDrain n w s).1 := rfl
  rw [writeDrain_runs hw hv (fun h => by rw [hg] at h; cases h), h0, hg] at hx
  exact hx

theorem tenantDrain_ends (h0 : v.getLsbD 0 = false) (hg : (s.tenant n).go = true) (hm : v.getLsbD 1 = (s.tenant n).mode) :
    exec (.tenantDrainEnd n w) s = .next (s.setTenant n { s.tenant n with go := false, done := false }) := by
  have hx : exec (.tenantDrainEnd n w) s = .next (writeDrain n w s).1 := rfl
  rw [writeDrain_runs hw hv (fun _ => hm), h0, hg] at hx
  exact hx

/-- With no command of the tenant in a slot, its drain is done at once. -/
theorem tenantDrain_done (h0 : v.getLsbD 0 = true) (hg : (s.tenant n).go = false)
    (hnone : (slotList s).all (fun e => decide (e.2.tenant ≠ n)) = true) : Answers (.tenantDrainStart n w) s fun t =>
      s.host.fetching = none → s.host.fetchDrains = [] →
      t.tenant n = { s.tenant n with go := true, mode := v.getLsbD 1, done := true, aborted := 0, resetDrain := false } ∧ caused t (.tenant n) 2 = true ∧
      (∀ j, j ≠ n → t.tenant j = s.tenant j) ∧ t.host = s.host := by
  refine ⟨_, tenantDrain_starts hw hv h0 hg, fun hf hd => ?_⟩
  unfold tenantDrain
  dsimp only
  generalize hu : s.modTenant n _ = u
  have hun : u.tenant n = { s.tenant n with go := true, mode := v.getLsbD 1, done := false, aborted := 0 } := by
    rw [← hu]
    simp
  have huj : ∀ j, j ≠ n → u.tenant j = s.tenant j := fun j hj => by
    rw [← hu]
    simp [hj]
  have huh : u.host = s.host := by
    rw [← hu]
    rfl
  have hread : drainReads u n (v.getLsbD 1) = u := by
    unfold drainReads
    rw [huh, hf]
    rfl
  have habort : abortDrain u n = u := by
    unfold abortDrain
    have : (slotList u).filter (fun e => e.2.tenant = n) = [] := by
      rw [List.filter_eq_nil_iff]
      intro e he
      rw [slotList, huh] at he
      simpa using List.all_eq_true.1 hnone e he
    rw [this]
    rfl
  rw [hread, habort]
  obtain ⟨x, hx⟩ := rejudge_frame u
  generalize ha : (if v.getLsbD 1 = true then rejudge u else u) = a
  have hat : a.tenants = u.tenants ∧ a.host = u.host := by
    rw [← ha]
    split
    · rw [hx]
      exact ⟨rfl, rfl⟩
    · exact ⟨rfl, rfl⟩
  have hten : ∀ j, a.tenant j = u.tenant j := fun j => by rw [State.tenant, hat.1, State.tenant]
  have hslots : (slotList a).any (fun e => decide (e.2.tenant = n)) = false := by
    rw [slotList, hat.2, huh]
    rw [List.any_eq_false]
    intro e he
    simpa using List.all_eq_true.1 hnone e he
  unfold drainCheck
  dsimp only
  rw [hten, hun, hslots, hat.2, huh, hd]
  simp only [Bool.not_false, Bool.and_true, Bool.true_or, List.any_nil, if_true]
  refine ⟨by simp, caused_raise_same _ _ (by decide), fun j hj => ?_, ?_⟩
  · simp [hj, hten, huj j hj]
  · rw [raise_host, logEvent_host]
    exact hat.2.trans huh

theorem tenantDrain_aborts (h0 : v.getLsbD 0 = true) (h1 : v.getLsbD 1 = true) (hg : (s.tenant n).go = false) {k : Nat} {c : Cmd}
    (hc : s.cmd k = some c) (hn : c.tenant = n) (hst : c.st = .fetched) (hex : executes c = true) (hd : c.discard = false) :
    Answers (.tenantDrainStart n w) s fun t => CompletesWith t k 0x22 := by
  refine ⟨_, tenantDrain_starts hw hv h0 hg, ?_⟩
  unfold tenantDrain
  dsimp only
  rw [h1, if_pos rfl]
  generalize hu : drainReads _ n true = u
  have huc : u.cmd k = some c := by
    rw [← hu]
    unfold drainReads
    split <;> exact hc
  obtain ⟨x, hx⟩ := rejudge_frame (abortDrain u n)
  have hend : CompletesWith (abortDrain u n) k 0x22 :=
    abortCmds_fetched hst hex hd (List.mem_map.2 ⟨_, List.mem_filter.2 ⟨mem_slotList huc, by simp [hn]⟩, rfl⟩) huc
  refine hend.congr ?_
  rw [cmd_congr (drainCheck_host _ _), hx]
  rfl

end

end

/-- Settles O48: partitions are committed and dropped, quotas set, and tenants drained. -/
theorem partitionsQuotasAndDrains : Obligations.PartitionsQuotasAndDrains := by
  unfold Obligations.PartitionsQuotasAndDrains
  refine ⟨fun n w s hw hfull => ?_, ?_⟩
  · exact ⟨fun h0 hb hp => ⟨commit_done hw hfull h0 hb hp, commit_meets hw hfull h0 hb hp⟩, commit_inUse hw hfull, discard_drops hw hfull⟩
  · rintro n w s x hw rfl
    exact ⟨fun v hv => partWrite_sets hw hv, fun v hv => ⟨tokQuota_set hw hv, tokQuota_refused hw hv⟩, fun v hv => tallyQuota_set hw hv,
      fun v hv => ⟨tenantDrain_done hw hv, fun h0 h1 hg k c => tenantDrain_aborts hw hv h0 h1 hg, tenantDrain_ends hw hv⟩⟩

end Sys2Proof.Machine
end

section
/-!
SUPPORT. Cells and nets in service: isolation, range changes, modes and targets (chapter 05).
-/
namespace Sys2Proof.Machine
open Sys2Proof

/-! ### Cells that leave service (R277, R297, R300) -/

/-- A fault of a cell of which the Hearth hears later is only put on its list. -/
theorem faultReport_heard {s : State} {i : Nat} (h : heardLater s i = true) (code before : Nat) (a : List Nat) :
    ∃ l, faultReport s i code before a = { s with hearth := { s.hearth with late := l } } := by
  cases hc : (s.loopE (cellDie i)).clk with
  | true => exact faultReport_late hc code before a
  | false =>
    have hu : s.arb.unreachable.contains (cellDie i) = true := by
      unfold heardLater cellUnreachable at h
      rw [hc, Bool.or_false] at h
      exact h
    have hif : ∀ u v : State, (if (s.loopE (cellDie i)).clk = true then u else v) = v := fun u v => if_neg (by rw [hc]; exact Bool.false_ne_true)
    have hnow : ∀ x : HearthSt, hearNow { s with hearth := x } (cellDie i) = { s with hearth := x } := fun x => if_pos hu
    exact ⟨_, (hif _ _).trans (hnow _)⟩

theorem stretchClock_arb (s : State) (n : Nat) : (stretchClock s n).arb = s.arb := by
  unfold stretchClock
  split <;> rfl

/-- A roll that goes on changes no cell and nothing that the Hearth asks, and clears no cause. -/
theorem rollNext_frame (n : Nat) (l : List Nat) (ch sk : Nat) (rg : Bool) (s : State) : (rollNext s n l ch sk rg).cells = s.cells ∧
    (rollNext s n l ch sk rg).loops = s.loops ∧ (rollNext s n l ch sk rg).arb = s.arb ∧
    ∀ p k, caused s p k = true → caused (rollNext s n l ch sk rg) p k = true := by
  induction l generalizing sk with
  | nil =>
    simp only [rollNext, raise_cells, logEvent_cells, raise_loops, logEvent_loops, raise_arb, logEvent_arb]
    exact ⟨rfl, rfl, rfl, fun p k h => caused_raise _ _ (caused_logEvent _ _ _ _ (s := s.modNet n _) h)⟩
  | cons i l ih =>
    unfold rollNext
    split
    · exact ih (sk + 1)
    · exact ⟨rfl, rfl, rfl, fun p k h => h⟩

/-- A cell of which the Hearth hears later is isolated, and no other cell changes. -/
theorem isolateCell_heard {s : State} {i : Nat} (h : heardLater s i = true) (hi : (s.cell i).isolated = false) (cause : Nat) :
    (∀ j, (isolateCell s i cause).cell j = if j = i then (s.cell i).isolatedFor cause else s.cell j) ∧
    caused (isolateCell s i cause) (.cell i) 2 = true ∧ ∀ p k, caused s p k = true → caused (isolateCell s i cause) p k = true := by
  have hbase : (isolating s i cause).cells = (s.setCell i ((s.cell i).isolatedFor cause)).cells ∧ (isolating s i cause).loops = s.loops ∧
      (isolating s i cause).arb = s.arb := by
    rw [isolating, raise_cells, stretchClock_cells, raise_loops, stretchClock_loops, raise_arb, stretchClock_arb]
    exact ⟨rfl, rfl, rfl⟩
  obtain ⟨u, hu, hc, hl, ha, hk⟩ : ∃ u : State, isolateCell s i cause = faultReport u i 0x1061 (phasesIn s i) [i, cause, phasesIn s i] ∧
      u.cells = (isolating s i cause).cells ∧ u.loops = (isolating s i cause).loops ∧ u.arb = (isolating s i cause).arb ∧
      ∀ p k, caused (isolating s i cause) p k = true → caused u p k = true := by
    unfold isolateCell
    dsimp only
    rw [if_neg (by simp [hi])]
    change ∃ u : State, faultReport (match ((isolating s i cause).net (cellNet i)).roll with
      | some r => if r.cur = some i && !r.halted then rollNext (isolating s i cause) (cellNet i) r.todo r.changed (r.skipped + 1) r.range
        else isolating s i cause
      | none => isolating s i cause) i 0x1061 (phasesIn s i) [i, cause, phasesIn s i] = _ ∧ _
    split
    · split
      · exact ⟨_, rfl, rollNext_frame ..⟩
      · exact ⟨_, rfl, rfl, rfl, rfl, fun p k h => h⟩
    · exact ⟨_, rfl, rfl, rfl, rfl, fun p k h => h⟩
  have hheard : heardLater u i = true := by
    unfold heardLater cellUnreachable at h ⊢
    rw [ha, hbase.2.2]
    rwa [State.loopE, hl, hbase.2.1]
  obtain ⟨l, hl⟩ := faultReport_heard hheard 0x1061 (phasesIn s i) [i, cause, phasesIn s i]
  rw [hu, hl]
  refine ⟨fun j => ?_, hk _ _ (caused_raise_same _ _ (by decide)), fun p k h => hk _ _ (caused_raise _ _ (caused_stretchClock _ h))⟩
  rw [State.cell]
  change look {} u.cells j = _
  rw [hc, hbase.1]
  exact State.setCell_cell s i j _

/-! ### Cells of a range change (R143, R172) -/

section
variable {i : Nat} {s : State}

theorem cellRoll_resumes {r : Roll} (hr : (s.net (cellNet i)).roll = some r) (hc : r.cur = some i) (hh : r.halted = false) :
    Answers (.cellRollResume i) s fun t => (t.cell i).range = r.range ∧ (t.cell i).preset = true := by
  have hx : exec (.cellRollResume i) s = execCellRollResume i s := rfl
  rw [execCellRollResume, hr] at hx
  dsimp only at hx
  rw [if_pos (by simp [hc, hh])] at hx
  have hcells := (rollNext_frame (cellNet i) r.todo (r.changed + 1) r.skipped r.range (s.modCell i fun c => { c with range := r.range, preset := true })).1
  have hcell : (cellResumed s (cellNet i) i r).cell i = { s.cell i with range := r.range, preset := true } := by
    rw [State.cell, cellResumed, hcells]
    exact (State.setCell_cell _ _ _ _).trans (if_pos rfl)
  exact ⟨_, hx, by rw [hcell], by rw [hcell]⟩

theorem rollResume_late {r : Roll} (hr : (s.net (cellNet i)).roll = some r) (hc : r.cur = some i) (hh : r.halted = false)
    (hl : heardLater s i = true) (hi : (s.cell i).isolated = false) : Answers (.rollResumeTimeout i) s fun t =>
      (t.cell i).isolated = true ∧ (t.cell i).isoCause = 6 ∧ caused t (.cell i) 2 = true := by
  have hx : exec (.rollResumeTimeout i) s = execRollResumeTimeout i s := rfl
  rw [execRollResumeTimeout, hr] at hx
  dsimp only at hx
  rw [if_pos (by simp [hc, hh])] at hx
  obtain ⟨hcell, hcause, _⟩ := isolateCell_heard hl hi 6
  have hci := (hcell i).trans (if_pos rfl)
  exact ⟨_, hx, by rw [hci]; rfl, by rw [hci]; rfl, hcause⟩

/-! ### Mode, share weight and duty (R149, R157 to R162) -/

section
variable {w : RegWrite} (hw : writeOk s (.cell i) w = true)
include hw

theorem cellCtrl_written {v : Word} (hv : v = w.merged (word [(0, b2n (s.cell i).manual), (4, (s.cell i).shareWt)])) (hwt : fld v.toNat 4 4 ≠ 0)
    (hk : v.getLsbD 0 = true → cellNet i < 16 ∧ (s.tile (cellDie i)).st = .kindled) : ∃ t, (writeCellCtrl i w s).1 = t ∧
      (t.cell i).manual = v.getLsbD 0 ∧ (t.cell i).shareWt = fld v.toNat 4 4 ∧ (t.cell i).shadow = (s.cell i).shadow ∧
      (v.getLsbD 0 = true → (s.cell i).manual = false → (t.cell i).dutyReg = (s.cell i).shadow) ∧
      (∀ j, j ≠ i → t.cell j = s.cell j) ∧ t.nets = s.nets := by
  refine ⟨_, rfl, ?_⟩
  unfold writeCellCtrl
  dsimp only
  rw [← hv]
  have hpass : (v.getLsbD 0 && !(decide (cellNet i < 16) && decide ((s.tile (cellDie i)).st = .kindled))) = false := by
    cases hm : v.getLsbD 0 with
    | true =>
      obtain ⟨h1, h2⟩ := hk hm
      simp [h1, h2]
    | false => rfl
  rw [hpass, guarded_passes hw _ (by simp [Checks.pass, hwt])]
  split
  · next h => exact ⟨by rw [h]; simp, by simp, by simp, (fun h1 h2 => by rw [h1, h2] at h; cases h), fun j hj => by simp [hj], rfl⟩
  · next h =>
    cases hm : v.getLsbD 0 with
    | true => exact ⟨by simp, by simp, by simp, fun _ _ => by simp, fun j hj => by simp [hj], by simp⟩
    | false => exact ⟨by simp, by simp, by simp, (fun h => by cases h), fun j hj => by simp [hj], by simp⟩

theorem duty_written (hm : (s.cell i).manual = true) {v : Nat} (hv : v = fld (w.merged ((s.cell i).dutyReg.setWidth 32)).toNat 0 12)
    (hd : v ≤ calDutyMax s i) (late : Bool) : Answers (.dutyWrite i late w) s fun t =>
      (t.cell i).dutyReg = BitVec.ofNat 12 v ∧ (t.cell i).applied = (s.cell i).applied ∧
      (late = false → (t.cell i).shadow = BitVec.ofNat 12 v ∧ (t.cell i).shadowHost = true) ∧
      (late = true → (t.cell i).shadow = (s.cell i).shadow ∧ (t.cell i).lateDuty = some (BitVec.ofNat 12 v)) ∧
      (∀ j, j ≠ i → t.cell j = s.cell j) := by
  have hx : exec (.dutyWrite i late w) s = .next (writeDuty i late w s).1 := rfl
  unfold writeDuty at hx
  dsimp only at hx
  rw [← hv, guarded_passes hw _ (by simp [Checks.pass, hm, hd])] at hx
  refine ⟨_, hx, ?_⟩
  cases late with
  | true => exact ⟨by simp, by simp, (fun h => by cases h), fun _ => by simp, fun j hj => by simp [hj]⟩
  | false => exact ⟨by simp, by simp, fun _ => by simp, (fun h => by cases h), fun j hj => by simp [hj]⟩

end

theorem duty_reloaded (h : switching s i = true) : Answers (.dutyReload i) s fun t =>
    (t.cell i).applied = (s.cell i).shadow ∧ (t.cell i).appliedHost = (s.cell i).shadowHost ∧
    (t.cell i).reloads = ((s.cell i).reloads + 1) % 256 ∧ (∀ j, j ≠ i → t.cell j = s.cell j) ∧ t.nets = s.nets := by
  have hx : exec (.dutyReload i) s = execDutyReload i s := rfl
  rw [execDutyReload, if_pos h] at hx
  refine ⟨_, hx, ?_⟩
  cases hl : (s.cell i).lateDuty with
  | none => exact ⟨by simp [hl], by simp [hl], by simp [hl], fun j hj => by simp [hj], rfl⟩
  | some v => exact ⟨by simp [hl], by simp [hl], by simp [hl], fun j hj => by simp [hj], rfl⟩

end

/-- Settles O11: cells resume in a new range, and take their mode, share weight and duty. -/
theorem cellsTakeModeShareDutyAndRange : Obligations.CellsTakeModeShareDutyAndRange := by
  unfold Obligations.CellsTakeModeShareDutyAndRange
  refine ⟨fun i s r hr hc hh => ⟨cellRoll_resumes hr hc hh, rollResume_late hr hc hh⟩, fun e he i w s hw v hv hwt hk => ?_,
    fun i late w s hw hm v hv hd => duty_written hw hm hv hd late, fun i s h => duty_reloaded h⟩
  obtain ⟨t, ht, hrest⟩ := cellCtrl_written hw hv hwt hk
  rcases List.mem_cons.1 he with rfl | he
  · exact ⟨t, congrArg Host.Outcome.next ht, hrest⟩
  · obtain rfl := List.mem_singleton.1 he
    exact ⟨t, congrArg Host.Outcome.next ht, hrest⟩

/-! ### Set-points and ranges in the calibration image (R138, R142) -/

/-- The fields of a net's target word. -/
theorem target_fields {code : Nat} (h : code < 512) (rg : Bool) : fld ((code + b2n rg * 4096) % 2 ^ (8 * 2)) 0 9 = code ∧
    bit ((code + b2n rg * 4096) % 2 ^ (8 * 2)) 12 = rg := by
  unfold fld bit
  cases rg with
  | false =>
    rw [show b2n false = 0 from rfl]
    exact ⟨by omega, decide_eq_false (by omega)⟩
  | true =>
    rw [show b2n true = 1 from rfl]
    exact ⟨by omega, decide_eq_true (by omega)⟩

theorem setCalTarget_reads (s : State) (n : Nat) {code : Nat} (h : code < 512) (rg : Bool) :
    calSetpoint (setCalTarget s n code rg) n = code ∧ calRange (setCalTarget s n code rg) n = rg := by
  rw [calSetpoint, calRange, setCalTarget, calN_setCalN_same]
  exact target_fields h rg

theorem calTarget_congr {s t : State} (h : t.cal = s.cal) (n : Nat) : calSetpoint t n = calSetpoint s n ∧ calRange t n = calRange s n := by
  rw [calSetpoint, calRange, calN_congr h]
  exact ⟨rfl, rfl⟩

/-- A net that starts to slew from `u`. -/
def NetSt.slewFrom (x : NetSt) (u ticks : Nat) : NetSt := { x with vsetUv := u, slew := some ⟨u, ticks, x.rate⟩ }

theorem startSlew_net (s : State) (n j : Nat) : (startSlew s n).net j = if j = n then (s.net n).slewFrom (vsetNow s n) s.ao.ticks else s.net j :=
  State.setNet_net _ _ _ _

/-- A net's reference stands where it stood when its slew starts anew. -/
theorem vsetNow_restarted {s t : State} {n : Nat} (hao : t.ao = s.ao)
    (hnet : t.net n = if (s.net n).slew.isSome then (s.net n).slewFrom (vsetNow s n) s.ao.ticks else s.net n) :
    vsetNow t n = vsetNow s n := by
  cases hs : (s.net n).slew with
  | none =>
    rw [hs, if_neg (by simp)] at hnet
    unfold vsetNow
    dsimp only
    rw [hnet, hs]
  | some sl =>
    rw [hs, Option.isSome_some, if_pos rfl] at hnet
    generalize vsetNow s n = u at hnet
    unfold vsetNow
    dsimp only
    rw [hnet, hao]
    dsimp only [NetSt.slewFrom]
    rw [Nat.sub_self, Nat.mul_zero, Nat.zero_mul, Nat.zero_div]
    split
    · rw [Nat.add_zero]
      exact Nat.min_eq_right ‹_›
    · rw [Nat.sub_zero]
      exact Nat.max_eq_right (by omega)

/-- A roll that goes on keeps the calibration image, the tiles and every other net. -/
theorem rollNext_other (n : Nat) (l : List Nat) (ch sk : Nat) (rg : Bool) (s : State) : (rollNext s n l ch sk rg).cal = s.cal ∧
    (rollNext s n l ch sk rg).tiles = s.tiles ∧ ∀ j, j ≠ n → (rollNext s n l ch sk rg).net j = s.net j := by
  induction l generalizing sk with
  | nil =>
    simp only [rollNext, raise_cal, logEvent_cal, raise_tiles, logEvent_tiles, raise_net, logEvent_net]
    exact ⟨rfl, rfl, fun j hj => (State.setNet_net _ _ _ _).trans (if_neg hj)⟩
  | cons i l ih =>
    unfold rollNext
    split
    · exact ih (sk + 1)
    · exact ⟨rfl, rfl, fun j hj => (State.setNet_net _ _ _ _).trans (if_neg hj)⟩

section
variable {n : Nat} {w : RegWrite} {s : State} (hw : writeOk s (.net n) w = true) {v : Word} (hv : v = w.merged (readNet s n 0x40))
include hw hv

theorem target_outOfRange (h : codeIn (fld v.toNat 0 9) (v.getLsbD 12) = false ∨ fld v.toNat 0 9 < calFloor s n ∨ calCeil s n < fld v.toNat 0 9) :
    Answers (.targetWrite n w) s fun t => t.cal = s.cal ∧ t.nets = s.nets ∧ t.cells = s.cells ∧
      (t.hdr (.net n)).lastRefusal = word [(0, 0x03), (8, 0x40), (24, w.master.num)] := by
  have hx : exec (.targetWrite n w) s = .next (writeTarget n w s).1 := rfl
  have hr : readNet s n 0x40 = word [(0, calSetpoint s n), (12, b2n (calRange s n))] := rfl
  unfold writeTarget at hx
  dsimp only at hx
  rw [← hr, ← hv, guarded_refuses hw _ (r := .outOfRange) ?_ (by decide)] at hx
  · exact ⟨_, hx, recordRefusal_cal .., recordRefusal_nets .., recordRefusal_cells .., recordRefusal_last ..⟩
  · rw [judge_of_writeOk hw]
    obtain h | h | h := h <;> simp [h, -BitVec.getLsbD_eq_getElem]

section
variable {code : Nat} {rg : Bool} (hc : code = fld v.toNat 0 9) (hg : rg = v.getLsbD 12) (hin : codeIn code rg = true)
  (hfl : calFloor s n ≤ code) (hce : code ≤ calCeil s n) (hts : targetState s n = true) (hst : (s.net n).st ≠ .rolling)
  (hvf : n < 16 → n % 2 = 0 → stepVf s (n / 2) ≤ code)
include hc hg hin hfl hce

theorem target_noOverlap (hne : rg ≠ calRange s n) (ho : inOverlap code = false ∨ inOverlap (calSetpoint s n) = false) :
    Answers (.targetWrite n w) s fun t => t.cal = s.cal ∧ t.nets = s.nets ∧ t.cells = s.cells ∧
      (t.hdr (.net n)).lastRefusal = word [(0, 0x02), (8, 0x40), (24, w.master.num)] := by
  have hx : exec (.targetWrite n w) s = .next (writeTarget n w s).1 := rfl
  have hr : readNet s n 0x40 = word [(0, calSetpoint s n), (12, b2n (calRange s n))] := rfl
  unfold writeTarget at hx
  dsimp only at hx
  rw [← hr, ← hv, ← hc, ← hg, guarded_refuses hw _ (r := .wrongState) ?_ (by decide)] at hx
  · exact ⟨_, hx, recordRefusal_cal .., recordRefusal_nets .., recordRefusal_cells .., recordRefusal_last ..⟩
  · rw [judge_of_writeOk hw]
    obtain ho | ho := ho <;> simp [hin, Nat.not_lt.2 hfl, Nat.not_lt.2 hce, hne, ho]

include hts hst hvf

/-- A target that is taken reaches the image, and an ON net slews or rolls from where its reference stands. -/
theorem target_taken (hov : rg = calRange s n ∨ (inOverlap code = true ∧ inOverlap (calSetpoint s n) = true)) : ∃ u : State,
    calSetpoint u n = code ∧ calRange u n = rg ∧ (∀ j, j ≠ n → u.net j = s.net j) ∧ u.cells = s.cells ∧ u.tiles = s.tiles ∧
    (u.net n).st = (s.net n).st ∧ (u.net n).rate = (s.net n).rate ∧ u.ao = s.ao ∧ vsetNow u n = vsetNow s n ∧
    exec (.targetWrite n w) s = .next (if (s.net n).st = .on then
        (if rg ≠ calRange s n then startRoll u n rg else if code ≠ calSetpoint s n then startSlew u n else u) else u) := by
  have hx : exec (.targetWrite n w) s = .next (writeTarget n w s).1 := rfl
  have hr : readNet s n 0x40 = word [(0, calSetpoint s n), (12, b2n (calRange s n))] := rfl
  have h512 : code < 512 := by
    rw [hc, fld]
    omega
  have hroll : (decide (rg ≠ calRange s n) && !(inOverlap code && inOverlap (calSetpoint s n))) = false := by
    obtain h | ⟨h1, h2⟩ := hov
    · simp [h]
    · simp [h1, h2]
  have hstep : (decide (n < 16) && decide (n % 2 = 0) && decide (code < stepVf s (n / 2))) = false := by
    by_cases h1 : n < 16 <;> by_cases h2 : n % 2 = 0 <;> simp [h1, h2]
    exact hvf h1 h2
  unfold writeTarget at hx
  dsimp only at hx
  rw [← hr, ← hv, ← hc, ← hg, hroll, hstep, guarded_passes hw _ (by simp [Checks.pass, hin, Nat.not_lt.2 hfl, Nat.not_lt.2 hce, hts, hst])] at hx
  generalize ha : (if (s.net n).slew.isSome = true then startSlew s n else s) = a at hx
  have hau : a.ao = s.ao ∧ a.cells = s.cells ∧ a.tiles = s.tiles ∧ (∀ j, j ≠ n → a.net j = s.net j) ∧
      a.net n = if (s.net n).slew.isSome then (s.net n).slewFrom (vsetNow s n) s.ao.ticks else s.net n := by
    rw [← ha]
    split
    · exact ⟨rfl, rfl, rfl, fun j hj => (startSlew_net ..).trans (if_neg hj), (startSlew_net ..).trans (if_pos rfl)⟩
    · exact ⟨rfl, rfl, rfl, fun _ _ => rfl, rfl⟩
  obtain ⟨hao, hcells, htiles, hother, hnet⟩ := hau
  obtain ⟨hdrs, out, hf⟩ := setCalN_frame a (0x40 + 8 * n) 2 (code + b2n rg * 4096)
  have hnets : ∀ j, (setCalTarget a n code rg).net j = a.net j := fun j => by rw [setCalTarget, hf]; rfl
  obtain ⟨hcode, hrange⟩ := setCalTarget_reads a n h512 rg
  refine ⟨setCalTarget a n code rg, hcode, hrange, fun j hj => (hnets j).trans (hother j hj), ?_, ?_, ?_, ?_, ?_, ?_, hx⟩
  · rw [setCalTarget, hf]
    exact hcells
  · rw [setCalTarget, hf]
    exact htiles
  · rw [hnets, hnet]
    split <;> rfl
  · rw [hnets, hnet]
    split <;> rfl
  · rw [setCalTarget, hf]
    exact hao
  · refine vsetNow_restarted ?_ ((hnets n).trans hnet)
    rw [setCalTarget, hf]
    exact hao

theorem target_slews (hsame : rg = calRange s n) : Answers (.targetWrite n w) s fun t =>
      calSetpoint t n = code ∧ calRange t n = rg ∧ (∀ j, j ≠ n → t.net j = s.net j) ∧ t.cells = s.cells ∧ t.tiles = s.tiles ∧
      ((s.net n).st = .on → code ≠ calSetpoint s n → (t.net n).slew = some ⟨vsetNow s n, s.ao.ticks, (s.net n).rate⟩) := by
  obtain ⟨u, u1, u2, u3, u4, u5, u6, u7, u8, u9, hx⟩ := target_taken hw hv hc hg hin hfl hce hts hst hvf (.inl hsame)
  rw [if_neg (not_not.2 hsame)] at hx
  by_cases hon : (s.net n).st = .on
  · rw [if_pos hon] at hx
    by_cases hne : code ≠ calSetpoint s n
    · rw [if_pos hne] at hx
      refine ⟨_, hx, u1, u2, fun j hj => ((startSlew_net ..).trans (if_neg hj)).trans (u3 j hj), u4, u5, fun _ _ => ?_⟩
      rw [← u9, ← u7, ← u8, startSlew_net, if_pos rfl]
      rfl
    · rw [if_neg hne] at hx
      exact ⟨_, hx, u1, u2, u3, u4, u5, fun _ h => absurd h hne⟩
  · rw [if_neg hon] at hx
    exact ⟨_, hx, u1, u2, u3, u4, u5, fun h => absurd h hon⟩

theorem target_rolls (hne : rg ≠ calRange s n) (ho : inOverlap code = true) (ho' : inOverlap (calSetpoint s n) = true) :
    Answers (.targetWrite n w) s fun t =>
      calSetpoint t n = code ∧ calRange t n = rg ∧ (∀ j, j ≠ n → t.net j = s.net j) ∧ t.cells = s.cells ∧ t.tiles = s.tiles ∧
      ((s.net n).st ≠ .on → (t.net n).st = (s.net n).st) ∧
      ((s.net n).st = .on → vsetNow s n ≠ 5000 * code → (t.net n).st = .rolling ∧
        (t.net n).roll = some { range := rg, slewing := true, todo := netCells n, cur := none, changed := 0, skipped := 0 } ∧
        (t.net n).slew = some ⟨vsetNow s n, s.ao.ticks, (s.net n).rate⟩) ∧
      ((s.net n).st = .on → vsetNow s n = 5000 * code → ∀ (i : Nat) (l : List Nat), netCells n = i :: l → (s.cell i).isolated = false →
        (t.net n).st = .rolling ∧
        (t.net n).roll = some { range := rg, slewing := false, todo := l, cur := some i, changed := 0, skipped := 0 }) := by
  obtain ⟨u, u1, u2, u3, u4, u5, u6, u7, u8, u9, hx⟩ := target_taken hw hv hc hg hin hfl hce hts hst hvf (.inr ⟨ho, ho'⟩)
  rw [if_pos hne] at hx
  by_cases hon : (s.net n).st = .on
  · rw [if_pos hon] at hx
    have htarget : targetUv u n = 5000 * code := by rw [targetUv, u1, Nat.mul_comm]
    unfold startRoll at hx
    rw [htarget, u9] at hx
    by_cases hat : vsetNow s n = 5000 * code
    · rw [if_pos hat] at hx
      obtain ⟨r1, r2, r3⟩ := rollNext_other n (netCells n) 0 0 rg (u.modNet n fun x => { x with vsetUv := 5000 * code, slew := none })
      obtain ⟨r4, _⟩ := rollNext_frame n (netCells n) 0 0 rg (u.modNet n fun x => { x with vsetUv := 5000 * code, slew := none })
      obtain ⟨c1, c2⟩ := calTarget_congr r1 n
      refine ⟨_, hx, c1.trans u1, c2.trans u2, fun j hj => ?_, r4.trans u4, r2.trans u5, fun h => absurd hon h, fun _ h => absurd hat h,
        fun _ _ i l hl hi => ?_⟩
      · exact ((r3 j hj).trans ((State.setNet_net _ _ _ _).trans (if_neg hj))).trans (u3 j hj)
      · have hcell : ((u.modNet n fun x => { x with vsetUv := 5000 * code, slew := none }).cell i).isolated = false := by
          change (look {} u.cells i).isolated = false
          rw [u4]
          exact hi
        rw [hl]
        unfold rollNext
        rw [hcell, if_neg Bool.false_ne_true]
        exact ⟨congrArg NetSt.st ((State.setNet_net _ _ _ _).trans (if_pos rfl)), congrArg NetSt.roll ((State.setNet_net _ _ _ _).trans (if_pos rfl))⟩
    · rw [if_neg hat] at hx
      have hroll : ∀ (f : NetSt → NetSt) j, ((startSlew u n).modNet n f).net j = if j = n then f ((startSlew u n).net n) else (startSlew u n).net j :=
        fun f j => State.setNet_net _ _ _ _
      refine ⟨_, hx, u1, u2, fun j hj => ?_, u4, u5, fun h => absurd hon h, fun _ _ => ?_, fun _ h => absurd h hat⟩
      · rw [hroll, if_neg hj, startSlew_net, if_neg hj]
        exact u3 j hj
      · rw [hroll, if_pos rfl, startSlew_net, if_pos rfl, u9, u8, ← u7]
        exact ⟨rfl, rfl, rfl⟩
  · rw [if_neg hon] at hx
    exact ⟨_, hx, u1, u2, u3, u4, u5, fun _ => u6, fun h => absurd h hon, fun h => absurd h hon⟩

end

end

theorem slewDone_ends {n : Nat} {s : State} (hs : (s.net n).slew.isSome = true) (hst : (s.net n).st ≠ .rising) (hr : (s.net n).roll = none) :
    Answers (.slewDone n) s fun t => t.net n = { s.net n with slew := none, vsetUv := targetUv s n } ∧ caused t (.net n) 0 = true ∧
      (∀ j, j ≠ n → t.net j = s.net j) ∧ t.cells = s.cells := by
  have hx : exec (.slewDone n) s = execSlewDone n s := rfl
  unfold execSlewDone at hx
  dsimp only at hx
  rw [if_neg (by rw [Option.isSome_iff_ne_none] at hs; simp [hs, hst]), hr] at hx
  exact ⟨_, hx, by simp, caused_raise_same _ _ (by decide), fun j hj => by simp [hj], by simp⟩

/-- Settles O10: a legal target slews or rolls its net, an illegal one is refused. -/
theorem targetWritesSlewOrAreRefused : Obligations.TargetWritesSlewOrAreRefused := by
  unfold Obligations.TargetWritesSlewOrAreRefused
  refine ⟨⟨?_, ?_, ?_⟩, fun n w s hw v hv h => target_outOfRange hw hv h⟩
  · exact fun n w s hw v code rg hv hc hg hin hfl hce hts hst hsame hvf => target_slews hw hv hc hg hin hfl hce hts hst hvf hsame
  · exact fun n w s hw v code rg hv hc hg hin hfl hce hts hst hne hvf => ⟨target_rolls hw hv hc hg hin hfl hce hts hst hvf hne,
      target_noOverlap hw hv hc hg hin hfl hce hne⟩
  · exact fun n s hs hst hr => slewDone_ends hs hst hr

end Sys2Proof.Machine
end

section
/-!
SUPPORT. Cores under CORECTL, lost cores, tile clocks and mesh links (chapter 11).
-/
namespace Sys2Proof.Machine
open Sys2Proof

/-! ### Lost cores (R362, R364, R371, R372) -/

section
variable {c : Nat} {s t : State} (h : Calm c s t)
include h

theorem modCred_calm (k : Nat) (f : CredRow → CredRow) : Calm c s (modCred t k f) := by
  unfold modCred
  split
  · exact h.of_eq rfl rfl
  · exact h

theorem dropTokens_calm (n : Nat) : Calm c s (dropTokens t n).1 := by
  unfold dropTokens
  dsimp only
  refine modTokOf_calm ?_ n _
  exact h.of_eq rfl rfl

theorem withdrawGlobal_calm : Calm c s (withdrawGlobal t) := by
  unfold withdrawGlobal
  dsimp only
  refine Calm.of_eq (h.forEach (fun t n h => ?_) _) rfl rfl
  split
  · split
    · exact liftClamp_calm (modTokOf_calm h n _) n
    · exact modTokOf_calm h n _
  · exact h

theorem afterCredit_calm (k : Nat) : Calm c s (afterCredit t k) := by
  unfold afterCredit
  split
  · exact withdrawGlobal_calm h
  · exact h

theorem givePool_calm (a b : Nat) : Calm c s (givePool t a b) := by
  unfold givePool
  dsimp only
  exact afterCredit_calm (modTok_calm h _) _

theorem returnAll_calm (n : Nat) : Calm c s (returnAll t n) := by
  unfold returnAll
  dsimp only
  exact givePool_calm (dropTokens_calm (liftClamp_calm h n) n) _ _

theorem baseCovered_calm : Calm c s (baseCovered t) := by
  unfold baseCovered
  split
  · exact h.of_eq rfl rfl
  · exact h

theorem orphanCredits_calm (n : Nat) : Calm c s (orphanCredits t n) := by
  unfold orphanCredits
  dsimp only
  refine Calm.of_eq (h.forEach (fun t e h => modCred_calm h _ _) _) rfl rfl

theorem logLost_calm (page k cause slot phys : Nat) : Calm c s (logLost t page k cause slot phys) :=
  raise_calm (raise_calm (logEvent_calm h _ _ _ _) _ _) _ _

end

/-- The queues of a core that are written off leave it in its state. -/
theorem writeOffQueues_st (s : State) (n : Nat) : ((writeOffQueues s n).core n).st = (s.core n).st ∧
    ((writeOffQueues s n).core n).lostCause = (s.core n).lostCause := by
  unfold writeOffQueues
  refine holds_forEach (P := fun t => (t.core n).st = (s.core n).st ∧ (t.core n).lostCause = (s.core n).lostCause) (fun t q h => ?_) _ ⟨rfl, rfl⟩
  have hdrop : ∀ off, ((dropQueue t n q off).core n).st = (t.core n).st ∧ ((dropQueue t n q off).core n).lostCause = (t.core n).lostCause := fun off => by
    unfold dropQueue
    dsimp only
    rw [modQueueOf, State.modCore_eq, State.setCore_core, if_pos rfl]
    unfold modCred
    split <;> exact ⟨rfl, rfl⟩
  dsimp only
  split
  · exact ⟨(hdrop _).1.trans h.1, (hdrop _).2.trans h.2⟩
  · rw [logWriteOff, raise_core, logEvent_core]
    exact ⟨(hdrop _).1.trans h.1, (hdrop _).2.trans h.2⟩

theorem CoreSt.plain_lostCause {x y : CoreSt} (h : x.plain = y.plain) : x.lostCause = y.lostCause := (congrArg CoreSt.lostCause h :)

/-- A core that is declared lost is LOST, for the cause found first. -/
theorem loseCore_lost (s : State) (n cause : Nat) : ((loseCore s n cause).core n).st = .lost ∧
    ((s.core n).st ≠ .lost → ((loseCore s n cause).core n).lostCause = cause) := by
  unfold loseCore
  split
  · next h => exact ⟨h, fun hn => absurd h hn⟩
  · dsimp only
    generalize (State.core _ n).slot = slot
    generalize releasing _ n = rel
    generalize hv : State.modCore _ n _ = v
    have hvc : (v.core n).st = .lost ∧ (v.core n).lostCause = cause := by
      rw [← hv, State.modCore_eq, State.setCore_core, if_pos rfl]
      exact ⟨rfl, rfl⟩
    have hcalm : Calm n v (baseCovered (noticeTile (returnAll v n) (n / 64) true)) :=
      baseCovered_calm (noticeTile_calm (returnAll_calm (.refl n v) n) _ true)
    generalize baseCovered _ = u at hcalm ⊢
    have huc : (u.core n).st = .lost ∧ (u.core n).lostCause = cause :=
      ⟨(CoreSt.plain_st hcalm.core).trans hvc.1, (CoreSt.plain_lostCause hcalm.core).trans hvc.2⟩
    generalize hx : (if rel = true then u else writeOffQueues u n) = x
    have hxc : (x.core n).st = .lost ∧ (x.core n).lostCause = cause := by
      rw [← hx]
      split
      · exact huc
      · exact ⟨(writeOffQueues_st u n).1.trans huc.1, (writeOffQueues_st u n).2.trans huc.2⟩
    have hend : ∀ w, Calm n x w → (w.core n).st = .lost ∧ (¬ (s.core n).st = .lost → (w.core n).lostCause = cause) :=
      fun w hw => ⟨(CoreSt.plain_st hw.core).trans hxc.1, fun _ => (CoreSt.plain_lostCause hw.core).trans hxc.2⟩
    have hlog : ∀ a b d e f, Calm n x (logLost (orphanCredits x n) a b d e f) := fun a b d e f => logLost_calm (orphanCredits_calm (.refl n x) n) _ _ _ _ _
    cases slot with
    | none => exact hend _ (hlog _ _ _ _ _)
    | some k => exact hend _ (endCmd_calm (hlog _ _ _ _ _) (by rw [hxc.1]; decide) _ _ _ _)

section
variable {c : Nat} {s : State} (hc : c < 512) (hup : coreUp s c = true)
include hc

theorem core_lost {i : Instr} {cause : Nat} (hx : exec i s = .next (rejudge (declareLost s c cause))) : Answers i s fun t =>
    (t.core c).st = .lost ∧ ((s.core c).st ≠ .lost → (t.core c).lostCause = cause) := by
  have hd : declareLost s c cause = loseCore s c cause := if_pos hc
  rw [hd] at hx
  obtain ⟨x, hr⟩ := rejudge_frame (loseCore s c cause)
  have hcore : (rejudge (loseCore s c cause)).core c = (loseCore s c cause).core c := by
    rw [hr]
    rfl
  obtain ⟨h1, h2⟩ := loseCore_lost s c cause
  exact ⟨_, hx, by rw [hcore]; exact h1, by rw [hcore]; exact h2⟩

include hup

theorem heartbeat_loses : Answers (.heartbeatTimeout c) s fun t => (t.core c).st = .lost ∧ ((s.core c).st ≠ .lost → (t.core c).lostCause = 2) := by
  have hx : exec (.heartbeatTimeout c) s = execHeartbeatTimeout c s := rfl
  rw [execHeartbeatTimeout, if_pos hup] at hx
  exact core_lost hc hx

theorem eccError_loses : Answers (.coreEccError c true) s fun t => (t.core c).st = .lost ∧ ((s.core c).st ≠ .lost → (t.core c).lostCause = 1) := by
  have hx : exec (.coreEccError c true) s = execCoreEccError c true s := rfl
  rw [execCoreEccError, if_neg (by simp [hup]), if_pos rfl] at hx
  exact core_lost hc hx

omit hc in
theorem eccError_counted : exec (.coreEccError c false) s = .next (s.setCore c { s.core c with corr := satInc (s.core c).corr 0xFFFF }) := by
  have hx : exec (.coreEccError c false) s = execCoreEccError c false s := rfl
  rw [hx, execCoreEccError, if_neg (by simp [hup]), if_neg Bool.false_ne_true]
  rfl

end

/-! ### Tile clocks (R336 to R338) -/

section
variable {k : Nat} {w : RegWrite} {s : State} {v : Nat} (hw : writeOk s (.grid k) w = true) (hv : v = fld (w.merged (word [(0, calStep s k)])).toNat 0 6)
include hw hv

theorem step_written (h12 : 12 ≤ v) (h32 : v ≤ 32) (hch : (s.tile k).changing = none) (hne : v ≠ calStep s k)
    (hup : calStep s k < v → calVf s k v ≤ calSetpoint s (2 * k) ∧ calVf s k v ≤ vsetNow s (2 * k) / 5000) : Answers (.stepWrite k w) s fun t =>
      calStep t k = v ∧ (t.tile k).changing = some (calStep s k, w.master.num) ∧ (∀ j, j ≠ k → t.tile j = s.tile j) ∧ t.cores = s.cores := by
  have hx : exec (.stepWrite k w) s = .next (writeClock k w s).1 := rfl
  have hrise : (decide (calStep s k < v) && (decide (calSetpoint s (2 * k) < calVf s k v) || decide (vsetNow s (2 * k) / 5000 < calVf s k v))) = false := by
    by_cases h : calStep s k < v
    · obtain ⟨h1, h2⟩ := hup h
      simp [Nat.not_lt.2 h1, Nat.not_lt.2 h2]
    · simp [h]
  unfold writeClock at hx
  dsimp only at hx
  rw [← hv, hrise, hch, guarded_passes hw _ (by simp [Checks.pass, Nat.not_lt.2 h12, Nat.not_lt.2 h32]), if_neg hne] at hx
  have hcal : calN (setCalN s (0x4640 + 48 * k) 1 v) (0x4640 + 48 * k) 1 = v := by
    rw [calN_setCalN_same]
    omega
  obtain ⟨hdrs, out, hf⟩ := setCalN_frame s (0x4640 + 48 * k) 1 v
  generalize setCalN s (0x4640 + 48 * k) 1 v = u at hx hcal hf
  have htile : ∀ j, u.tile j = s.tile j := fun j => by
    rw [hf]
    rfl
  refine ⟨_, hx, hcal, by simp, fun j hj => by simp [hj, htile], ?_⟩
  change u.cores = s.cores
  rw [hf]

theorem step_refused (h : v < 12 ∨ 32 < v) : Answers (.stepWrite k w) s fun t =>
    t.cal = s.cal ∧ t.tiles = s.tiles ∧ (t.hdr (.grid k)).lastRefusal = word [(0, 0x03), (8, 0x40), (24, w.master.num)] := by
  have hx : exec (.stepWrite k w) s = .next (writeClock k w s).1 := rfl
  unfold writeClock at hx
  dsimp only at hx
  rw [← hv, guarded_refuses hw _ (r := .outOfRange) ?_ (by decide)] at hx
  · exact ⟨_, hx, recordRefusal_cal .., recordRefusal_tiles .., recordRefusal_last ..⟩
  · rw [judge_of_writeOk hw]
    obtain h | h := h <;> simp [h]

end

theorem clockChange_done {k old who : Nat} {s : State} (h : (s.tile k).changing = some (old, who)) : Answers (.clockChangeDone k) s fun t =>
    t.tile k = { s.tile k with changing := none } ∧ caused t (.grid k) 2 = true ∧ (∀ j, j ≠ k → t.tile j = s.tile j) ∧
    (logOpen s = true → newest t 0x3005 [k % 2 ^ 32, 50 * old % 2 ^ 32, 50 * calStep s k % 2 ^ 32, who % 2 ^ 32] = true) := by
  have hx : exec (.clockChangeDone k) s = execClockChangeDone k s := rfl
  unfold execClockChangeDone at hx
  rw [h] at hx
  dsimp only at hx
  refine ⟨_, hx, by simp, caused_raise_same _ _ (by decide), fun j hj => by simp [hj], fun ho => ?_⟩
  rw [newest_raise]
  exact newest_logEvent (s := s.modTile k _) ho 0x3005 0 (.grid k) [k, 50 * old, 50 * calStep s k, who]

/-! ### Mesh flits sent again (R344) -/

theorem meshFlit_counted {k l : Nat} {again : Bool} {s : State} (hk : k < 8) (hl : l < 256) (hst : (s.tile k).st ≠ .off)
    (hn : again = true → look 0 s.grid.resends (k * 256 + l) < 15) : Answers (.meshFlitResend (.mesh k l) again) s fun t =>
      (t.tile k).meshRetries = satInc (s.tile k).meshRetries 0xFFFF ∧
      look 0 t.grid.resends (k * 256 + l) = (if again then look 0 s.grid.resends (k * 256 + l) + 1 else 1) ∧
      (∀ j, j ≠ k → t.tile j = s.tile j) ∧ t.cores = s.cores := by
  have hx : exec (.meshFlitResend (.mesh k l) again) s = execMeshFlitResend (.mesh k l) again s := rfl
  unfold execMeshFlitResend at hx
  dsimp only at hx
  rw [if_neg (by simp [linkOk, linkTiles, hk, hl, hst])] at hx
  have hkey : linkKey (.mesh k l) = k * 256 + l := rfl
  rw [hkey] at hx
  have hne : (if again then look 0 s.grid.resends (k * 256 + l) + 1 else 1) ≠ 16 := by
    cases again with
    | true =>
      have := hn rfl
      rw [if_pos rfl]
      omega
    | false => rw [if_neg Bool.false_ne_true]; decide
  rw [if_neg hne] at hx
  have htile : ∀ (x : GridSt) j, (countResend { s with grid := x } (.mesh k l)).tile j =
      if j = k then { s.tile k with meshRetries := satInc (s.tile k).meshRetries 0xFFFF } else s.tile j := fun x j => State.setTile_tile { s with grid := x } k j _
  refine ⟨_, hx, by rw [htile, if_pos rfl], ?_, fun j hj => by rw [htile, if_neg hj], rfl⟩
  change look 0 (put 0 s.grid.resends (k * 256 + l) _) (k * 256 + l) = _
  rw [look_put, if_pos rfl]

/-- Settles O38: cores are lost, tile clocks change, and mesh flits are counted. -/
theorem coreLossClocksAndLinks : Obligations.CoreLossClocksAndLinks := by
  unfold Obligations.CoreLossClocksAndLinks
  refine ⟨fun c s hc hup => ⟨heartbeat_loses hc hup, eccError_loses hc hup, eccError_counted hup⟩,
    fun k w s v hw hv => ⟨step_written hw hv, step_refused hw hv⟩, fun k old who s h => clockChange_done h,
    fun k l again s hk hl hst hn => meshFlit_counted hk hl hst hn⟩

/-! ### CORECTL (R357, R358) -/

theorem corePage_of_lt {k : Nat} (h : k < 512) : corePage k = (k / 64, k % 64) := if_pos h

theorem releaseQueues_of_none {s : State} {k : Nat} (h : (s.core k).queues = []) : releaseQueues s [k] = s := by
  change forEach (ownQueues s k) s (fun s q => dropQueue s k q 0) = s
  rw [ownQueues, h]
  rfl

/-- The tokens a core asks for change the pool alone. -/
theorem stokeTo_frame (s : State) (c h : Nat) : ∃ x, stokeTo s c h = { s with token := x } := by
  unfold stokeTo
  split
  · split <;> exact ⟨_, rfl⟩
  · split <;> exact ⟨_, rfl⟩

section
variable {k : Nat} {w : RegWrite} {s : State} (hw : writeOk s (.corectl k) w = true) (hfull : w.full = true) (hk : k < 512)
include hw hfull hk

/-- An operation on a core is carried out. -/
theorem writeOp_runs {code : Nat} (hc : fld w.value.toNat 0 2 = code) (h0 : code ≠ 0)
    (h1 : code = 1 → ((s.core k).st = .idle ∨ (s.core k).st = .stopped ∨ (s.core k).st = .faulted) ∧
      (s.tile (k / 64)).st = .stoked ∧ inPartition s k = false ∧ ledgerFaulted s = false)
    (h2 : code = 2 → (s.core k).st = .running) (h3 : code = 3 → (s.core k).st = .stopped ∧ (s.tile (k / 64)).st = .stoked) :
    (writeOp k w s).1 = if code = 1 then startHand s k else if code = 2 then stopCore s k else resumeCore s k := by
  unfold writeOp
  dsimp only
  rw [hc, corePage_of_lt hk, guarded_passes hw _ ?_]
  have hpass : ∀ a b c : Bool, a = false → b = false → c = false →
      ({ outOfRange := a, wrongState := b, ledgerFault := c } : Checks).pass = true := by
    rintro a b c rfl rfl rfl
    rfl
  refine hpass _ _ _ (by simp [hfull, h0]) ?_ ?_
  · simp only [Bool.or_eq_false_iff, Bool.and_eq_false_iff, decide_eq_false_iff_not]
    refine ⟨⟨⟨by omega, ?_⟩, ?_⟩, ?_⟩
    · by_cases hc1 : code = 1
      · obtain ⟨hst, ht, hp, _⟩ := h1 hc1
        refine .inr ?_
        obtain h | h | h := hst <;> simp [h, ht, hp]
      · exact .inl hc1
    · by_cases hc2 : code = 2
      · exact .inr (by simp [h2 hc2])
      · exact .inl hc2
    · by_cases hc3 : code = 3
      · obtain ⟨hst, ht⟩ := h3 hc3
        exact .inr (by simp [hst, ht])
      · exact .inl hc3
  · by_cases hc1 : code = 1
    · simp [(h1 hc1).2.2.2]
    · simp [hc1]

theorem start_starts (hc : fld w.value.toNat 0 2 = 1) (hst : (s.core k).st = .idle ∨ (s.core k).st = .stopped ∨ (s.core k).st = .faulted)
    (ht : (s.tile (k / 64)).st = .stoked) (hp : inPartition s k = false) (hl : ledgerFaulted s = false) (hq : (s.core k).queues = []) :
    Answers (.start k w) s fun t =>
      (t.core k).st = .running ∧ (t.core k).pc = (s.core k).startPc ∧ (∀ r, sreg (t.core k) r = if r = 1 then (s.core k).arg else 0) ∧
      (∀ r, areg (t.core k) r = 0) ∧ (∀ r, vreg (t.core k) r = 0) ∧ (t.core k).acc = [] ∧ (t.core k).loops = [] ∧
      (t.core k).ls = (s.core k).ls ∧ (t.core k).imem = (s.core k).imem ∧ (∀ j, j ≠ k → t.core j = s.core j) := by
  have hx : exec (.start k w) s = .next (writeOp k w s).1 := rfl
  rw [writeOp_runs hw hfull hk hc (by decide) (fun _ => ⟨hst, ht, hp, hl⟩) (fun h => by cases h) (fun h => by cases h), if_pos rfl] at hx
  unfold startHand at hx
  dsimp only at hx
  rw [releaseQueues_of_none hq] at hx
  have hcore : ∀ j, (s.modCore k (fun x => freshCore x x.startPc x.arg none)).core j =
      if j = k then freshCore (s.core k) (s.core k).startPc (s.core k).arg none else s.core j := fun j => State.setCore_core _ _ _ _
  refine ⟨_, hx, ?_⟩
  beta_reduce
  rw [hcore, if_pos rfl]
  refine ⟨rfl, rfl, fun r => ?_, fun r => rfl, fun r => rfl, rfl, rfl, rfl, rfl, fun j hj => by rw [hcore, if_neg hj]⟩
  unfold sreg
  change (if r = 0 then 0 else look 0 (put 0 [] 1 (s.core k).arg) r) = _
  rw [look_put]
  by_cases h0 : r = 0
  · rw [if_pos h0, if_neg (by omega)]
  · rw [if_neg h0]
    rfl

theorem stop_stops (hc : fld w.value.toNat 0 2 = 2) (hst : (s.core k).st = .running) :
    exec (.stop k w) s = .next (s.setCore k { s.core k with stopping := true }) := by
  have hx : exec (.stop k w) s = .next (writeOp k w s).1 := rfl
  rw [writeOp_runs hw hfull hk hc (by decide) (fun h => by cases h) (fun _ => hst) (fun h => by cases h)] at hx
  exact hx

theorem resume_resumes (hc : fld w.value.toNat 0 2 = 3) (hst : (s.core k).st = .stopped) (ht : (s.tile (k / 64)).st = .stoked) :
    Answers (.resume k w) s fun t => (t.core k).st = .running ∧ (t.core k).pc = (s.core k).pc ∧ (t.core k).s = (s.core k).s ∧
      (t.core k).acc = (s.core k).acc ∧ ∀ j, j ≠ k → t.core j = s.core j := by
  have hx : exec (.resume k w) s = .next (writeOp k w s).1 := rfl
  rw [writeOp_runs hw hfull hk hc (by decide) (fun h => by cases h) (fun h => by cases h) (fun _ => ⟨hst, ht⟩), if_neg (by decide), if_neg (by decide)] at hx
  unfold resumeCore at hx
  dsimp only at hx
  generalize hu : s.modCore k _ = u at hx
  obtain ⟨x, hs⟩ := stokeTo_frame u k (u.core k).tok.atStop
  have hcore : ∀ j, (stokeTo u k (u.core k).tok.atStop).core j = u.core j := fun j => by
    rw [hs]
    rfl
  refine ⟨_, hx, by rw [hcore, ← hu]; simp, by rw [hcore, ← hu]; simp, by rw [hcore, ← hu]; simp, by rw [hcore, ← hu]; simp,
    fun j hj => by rw [hcore, ← hu]; simp [hj]⟩

omit hk in
theorem op_ofLost {code : Nat} (hc : fld w.value.toNat 0 2 = code) (h0 : code = 1 ∨ code = 2 ∨ code = 3) (hst : (s.core k).st = .lost) :
    (writeOp k w s).1.cores = s.cores ∧ ((writeOp k w s).1.hdr (.corectl k)).lastRefusal = word [(0, 0x02), (8, 0x40), (24, w.master.num)] := by
  have hop : (writeOp k w s).1 = recordRefusal s (.corectl k) 0x40 w.master .wrongState := by
    unfold writeOp
    dsimp only
    refine guarded_refuses hw 0x40 ?_ (by decide)
    rw [judge_of_writeOk hw, hc]
    obtain rfl | rfl | rfl := h0 <;> simp [hst, hfull]
  rw [hop]
  exact ⟨recordRefusal_cores .., recordRefusal_last ..⟩

end

theorem coreHalt_halts {c : Nat} {s : State} (hs : (s.core c).stopping = true) (hst : (s.core c).st = .running) (hslot : (s.core c).slot = none) :
    Answers (.coreHalt c) s fun t => (t.core c).st = .stopped ∧ (t.core c).stopping = false ∧ (t.core c).stall = none ∧
      (t.core c).pc = (s.core c).pc ∧ (t.core c).s = (s.core c).s ∧ caused t (.corectl c) 0 = true := by
  have hx : exec (.coreHalt c) s = execCoreHalt c s := rfl
  unfold execCoreHalt at hx
  dsimp only at hx
  rw [if_pos (by simp [hs, hst]), hslot] at hx
  have hcalm : Calm c (s.setCore c ((s.core c).halted .stopped)) (haltCore s c .stopped) := haltCore_calm_halted s c .stopped c
  have hplain : ((haltCore s c .stopped).core c).plain = ((s.core c).halted .stopped).plain := by
    rw [hcalm.core, State.setCore_core, if_pos rfl]
  dsimp only at hx
  generalize hv : raise (haltCore s c .stopped) (.corectl c) 0 = v at hx
  have hvc : (v.core c).plain = ((s.core c).halted .stopped).plain := by rw [← hv, raise_core, hplain]
  have hcause : caused v (.corectl c) 0 = true := by
    rw [← hv]
    exact caused_raise_same _ _ (by decide)
  obtain ⟨x, hr⟩ := rejudge_frame v
  rw [hr] at hx
  exact ⟨_, hx, (congrArg CoreSt.st hvc :), (congrArg CoreSt.stopping hvc :), (congrArg CoreSt.stall hvc :), (congrArg CoreSt.pc hvc :),
    (congrArg CoreSt.s hvc :), hcause⟩

/-! ### The data windows of a halted core (R376, R377) -/

theorem lsWord_written (x : CoreSt) (a : Nat) (v : Word) : lsWord (lsWrite x a (leBytes 4 v.toNat)) a = v := by
  have hr := lsRead_lsWrite_same x a (leBytes 4 v.toNat)
  rw [leBytes_length] at hr
  have hn := leNat_leBytes_append 4 v.toNat []
  rw [List.append_nil] at hn
  have h32 := v.isLt
  rw [lsWord, hr, hn, w32]
  refine BitVec.eq_of_toNat_eq ?_
  simp only [leNat, BitVec.toNat_ofNat]
  omega

section
variable {k : Nat} {w : RegWrite} {s : State} (hw : writeOk s (.corectl k) w = true)
include hw

theorem regData_written (hi : inspectable s k = true) (h : (s.core k).regSel < 576 ∨ (s.core k).regSel = 581 ∨ (s.core k).regSel = 582 ∨ 640 ≤ (s.core k).regSel) :
    exec (.regDataWrite k w) s = .next (s.setCore k (setArch (s.core k) (s.core k).regSel (w.merged (archWord s k (s.core k).regSel)))) := by
  have hx : exec (.regDataWrite k w) s = .next (writeRegData k w s).1 := rfl
  unfold writeRegData at hx
  dsimp only at hx
  rw [guarded_passes hw _ (by simp only [Checks.pass, hi]; simp; omega)] at hx
  exact hx

theorem regData_scalar (hi : inspectable s k = true) (h0 : 0 < (s.core k).regSel) (h : (s.core k).regSel < 32) :
    Answers (.regDataWrite k w) s fun t => archWord t k (s.core k).regSel = w.merged (archWord s k (s.core k).regSel) := by
  refine ⟨_, regData_written hw hi (.inl (by omega)), ?_⟩
  generalize (s.core k).regSel = i at h0 h
  generalize w.merged (archWord s k i) = v
  unfold archWord
  dsimp only
  rw [if_pos h, State.setCore_core, if_pos rfl, setArch, if_pos h, setS, if_neg (by omega), sreg, if_neg (by omega)]
  exact (look_put _ _ _ _ _).trans (if_pos rfl)

theorem regData_accumulator (hi : inspectable s k = true) (h1 : 1024 ≤ (s.core k).regSel) (h2 : (s.core k).regSel < 3072) :
    Answers (.regDataWrite k w) s fun t => archWord t k (s.core k).regSel = w.merged (archWord s k (s.core k).regSel) := by
  refine ⟨_, regData_written hw hi (.inr (.inr (.inr (by omega)))), ?_⟩
  generalize (s.core k).regSel = i at h1 h2
  generalize w.merged (archWord s k i) = v
  unfold archWord
  dsimp only
  rw [if_neg (by omega), if_neg (by omega), if_neg (by omega), if_neg (by omega), if_pos (by simp; omega), State.setCore_core, if_pos rfl, setArch,
    if_neg (by omega), if_neg (by omega), if_neg (by omega), if_neg (by omega), if_neg (by omega), if_pos (by simp; omega)]
  exact (look_put _ _ _ _ _).trans (if_pos rfl)

theorem regData_refused (hi : inspectable s k = true) (h1 : 576 ≤ (s.core k).regSel) (h2 : (s.core k).regSel < 581) :
    Answers (.regDataWrite k w) s fun t =>
      t.cores = s.cores ∧ (t.hdr (.corectl k)).lastRefusal = word [(0, 0x03), (8, 0x58), (24, w.master.num)] := by
  have hx : exec (.regDataWrite k w) s = .next (writeRegData k w s).1 := rfl
  unfold writeRegData at hx
  dsimp only at hx
  rw [guarded_refuses hw _ (r := .outOfRange) ?_ (by decide)] at hx
  · exact ⟨_, hx, recordRefusal_cores .., recordRefusal_last ..⟩
  · rw [judge_of_writeOk hw, hi]
    simp
    omega

theorem lsData_written (hi : inspectable s k = true) : Answers (.lsDataWrite k w) s fun t =>
    lsWord (t.core k) (s.core k).lsAddr = w.merged (lsWord (s.core k) (s.core k).lsAddr) ∧ (t.core k).lsAddr = lsNext (s.core k).lsAddr ∧
    (∀ a, a < (s.core k).lsAddr ∨ (s.core k).lsAddr + 4 ≤ a → lsRead (t.core k) a 1 = lsRead (s.core k) a 1) ∧
    ∀ j, j ≠ k → t.core j = s.core j := by
  have hx : exec (.lsDataWrite k w) s = .next (writeLsData k w s).1 := rfl
  unfold writeLsData at hx
  rw [guarded_passes hw _ (by simp [Checks.pass, hi])] at hx
  refine ⟨_, hx, ?_⟩
  beta_reduce
  rw [State.modCore_eq, State.setCore_core, if_pos rfl]
  generalize w.merged (lsWord (s.core k) (s.core k).lsAddr) = v
  refine ⟨?_, rfl, fun a ha => ?_, fun j hj => (State.setCore_core _ _ _ _).trans (if_neg hj)⟩
  · exact lsWord_written (s.core k) (s.core k).lsAddr v
  · exact lsRead_lsWrite_of_disjoint (s.core k) (by rw [leBytes_length]; omega)

theorem lsData_refused (hi : inspectable s k = false) : Answers (.lsDataWrite k w) s fun t =>
    t.cores = s.cores ∧ (t.hdr (.corectl k)).lastRefusal = word [(0, 0x02), (8, 0x60), (24, w.master.num)] := by
  have hx : exec (.lsDataWrite k w) s = .next (writeLsData k w s).1 := rfl
  unfold writeLsData at hx
  rw [guarded_refuses hw _ (r := .wrongState) ?_ (by decide)] at hx
  · exact ⟨_, hx, recordRefusal_cores .., recordRefusal_last ..⟩
  · rw [judge_of_writeOk hw, hi]
    rfl

end

/-- Settles O37: cores are started, stopped, resumed and halted, and their data windows written. -/
theorem coresAreControlled : Obligations.CoresAreControlled := by
  unfold Obligations.CoresAreControlled
  refine ⟨fun k w s hw hfull hk => ⟨fun hc hst ht hp hl hq => start_starts hw hfull hk hc hst ht hp hl hq, stop_stops hw hfull hk,
    resume_resumes hw hfull hk, fun e he hc hst => ?_⟩, fun c s hs hst hslot => coreHalt_halts hs hst hslot, ?_⟩
  · rcases List.mem_cons.1 he with rfl | he
    · exact ⟨_, rfl, op_ofLost hw hfull hc (.inl rfl) hst⟩
    · rcases List.mem_cons.1 he with rfl | he
      · exact ⟨_, rfl, op_ofLost hw hfull hc (.inr (.inl rfl)) hst⟩
      · obtain rfl := List.mem_singleton.1 he
        exact ⟨_, rfl, op_ofLost hw hfull hc (.inr (.inr rfl)) hst⟩
  · rintro k w s i hw rfl
    exact ⟨regData_written hw, regData_scalar hw, regData_accumulator hw, regData_refused hw, lsData_written hw, lsData_refused hw⟩

end Sys2Proof.Machine
end

section
/-!
SUPPORT. Requests and grants of the token pool (chapter 08).
-/
namespace Sys2Proof.Machine
open Sys2Proof

/-! ### Notices of a tile's nets (R253) -/

/-- What of the pool the plan of a net rests on is the same. -/
theorem planT_congr {s t : State} (hc : t.cores = s.cores) (hp : t.token.plan = s.token.plan) (ha : t.token.clampAll = s.token.clampAll) (k : Nat) :
    planT t k = planT s k := by
  have hcap : plannedCap t = plannedCap s := by
    funext c
    unfold plannedCap
    rw [State.core, hc, hp, ha, State.core]
  rw [planT, planT, hcap, tileCores, tileCores, stokedCores, stokedCores, hc]

/-- A notice that is due and can be delivered: the net has been told its share, and the rest of the pool that plans rest on stays. -/
theorem noticeNet_told {s : State} {n : Nat} (hu : s.arb.unreachable.contains (n / 2) = false) (hn : s.token.noticed.contains n = false) (fall : Bool) :
    ∃ a b c, noticeNet s n fall = { s with token := { s.token with
      notices := a, notified := b, noticed := c } } ∧ look 0 b n = noticeShare n (planT s (n / 2)) ∧
      ∀ j, j ≠ n → look 0 b j = look 0 s.token.notified j ∧ c.contains j = s.token.noticed.contains j := by
  unfold noticeNet
  dsimp only
  rw [hn, Bool.and_false, Bool.or_false]
  by_cases h : look 0 s.token.notified n = noticeShare n (planT s (n / 2))
  · rw [if_pos (by simpa using h)]
    exact ⟨_, _, _, rfl, h, fun _ _ => ⟨rfl, rfl⟩⟩
  · rw [if_neg (by simpa using h), hu, if_neg Bool.false_ne_true, if_neg Bool.false_ne_true]
    refine ⟨_, _, _, rfl, by rw [look_put, if_pos rfl], fun j hj => ⟨by rw [look_put, if_neg hj], ?_⟩⟩
    rw [List.contains_cons]
    simp [hj]

/-- A net that has had its notice in the frame keeps what it was told. -/
theorem noticeNet_frame (s : State) {n : Nat} (hu : s.arb.unreachable.contains (n / 2) = false) (fall : Bool) :
    ∃ a b c, noticeNet s n fall = { s with token := { s.token with
      notices := a, notified := b, noticed := c } } ∧
      ∀ j, j ≠ n → look 0 b j = look 0 s.token.notified j ∧ c.contains j = s.token.noticed.contains j := by
  unfold noticeNet
  dsimp only
  split
  · exact ⟨_, _, _, rfl, fun _ _ => ⟨rfl, rfl⟩⟩
  · rw [hu, if_neg Bool.false_ne_true]
    refine ⟨_, _, _, rfl, fun j hj => ⟨by rw [look_put, if_neg hj], ?_⟩⟩
    split
    · rfl
    · rw [List.contains_cons]
      simp [hj]

/-- The nets of a reachable tile that have had no notice in the frame are told their shares. -/
theorem noticeTile_told {s : State} {k : Nat} (hu : s.arb.unreachable.contains k = false) (fall : Bool) :
    ∃ a b c, noticeTile s k fall = { s with token := { s.token with
      notices := a, notified := b, noticed := c } } ∧
      ∀ n, n / 2 = k → s.token.noticed.contains n = false → look 0 b n = noticeShare n (planT s (n / 2)) := by
  have h2 : 2 * k / 2 = k := by omega
  have h3 : (2 * k + 1) / 2 = k := by omega
  unfold noticeTile
  obtain ⟨a1, b1, c1, e1, o1⟩ := noticeNet_frame s (n := 2 * k) (by rw [h2]; exact hu) fall
  have hplan1 : ∀ j, planT (noticeNet s (2 * k) fall) j = planT s j := fun j => by
    rw [e1]
    exact planT_congr (s := s) (t := { s with token := { s.token with
      notices := a1, notified := b1, noticed := c1 } }) rfl rfl rfl j
  have hu1 : (noticeNet s (2 * k) fall).arb.unreachable.contains ((2 * k + 1) / 2) = false := by
    rw [e1, h3]
    exact hu
  obtain ⟨a2, b2, c2, e2, o2⟩ := noticeNet_frame (noticeNet s (2 * k) fall) (n := 2 * k + 1) hu1 fall
  refine ⟨a2, b2, c2, by rw [e2, e1], fun n hn hno => ?_⟩
  by_cases hn2 : n = 2 * k
  · subst hn2
    obtain ⟨a, b, c, e, hb, _⟩ := noticeNet_told (n := 2 * k) (by rw [h2]; exact hu) hno fall
    rw [(o2 (2 * k) (by omega)).1, e]
    exact hb
  · have hn3 : n = 2 * k + 1 := by omega
    subst hn3
    have hno1 : (noticeNet s (2 * k) fall).token.noticed.contains (2 * k + 1) = false := by
      rw [e1]
      exact ((o1 (2 * k + 1) (by omega)).2).trans hno
    obtain ⟨a, b, c, e, hb, _⟩ := noticeNet_told hu1 hno1 fall
    rw [← hplan1, ← hb]
    have := e2.symm.trans e
    exact (congrArg (fun t : State => look 0 t.token.notified (2 * k + 1)) this :)

/-! ### Requests (R249) -/

theorem stokeRequest_heard {c : Nat} {s : State} {r : TokReq} (hr : s.token.sent.find? (fun x => x.core = c) = some r) :
    (asideFor s r = false → exec (.stokeRequest c) s = .next { s with token := { s.token with
      sent := s.token.sent.filter (fun x => x.core ≠ c), queue := s.token.queue ++ [r] } }) ∧
    (asideFor s r = true → Answers (.stokeRequest c) s fun t =>
      t.token = { s.token with
        sent := s.token.sent.filter (fun x => x.core ≠ c), aside := s.token.aside ++ [r], undelivered := t.token.undelivered } ∧ t.cores = s.cores ∧
      (s.arb.unreachable.contains (r.core / 64) = true → t.token.undelivered.contains (r.core / 64) = true)) := by
  have hx : exec (.stokeRequest c) s = execStokeRequest c s := rfl
  unfold execStokeRequest at hx
  rw [hr] at hx
  dsimp only at hx
  have haside : ∀ x : TokenSt, asideFor { s with token := x } r = asideFor s r := fun x => rfl
  rw [haside] at hx
  refine ⟨fun ha => ?_, fun ha => ?_⟩
  · rw [hx, ha]
    rfl
  · rw [ha, if_pos rfl] at hx
    refine ⟨_, hx, ?_⟩
    unfold setAside undeliverable
    dsimp only
    split
    · split
      · next h => exact ⟨rfl, rfl, fun _ => h⟩
      · rw [logEvent_token, logEvent_cores]
        exact ⟨rfl, rfl, fun _ => by simp⟩
    · next h => exact ⟨rfl, rfl, fun hu => absurd hu h⟩

/-! ### Grants (R131, R246, R251, R270) -/

theorem commitGrant_commits {s : State} {r : TokReq} {need : Nat} (hu : s.arb.unreachable.contains (r.core / 64) = false) (hc : counting s = true) :
    (commitGrant s r need).token.queue = s.token.queue ∧ (commitGrant s r need).ledgers.tok = tokCommit need s.ledgers.tok ∧
    (commitGrant s r need).core r.core = { s.core r.core with tok := { (s.core r.core).tok with committed := (s.core r.core).tok.committed + need } } ∧
    (∃ g ∈ (commitGrant s r need).token.grants, g.core = r.core ∧ g.n = need ∧ g.released = false) ∧
    (∀ j, j ≠ r.core → (commitGrant s r need).core j = s.core j) ∧
    ∀ n, n / 2 = r.core / 64 → s.token.noticed.contains n = false →
      look 0 (commitGrant s r need).token.notified n = noticeShare n (planT (commitGrant s r need) (n / 2)) := by
  generalize hcg : commitGrant s r need = cg
  unfold commitGrant at hcg
  dsimp only at hcg
  generalize hp : modTokOf _ r.core _ = p at hcg
  have hpf : p.cores = (s.setCore r.core { s.core r.core with tok := { (s.core r.core).tok with committed := (s.core r.core).tok.committed + need } }).cores ∧
      p.arb = s.arb ∧ p.ledgers = s.ledgers ∧ p.ledger = s.ledger ∧ p.trip = s.trip ∧ p.token.queue = s.token.queue ∧ p.token.noticed = s.token.noticed ∧
      ∃ g ∈ p.token.grants, g.core = r.core ∧ g.n = need ∧ g.released = false := by
    rw [← hp]
    exact ⟨rfl, rfl, rfl, rfl, rfl, rfl, rfl, _, List.mem_append_right _ (List.mem_singleton_self _), rfl, rfl, rfl⟩
  obtain ⟨p1, p2, p3, p4, p5, p6, p7, p8⟩ := hpf
  have hrise : ∃ x, planRise p r.core = { p with token := { p.token with plan := x } } := by
    unfold planRise
    dsimp only
    split <;> exact ⟨_, rfl⟩
  obtain ⟨x, hx⟩ := hrise
  rw [hx] at hcg
  generalize hq : ({ p with token := _ } : State) = q at hcg
  have hqf : q.cores = p.cores ∧ q.arb = s.arb ∧ q.ledgers = s.ledgers ∧ counting q = true ∧ q.token.queue = s.token.queue ∧
      q.token.noticed = s.token.noticed ∧ q.token.grants = p.token.grants := by
    rw [← hq]
    refine ⟨rfl, p2, p3, ?_, p6, p7, rfl⟩
    unfold counting ledgerFaulted at hc ⊢
    dsimp only
    rw [p4, p5]
    exact hc
  obtain ⟨q1, q2, q3, q4, q5, q6, q7⟩ := hqf
  obtain ⟨a, b, c, e, hb⟩ := noticeTile_told (s := q) (k := r.core / 64) (by rw [q2]; exact hu) false
  rw [e] at hcg
  have hcount : counting { q with token := { q.token with
      notices := a, notified := b, noticed := c } } = true := q4
  unfold modTok at hcg
  rw [if_pos hcount] at hcg
  have hcores : cg.cores = (s.setCore r.core { s.core r.core with tok := { (s.core r.core).tok with committed := (s.core r.core).tok.committed + need } }).cores := by
    rw [← hcg]
    exact q1.trans p1
  have hcore : ∀ j, cg.core j = if j = r.core then
      { s.core r.core with tok := { (s.core r.core).tok with committed := (s.core r.core).tok.committed + need } } else s.core j := fun j => by
    rw [State.core, hcores]
    exact State.setCore_core _ _ _ _
  have hplan : ∀ j, planT cg j = planT q j := fun j => planT_congr (by rw [← hcg]) (by rw [← hcg]) (by rw [← hcg]) j
  refine ⟨by rw [← hcg]; exact q5, by rw [← hcg]; exact congrArg (fun l : Ledgers => tokCommit need l.tok) q3, by rw [hcore, if_pos rfl], ?_,
    fun j hj => by rw [hcore, if_neg hj], fun n hn hno => ?_⟩
  · obtain ⟨g, hg, hrest⟩ := p8
    refine ⟨g, ?_, hrest⟩
    rw [← hcg]
    exact q7.symm ▸ hg
  · rw [hplan, ← hb n hn (by rw [q6]; exact hno), ← hcg]

section
variable {s : State}

theorem grantCommit_serves {r : TokReq} {rest : List TokReq} {need : Nat} (hq : s.token.queue = r :: rest) (hneed : need = r.target - coreTotal s r.core)
    (h0 : 0 < need) (hc : counting s = true) (ha : asideFor s r = false) :
    (need ≤ s.ledgers.tok.free → Answers .grantCommit s fun t =>
      t.token.queue = rest ∧ t.ledgers.tok = tokCommit need s.ledgers.tok ∧
      t.core r.core = { s.core r.core with tok := { (s.core r.core).tok with committed := (s.core r.core).tok.committed + need } } ∧
      (∃ g ∈ t.token.grants, g.core = r.core ∧ g.n = need ∧ g.released = false) ∧ (∀ j, j ≠ r.core → t.core j = s.core j) ∧
      ∀ n, n / 2 = r.core / 64 → s.token.noticed.contains n = false → look 0 t.token.notified n = noticeShare n (planT t (n / 2))) ∧
    (s.ledgers.tok.free < need → exec .grantCommit s = .next s) := by
  have hx : exec .grantCommit s = execGrantCommit s := rfl
  have hdie : asideDie s r = false := by
    unfold asideFor at ha
    exact (Bool.or_eq_false_iff.1 ha).2
  unfold execGrantCommit at hx
  rw [hq] at hx
  dsimp only at hx
  rw [hc, if_neg (by decide), ← hneed, if_neg (by omega), hdie, if_neg Bool.false_ne_true, ha, if_neg Bool.false_ne_true] at hx
  refine ⟨fun hf => ?_, fun hf => by rw [hx, if_pos hf]⟩
  rw [if_neg (by omega)] at hx
  exact ⟨_, hx, commitGrant_commits (s := { s with token := { s.token with queue := rest } }) hdie hc⟩

theorem grantCommit_waits (hc : counting s = false) : exec .grantCommit s = .next s := by
  have hx : exec .grantCommit s = execGrantCommit s := rfl
  unfold execGrantCommit at hx
  rw [hx]
  split
  · rfl
  · rw [hc]
    rfl

variable {c : Nat} {g : Grant}

theorem grantRelease_releases (hc : counting s = true) (hg : s.token.grants.find? (fun x => x.core = c && !x.released) = some g) :
    exec (.grantRelease c) s = .next { s with token := { s.token with
      grants := s.token.grants.map (fun x => if x.seq = g.seq then { x with released := true, sends := 1 } else x) } } := by
  have hx : exec (.grantRelease c) s = execGrantRelease c s := rfl
  rw [hx, execGrantRelease, hc, if_neg (by decide), modGrant]
  rw [hg]

theorem issueCap_steps (h1 : (s.core c).tok.clamped = false) (h2 : (s.core c).tok.easing = []) (h3 : (s.core c).tok.cap < (s.core c).tok.held) :
    exec (.issueCapStep c) s = .next (s.setCore c { s.core c with tok := { (s.core c).tok with
      cap := min (s.core c).tok.held ((s.core c).tok.cap + 2) } }) := by
  have hx : exec (.issueCapStep c) s = execIssueCapStep c s := rfl
  unfold execIssueCapStep easeLimit at hx
  dsimp only at hx
  rw [h1, h2, if_neg (by simpa using h3)] at hx
  exact hx

variable (hg : s.token.grants.find? (fun x => x.core = c && x.released) = some g)
include hg

theorem grantApply_applies (he : (s.core c).tok.easing = []) : Answers (.grantApply c) s fun t =>
    t.core c = { s.core c with tok := { (s.core c).tok with
      held := (s.core c).tok.held + g.n, committed := (s.core c).tok.committed - g.n, lastSeq := some g.seq,
      cap := if (s.core c).tok.clamped then (s.core c).tok.cap
             else max (s.core c).tok.cap (min ((s.core c).tok.held + g.n) ((s.core c).tok.cap + 2)) } } ∧
    t.token.grants = s.token.grants.filter (fun x => x.seq ≠ g.seq) ∧
    (counting s = true → t.ledgers.tok = tokApply g.n s.ledgers.tok) ∧ ∀ j, j ≠ c → t.core j = s.core j := by
  have hx : exec (.grantApply c) s = execGrantApply c s := rfl
  unfold execGrantApply at hx
  rw [hg] at hx
  dsimp only at hx
  have hlim : ∀ h, easeLimit (s.core c).tok h = h := fun h => by
    unfold easeLimit
    rw [he]
    rfl
  generalize hu : modTokOf _ c _ = u at hx
  have huc : ∀ j, u.core j = if j = c then { s.core c with tok := { (s.core c).tok with
      held := (s.core c).tok.held + g.n, committed := (s.core c).tok.committed - g.n, lastSeq := some g.seq,
      cap := if (s.core c).tok.clamped then (s.core c).tok.cap
             else max (s.core c).tok.cap (min ((s.core c).tok.held + g.n) ((s.core c).tok.cap + 2)) } } else s.core j := fun j => by
    rw [← hu]
    refine (State.setCore_core _ _ _ _).trans ?_
    split
    · exact congrArg (fun a => ({ s.core c with tok := { (s.core c).tok with
        held := (s.core c).tok.held + g.n, committed := (s.core c).tok.committed - g.n, lastSeq := some g.seq,
        cap := if (s.core c).tok.clamped then (s.core c).tok.cap else max (s.core c).tok.cap (min a ((s.core c).tok.cap + 2)) } } : CoreSt))
        (hlim ((s.core c).tok.held + g.n))
    · rfl
  have hut : u.token.grants = s.token.grants.filter (fun x => x.seq ≠ g.seq) ∧ u.ledgers = s.ledgers ∧ counting u = counting s := by
    rw [← hu]
    exact ⟨rfl, rfl, rfl⟩
  obtain ⟨t1, t2, t3⟩ := hut
  have hv : (modTok u (tokApply g.n)).cores = u.cores ∧ (modTok u (tokApply g.n)).token = u.token ∧
      (counting s = true → (modTok u (tokApply g.n)).ledgers.tok = tokApply g.n s.ledgers.tok) := by
    unfold modTok
    split
    · exact ⟨rfl, rfl, fun _ => by rw [t2]⟩
    · next h => exact ⟨rfl, rfl, fun hc => absurd (t3.trans hc) h⟩
  obtain ⟨v1, v2, v3⟩ := hv
  have hvc : ∀ j, (modTok u (tokApply g.n)).core j = u.core j := fun j => by rw [State.core, v1, State.core]
  rw [hvc, huc, if_pos rfl] at hx
  dsimp only at hx
  rw [if_pos he] at hx
  exact ⟨_, hx, by rw [hvc, huc, if_pos rfl], by rw [v2, t1], v3, fun j hj => by rw [hvc, huc, if_neg hj]⟩

theorem grantResend_sends (hs : g.sends < 4) : Answers (.grantResend c) s fun t =>
    (∃ h ∈ t.token.grants, h = { g with sends := g.sends + 1 }) ∧ t = { s with token := { s.token with grants := t.token.grants } } := by
  have hx : exec (.grantResend c) s = execGrantResend c s := rfl
  have hfind : s.token.grants.find? (fun x => x.core = c && decide (x.seq = g.seq)) = none ∨
      ∃ x, s.token.grants.find? (fun x => x.core = c && decide (x.seq = g.seq)) = some x ∧ x.seq = g.seq := by
    cases h : s.token.grants.find? (fun x => x.core = c && decide (x.seq = g.seq)) with
    | none => exact .inl rfl
    | some x =>
      have := List.find?_some h
      simp only [Bool.and_eq_true, decide_eq_true_eq] at this
      exact .inr ⟨x, rfl, this.2⟩
  have hmem := List.mem_of_find?_eq_some hg
  have hgc := List.find?_some hg
  simp only [Bool.and_eq_true, decide_eq_true_eq] at hgc
  unfold execGrantResend at hx
  rw [hg] at hx
  dsimp only at hx
  rw [if_pos hs] at hx
  unfold modGrant at hx
  obtain h | ⟨x, h, hseq⟩ := hfind
  · exact absurd (List.find?_eq_none.1 h g hmem) (by simp [hgc.1])
  · rw [h] at hx
    dsimp only at hx
    refine ⟨_, hx, ⟨_, List.mem_map_of_mem hmem, by rw [if_pos hseq.symm]⟩, rfl⟩

theorem grantResend_loses (hs : 4 ≤ g.sends) : Answers (.grantResend c) s fun t => (t.core c).st = .lost := by
  have hx : exec (.grantResend c) s = execGrantResend c s := rfl
  unfold execGrantResend at hx
  rw [hg] at hx
  dsimp only at hx
  rw [if_neg (by omega)] at hx
  obtain ⟨x, hr⟩ := rejudge_frame (loseCore (logEvent s 0x1055 3 .token [c, g.n, g.sends, 0]) c 0)
  refine ⟨_, hx, ?_⟩
  rw [hr]
  exact (loseCore_lost _ c 0).1

end

/-- Settles O30: requests are queued, and grants committed, released, applied and sent again. -/
theorem grantsAreCommittedAndApplied : Obligations.GrantsAreCommittedAndApplied := by
  unfold Obligations.GrantsAreCommittedAndApplied
  refine ⟨⟨fun c s r hr => stokeRequest_heard hr, fun s r rest need hq hneed h0 hc ha => grantCommit_serves hq hneed h0 hc ha,
    fun s hc => grantCommit_waits hc, fun c s g hc hg => grantRelease_releases hc hg⟩, fun c s g hg he => grantApply_applies hg he,
    fun c s h1 h2 h3 => issueCap_steps h1 h2 h3, fun c s g hg => ⟨grantResend_sends hg, grantResend_loses hg⟩⟩

end Sys2Proof.Machine
end

section
/-!
SUPPORT. Lanes of vectors, and the vector instructions (O45).
-/
namespace Sys2Proof.Machine
open Sys2Proof

/-! ### Lanes (R381) -/

theorem fmtBits_pos (g : Nat) : 0 < fmtBits g := by
  unfold fmtBits
  split
  · decide
  · split <;> decide

theorem fmtBits_laneCount (g : Nat) : fmtBits g * laneCount g = 512 := by
  unfold laneCount fmtBits
  split
  · rfl
  · split <;> rfl

/-- Lane `k` of lanes put together, as far as the vector reaches. -/
theorem fld_joinLanes (b : Nat) (l : List Nat) {k : Nat} (hk : k < l.length) : fld (joinLanes b l) (b * k) b = l.getD k 0 % 2 ^ b := by
  induction l generalizing k with
  | nil => cases hk
  | cons v l ih =>
    have hpos : 0 < 2 ^ b := Nat.two_pow_pos b
    cases k with
    | zero =>
      rw [Nat.mul_zero]
      simp [fld, joinLanes]
    | succ k =>
      have hk' : k < l.length := by simpa using hk
      rw [List.getD_cons_succ, ← ih hk', fld, fld, Nat.mul_succ, Nat.add_comm (b * k) b, Nat.pow_add, ← Nat.div_div_eq_div_mul]
      congr 2
      simp only [joinLanes]
      rw [Nat.add_mul_div_left _ _ hpos, Nat.div_eq_of_lt (Nat.mod_lt _ hpos), Nat.zero_add]

/-- A field does not see what a wider word cuts off. -/
theorem fld_mod {lo n a : Nat} (h : lo + n ≤ a) (v : Nat) : fld (v % 2 ^ a) lo n = fld v lo n := by
  have hsplit : 2 ^ a = 2 ^ lo * 2 ^ (a - lo) := by
    rw [← Nat.pow_add, Nat.add_sub_cancel' (by omega)]
  rw [fld, hsplit, Nat.mod_mul_right_div_self, Nat.mod_mod_of_dvd _ (Nat.pow_dvd_pow 2 (by omega)), fld]

theorem laneAt_ofLanes {g k : Nat} {l : List Nat} (hk : k < l.length) (hl : l.length ≤ laneCount g) :
    laneAt g (ofLanes g l) k = l.getD k 0 % 2 ^ fmtBits g := by
  have hle : fmtBits g * k + fmtBits g ≤ 512 := by
    rw [← fmtBits_laneCount g, ← Nat.mul_succ]
    exact Nat.mul_le_mul_left _ (by omega)
  rw [laneAt, ofLanes, BitVec.toNat_ofNat, fld_mod hle, fld_joinLanes (fmtBits g) l hk]

/-- Lane `k` of lanes given by a function of their number. -/
theorem laneAt_ofLanes_range {g k : Nat} (hk : k < laneCount g) (v : Nat → LaneOut) :
    laneAt g (ofLanes g (((List.range (laneCount g)).map v).map (·.bits))) k = (v k).bits % 2 ^ fmtBits g := by
  rw [laneAt_ofLanes (by simpa using hk) (by simp), List.getD_eq_getElem _ _ (by simpa using hk)]
  simp

/-! ### Vector registers -/

theorem vreg_setV (x : CoreSt) (d r : Nat) (v : Vec) : vreg (setV x d v) r = if r = d then v else vreg x r := by
  rw [vreg, setV, look_put, vreg]

theorem vreg_pcNext (x : CoreSt) (r : Nat) : vreg (pcNext x) r = vreg x r := rfl
theorem vreg_addFlags (x : CoreSt) (n r : Nat) : vreg (addFlags x n) r = vreg x r := rfl

/-- Of core `x` only vector register `d` and the sticky flags change, and it goes on to the next instruction. -/
def WritesVector (x y : CoreSt) (d : Nat) : Prop :=
  y = pcNext { x with v := y.v, fpflags := y.fpflags } ∧ ∀ r, r ≠ d → vreg y r = vreg x r

theorem writesVector_setV (x : CoreSt) (d n : Nat) (v : Vec) : WritesVector x (pcNext (addFlags (setV x d v) n)) d :=
  ⟨rfl, fun r hr => by rw [vreg_pcNext, vreg_addFlags, vreg_setV, if_neg hr]⟩

theorem vreg_written (x : CoreSt) (d n : Nat) (v : Vec) : vreg (pcNext (addFlags (setV x d v) n)) d = v := by
  rw [vreg_pcNext, vreg_addFlags, vreg_setV, if_pos rfl]

/-! ### Instructions that may draw free values -/

section
variable {c : Nat} {u : Uses} {f : Fields} {s : State} (h : coreReady s c u f = true)
include h

theorem runFree_ready {causes : CoreSt → List (Nat × Bool)} (hc : ∀ j, (j, true) ∉ causes (s.core c)) {eff : Nat → CoreSt → CoreSt}
    (he : (eff s.free (s.core c)).st = (s.core c).st) : runFree c u f causes eff s =
      .next { s.setCore c (pcNext (eff s.free (s.core c))) with free := s.free + 1 } := by
  have hst : (eff s.free (s.core c)).st = .running := he.trans (coreReady_st h)
  have hset := State.setCore_setCore_running hst (y := pcNext (eff s.free (s.core c))) hst s c
  rw [runFree, runInstr_ready h hc, ← hset]
  simp [State.modCore, State.setCore, State.core]

/-- What an instruction that only writes a core and counts the free values it may have drawn leaves. -/
theorem runFree_answers {i : Instr} {causes : CoreSt → List (Nat × Bool)} {eff : Nat → CoreSt → CoreSt} (hi : exec i s = runFree c u f causes eff s)
    (hc : ∀ j, (j, true) ∉ causes (s.core c)) (he : (eff s.free (s.core c)).st = (s.core c).st) :
    Answers i s fun t => SameButCore s t c ∧ t.core c = pcNext (eff s.free (s.core c)) :=
  ⟨_, hi.trans (runFree_ready h hc he), ((SameButCore.refl s c).setCore _).setFree _, (State.setCore_core s c c _).trans (if_pos rfl)⟩

end

theorem Answers.mono {i : Instr} {s : State} {P Q : State → Prop} (h : Answers i s P) (hpq : ∀ t, P t → Q t) : Answers i s Q := by
  obtain ⟨t, hx, hp⟩ := h
  exact ⟨t, hx, hpq t hp⟩

/-- Writing lanes to vector register `d`: the register's lanes, and nothing else but the flags. -/
theorem setLanes_lanes {x y : CoreSt} {d g : Nat} {v : Nat → LaneOut} (hy : y = pcNext (setLanes x d g ((List.range (laneCount g)).map v))) :
    y = pcNext { x with v := y.v, fpflags := y.fpflags } ∧ (∀ r, r ≠ d → vreg y r = vreg x r) ∧
      ∀ k < laneCount g, laneAt g (vreg y d) k = (v k).bits % 2 ^ fmtBits g := by
  subst hy
  obtain ⟨hrec, hother⟩ := writesVector_setV x d (flagsOf ((List.range (laneCount g)).map v)) (ofLanes g (((List.range (laneCount g)).map v).map (·.bits)))
  refine ⟨hrec, hother, fun k hk => ?_⟩
  rw [setLanes, vreg_written, laneAt_ofLanes_range hk]

/-! ### Lane-wise operations (R393, R395) -/


theorem clampI_mem (v : Int) : -128 ≤ clampI (-128) 127 v ∧ clampI (-128) 127 v ≤ 127 := by
  unfold clampI
  split
  · decide
  · split <;> omega

theorem intOf_twos {v : Int} (hlo : -128 ≤ v) (hhi : v ≤ 127) : intOf 0 (twos 8 v % 2 ^ 8) = v := by
  have hcast : ((v % 256).toNat : Int) = v % 256 := Int.toNat_of_nonneg (Int.emod_nonneg v (by decide))
  have hlt : (v % 256).toNat < 256 := by omega
  have hbits : fmtBits 0 = 8 := rfl
  simp only [intOf, sgn, twos, bit, hbits, Int.reducePow, Nat.reducePow, Nat.reduceSub, Nat.mod_eq_of_lt hlt, decide_eq_true_eq, hcast]
  split <;> omega

/-- An INT8 result saturates (R395). -/
theorem intOf_intLane (r : Rnd) (x : Src) (v : Int) : intOf 0 ((intLane 0 r x v).bits % 2 ^ fmtBits 0) = clampI (-128) 127 v := by
  have hbits : fmtBits 0 = 8 := rfl
  have hclamp := clampI_mem v
  rw [hbits]
  by_cases hv : -128 ≤ v ∧ v ≤ 127
  · have hin : intLane 0 r x v = ⟨twos 8 v, 0⟩ := by simp [intLane, hv, hbits]
    rw [clampI, if_neg (by omega), if_neg (by omega), hin, intOf_twos hv.1 hv.2]
  · rw [← intOf_twos hclamp.1 hclamp.2]
    have hand : (decide (-128 ≤ v) && decide (v ≤ 127)) = false := by simpa using hv
    simp only [intLane, ↓reduceIte, hand, hbits, Nat.reduceEqDiff, decide_false, Bool.false_and, Bool.false_eq_true, intOf_twos hclamp.1 hclamp.2]

theorem max_eq_ite (a b : Int) : (if a < b then b else a) = max a b := by
  split <;> omega

theorem min_eq_ite (a b : Int) : (if b < a then b else a) = min a b := by
  split <;> omega

section
variable {s : State} {c : Nat} {f : Fields}

theorem vectorOp_answers {i : Instr} {op : VOp} (hi : exec i s = vectorOp op c f s) {x : CoreSt} {g : Nat} (hx : x = s.core c) (hg : g = fmtLo f)
    (h : coreReady s c { d := 32, a := 32, b := 32, x := true } f = true) (hf : vFmt g = true) : Answers i s fun t => SameButCore s t c ∧
      t.core c = pcNext { x with v := (t.core c).v, fpflags := (t.core c).fpflags } ∧ (∀ r, r ≠ f.d.toNat → vreg (t.core c) r = vreg x r) ∧
      ∀ k < laneCount g, laneAt g (vreg (t.core c) f.d.toNat) k = (laneOp g (rndOf x) ⟨op.num, s.free, k⟩ op
        (laneAt g (vreg x f.a.toNat) k) (laneAt g (vreg x f.b.toNat) k) (laneAt g (vreg x f.d.toNat) k)).bits % 2 ^ fmtBits g := by
  subst hx hg
  unfold vectorOp at hi
  exact (runFree_answers h hi (by simp [hf]) rfl).mono fun t ht => ⟨ht.1, setLanes_lanes ht.2⟩

theorem vectorOp_raises {i : Instr} {op : VOp} (hi : exec i s = vectorOp op c f s) {g : Nat} (hg : g = fmtLo f)
    (h : coreReady s c { d := 32, a := 32, b := 32, x := true } f = true) (hf : vFmt g = false) : Raises i s c 0x2 := by
  subst hg
  unfold vectorOp runFree at hi
  exact raises_of_faultCore (hi.trans (runInstr_raises h (k := 2) (by simp [hf]) (by simp) _))

/-- In INT8 a lane is the exact result, saturated: `fn` is what the operation means (R393, R395). -/
theorem vectorOp_int8 {i : Instr} {op : VOp} (hi : exec i s = vectorOp op c f s) (hg : fmtLo f = 0)
    (h : coreReady s c { d := 32, a := 32, b := 32, x := true } f = true) {fn : Int → Int → Int → Int}
    (hfn : ∀ r y a b d, intOp 0 r y op a b d = intLane 0 r y (fn (intOf 0 a) (intOf 0 b) (intOf 0 d))) {x : CoreSt} (hx : x = s.core c) :
    Answers i s fun t => ∀ k < 64, intOf 0 (laneAt 0 (vreg (t.core c) f.d.toNat) k) = clampI (-128) 127 (fn (intOf 0 (laneAt 0 (vreg x f.a.toNat) k))
        (intOf 0 (laneAt 0 (vreg x f.b.toNat) k)) (intOf 0 (laneAt 0 (vreg x f.d.toNat) k))) := by
  refine (vectorOp_answers hi hx hg.symm h rfl).mono fun t ht k hk => ?_
  obtain ⟨-, -, -, hlanes⟩ := ht
  have hint : isFp 0 = false := rfl
  rw [hlanes k hk, laneOp, hint, ← intOf_intLane (rndOf x) ⟨op.num, s.free, k⟩, ← hfn]
  rfl

theorem vectorFn_answers {i : Instr} {n : Nat} {fn : Nat → Rnd → Src → Nat → LaneOut} (hi : exec i s = vectorFn n fn c f s) {x : CoreSt} {g : Nat}
    (hx : x = s.core c) (hg : g = fmtLo f) (hf : g = 3 ∨ g = 4) (h : coreReady s c { d := 32, a := 32, x := true } f = true) :
    Answers i s fun t => SameButCore s t c ∧
      t.core c = pcNext { x with v := (t.core c).v, fpflags := (t.core c).fpflags } ∧ (∀ r, r ≠ f.d.toNat → vreg (t.core c) r = vreg x r) ∧
      ∀ k < laneCount g, laneAt g (vreg (t.core c) f.d.toNat) k =
        (fn g (rndOf x) ⟨n, s.free, k⟩ (laneAt g (vreg x f.a.toNat) k)).bits % 2 ^ fmtBits g := by
  subst hx hg
  unfold vectorFn at hi
  exact (runFree_answers h hi (by simp; omega) rfl).mono fun t ht => ⟨ht.1, setLanes_lanes ht.2⟩

/-- VCVT: the lanes both formats have. -/
theorem vcvt_answers {x : CoreSt} {g h : Nat} (hx : x = s.core c) (hg : g = fmtLo f) (hh : h = fmtHi f)
    (hr : coreReady s c { d := 32, a := 32, x := true } f = true) (hg5 : g ≤ 5) (hh5 : h ≤ 5) : Answers (.vcvt c f) s fun t => SameButCore s t c ∧
      t.core c = pcNext { x with v := (t.core c).v, fpflags := (t.core c).fpflags } ∧ (∀ r, r ≠ f.d.toNat → vreg (t.core c) r = vreg x r) ∧
      ∀ k < min (laneCount g) (laneCount h), laneAt h (vreg (t.core c) f.d.toNat) k =
        (convert g h (rndOf x) ⟨9, s.free, k⟩ (laneAt g (vreg x f.a.toNat) k)).bits % 2 ^ fmtBits h := by
  subst hx hg hh
  have hi : exec (.vcvt c f) s = execVcvt c f s := rfl
  unfold execVcvt at hi
  refine (runFree_answers hr hi (by simp; omega) rfl).mono fun t ht => ?_
  obtain ⟨hsame, hcore⟩ := ht
  dsimp only at hcore
  obtain ⟨hrec, hother⟩ := hcore ▸ writesVector_setV (s.core c) f.d.toNat _ _
  refine ⟨hsame, hrec, hother, fun k hk => ?_⟩
  rw [hcore, vreg_written, laneAt_ofLanes (by simp; omega) (by simp), List.getD_append _ _ _ _ (by simpa using hk),
    List.getD_eq_getElem _ _ (by simpa using hk)]
  simp

theorem vbcast_answers {x : CoreSt} {g : Nat} (hx : x = s.core c) (hg : g = fmtLo f)
    (h : coreReady s c { d := 32, a := 32, x := true } f = true) (hg5 : g ≤ 5) :
    Answers (.vbcast c f) s fun t => t = s.setCore c (pcNext { x with v := (t.core c).v }) ∧
      (∀ r, r ≠ f.d.toNat → vreg (t.core c) r = vreg x r) ∧
      ∀ k < laneCount g, laneAt g (vreg (t.core c) f.d.toNat) k = (srcA x f).toNat % 2 ^ fmtBits g := by
  subst hx hg
  have hi : exec (.vbcast c f) s = execVbcast c f s := rfl
  unfold execVbcast at hi
  rw [runCore_ready h (by simp; omega) (setV_st _ _ _)] at hi
  have hcore := fun y => (State.setCore_core s c c y).trans (if_pos rfl)
  refine ⟨_, hi, ?_, fun r hr => ?_, fun k hk => ?_⟩
  · rw [hcore]
    rfl
  · rw [hcore, vreg_pcNext, vreg_setV, if_neg hr]
  · rw [hcore, vreg_pcNext, vreg_setV, if_pos rfl, laneAt_ofLanes (by simpa using hk) (by simp), List.getD_eq_getElem _ _ (by simpa using hk)]
    simp

end

/-- Settles O45: each operation through the lanes it writes; INT8 through the saturated integer result. -/
theorem vectorInstructions : Obligations.VectorInstructions := by
  unfold Obligations.VectorInstructions
  refine ⟨fun e he c f s x g hx hg h => ?_, fun e he c f s x hx hg h => ?_, fun e he c f s x g hx hg hf h => ?_, fun c f s x g h hx hg hh hr => ?_,
    fun c f s x g k hx hg hk hg5 hkl h => ?_⟩
  · have hi : exec (e.1 c f) s = vectorOp e.2 c f s := by
      fin_cases he <;> rfl
    exact ⟨vectorOp_answers hi hx hg h, vectorOp_raises hi hg h⟩
  · fin_cases he
    · exact vectorOp_int8 (op := .add) rfl hg h (fun _ _ _ _ _ => rfl) hx
    · exact vectorOp_int8 (op := .sub) rfl hg h (fun _ _ _ _ _ => rfl) hx
    · exact vectorOp_int8 (op := .mul) rfl hg h (fun _ _ _ _ _ => rfl) hx
    · exact vectorOp_int8 (op := .fma) rfl hg h (fun _ _ _ _ _ => rfl) hx
    · exact vectorOp_int8 (op := .max) rfl hg h (fun r y a b _ => congrArg (intLane 0 r y) (max_eq_ite (intOf 0 a) (intOf 0 b))) hx
    · exact vectorOp_int8 (op := .min) rfl hg h (fun r y a b _ => congrArg (intLane 0 r y) (min_eq_ite (intOf 0 a) (intOf 0 b))) hx
  · have hi : exec (e.1 c f) s = vectorFn e.2.1 e.2.2 c f s := by
      fin_cases he <;> rfl
    exact vectorFn_answers hi hx hg hf h
  · refine ⟨vcvt_answers hx hg hh hr, fun hf => ?_, fun hf => ?_, vbcast_answers hx hg hr⟩
    · subst hx hg
      have hi : exec (.vrsum c f) s = execVrsum c f s := rfl
      unfold execVrsum at hi
      exact runFree_answers hr hi (by simp [hf]) rfl
    · subst hx hg
      have hi : exec (.vrmax c f) s = execVrmax c f s := rfl
      unfold execVrmax at hi
      exact runFree_answers hr hi (by simp [hf]) rfl
  · subst hx hg hk
    have hi : exec (.vmovs c f) s = execVmovs c f s := rfl
    unfold execVmovs at hi
    rw [runCore_ready h (by simp; omega) (setS_st _ _ _)] at hi
    rw [hi]
    by_cases hz : fmtLo f = 0
    · simp only [hz]
      rfl
    · simp only [hz, if_false]

end Sys2Proof.Machine
end

section
/-!
SUPPORT. Words of accumulators, and the matrix instructions (O44).
-/
namespace Sys2Proof.Machine
open Sys2Proof

/-! ### Numbers and reads of accumulators (R391, R395) -/

theorem sgn_toNat (w : Word) : sgn 32 w.toNat = w.toInt := by
  have hlt := w.isLt
  rw [BitVec.toInt_eq_toNat_cond]
  simp only [sgn, bit, Nat.reducePow, Nat.reduceSub, Int.reducePow, decide_eq_true_eq]
  rw [Nat.mod_eq_of_lt (by omega)]
  split <;> split <;> omega

theorem toInt_w32_twos {v : Int} (hlo : -2147483648 ≤ v) (hhi : v ≤ 2147483647) : (w32 (twos 32 v)).toInt = v := by
  have hw : w32 (twos 32 v) = BitVec.ofInt 32 v := by
    refine BitVec.eq_of_toNat_eq ?_
    simp only [w32, twos, BitVec.toNat_ofNat, BitVec.toNat_ofInt]
    rw [Nat.mod_eq_of_lt]
    · rfl
    · omega
  rw [hw, BitVec.toInt_ofInt]
  exact Int.bmod_eq_of_le (by omega) (by omega)

/-- The exact sum of an INT8 element, saturated. -/
theorem toInt_macInt (acc : Nat) (l : List (Nat × Nat)) : (w32 (macInt acc l).bits).toInt =
    clampI (-2147483648) 2147483647 (sgn 32 acc + (l.map (fun p => sgn 8 p.1 * sgn 8 p.2)).sum) := by
  have hclamp : ∀ v, -2147483648 ≤ clampI (-2147483648) 2147483647 v ∧ clampI (-2147483648) 2147483647 v ≤ 2147483647 := by
    intro v
    unfold clampI
    split
    · decide
    · split <;> omega
  exact toInt_w32_twos (hclamp _).1 (hclamp _).2

theorem look_filter {α : Type} (d : α) (p : Nat → Bool) (m : Sparse α) (j : Nat) :
    look d (m.filter (fun e => p e.1)) j = if p j then look d m j else d := by
  induction m with
  | nil => simp [look]
  | cons e m ih =>
    obtain ⟨k, v⟩ := e
    by_cases hp : p k = true
    · by_cases hj : j = k
      · subst hj
        simp [look, hp]
      · simp [look, hp, hj, ih]
    · by_cases hj : j = k
      · subst hj
        simp [hp, ih]
      · simp [look, hp, hj, ih]

theorem look_setAccAll (x : CoreSt) (m : Nat) (v : Nat → Word) (p : Nat) :
    look 0 (setAccAll x m ((List.range 1024).map v)).acc p = if 1024 * m ≤ p ∧ p < 1024 * m + 1024 then v (p - 1024 * m) else look 0 x.acc p := by
  rw [setAccAll, look_putList]
  simp only [List.length_map, List.length_range]
  split
  · next h =>
    rw [List.getD_eq_getElem _ _ (by simp; omega)]
    simp
  · rfl

theorem look_setAccAll_same {m p : Nat} (hp : p < 1024) (x : CoreSt) (v : Nat → Word) :
    look 0 (setAccAll x m ((List.range 1024).map v)).acc (1024 * m + p) = v p := by
  rw [look_setAccAll, if_pos (by omega), Nat.add_sub_cancel_left]

theorem look_setAccAll_other {m p : Nat} (hp : p < 1024 * m ∨ 1024 * m + 1024 ≤ p) (x : CoreSt) (v : Nat → Word) :
    look 0 (setAccAll x m ((List.range 1024).map v)).acc p = look 0 x.acc p := by
  rw [look_setAccAll, if_neg (by omega)]

/-! ### MMA and MMAZ (R391, R392) -/

section
variable {c : Nat} {f : Fields} {s : State}

/-- A core with an engine, the words of an accumulator and its flags written. -/
def accWritten (x : CoreSt) (e : Nat) (g : EngineSt) (m : Nat) (l : List Word) (n : Nat) : CoreSt := addFlags (setAccAll (setEng x e g) m l) n

theorem accWritten_frame (x : CoreSt) (e : Nat) (g : EngineSt) (m : Nat) (l : List Word) (n : Nat) : ∃ a b,
    accWritten x e g m l n = { x with acc := a, fpflags := b, engines := put {} x.engines e g } :=
  ⟨_, _, rfl⟩

theorem accWritten_acc (x : CoreSt) (e : Nat) (g : EngineSt) (m : Nat) (l : List Word) (n : Nat) :
    (accWritten x e g m l n).acc = (setAccAll x m l).acc := rfl

/-- What an MMA leaves of the core: the accumulator's words, the tile taken, the flags. -/
theorem mmaEffect_eq (zero : Bool) (seed : Nat) (f : Fields) (x : CoreSt) {g : EngineSt} (hg : g = engOf x f.b.toNat) {A : List Nat}
    (hA : A = (List.range 1024).map (elemAt (fmtLo f) (lsRead x (addrOf x f.a f) (1024 * (fmtBits (fmtLo f) / 8))))) :
    ∃ n, mmaEffect zero seed f x = accWritten x f.b.toNat { g with tiles := g.tiles.tail } f.d.toNat ((List.range 1024).map fun p =>
      w32 (mmaElem zero seed (fmtLo f) (fmtHi f) A (g.tiles.headD []) (fun p => look 0 x.acc (1024 * f.d.toNat + p)) p).bits) n := by
  rw [hg, hA]
  unfold mmaEffect
  generalize List.range 1024 = r
  simp only [accWritten, List.map_map, Function.comp_def]
  exact ⟨_, rfl⟩

theorem mmaEffect_st (zero : Bool) (seed : Nat) (f : Fields) (x : CoreSt) : (mmaEffect zero seed f x).st = x.st := by
  obtain ⟨n, h⟩ := mmaEffect_eq zero seed f x rfl rfl
  obtain ⟨a, b, h'⟩ := accWritten_frame x f.b.toNat _ f.d.toNat _ n
  rw [h, h']

theorem modCore_free (e : CoreSt → CoreSt) (n : Nat) : State.modCore { s.modCore c e with free := n } c pcNext =
    { (s.setCore c (e (s.core c))).setCore c (pcNext (e (s.core c))) with free := n } := by
  simp [State.modCore, State.setCore, State.core]

theorem mma_ready {zero : Bool} (h : coreReady s c { d := 2, a := 16, b := 4, x := true, imm := true } f = true)
    {g : EngineSt} (hg : g = engOf (s.core c) f.b.toNat) (hp : mmaPair (fmtLo f) (fmtHi f) = true)
    (hls : lsBad (addrOf (s.core c) f.a f) (1024 * (fmtBits (fmtLo f) / 8)) 64 = false) (hrun : g.run ≠ .faulted) (hfmt : fmtHi f = g.outFmt)
    (ht : g.tiles ≠ []) : mma zero c f s = .next { s.setCore c (pcNext (mmaEffect zero s.free f (s.core c))) with free := s.free + 1 } := by
  subst hg
  have hst : (mmaEffect zero s.free f (s.core c)).st = .running := (mmaEffect_st ..).trans (coreReady_st h)
  have hset := State.setCore_setCore_running hst (y := pcNext (mmaEffect zero s.free f (s.core c))) hst s c
  unfold mma
  rw [runStall_ready h (by simp [hp, hls, engBad, engLost, hrun, ← hfmt, ht]), ← hset, if_pos (by simpa using ht), modCore_free]

theorem mma_raises {zero : Bool} (h : coreReady s c { d := 2, a := 16, b := 4, x := true, imm := true } f = true)
    (hp : mmaPair (fmtLo f) (fmtHi f) = false) : mma zero c f s = .next (faultCore s c 2) := by
  unfold mma
  exact runStall_raises h (k := 2) (by simp [hp]) (by simp; omega) _ _ _

/-- An element of INT8: the exact sum, saturated. -/
theorem mmaElem_int8 (zero : Bool) (seed fw : Nat) (A : List Nat) (W : List (BitVec 16)) (old : Nat → Word) (p : Nat) :
    (w32 (mmaElem zero seed 0 fw A W old p).bits).toInt = clampI (-2147483648) 2147483647 ((if zero then 0 else (old p).toInt) +
      ((List.range 32).map (fun k => sgn 8 (A.getD (p / 32 * 32 + k) 0) * sgn 8 (W.getD (p % 32 * 32 + k) 0).toNat)).sum) := by
  rw [mmaElem, if_pos rfl, toInt_macInt, List.map_map]
  congr 2
  cases zero with
  | true => simp [sgn, bit]
  | false => exact sgn_toNat _

theorem mma_answers {i : Instr} {zero : Bool} (hi : exec i s = mma zero c f s) {x : CoreSt} {g : EngineSt} {W : List (BitVec 16)}
    {rest : List (List (BitVec 16))} {A : List Nat} {m : Nat} (hx : x = s.core c) (hg : g = engOf x f.b.toNat) (ht : g.tiles = W :: rest)
    (hm : m = f.d.toNat) (h : coreReady s c { d := 2, a := 16, b := 4, x := true, imm := true } f = true)
    (hp : mmaPair (fmtLo f) (fmtHi f) = true) (hls : lsBad (addrOf x f.a f) (1024 * (fmtBits (fmtLo f) / 8)) 64 = false)
    (hrun : g.run ≠ .faulted) (hfmt : fmtHi f = g.outFmt)
    (hA : A = (List.range 1024).map (elemAt (fmtLo f) (lsRead x (addrOf x f.a f) (1024 * (fmtBits (fmtLo f) / 8))))) :
    Answers i s fun t => SameButCore s t c ∧
      t.core c = pcNext { x with acc := (t.core c).acc, fpflags := (t.core c).fpflags, engines := put {} x.engines f.b.toNat { g with tiles := rest } } ∧
      (∀ p < 1024, look 0 (t.core c).acc (1024 * m + p) =
        w32 (mmaElem zero s.free (fmtLo f) (fmtHi f) A W (fun p => look 0 x.acc (1024 * m + p)) p).bits) ∧
      (∀ p, p < 1024 * m ∨ 1024 * m + 1024 ≤ p → look 0 (t.core c).acc p = look 0 x.acc p) ∧
      (fmtLo f = 0 → ∀ p < 1024, (look 0 (t.core c).acc (1024 * m + p)).toInt = clampI (-2147483648) 2147483647
        ((if zero then 0 else (look 0 x.acc (1024 * m + p)).toInt) +
          ((List.range 32).map (fun k => sgn 8 (A.getD (p / 32 * 32 + k) 0) * sgn 8 (W.getD (p % 32 * 32 + k) 0).toNat)).sum)) := by
  subst hx hm
  have hans := hi.trans (mma_ready h hg hp hls hrun hfmt (by simp [ht]))
  obtain ⟨n, heff⟩ := mmaEffect_eq zero s.free f (s.core c) hg hA
  have hacc := accWritten_acc (s.core c) f.b.toNat { g with tiles := g.tiles.tail } f.d.toNat ((List.range 1024).map fun p =>
      w32 (mmaElem zero s.free (fmtLo f) (fmtHi f) A (g.tiles.headD []) (fun p => look 0 (s.core c).acc (1024 * f.d.toNat + p)) p).bits) n
  obtain ⟨a, b, hrec⟩ := accWritten_frame (s.core c) f.b.toNat { g with tiles := g.tiles.tail } f.d.toNat ((List.range 1024).map fun p =>
      w32 (mmaElem zero s.free (fmtLo f) (fmtHi f) A (g.tiles.headD []) (fun p => look 0 (s.core c).acc (1024 * f.d.toNat + p)) p).bits) n
  rw [← heff] at hacc hrec
  have hword : ∀ p < 1024, look 0 (mmaEffect zero s.free f (s.core c)).acc (1024 * f.d.toNat + p) =
      w32 (mmaElem zero s.free (fmtLo f) (fmtHi f) A W (fun p => look 0 (s.core c).acc (1024 * f.d.toNat + p)) p).bits := by
    intro p hp
    rw [hacc, look_setAccAll_same hp, ht]
    rfl
  have hother : ∀ p, p < 1024 * f.d.toNat ∨ 1024 * f.d.toNat + 1024 ≤ p →
      look 0 (mmaEffect zero s.free f (s.core c)).acc p = look 0 (s.core c).acc p := by
    intro p hp
    rw [hacc, look_setAccAll_other hp]
  rw [ht] at hrec
  clear hacc heff
  generalize mmaEffect zero s.free f (s.core c) = y at hans hrec hword hother
  have hcore : State.core { s.setCore c (pcNext y) with free := s.free + 1 } c = pcNext y := (State.setCore_core s c c _).trans (if_pos rfl)
  refine ⟨_, hans, ((SameButCore.refl s c).setCore _).setFree _, ?_⟩
  rw [hcore]
  refine ⟨by rw [hrec]; rfl, hword, hother, fun hf p hp => ?_⟩
  have hval := hword p hp
  rw [hf] at hval
  exact (congrArg BitVec.toInt hval).trans (mmaElem_int8 zero s.free _ A W _ p)

/-! ### Moves of accumulators -/

/-- An instruction that writes its core and has no cause of its own here: the state it leaves and the core in it. -/
theorem runCore_answers {i : Instr} {u : Uses} {causes : CoreSt → List (Nat × Bool)} {eff : CoreSt → CoreSt} (h : coreReady s c u f = true)
    (hi : exec i s = runCore c u f causes eff s) (hc : ∀ j, (j, true) ∉ causes (s.core c)) (he : (eff (s.core c)).st = (s.core c).st) :
    Answers i s fun t => t = s.setCore c (pcNext (eff (s.core c))) ∧ t.core c = pcNext (eff (s.core c)) :=
  ⟨_, hi.trans (runCore_ready h hc he), rfl, (State.setCore_core s c c _).trans (if_pos rfl)⟩

theorem accz_answers (h : coreReady s c { d := 2 } f = true) : Answers (.accz c f) s fun t =>
    t = s.setCore c (pcNext { s.core c with acc := (t.core c).acc }) ∧
      ∀ p, look 0 (t.core c).acc p = if p / 1024 = f.d.toNat then 0 else look 0 (s.core c).acc p := by
  have hi : exec (.accz c f) s = execAccz c f s := rfl
  unfold execAccz at hi
  refine (runCore_answers h hi (noCause_false _) rfl).mono fun t ht => ?_
  obtain ⟨hstate, hcore⟩ := ht
  refine ⟨hstate.trans (by rw [hcore]; rfl), fun p => ?_⟩
  rw [hcore]
  refine (look_filter 0 (fun k => decide (k / 1024 ≠ f.d.toNat)) (s.core c).acc p).trans ?_
  by_cases hp : p / 1024 = f.d.toNat
  · simp [hp]
  · simp [hp]

theorem accrd_answers (h : coreReady s c { d := 32, a := 2, imm := true } f = true) : Answers (.accrd c f) s fun t =>
    t = s.setCore c (pcNext { s.core c with v := (t.core c).v }) ∧ (∀ r, r ≠ f.d.toNat → vreg (t.core c) r = vreg (s.core c) r) ∧
      ∀ k < 16, laneAt 5 (vreg (t.core c) f.d.toNat) k =
        (accWord (s.core c) f.a.toNat (f.imm.toNat % 32) (16 * (f.imm.toNat / 32 % 2) + k)).toNat := by
  have hi : exec (.accrd c f) s = execAccrd c f s := rfl
  unfold execAccrd at hi
  have hans := runCore_answers h hi (noCause_false _) (setV_st _ _ _)
  have hlanes : ∀ l, BitVec.ofNat 512 (joinLanes 32 l) = ofLanes 5 l := fun _ => rfl
  rw [hlanes] at hans
  generalize hw : ofLanes 5 _ = w at hans
  refine hans.mono fun t ht => ?_
  obtain ⟨hstate, hcore⟩ := ht
  refine ⟨hstate.trans (by rw [hcore]; rfl), fun r hr => ?_, fun k hk => ?_⟩
  · rw [hcore, vreg_pcNext, vreg_setV, if_neg hr]
  · have hcount : laneCount 5 = 16 := rfl
    have hbits : fmtBits 5 = 32 := rfl
    rw [hcore, vreg_pcNext, vreg_setV, if_pos rfl, ← hw, lookList_eq_map, laneAt_ofLanes (by simpa using hk) (by simp [hcount]),
      List.getD_eq_getElem _ _ (by simpa using hk), hbits]
    simp only [List.getElem_map, List.getElem_range, accHalf, accWord, Nat.add_assoc]
    exact Nat.mod_eq_of_lt (BitVec.isLt _)

theorem accwr_answers (h : coreReady s c { a := 2, b := 32, imm := true } f = true) : Answers (.accwr c f) s fun t =>
    t = s.setCore c (pcNext { s.core c with acc := (t.core c).acc }) ∧
      (∀ k < 16, (accWord (t.core c) f.a.toNat (f.imm.toNat % 32) (16 * (f.imm.toNat / 32 % 2) + k)).toNat = laneAt 5 (vreg (s.core c) f.b.toNat) k) ∧
      ∀ p, p < accHalf f.a.toNat f ∨ accHalf f.a.toNat f + 16 ≤ p → look 0 (t.core c).acc p = look 0 (s.core c).acc p := by
  have hi : exec (.accwr c f) s = execAccwr c f s := rfl
  unfold execAccwr at hi
  refine (runCore_answers h hi (noCause_false _) rfl).mono fun t ht => ?_
  obtain ⟨hstate, hcore⟩ := ht
  have hacc : ∀ p, look 0 (t.core c).acc p = if accHalf f.a.toNat f ≤ p ∧ p < accHalf f.a.toNat f + 16 then
      w32 (fld (vreg (s.core c) f.b.toNat).toNat (32 * (p - accHalf f.a.toNat f)) 32) else look 0 (s.core c).acc p := by
    intro p
    rw [hcore]
    refine (look_putList 0 _ _ _ p).trans ?_
    simp only [List.length_map, List.length_range]
    split
    · rw [List.getD_eq_getElem _ _ (by simp; omega)]
      simp
    · rfl
  refine ⟨hstate.trans (by rw [hcore]; rfl), fun k hk => ?_, fun p hp => by rw [hacc, if_neg (by omega)]⟩
  have hat : 1024 * f.a.toNat + 32 * (f.imm.toNat % 32) + (16 * (f.imm.toNat / 32 % 2) + k) = accHalf f.a.toNat f + k := by
    unfold accHalf
    omega
  rw [accWord, hat, hacc, if_pos (by omega), Nat.add_sub_cancel_left, w32, BitVec.toNat_ofNat, laneAt]
  exact Nat.mod_eq_of_lt (Nat.mod_lt _ (by decide))

theorem flatMap_leBytes_length {α : Type} (n : Nat) (v : α → Nat) (l : List α) : (l.flatMap fun r => leBytes n (v r)).length = l.length * n := by
  induction l with
  | nil => simp
  | cons r l ih => rw [List.flatMap_cons, List.length_append, ih, leBytes_length, List.length_cons, Nat.succ_mul, Nat.add_comm]

theorem accOut_length (x : CoreSt) (seed m g : Nat) : (accOut x seed m g).length = 1024 := by
  rw [accOut, List.length_map, List.length_range]

theorem accst_answers (h : coreReady s c { d := 16, a := 2, x := true, imm := true } f = true) {g a : Nat} (hg : g = fmtHi f) (hg5 : g ≤ 5)
    (ha : a = addrOf (s.core c) f.d f) (hls : lsBad a (1024 * (fmtBits g / 8)) 64 = false) : Answers (.accst c f) s fun t => SameButCore s t c ∧
        t.core c = pcNext { s.core c with ls := (t.core c).ls, fpflags := (t.core c).fpflags } ∧
        lsRead (t.core c) a (1024 * (fmtBits g / 8)) = (accOut (s.core c) s.free f.a.toNat g).flatMap (fun r => leBytes (fmtBits g / 8) r.bits) ∧
        ∀ b, b < a ∨ a + 1024 * (fmtBits g / 8) ≤ b → lsRead (t.core c) b 1 = lsRead (s.core c) b 1 := by
  subst hg ha
  have hi : exec (.accst c f) s = execAccst c f s := rfl
  unfold execAccst at hi
  have hfree : exec (.accst c f) s = runFree c { d := 16, a := 2, x := true, imm := true } f
      (fun x => [(2, 5 < fmtHi f), (6, lsBad (addrOf x f.d f) (1024 * (fmtBits (fmtHi f) / 8)) 64)])
      (fun seed x => addFlags (lsWrite x (addrOf x f.d f) ((accOut x seed f.a.toNat (fmtHi f)).flatMap (fun r => leBytes (fmtBits (fmtHi f) / 8) r.bits)))
        (flagsOf (accOut x seed f.a.toNat (fmtHi f)))) s := hi
  have hst : ∀ (x : CoreSt) (b : Nat) (l : List Byte) (n : Nat), (addFlags (lsWrite x b l) n).st = x.st := fun _ _ _ _ => rfl
  refine (runFree_answers h hfree (by simp [hls]; omega) (hst ..)).mono fun t ht => ?_
  obtain ⟨hsame, hcore⟩ := ht
  have hlen : ((accOut (s.core c) s.free f.a.toNat (fmtHi f)).flatMap (fun r => leBytes (fmtBits (fmtHi f) / 8) r.bits)).length =
      1024 * (fmtBits (fmtHi f) / 8) := by
    rw [flatMap_leBytes_length, accOut_length]
  generalize (accOut (s.core c) s.free f.a.toNat (fmtHi f)).flatMap (fun r => leBytes (fmtBits (fmtHi f) / 8) r.bits) = l at hcore hlen
  generalize flagsOf (accOut (s.core c) s.free f.a.toNat (fmtHi f)) = n at hcore
  have hread : ∀ b k, lsRead (t.core c) b k = lsRead (lsWrite (s.core c) (addrOf (s.core c) f.d f) l) b k :=
    fun b k => lsRead_congr (by rw [hcore]; rfl) b k
  refine ⟨hsame, by rw [hcore]; rfl, ?_, fun b hb => ?_⟩
  · rw [hread, ← hlen, lsRead_lsWrite_same]
  · rw [hread, lsRead_lsWrite_of_disjoint _ (by omega)]

theorem accld_answers (h : coreReady s c { d := 2, a := 16, imm := true } f = true) {a : Nat} (ha : a = addrOf (s.core c) f.a f)
    (hls : lsBad a 4096 1 = false) : Answers (.accld c f) s fun t => t = s.setCore c (pcNext { s.core c with acc := (t.core c).acc }) ∧
        (∀ p < 1024, look 0 (t.core c).acc (1024 * f.d.toNat + p) = w32 (leNat (lsRead (s.core c) (a + 4 * p) 4))) ∧
        ∀ p, p < 1024 * f.d.toNat ∨ 1024 * f.d.toNat + 1024 ≤ p → look 0 (t.core c).acc p = look 0 (s.core c).acc p := by
  subst ha
  have hi : exec (.accld c f) s = execAccld c f s := rfl
  unfold execAccld at hi
  have hst : ∀ (x : CoreSt) (m : Nat) (l : List Word), (setAccAll x m l).st = x.st := fun _ _ _ => rfl
  have hans := runCore_answers h hi (by simp [hls]) (hst ..)
  have hword := fun p hp => look_setAccAll_same (m := f.d.toNat) (p := p) hp (s.core c) (fun p => w32 (leNat (lsRead (s.core c) (addrOf (s.core c) f.a f + 4 * p) 4)))
  have hother := fun p hp => look_setAccAll_other (m := f.d.toNat) (p := p) hp (s.core c) (fun p => w32 (leNat (lsRead (s.core c) (addrOf (s.core c) f.a f + 4 * p) 4)))
  generalize (List.range 1024).map (fun p => w32 (leNat (lsRead (s.core c) (addrOf (s.core c) f.a f + 4 * p) 4))) = l at hans hword hother
  refine hans.mono fun t ht => ?_
  obtain ⟨hstate, hcore⟩ := ht
  refine ⟨hstate.trans (by rw [hcore]; rfl), fun p hp => ?_, fun p hp => ?_⟩
  · rw [hcore]
    exact hword p hp
  · rw [hcore]
    exact hother p hp

end

/-- Settles O44: MMA through the words its accumulator takes, the moves through reads of what they wrote. -/
theorem matrixInstructions : Obligations.MatrixInstructions := by
  unfold Obligations.MatrixInstructions
  refine ⟨fun e he c f s x g W rest A m hx hg ht hm h hp hls hrun hfmt hA => ?_, fun c f s x hx => ?_⟩
  · have hi : exec (e.1 c f) s = mma e.2 c f s := by
      fin_cases he <;> rfl
    exact mma_answers hi hx hg ht hm h hp hls hrun hfmt hA
  · subst hx
    exact ⟨fun h hp => ⟨raises_of_faultCore (mma_raises (zero := false) h hp), raises_of_faultCore (mma_raises (zero := true) h hp)⟩,
      accz_answers, accrd_answers, accwr_answers, fun h g a hg hg5 ha hls => accst_answers h hg hg5 ha hls, fun h a ha hls => accld_answers h ha hls⟩

end Sys2Proof.Machine
end

section
/-!
SUPPORT. What the loss of cores, tiles, nets and ports leaves alone.
-/
namespace Sys2Proof.Machine
open Sys2Proof

/-! ### What the loss of cores leaves alone -/

/-- A property of states that neither the token pool nor commands, messages, device memory and spares touch. -/
structure Aside (P : State → Prop) : Prop extends Stable P where
  part : ∀ {t} (g : GridSt) (m : MemSt) (n : Sparse TenantSt) (h : HostSt), P t → P { t with grid := g, mem := m, tenants := n, host := h }
  spare : ∀ {t} k a b c d, P t → P (t.setTile k { t.tile k with spare0 := a, spare1 := b, spare0Lost := c, spare1Lost := d })

section
variable {P : State → Prop} {t : State} (hP : Aside P) (h : P t)
include hP h

theorem setCmd_aside (k : Nat) (v : Option Cmd) : P (t.setCmd k v) := hP.part t.grid t.mem t.tenants _ h

theorem setHost_aside (x : HostSt) : P { t with host := x } := hP.part t.grid t.mem t.tenants x h

theorem setGrid_aside (x : GridSt) : P { t with grid := x } := hP.part x t.mem t.tenants t.host h

theorem setMem_aside (x : MemSt) : P { t with mem := x } := hP.part t.grid x t.tenants t.host h

theorem setTenant_aside (n : Nat) (v : TenantSt) : P (t.setTenant n v) := hP.part t.grid t.mem _ t.host h

theorem modSlotOf_aside (c : Cmd) (f : SlotLedger → SlotLedger) : P (modSlotOf c t f) := by
  unfold modSlotOf modSlots
  split
  · split
    · exact hP.ledgers _ h
    · exact h
  · exact h

theorem modCred_aside (k : Nat) (f : CredRow → CredRow) : P (modCred t k f) := by
  unfold modCred
  split
  · exact hP.ledgers _ h
  · exact h

theorem drainCheck_aside (n : Nat) : P (drainCheck t n) := by
  unfold drainCheck
  dsimp only
  split
  · exact hP.raise _ _ (hP.logEvent _ _ _ _ (setTenant_aside hP h _ _))
  · exact h

theorem freeSlot_aside (k : Nat) : P (freeSlot t k) := by
  unfold freeSlot
  split
  · exact drainCheck_aside hP (modSlotOf_aside hP (setCmd_aside hP h _ _) _ _) _
  · exact h

/-- The tenant's count of aborted commands, where the record says so. -/
theorem countAborted_aside (b : Prop) [Decidable b] (n : Nat) (f : TenantSt → TenantSt) : P (if b then t.modTenant n f else t) := by
  split
  · exact setTenant_aside hP h _ _
  · exact h

theorem completeCmd_aside (k : Nat) (r : CompRec) : P (completeCmd t k r) := by
  unfold completeCmd
  split
  · exact h
  · next c _ =>
    split
    · exact h
    · have hcores := holds_forEach (P := P) (f := fun s n => s.modCore n (fun x => if x.slot = some k then { x with slot := none } else x))
        (fun _ _ hu => hP.core _ _ hu) c.cores h
      dsimp only
      generalize forEach c.cores t _ = u at hcores ⊢
      have hslot := fun b r f => modSlotOf_aside hP (countAborted_aside hP (setHost_aside hP (setCmd_aside hP hcores k r) { (u.setCmd k r).host with nextOrder := u.host.nextOrder + 1 })
        (b = 0x22) c.tenant (fun t => { t with aborted := t.aborted + 1 })) c f
      split
      · exact freeSlot_aside hP (hslot _ _ _) _
      · exact hslot _ _ _

theorem completePlain_aside (k status result detail : Nat) : P (completePlain t k status result detail) := by
  unfold completePlain
  split
  · exact h
  · exact completeCmd_aside hP h _ _

theorem endCmd_aside (k status result detail : Nat) : P (endCmd t k status result detail) := by
  unfold endCmd
  split
  · exact h
  · next c _ =>
    split
    · exact h
    · exact completePlain_aside hP h _ _ _ _
    · split
      · exact h
      · have hstop := holds_forEach (P := P) (f := fun s n =>
          if (s.core n).slot = some k && ((s.core n).st = .running || (s.core n).st = .stopped) then haltCore s n .idle else s)
          (fun u n hu => by
            split
            · exact haltCore_stable hP.toStable hu _ _
            · exact hu) c.cores h
        dsimp only
        split
        · exact setCmd_aside hP hstop _ _
        · exact completeCmd_aside hP hstop _ _

theorem afterCredit_aside (n : Nat) : P (afterCredit t n) := by
  unfold afterCredit
  split
  · exact withdrawGlobal_stable hP.toStable h
  · exact h

theorem returnAll_aside (n : Nat) : P (returnAll t n) := by
  unfold returnAll
  dsimp only [dropTokens, givePool]
  refine afterCredit_aside hP (modTok_stable hP.toStable (modTokOf_stable hP.toStable ?_ n _) _) _
  exact hP.pool _ rfl rfl (withdrawReq_stable hP.toStable (liftClamp_stable hP.toStable h n) n)

theorem releaseBase_aside (k : Nat) : P (releaseBase t k) :=
  baseCovered_stable hP.toStable (noticeTile_stable hP.toStable
    (holds_forEach (P := P) (f := returnAll) (fun _ n hu => returnAll_aside hP hu n) (tileCores t k) h) k true)

theorem orphanCredits_aside (n : Nat) : P (orphanCredits t n) := by
  unfold orphanCredits
  dsimp only
  have hcred := holds_forEach (P := P) (f := fun s e => modCred s (e.1 % 4096 / 8 / 64) (fun r =>
    { r with senderHeld := r.senderHeld - e.2, returning := r.returning + e.2 })) (fun _ e hu => modCred_aside hP hu _ _)
    (t.grid.credits.filter (fun e => e.1 / 4096 = n)) h
  exact setGrid_aside hP hcred _

theorem logWriteOff_aside (l r a n : Nat) : P (logWriteOff t l r a n) := hP.raise _ _ (hP.logEvent _ _ _ _ h)

theorem dropQueue_aside (n q off : Nat) : P (dropQueue t n q off) :=
  hP.core _ _ (setGrid_aside hP (modCred_aside hP h _ _) _)

theorem writeOffQueues_aside (n : Nat) : P (writeOffQueues t n) := by
  unfold writeOffQueues
  refine holds_forEach (fun u q hu => ?_) _ h
  dsimp only
  split
  · exact dropQueue_aside hP hu _ _ _
  · exact logWriteOff_aside hP (dropQueue_aside hP hu _ _ _) _ _ _ _

theorem logLost_aside (page k cause slot phys : Nat) : P (logLost t page k cause slot phys) :=
  hP.raise _ _ (hP.raise _ _ (hP.logEvent _ _ _ _ h))

theorem loseSpare_aside (k j : Nat) : P (loseSpare t k j) := by
  unfold loseSpare
  by_cases hj : j = 0
  · simp only [hj, if_true]
    exact hP.spare k none (t.tile k).spare1 true (t.tile k).spare1Lost h
  · simp only [hj, if_false]
    exact hP.spare k (t.tile k).spare0 none (t.tile k).spare0Lost true h

/-- What follows the loss of a core: its tokens, its queues' credits and the report. -/
theorem coreGone_aside (n k cause slot phys : Nat) (rel : Bool) (v : CoreSt) : P (logLost (orphanCredits
    (if rel = true then baseCovered (noticeTile (returnAll (t.setCore n v) n) k true)
      else writeOffQueues (baseCovered (noticeTile (returnAll (t.setCore n v) n) k true)) n) n) n k cause slot phys) := by
  have hback := baseCovered_stable hP.toStable (noticeTile_stable hP.toStable (returnAll_aside hP (hP.core n v h) n) k true)
  refine logLost_aside hP (orphanCredits_aside hP ?_ n) _ _ _ _ _
  split
  · exact hback
  · exact writeOffQueues_aside hP hback n

theorem loseCore_aside (n cause : Nat) : P (loseCore t n cause) := by
  unfold loseCore
  dsimp only
  split
  · exact h
  · cases servedBy t n with
    | none =>
      cases (t.core n).slot with
      | none => exact coreGone_aside hP h _ _ _ _ _ _ _
      | some k => exact endCmd_aside hP (coreGone_aside hP h _ _ _ _ _ _ _) _ _ _ _
    | some j =>
      have hs := loseSpare_aside hP h (n / 64) j
      dsimp only
      cases ((loseSpare t (n / 64) j).core n).slot with
      | none => exact coreGone_aside hP hs _ _ _ _ _ _ _
      | some k => exact endCmd_aside hP (coreGone_aside hP hs _ _ _ _ _ _ _) _ _ _ _

theorem declareLost_aside (k cause : Nat) : P (declareLost t k cause) := by
  unfold declareLost
  split
  · exact loseCore_aside hP h _ _
  · dsimp only
    split
    · exact loseCore_aside hP h _ _
    · split <;> split
      · exact h
      · exact logLost_aside hP (loseSpare_aside hP h _ _) _ _ _ _ _
      · exact h
      · exact logLost_aside hP (loseSpare_aside hP h _ _) _ _ _ _ _

theorem forceCores_aside (k : Nat) (how : ForceOff) : P (forceCores t k how) := by
  cases how with
  | thermal zone mask =>
    have hcmds := holds_forEach (P := P) (f := fun s k => endCmd s k 0x21 mask zone) (fun u n hu => endCmd_aside hP hu _ _ _ _) (tileCmds t k) h
    unfold forceCores
    dsimp only
    refine holds_forEach (fun u n hu => ?_) _ hcmds
    split
    · exact haltCore_stable hP.toStable hu _ _
    · exact hu
  | lost cause =>
    have hcores := holds_forEach (P := P) (f := fun s n => loseCore s n cause) (fun u n hu => loseCore_aside hP hu _ _)
      ((List.range 64).map (· + 64 * k)) h
    unfold forceCores
    dsimp only
    exact declareLost_aside hP (declareLost_aside hP hcores _ _) _ _

theorem stackLost_aside (k cause : Nat) : P (stackLost t k cause) :=
  hP.raise _ _ (hP.logEvent _ _ _ _ (setMem_aside hP (setMem_aside hP h _) _))

theorem stackRest_aside (k : Nat) : P (stackRest t k) := by
  unfold stackRest
  split
  · exact setMem_aside hP h _
  · exact h

end

/-! ### What the loss of tiles, nets and ports leaves alone -/

/-- A property that the going off of tiles and of their nets does not touch either. -/
structure Offside (P : State → Prop) : Prop extends Aside P where
  tiles : ∀ {t} (x : Sparse TileSt), P t → P { t with tiles := x }
  hdrs : ∀ {t} (x : Sparse PageHdr), P t → P { t with hdrs := x }
  nets : ∀ {t} (x : Sparse NetSt), P t → P { t with nets := x }
  cells : ∀ {t} (x : Sparse CellSt), P t → P { t with cells := x }
  loops : ∀ {t} (x : Sparse LoopSt), P t → P { t with loops := x }
  surveys : ∀ {t} (x : Sparse SurveySt), P t → P { t with surveys := x }
  therm : ∀ {t} (x : ThermSt), P t → P { t with therm := x }
  out : ∀ {t} (x : List Output), P t → P { t with out := x }

/-- A property that rests neither on the power states nor on the AO domain and the links. -/
structure Apart (P : State → Prop) : Prop extends Offside P where
  power : ∀ {t} (x : PowerSt), P t → P { t with power := x }
  ao : ∀ {t} (x : AoSt), P t → P { t with ao := x }
  links : ∀ {t} (x : LinkSt), P t → P { t with links := x }

section
variable {P : State → Prop} {t : State} (hP : Offside P) (h : P t)
include hP h

theorem netHalt_offside (n : Nat) : P (netHalt t n) := by
  unfold netHalt
  split
  · exact hP.nets _ h
  · exact hP.nets _ h
  · exact h

theorem netCellsOff_offside (n : Nat) : P (netCellsOff t n) :=
  holds_forEach (fun _ _ hu => hP.cells _ hu) _ h

theorem netDisable_offside (n : Nat) : P (netDisable t n) := by
  have hoff : ∀ {u : State}, P u → P (if (u.loopE (netDie n)).clk then u else netCellsOff u n) := by
    intro u hu
    split
    · exact hu
    · exact netCellsOff_offside hP hu n
  unfold netDisable
  split
  · exact h
  · exact h
  · refine hP.nets _ ?_
    cases (t.net n).roll with
    | none => exact hoff h
    | some r =>
      obtain ⟨range, slewing, todo, cur, rest⟩ := r
      cases cur with
      | none => exact hoff h
      | some i => exact hoff (hP.cells _ h)

theorem modTally_offside (k : Nat) (f : TallyRow → TallyRow) : P (modTally t k f) := by
  unfold modTally
  split
  · exact hP.ledgers _ h
  · exact h

theorem tileReset_offside (k : Nat) : P (tileReset t k) := by
  unfold tileReset
  dsimp only
  refine modTally_offside hP (modCred_aside hP.toAside (setGrid_aside hP.toAside ?_ _) _ _) _ _
  exact holds_forEach (fun u n hu => hP.core _ _ hu) _ h

theorem tileSettle_offside (k : Nat) (st : TileState) : P (tileSettle t k st) := by
  unfold tileSettle
  dsimp only
  split
  · exact hP.tiles _ h
  · exact hP.logEvent _ _ _ _ (hP.tiles _ (hP.tiles _ h))

theorem tileAtOff_offside (k : Nat) : P (tileAtOff t k) :=
  hP.hdrs _ (tileSettle_offside hP (hP.therm _ (hP.surveys _ (hP.loops _ (hP.tiles _ (tileReset_offside hP h k))))) k .off)

theorem tileFallStep_offside (k : Nat) : P (tileFallStep t k) := by
  unfold tileFallStep
  dsimp only
  split
  · exact h
  · split
    · exact netDisable_offside hP h _
    · split
      · exact netDisable_offside hP h _
      · exact tileAtOff_offside hP h _

theorem tileFall_offside (k : Nat) : P (tileFall t k) :=
  tileFallStep_offside hP (hP.tiles _ (netHalt_offside hP (netHalt_offside hP (stackRest_aside hP.toAside h k) _) _)) k

theorem powerEvent_offside (code sev : Nat) (p : PageRef) (a : List Nat) : P (powerEvent t code sev p a) := by
  unfold powerEvent
  dsimp only
  split
  · exact hP.raise _ _ (hP.logEvent _ _ _ _ h)
  · exact hP.logEvent _ _ _ _ h

theorem noted_offside (old : State) : P (noted old t) := by
  obtain e | e := noted_cases old t <;> rw [e]
  · exact hP.raise _ _ h
  · exact h

theorem signalRise_offside (old : State) (l : List Nat) : P (signalRise old t l) := by
  refine holds_forEach (fun u v hu => ?_) _ h
  split
  · exact hP.out _ hu
  · exact hu

theorem chargeBase_offside (k : Nat) : P (chargeBase t k) := by
  unfold chargeBase
  refine modTok_stable hP.toStable (noticeTile_stable hP.toStable ?_ k false) _
  exact holds_forEach (fun _ _ hu => hP.core _ _ hu) _ h

/-- A step other than the start of the hub begins. -/
theorem beginStep_offside {p : PStep} (hp : p ≠ .wake) : P (beginStep t p) := by
  cases p with
  | wake => exact absurd rfl hp
  | kindle m =>
    unfold beginStep
    exact signalRise_offside hP (holds_forEach (fun _ _ hu => hP.tiles _ hu) _ h) _ _
  | stoke k => exact hP.tiles _ (chargeBase_offside hP h k)
  | unstoke k => exact hP.tiles _ h
  | off m =>
    exact holds_forEach (P := P) (f := tileFall) (fun _ k hu => tileFall_offside hP hu k) _ h
  | bank => exact h

/-- A running transition stops with its step, and tile `k` has failed in it. -/
def stopTrans (s : State) (k : Nat) : State :=
  { s with power := { s.power with trans := s.power.trans.map (fun (tr : Trans) => { tr with stop := true, failed := tr.failed ||| 2 ^ k }) } }

/-- A tile goes Off by force; a running transition stops with it. -/
theorem forceOff_offside (hpower : ∀ {u : State} (x : Option Trans), P u → P { u with power := { u.power with trans := x } })
    (k : Nat) (how : ForceOff) : P (forceOff t k how) := by
  have hfall : ∀ {u : State} (b : Bool), P u → P (if b then u else
      tileFall ((stopTrans (releaseBase u k) k).modTile k (fun x => { x with forced := true, st := .falling })) k) := by
    intro u b hu
    split
    · exact hu
    · exact tileFall_offside hP (hP.tiles _ (hpower _ (releaseBase_aside hP.toAside hu k))) k
  have hcores : ∀ {u : State} (b : Bool), P u → P (if b then u else forceCores u k how) := by
    intro u b hu
    split
    · exact hu
    · exact forceCores_aside hP.toAside hu _ _
  have hstack : P (if how = .lost 4 then stackLost t k 0 else if (t.tile k).forced then t else stackRest t k) := by
    split
    · exact stackLost_aside hP.toAside h _ _
    · split
      · exact h
      · exact stackRest_aside hP.toAside h _
  unfold forceOff
  dsimp only
  split
  · exact h
  · refine hfall _ ?_
    cases how with
    | thermal zone mask => exact hcores _ hstack
    | lost cause => exact hcores _ hstack

end

section
variable {P : State → Prop} {t : State} (hP : Apart P) (h : P t)
include hP h

theorem edgesCheck_apart : P (edgesCheck t) := by
  unfold edgesCheck
  split
  · exact hP.power _ h
  · exact h

theorem writeOffFlits_apart (p : Nat) (f : TxFlit → Bool) : P (writeOffFlits t p f) := by
  have hreplay : ∀ {u : State} (g : ReplayRow → ReplayRow), P u → P (modReplay u p g) := by
    intro u g hu
    unfold modReplay
    split
    · exact hP.ledgers _ hu
    · exact hu
  unfold writeOffFlits
  dsimp only
  split
  · exact h
  · split
    · exact hreplay _ (hP.links _ h)
    · exact logWriteOff_aside hP.toAside (hreplay _ (hP.links _ h)) _ _ _ _

theorem portOff_apart (p : Nat) : P (portOff t p) :=
  holds_forEach (fun _ _ hu => hP.links _ hu) _ (hP.links _ (writeOffFlits_apart hP h p _))

theorem linkSet_apart (l0 : Bool) (rate width : Nat) : P (linkSet t l0 rate width) := by
  have habs : ∀ {u : State}, P u → P (absence u) := by
    intro u hu
    unfold absence
    split <;> exact hP.ao _ hu
  exact hP.raise _ _ (hP.logEvent _ _ _ _ (habs (hP.ao _ h)))

theorem netConsequences_apart {n : Nat} (hn : n < 19) : P (netConsequences t n) := by
  have hports : ∀ l, P (forEach l t portOff) := fun l =>
    holds_forEach (P := P) (f := portOff) (fun _ p hu => portOff_apart hP hu p) l h
  unfold netConsequences
  split
  · have hbar : P (barTile t (n / 2)) := hP.tiles _ h
    exact rejudge_stable hP.toStable (forceOff_offside hP.toOffside hbar (fun _ hu => hP.power _ hu) _ _)
  · split
    · exact edgesCheck_apart hP (hports _)
    · split
      · exact edgesCheck_apart hP (hports _)
      · split
        · refine edgesCheck_apart hP ?_
          split
          · exact linkSet_apart hP h _ _ _
          · exact h
        · omega

theorem netFail_apart {n : Nat} (hn : n < 19) (short : Bool) : P (netFail t n short) := by
  have hevent : P (if short then powerEvent t 0x1062 3 (.net n) [n, (t.net n).voutMv, ioutOf (t.net n).iQ, 0]
      else powerEvent t 0x1069 3 (.net n) [n, capacityMa t n, (cellsIn t n).length, 0]) := by
    split <;> exact powerEvent_offside hP.toOffside h _ _ _ _
  unfold netFail
  dsimp only
  split
  · exact h
  · exact noted_offside hP.toOffside (netConsequences_apart hP (capApply_stable hP.toStable
      (netDisable_offside hP.toOffside (hP.nets _ hevent) n) n) hn) _

theorem faultLearned_apart {i : Nat} (hn : cellNet i < 19) (code : Nat) (args : List Nat) : P (faultLearned t i code args) := by
  unfold faultLearned capacityCheck
  dsimp only
  have hevent : P (if code = 0x1061 then powerEvent t code 3 (.cell i) (args ++ [retiredOf t]) else powerEvent t code 2 (.cell i) args) := by
    split <;> exact powerEvent_offside hP.toOffside h _ _ _ _
  generalize (if code = 0x1061 then powerEvent t code 3 (.cell i) (args ++ [retiredOf t]) else powerEvent t code 2 (.cell i) args) = u at hevent ⊢
  split
  · exact netFail_apart hP (capApply_stable hP.toStable hevent _) hn _
  · exact capApply_stable hP.toStable hevent _

end

theorem apart_hearth (x : HearthSt) : Apart (fun t => t.hearth = x) where
  core _ _ h := h
  pool _ _ _ h := h
  ledgers _ h := h
  cap _ _ h := h
  raise _ _ h := by rwa [raise_hearth]
  logEvent _ _ _ _ h := by rwa [logEvent_hearth]
  part _ _ _ _ h := h
  spare _ _ _ _ _ h := h
  tiles _ h := h
  hdrs _ h := h
  nets _ h := h
  cells _ h := h
  loops _ h := h
  surveys _ h := h
  therm _ h := h
  out _ h := h
  power _ h := h
  ao _ h := h
  links _ h := h

theorem apart_arb (x : ArbSt) : Apart (fun t => t.arb = x) where
  core _ _ h := h
  pool _ _ _ h := h
  ledgers _ h := h
  cap _ _ h := h
  raise _ _ h := by rwa [raise_arb]
  logEvent _ _ _ _ h := by rwa [logEvent_arb]
  part _ _ _ _ h := h
  spare _ _ _ _ _ h := h
  tiles _ h := h
  hdrs _ h := h
  nets _ h := h
  cells _ h := h
  loops _ h := h
  surveys _ h := h
  therm _ h := h
  out _ h := h
  power _ h := h
  ao _ h := h
  links _ h := h

theorem offside_power (x : PowerSt) : Offside (fun t => t.power = x) where
  core _ _ h := h
  pool _ _ _ h := h
  ledgers _ h := h
  cap _ _ h := h
  raise _ _ h := by rwa [raise_power]
  logEvent _ _ _ _ h := by rwa [logEvent_power]
  part _ _ _ _ h := h
  spare _ _ _ _ _ h := h
  tiles _ h := h
  hdrs _ h := h
  nets _ h := h
  cells _ h := h
  loops _ h := h
  surveys _ h := h
  therm _ h := h
  out _ h := h

end Sys2Proof.Machine
end

section
/-!
SUPPORT. Requests of power states (O7).
-/
namespace Sys2Proof.Machine
open Sys2Proof

/-! ### Requests of power states (R33, R57) -/

theorem nextStep_ne_wake {s : State} {r : PwrReq} {failed : Nat} (hready : isReady s = true) : nextStep s r failed ≠ some .wake := by
  intro h
  simp only [nextStep, hready, Bool.not_true, Bool.false_eq_true, if_false] at h
  generalize (if (decide (r.target = 0) || decide (r.target = 3) || decide (r.target = 4)) = true then r.tiles.toNat &&& 255 - failed % 256
    else 255 - failed % 256) = m at h
  have hmap : ∀ (l : List Nat) (f : Nat → PStep), (∀ k, f k ≠ .wake) → l.head?.map f ≠ some .wake := by
    intro l f hf e
    obtain ⟨t, -, e⟩ := Option.map_eq_some_iff.1 e
    exact hf t e
  split at h
  · split at h
    · cases h
    · exact hmap _ _ (fun _ => by simp) h
  · split at h
    · split at h
      · cases h
      · exact hmap _ _ (fun _ => by simp) h
    · split at h
      · cases h
      · split at h
        · cases h
        · split at h <;> cases h

theorem caused_setResult {s : State} (hon : hubOn s = true) {o : Nat} (ho : o = 0 ∨ o = 3) (c w r : Nat) : caused (setResult s o c w r) .boot 2 = true := by
  have hon' : hubOn { s with power := { s.power with outcome := o, code := c, requester := w % 4, reached := BitVec.ofNat 8 r } } = true := hon
  unfold setResult
  dsimp only
  rw [hon', if_pos (by obtain rfl | rfl := ho <;> rfl)]
  exact caused_raise_same _ _ (by decide)

/-- A request whose step may begin, made while nothing moves. -/
theorem startReq_runs {s : State} {r : PwrReq} (hready : isReady s = true) {p : PStep} (hp : nextStep s r 0 = some p) (hc : stepCheck s p = .ok) :
    (startReq s r).power.trans = some { req := r, cur := p } ∧ (startReq s r).power.outcome = 1 := by
  have hne : p ≠ .wake := fun e => nextStep_ne_wake hready (e ▸ hp)
  have hbegin := beginStep_offside (offside_power { s.power with trans := some { req := r, cur := p } }) (t := { s with power := { s.power with
    trans := some { req := r, cur := p } } }) rfl hne
  unfold startReq
  simp only [hp, hc]
  rw [(setResult_frame _ _ _ _ _).2, hbegin]
  exact ⟨rfl, rfl⟩

theorem startReq_done {s : State} {r : PwrReq} (hready : isReady s = true) (hp : nextStep s r 0 = none) : (startReq s r).tiles = s.tiles ∧
    caused (startReq s r) .boot 2 = true ∧ (startReq s r).power =
      { s.power with outcome := 0, code := 0, requester := r.requester % 4, reached := BitVec.ofNat 8 (reachedMask s r) } := by
  unfold startReq
  simp only [hp]
  exact ⟨(setResult_frame _ _ _ _ _).1, caused_setResult (isReady_hubOn hready) (.inl rfl) _ _ _, (setResult_frame _ _ _ _ _).2⟩

theorem acceptReq_starts {s : State} (hready : isReady s = true) (ht : s.power.trans = none) (hf : anyTile s .falling = false)
    (hr : anyTile s .rising = false) (r : PwrReq) : acceptReq s r = startReq s r := by
  have hst : s.power.stage = .ready := by simpa [isReady] using hready
  unfold acceptReq
  simp [ht, hf, hr, hst]

theorem acceptReq_waits {s : State} (ht : s.power.trans.isSome = true) (r : PwrReq) : (acceptReq s r).tiles = s.tiles ∧
    (acceptReq s r).power.pending = some r ∧ (acceptReq s r).power.trans = s.power.trans ∧ (acceptReq s r).power.outcome = 2 := by
  unfold acceptReq
  simp only [ht, Bool.true_or, if_true]
  rw [(setResult_frame _ _ _ _ _).1, (setResult_frame _ _ _ _ _).2]
  cases s.power.pending with
  | none => exact ⟨rfl, rfl, rfl, rfl⟩
  | some o => exact ⟨logEvent_tiles _ _ _ _ _, rfl, (congrArg PowerSt.trans (logEvent_power s _ _ _ _) :), rfl⟩

/-! ### Writes of PWR_REQ -/

/-- The request a write of PWR_REQ makes. -/
def writtenReq (w : RegWrite) : PwrReq := ⟨fld w.value.toNat 0 4, BitVec.ofNat 8 (fld w.value.toNat 8 8), w.master.num⟩

section
variable {w : RegWrite} {s : State} (hvf : ∀ n, w.master ≠ .vf n) (hw : writeOk s .boot w = true)
include hvf hw

theorem writePwrReq_accepts (hfull : w.full = true) (hl : reqLegal (writtenReq w) = true) (hc : reqCheck s (writtenReq w) = .ok) :
    (writePwrReq w s).1 = noted s (acceptReq s (writtenReq w)) := by
  unfold writePwrReq
  dsimp only
  refine guarded_passes hw _ ?_
  simp only [writtenReq] at hl hc
  simp only [Checks.pass, hl, hc, hfull]
  rfl

theorem writePwrReq_refuses (hl : reqLegal (writtenReq w) = false) (hc : reqCheck s (writtenReq w) ≠ .tripped) :
    (writePwrReq w s).1 = recordRefusal s .boot 0x48 w.master .outOfRange := by
  unfold writePwrReq
  dsimp only
  refine guarded_refuses hw _ ?_ (by decide)
  simp only [writtenReq] at hl hc
  rw [judge_of_writeOk hw]
  simp [hl, hc]

theorem request_runs (hfull : w.full = true) (hl : reqLegal (writtenReq w) = true) (hc : reqCheck s (writtenReq w) = .ok)
    (ht : s.power.trans = none) (hf : anyTile s .falling = false) (hr : anyTile s .rising = false) {i : Instr}
    (hi : exec i s = .next (writePwrReq w s).1) : Answers i s fun t =>
    (nextStep s (writtenReq w) 0 = none → t.power =
      { s.power with outcome := 0, code := 0, requester := (writtenReq w).requester % 4, reached := BitVec.ofNat 8 (reachedMask s (writtenReq w)) } ∧ caused t .boot 2 = true ∧ t.tiles = s.tiles) ∧
    ∀ p, nextStep s (writtenReq w) 0 = some p → t.power.trans = some { req := writtenReq w, cur := p } ∧ t.power.outcome = 1 := by
  have hready := (writeOk_iff s _ w).mp hw |>.1
  rw [writePwrReq_accepts hvf hw hfull hl hc, acceptReq_starts hready ht hf hr] at hi
  refine ⟨_, hi, fun hn => ?_, fun p hp => ?_⟩
  · obtain ⟨htiles, hcaused, hpower⟩ := startReq_done hready hn
    exact ⟨(noted_tiles _ _).2.trans hpower, caused_noted _ hcaused, (noted_tiles _ _).1.trans htiles⟩
  · have hstep : stepCheck s p = .ok := by
      simpa [reqCheck, ht, hf, hr, hp] using hc
    rw [(noted_tiles _ _).2]
    exact startReq_runs hready hp hstep

theorem request_waits (hfull : w.full = true) (hl : reqLegal (writtenReq w) = true) (ht : s.power.trans.isSome = true) {i : Instr}
    (hi : exec i s = .next (writePwrReq w s).1) : Answers i s fun t =>
    t.power.pending = some (writtenReq w) ∧ t.power.trans = s.power.trans ∧ t.power.outcome = 2 ∧ t.tiles = s.tiles := by
  have hc : reqCheck s (writtenReq w) = .ok := by simp [reqCheck, ht]
  rw [writePwrReq_accepts hvf hw hfull hl hc] at hi
  obtain ⟨htiles, hpending, htrans, hout⟩ := acceptReq_waits ht (writtenReq w)
  obtain ⟨hnt, hnp⟩ := noted_tiles s (acceptReq s (writtenReq w))
  exact ⟨_, hi, (congrArg PowerSt.pending hnp).trans hpending, (congrArg PowerSt.trans hnp).trans htrans,
    (congrArg PowerSt.outcome hnp).trans hout, hnt.trans htiles⟩

theorem request_refused (hl : reqLegal (writtenReq w) = false) (hc : reqCheck s (writtenReq w) ≠ .tripped) {i : Instr}
    (hi : exec i s = .next (writePwrReq w s).1) : Answers i s fun t =>
    t.power = s.power ∧ t.tiles = s.tiles ∧ (t.hdr .boot).lastRefusal = word [(0, 0x03), (8, 0x48), (24, w.master.num)] ∧
    (t.hdr .boot).errCount = satInc (s.hdr .boot).errCount 0xFFFF := by
  rw [writePwrReq_refuses hvf hw hl hc] at hi
  refine ⟨_, hi, recordRefusal_power .., recordRefusal_tiles .., recordRefusal_last .., ?_⟩
  rw [recordRefusal_hdr, if_pos rfl]

end

/-- Settles O7: the five commands are writes of PWR_REQ; what they start is a step that keeps the request. -/
theorem powerRequestsRunWaitOrAreRefused : Obligations.PowerRequestsRunWaitOrAreRefused := by
  unfold Obligations.PowerRequestsRunWaitOrAreRefused
  refine ⟨fun e he w s hv hfull hvf hw ht hf hr r hreq hl hc => ?_, fun i hi w s hvf hw r hreq => ?_⟩
  · have hx : exec (e.2 w) s = .next (writePwrReq w s).1 := by
      fin_cases he <;> rfl
    rw [← hv] at hreq
    subst hreq
    exact request_runs hvf hw hfull hl hc ht hf hr hx
  · have hx : exec (i w) s = .next (writePwrReq w s).1 := by
      fin_cases hi <;> rfl
    subst hreq
    exact ⟨fun ht hfull hl => request_waits hvf hw hfull hl ht hx, fun hl _ hc => request_refused hvf hw hl hc hx⟩

end Sys2Proof.Machine
end

section
/-!
SUPPORT. The host's link, its resets and its absence (O9).
-/
namespace Sys2Proof.Machine
open Sys2Proof

/-! ### The host's absence and its link (R91, R499) -/

theorem linkSet_ao (s : State) (l0 : Bool) (rate width : Nat) : (linkSet s l0 rate width).ao =
    (absence { s with ao := { s.ao with l0 := l0, rate := if l0 then rate else 0, width := if l0 then width else 0 } }).ao := by
  unfold linkSet
  dsimp only
  rw [raise_ao, logEvent_ao]

theorem linkSet_caused (s : State) (l0 : Bool) (rate width : Nat) : caused (linkSet s l0 rate width) .hostif 0 = true :=
  caused_raise_same _ _ (by decide)

theorem absence_present {s : State} (hl : s.ao.l0 = true) (hp : s.ao.perst = false) :
    (absence s).ao = { s.ao with absentSince := none, hostAbsent := false } := by
  unfold absence
  simp [hl, hp]

theorem absence_absent {s : State} (h : s.ao.l0 = false ∨ s.ao.perst = true) :
    absence s = { s with ao := { s.ao with absentSince := some (s.ao.absentSince.getD s.ao.ticks) } } := by
  unfold absence
  rw [if_neg (by obtain h | h := h <;> simp [h])]

theorem perst_released (s : State) : Answers (.perstNChange false) s fun t => t.ao.perst = false ∧ t.host = s.host ∧ t.out = s.out := by
  have hx : exec (.perstNChange false) s = .next (absence { s with ao := { s.ao with perst := false } }) := rfl
  refine ⟨_, hx, ?_⟩
  unfold absence
  split <;> exact ⟨rfl, rfl, rfl⟩

theorem link_up {rate width : Nat} {s : State} (hd : dieOn s 10 = true) (hp : s.ao.perst = false) (hm : linkModeOk rate width = true) :
    Answers (.pcieLinkChange true rate width) s fun t =>
      t.ao.l0 = true ∧ t.ao.rate = rate ∧ t.ao.width = width ∧ t.ao.absentSince = none ∧ t.ao.hostAbsent = false ∧ caused t .hostif 0 = true := by
  have hx : exec (.pcieLinkChange true rate width) s = execPcieLinkChange true rate width s := rfl
  have hao : (linkSet s true rate width).ao = { s.ao with l0 := true, rate := rate, width := width, absentSince := none, hostAbsent := false } := by
    rw [linkSet_ao, absence_present]
    · rfl
    · rfl
    · exact hp
  unfold execPcieLinkChange at hx
  rw [if_neg (by simp [hd, hp, hm])] at hx
  refine ⟨_, hx, ?_⟩
  beta_reduce
  rw [hao]
  exact ⟨rfl, rfl, rfl, rfl, rfl, linkSet_caused _ _ _ _⟩

theorem link_down {rate width : Nat} {s : State} (hd : dieOn s 10 = true) : Answers (.pcieLinkChange false rate width) s fun t =>
    t.ao.l0 = false ∧ t.ao.rate = 0 ∧ t.ao.width = 0 ∧ t.ao.absentSince.isSome = true ∧ caused t .hostif 0 = true := by
  have hx : exec (.pcieLinkChange false rate width) s = execPcieLinkChange false rate width s := rfl
  unfold execPcieLinkChange at hx
  rw [if_neg (by simp [hd])] at hx
  refine ⟨_, hx, ?_⟩
  have hao := linkSet_ao s false rate width
  rw [absence_absent (.inl rfl)] at hao
  beta_reduce
  rw [hao]
  exact ⟨rfl, rfl, rfl, rfl, linkSet_caused _ _ _ _⟩

theorem hostAbsent_shows {s : State} (hon : hubOn s = true) (hh : s.ao.hostAbsent = false) (hl : absentLong s = true) :
    Answers .hostAbsent s fun t => t.ao.hostAbsent = true ∧ caused t .arbiter 2 = true := by
  have hx : exec .hostAbsent s = execHostAbsent s := rfl
  unfold execHostAbsent at hx
  rw [if_neg (by simp [hon, hh, hl])] at hx
  exact ⟨_, hx, congrArg AoSt.hostAbsent (raise_ao _ _ _), caused_raise_same _ _ (by decide)⟩

theorem hostAbsent_early {s : State} (hl : absentLong s = false) : exec .hostAbsent s = .next s := by
  have hx : exec .hostAbsent s = execHostAbsent s := rfl
  unfold execHostAbsent at hx
  rw [hx, if_pos (by simp [hl])]

/-! ### Configuration requests (R474) -/

theorem cfgRead_congr {s t : State} {fn : Option Nat} (h : pcieOf t fn = pcieOf s fn) (f : CfgField) : cfgRead t fn f = cfgRead s fn f := by
  cases f <;> simp [cfgRead, h]

theorem pcieOf_emit (s : State) (o : Output) (fn : Option Nat) : pcieOf (emit s o) fn = pcieOf s fn := rfl

section
variable {tag : Nat} {r : CfgReq} {s : State} (hd : dieOn s 10 = true) (hp : s.ao.perst = false) (hf : ∀ n, r.fn = some n → n < 32)
include hd hp hf

theorem pcieConfigRequest_eq : exec (.pcieConfigRequest tag r) s =
    if isReady s = true then .next (cfgDone s tag r) else .next (emit s (.cfg tag true 0)) := by
  have hx : exec (.pcieConfigRequest tag r) s = execPcieConfigRequest tag r s := rfl
  have hfn : r.fn.all (· < 32) = true := by
    cases hr : r.fn with
    | none => rfl
    | some n => simpa using hf n hr
  rw [hx]
  unfold execPcieConfigRequest
  rw [if_neg (by simp [hd, hp, hfn])]
  cases isReady s <;> rfl

theorem config_written (hready : isReady s = true) {v : Nat} (hv : r.write = some v) : Answers (.pcieConfigRequest tag r) s fun t =>
      t.out = s.out ++ [.cfg tag false (cfgRead t r.fn r.field)] ∧ t.cells = s.cells ∧ t.mem = s.mem ∧
      (r.field = .maxPayload → (v = 128 ∨ v = 256 ∨ v = 512) → cfgRead t r.fn r.field = v) ∧
      (∀ fn f, fnNo fn ≠ fnNo r.fn → cfgRead t fn f = cfgRead s fn f) := by
  have hx := pcieConfigRequest_eq (tag := tag) hd hp hf
  rw [if_pos hready] at hx
  refine ⟨_, hx, ?_⟩
  unfold cfgDone
  simp only [hv]
  have hsame : ∀ t : State, pcieOf { t with host := { t.host with pcie := put {} t.host.pcie (fnNo r.fn) (cfgWrite (pcieOf s r.fn) r.field v) } } r.fn =
      cfgWrite (pcieOf s r.fn) r.field v := fun t => by simp [pcieOf]
  refine ⟨rfl, rfl, rfl, fun hfield hval => ?_, fun fn f hne => ?_⟩
  · rw [cfgRead_congr (pcieOf_emit _ _ _)]
    simp only [hfield, cfgRead]
    rw [← hfield, hsame]
    obtain rfl | rfl | rfl := hval <;> simp [cfgWrite, hfield]
  · rw [cfgRead_congr (pcieOf_emit _ _ _)]
    exact cfgRead_congr (by simp [pcieOf, hne]) f

end

/-! ### Resets of the host's part (R498) -/

section
variable {P : State → Prop} {t : State} (hP : Offside P) (h : P t)
include hP h

theorem modCmd_offside (k : Nat) (f : Cmd → Cmd) : P (t.modCmd k f) := setCmd_aside hP.toAside h _ _

theorem drainReads_offside (n : Nat) (b : Bool) : P (drainReads t n b) := by
  unfold drainReads
  split
  · exact setHost_aside hP.toAside h _
  · exact h

theorem stopForAbort_offside (k : Nat) (c : Cmd) : P (stopForAbort t k c) := by
  have hstop : P (forEach (stillRunning t k c) t stopCore) :=
    holds_forEach (P := P) (f := stopCore) (fun _ _ hu => hP.core _ _ hu) _ h
  unfold stopForAbort abortCheck
  split
  · split
    · exact endCmd_aside hP.toAside hstop _ _ _ _
    · exact hstop
  · exact hstop

theorem abortCmd_offside (k : Nat) : P (abortCmd t k) := by
  unfold abortCmd
  split
  · exact h
  · next c _ =>
    split
    · exact h
    · split
      · exact completePlain_aside hP.toAside h _ _ _ _
      · exact h
    · split
      · exact h
      · dsimp only
        have hk := modCmd_offside hP h k (fun x => { x with aborting := true })
        split
        · exact stopForAbort_offside hP hk _ _
        · exact stopForAbort_offside hP (modCmd_offside hP hk _ _) _ _
        · exact hk
        · exact endCmd_aside hP.toAside hk _ _ _ _
        · exact hk

theorem discardQueue_offside (q : Nat) : P (discardQueue t q) := by
  refine holds_forEach (fun u k hu => ?_) _ h
  have hk := modCmd_offside hP hu k (fun c => { c with discard := true })
  dsimp only
  split
  · split
    · exact freeSlot_aside hP.toAside hk _
    · split
      · exact completePlain_aside hP.toAside hk _ _ _ _
      · exact hk
  · exact hk

theorem raiseQueue_offside (q i : Nat) : P (raiseQueue t q i) := by
  unfold raiseQueue
  split
  · dsimp only
    split
    · exact hP.out _ (setHost_aside hP.toAside h _)
    · exact setHost_aside hP.toAside h _
  · exact hP.raise _ _ h

theorem resetQueue_offside (q : Nat) : P (resetQueue t q) :=
  raiseQueue_offside hP (setHost_aside hP.toAside (setHost_aside hP.toAside h _) _) q 2

theorem hostReset_offside (cause tenant : Nat) (ts qs : List Nat) : P (hostReset t cause tenant ts qs) := by
  have hmark : ∀ {u : State} (q : Nat), P u → P (forEach ((queueCmds u q).map (·.1)) u (fun s k => s.modCmd k (fun c => { c with discard := true }))) :=
    fun q hu => holds_forEach (P := P) (fun _ k hv => modCmd_offside hP hv k _) _ hu
  have habort : ∀ {u : State} (n : Nat), P u → P (abortDrain u n) :=
    fun n hu => holds_forEach (P := P) (f := abortCmd) (fun _ k hv => abortCmd_offside hP hv k) _ hu
  have hstart : ∀ {u : State} (n : Nat), P u → P (resetDrainStart u n) :=
    fun n hu => drainReads_offside hP (setTenant_aside hP.toAside hu _ _) n true
  unfold hostReset
  refine hP.raise _ _ (hP.logEvent _ _ _ _ (holds_forEach (P := P) (fun u n hu => drainCheck_aside hP.toAside (setTenant_aside hP.toAside hu _ _) n) _ ?_))
  refine holds_forEach (P := P) (fun u q hu => resetQueue_offside hP (discardQueue_offside hP hu q) q) _ (rejudge_stable hP.toStable ?_)
  exact holds_forEach (P := P) (f := abortDrain) (fun _ n hu => habort n hu) _ (holds_forEach (P := P) (f := resetDrainStart) (fun _ n hu => hstart n hu) _
    (holds_forEach (P := P) (fun _ q hu => hmark q hu) _ h))

end

theorem offside_ao (x : AoSt) : Offside (fun t => t.ao = x) where
  core _ _ h := h
  pool _ _ _ h := h
  ledgers _ h := h
  cap _ _ h := h
  raise _ _ h := by rwa [raise_ao]
  logEvent _ _ _ _ h := by rwa [logEvent_ao]
  part _ _ _ _ h := h
  spare _ _ _ _ _ h := h
  tiles _ h := h
  hdrs _ h := h
  nets _ h := h
  cells _ h := h
  loops _ h := h
  surveys _ h := h
  therm _ h := h
  out _ h := h

/-! ### Queues after a reset -/

/-- What each step of a list brings about and no step undoes holds of every element in the end. -/
theorem forEach_establishes {α : Type} {P : α → State → Prop} {f : State → α → State} (hest : ∀ t a, P a (f t a))
    (hkeep : ∀ t a b, P a t → P a (f t b)) (l : List α) {a : α} (ha : a ∈ l) (t : State) : P a (forEach l t f) := by
  induction l generalizing t with
  | nil => cases ha
  | cons b l ih =>
    cases ha with
    | head => exact holds_forEach (P := P a) (fun u b hu => hkeep u a b hu) l (hest t a)
    | tail _ ha => exact ih ha (f t b)

theorem queue_congr {s t : State} (h : t.host.queues = s.host.queues) (q : Nat) : t.queue q = s.queue q := by
  rw [State.queue, h, State.queue]

theorem freeSlot_queues (s : State) (k : Nat) : (freeSlot s k).host.queues = s.host.queues := by
  unfold freeSlot
  split
  · dsimp only
    rw [drainCheck_host, modSlotOf_host]
    rfl
  · rfl

theorem completePlain_queues (s : State) (k status result detail : Nat) : (completePlain s k status result detail).host.queues = s.host.queues := by
  have hcores : ∀ (l : List Nat) (f : CoreSt → CoreSt), (forEach l s fun s n => s.modCore n f).host.queues = s.host.queues := by
    intro l f
    refine forEach_keeps (fun t => t.host.queues) l _ (fun t n _ => ?_) s
    rfl
  unfold completePlain completeCmd
  split
  · rfl
  · next c _ =>
    dsimp only
    split
    · rfl
    · split
      · rw [freeSlot_queues, modSlotOf_host]
        split <;> exact hcores _ _
      · rw [modSlotOf_host]
        split <;> exact hcores _ _

theorem discardQueue_queues (s : State) (q : Nat) : (discardQueue s q).host.queues = s.host.queues := by
  refine forEach_keeps (fun t => t.host.queues) _ _ (fun t k _ => ?_) s
  dsimp only
  split
  · split
    · exact freeSlot_queues _ _
    · split
      · exact completePlain_queues _ _ _ _ _
      · rfl
  · rfl

theorem raiseQueue_enable (s : State) (q i j : Nat) : ((raiseQueue s q i).queue j).enable = (s.queue j).enable := by
  have hmod : ∀ x : QueueSt, x.enable = (s.queue q).enable → ((s.setQueue q x).queue j).enable = (s.queue j).enable := by
    intro x hx
    rw [State.setQueue_queue]
    split
    · next hj => rw [hj, hx]
    · rfl
  unfold raiseQueue
  split
  · dsimp only
    split
    · exact hmod _ rfl
    · exact hmod _ rfl
  · rw [queue_congr (congrArg HostSt.queues (raise_host s (.queue q) i))]

theorem resetQueue_enable (s : State) (q j : Nat) (h : j = q ∨ (s.queue j).enable = false) : ((resetQueue s q).queue j).enable = false := by
  unfold resetQueue
  rw [raiseQueue_enable]
  refine (congrArg QueueSt.enable (State.setQueue_queue s q j _)).trans ?_
  split
  · rfl
  · exact h.resolve_left ‹_›

theorem hostReset_disables (s : State) (cause tenant : Nat) (ts qs : List Nat) {q : Nat} (hq : q ∈ qs) :
    ((hostReset s cause tenant ts qs).queue q).enable = false := by
  have hreset : ∀ u : State, ((forEach qs u fun s q => resetQueue (discardQueue s q) q).queue q).enable = false := fun u =>
    forEach_establishes (P := fun q t => (t.queue q).enable = false) (fun t a => resetQueue_enable _ _ _ (.inl rfl))
      (fun t a b ha => resetQueue_enable _ _ _ (.inr (by rw [queue_congr (discardQueue_queues t b), ha]))) qs hq u
  have hlimit : ∀ u : State, (forEach ts u fun s n => drainCheck (s.modTenant n (fun t => { t with slotLimit := 8 })) n).queue q = u.queue q := by
    intro u
    refine forEach_keeps (fun t => t.queue q) ts _ (fun t n _ => ?_) u
    exact queue_congr (congrArg HostSt.queues (drainCheck_host _ _)) q
  unfold hostReset
  dsimp only
  rw [queue_congr (congrArg HostSt.queues ((raise_host _ _ _).trans (logEvent_host _ _ _ _ _)))]
  rw [hlimit]
  exact hreset _

theorem perst_asserted {s : State} (hd : dieOn s 10 = true) (hp : s.ao.perst = false) : Answers (.perstNChange true) s fun t =>
    t.ao.perst = true ∧ t.ao.l0 = false ∧ ∀ q < 258, (t.queue q).enable = false := by
  have hx : exec (.perstNChange true) s = execPerstNChange true s := rfl
  have hd' : dieOn s 10 = true := hd
  unfold execPerstNChange at hx
  dsimp only at hx
  rw [if_neg (by simp [hp, hd'])] at hx
  refine ⟨_, hx, ?_⟩
  beta_reduce
  have hao : ∀ u : State, (hostReset u 0 0xFF allTenants allQueues).ao = u.ao := fun u => hostReset_offside (offside_ao u.ao) rfl _ _ _ _
  have hoff : ∀ q < 258, q ∈ allQueues := fun q hq => List.mem_range.mpr hq
  rw [hao]
  refine ⟨?_, ?_, fun q hq => hostReset_disables _ _ _ _ _ (hoff q hq)⟩ <;> dsimp only
  · split
    · rw [linkSet_ao, absence_absent (.inl rfl)]
    · rw [absence_absent (.inr rfl)]
  · split
    · rw [linkSet_ao, absence_absent (.inl rfl)]
    · next h => rw [absence_absent (.inr rfl)]; simpa using h

theorem flr_disables {s : State} (hready : isReady s = true) (hl : s.ao.l0 = true) {n : Nat} (hn : n < 32) :
    (Answers (.functionLevelReset (.vf n)) s fun t => ∀ k < 8, (t.queue (8 * n + k)).enable = false) ∧
    (Answers (.functionLevelReset .pf0) s fun t => ∀ q < 258, (t.queue q).enable = false) := by
  have hx : ∀ f, exec (.functionLevelReset f) s = execFunctionLevelReset f s := fun _ => rfl
  constructor
  · have hv := hx (.vf n)
    unfold execFunctionLevelReset at hv
    rw [if_neg (by simp [hready, hl])] at hv
    dsimp only at hv
    rw [if_pos hn] at hv
    refine ⟨_, hv, fun k hk => hostReset_disables _ _ _ _ _ ?_⟩
    exact List.mem_map.mpr ⟨k, List.mem_range.mpr hk, Nat.add_comm _ _⟩
  · have hv := hx .pf0
    unfold execFunctionLevelReset at hv
    rw [if_neg (by simp [hready, hl])] at hv
    exact ⟨_, hv, fun q hq => hostReset_disables _ _ _ _ _ (List.mem_range.mpr hq)⟩

/-- Settles O9: the link through what `linkSet` leaves, resets through the queues they go over. -/
theorem hostLinkEvents : Obligations.HostLinkEvents := by
  unfold Obligations.HostLinkEvents
  refine ⟨perst_released, fun s hd hp => perst_asserted hd hp, fun n s hr hl hn => flr_disables hr hl hn, fun rate width s hd hp hm => link_up hd hp hm,
    fun rate width s hd => link_down hd, fun tag r s hd hp hf => ⟨fun hr => ?_, fun hr hw => ?_, fun hr v hv => config_written hd hp hf hr hv⟩,
    fun s hon hh hl => hostAbsent_shows hon hh hl, fun s hl => hostAbsent_early hl⟩
  · rw [pcieConfigRequest_eq hd hp hf, hr, if_neg (by simp)]
  · rw [pcieConfigRequest_eq hd hp hf, if_pos hr]
    unfold cfgDone
    rw [hw]

end Sys2Proof.Machine
end

section
/-!
SUPPORT. The hub's start and loss, tiles taken Off, and the rails (O4).
-/
namespace Sys2Proof.Machine
open Sys2Proof

/-! ### The hub starts and is lost (R53, R58) -/

/-- What the AO domain holds when the hub has lost its power. -/
def lostAo (a : AoSt) : AoSt := { a with l0 := false, rate := 0, width := 0, absentSince := some (a.absentSince.getD a.ticks) }

theorem hubLost_ao (s : State) (b : BootStage) : (hubLost s b).ao = lostAo s.ao := by
  unfold hubLost
  rw [absence_absent (.inl rfl)]
  rfl

theorem hubLost_empties (s : State) (b : BootStage) : (hubLost s b).power.stage = b ∧ (hubLost s b).tiles = [] ∧ (hubLost s b).nets = [] ∧
    (hubLost s b).cores = [] ∧ (hubLost s b).mem = {} ∧ (hubLost s b).host = {} ∧ (hubLost s b).cal = s.cal := by
  unfold hubLost
  rw [absence_absent (.inl rfl)]
  exact ⟨rfl, rfl, rfl, rfl, rfl, rfl, rfl⟩

theorem hubStart_ao (s : State) : (hubStart s).ao.vsb = s.ao.vsb ∧ (hubStart s).ao.vin = s.ao.vin ∧ (hubStart s).ao.tmbAddr = s.ao.tmbAddr ∧
    (hubStart s).ao.ticks = s.ao.ticks ∧ (hubStart s).ao.retention = [] := by
  have hao := hubLost_ao s .pll
  refine ⟨(congrArg AoSt.vsb hao).trans rfl, (congrArg AoSt.vin hao).trans rfl, (congrArg AoSt.tmbAddr hao).trans rfl,
    (congrArg AoSt.ticks hao).trans rfl, rfl⟩

theorem hubStart_trip (s : State) : (hubStart s).trip = s.trip := hubLost_trip s .pll

theorem setResult_off {s : State} (h : hubOn s = false) (o c w r : Nat) : setResult s o c w r =
    { s with power := { s.power with outcome := o, code := c, requester := w % 4, reached := BitVec.ofNat 8 r } } := by
  have h' : hubOn { s with power := { s.power with outcome := o, code := c, requester := w % 4, reached := BitVec.ofNat 8 r } } = false := h
  unfold setResult
  dsimp only
  rw [h']
  rfl

theorem settleLost_off {s : State} (h : hubOn s = false) (r : PwrReq) (c : RefCode) : ∃ o d w e, settleLost s r c =
    { s with power := { s.power with outcome := o, code := d, requester := w, reached := e } } := by
  unfold settleLost
  split <;> exact ⟨_, _, _, _, setResult_off h _ _ _ _⟩

theorem cutRequest_off {s : State} (h : hubOn s = false) (old : State) (c : RefCode) : ∃ o d w e, cutRequest old s c =
    { s with power := { s.power with outcome := o, code := d, requester := w, reached := e } } := by
  unfold cutRequest
  split
  · exact settleLost_off h _ _
  · exact settleLost_off h _ _
  · exact ⟨_, _, _, _, rfl⟩

/-- VIN is lost: the package is Banked, with event 0x1011 in retention memory. -/
theorem bankAtOnce_frame (s : State) : (bankAtOnce s).power.stage = .banked ∧ (bankAtOnce s).tiles = [] ∧ (bankAtOnce s).nets = [] ∧
    (bankAtOnce s).cores = [] ∧ (bankAtOnce s).mem = {} ∧ (bankAtOnce s).host = {} ∧ (bankAtOnce s).cal = s.cal ∧
    (bankAtOnce s).ao.vin = s.ao.vin ∧ (bankAtOnce s).ao.vsb = s.ao.vsb ∧ (bankAtOnce s).ao.retention.getLast?.map (·.code) = some 0x1011 := by
  obtain ⟨hstage, htiles, hnets, hcores, hmem, hhost, hcal⟩ := hubLost_empties s .banked
  have hao := hubLost_ao s .banked
  have hlast := retainEvent_last (hubLost s .banked) 0x1011 3 .boot [pkgCode s, liveMask s, 0, 0]
  have hret : ∃ r, retainEvent (hubLost s .banked) 0x1011 3 .boot [pkgCode s, liveMask s, 0, 0] =
      { hubLost s .banked with ao := { (hubLost s .banked).ao with retention := r } } := ⟨_, rfl⟩
  obtain ⟨l, hl⟩ := hret
  have hoff : hubOn { hubLost s .banked with ao := { (hubLost s .banked).ao with retention := l } } = false := by
    simp [hubOn, hstage]
  obtain ⟨o, d, w, e, hcut⟩ := cutRequest_off hoff s .wrongState
  unfold bankAtOnce
  dsimp only
  rw [hl] at hlast ⊢
  rw [hcut]
  exact ⟨hstage, htiles, hnets, hcores, hmem, hhost, hcal, (congrArg AoSt.vin hao :), (congrArg AoSt.vsb hao :), (congrArg (Option.map (·.code)) hlast :)⟩

/-! ### VSB and VIN -/

theorem vsbValid_starts (a : BitVec 5) {s : State} (h : s.ao.vsb = false) : Answers (.vsbValid a) s fun t =>
    t.ao.vsb = true ∧ t.ao.tmbAddr = a ∧ t.ao.ticks = 0 ∧ t.trip = s.trip := by
  have hx : exec (.vsbValid a) s = execVsbValid a s := rfl
  unfold execVsbValid at hx
  rw [if_neg (by simp [h])] at hx
  refine ⟨_, hx, ?_⟩
  have hu : ∀ u : State, (absence u).ao.vsb = u.ao.vsb ∧ (absence u).ao.tmbAddr = u.ao.tmbAddr ∧ (absence u).ao.ticks = u.ao.ticks ∧ (absence u).trip = u.trip := by
    intro u
    unfold absence
    split <;> exact ⟨rfl, rfl, rfl, rfl⟩
  obtain ⟨hvsb, haddr, hticks, htrip⟩ := hu { s with ao := { s.ao with vsb := true, ticks := 0, tmbAddr := a, wakeTick := 0, cold := true } }
  generalize absence _ = v at hvsb haddr hticks htrip ⊢
  unfold autoWake
  split
  · obtain ⟨svsb, -, saddr, sticks, -⟩ := hubStart_ao v
    exact ⟨svsb.trans hvsb, saddr.trans haddr, sticks.trans hticks, (hubStart_trip v).trans htrip⟩
  · exact ⟨hvsb, haddr, hticks, htrip⟩

theorem vinValid_wakes {s : State} (h : s.ao.vin = false) : Answers .vinValid s fun t =>
    t.ao.vin = true ∧ t.trip = s.trip ∧
    ((s.ao.vsb && !s.ao.hold && s.trip.isNone && decide (s.power.stage = .banked)) = true →
      t.power.stage = .pll ∧ t.ao.retention = []) ∧
    ((s.ao.vsb && !s.ao.hold && s.trip.isNone && decide (s.power.stage = .banked)) = false →
      t = { s with ao := { s.ao with vin := true } }) := by
  have hx : exec .vinValid s = execVinValid s := rfl
  unfold execVinValid autoWake at hx
  rw [if_neg (by simp [h])] at hx
  cases hc : (s.ao.vsb && !s.ao.hold && s.trip.isNone && decide (s.power.stage = .banked)) with
  | true =>
    rw [if_pos (by simpa using hc)] at hx
    obtain ⟨-, hvin, -, -, hret⟩ := hubStart_ao { s with ao := { s.ao with vin := true } }
    exact ⟨_, hx, hvin, hubStart_trip _, fun _ => ⟨rfl, hret⟩, nofun⟩
  | false =>
    rw [if_neg (by simpa using hc)] at hx
    exact ⟨_, hx, rfl, rfl, nofun, fun _ => rfl⟩

/-- What the automatic store leaves alone, and that without AUTO it does nothing. -/
theorem autoStore_frame (s : State) : ((autoStore s).power = s.power ∧ (autoStore s).tiles = s.tiles ∧ (autoStore s).nets = s.nets ∧
    (autoStore s).cores = s.cores ∧ (autoStore s).mem = s.mem ∧ (autoStore s).host = s.host ∧ (autoStore s).ao.vin = s.ao.vin) ∧
    (s.cal.auto = false → autoStore s = s) := by
  constructor
  · unfold autoStore
    split
    · split
      · split <;> exact ⟨rfl, rfl, rfl, rfl, rfl, rfl, rfl⟩
      · rw [raise_power, raise_tiles, raise_nets, raise_cores, raise_mem, raise_host, raise_ao]
        exact ⟨rfl, rfl, rfl, rfl, rfl, rfl, rfl⟩
    · exact ⟨rfl, rfl, rfl, rfl, rfl, rfl, rfl⟩
  · intro h
    unfold autoStore
    simp [h]

theorem autoStore_stores {s : State} (ha : s.cal.auto = true) (hd : dirty s = true) (hs : storing s = false) :
    (s.cal.blank = true → (autoStore s).cal.step = .check ∧ (autoStore s).cal.measuring = true ∧ (autoStore s).cal.copy = s.cal.image) ∧
    (s.cal.blank = false → (autoStore s).cal.step = .idle ∧ (autoStore s).cal.result = 0x21 ∧ caused (autoStore s) .cal 1 = true) := by
  constructor
  · intro hb
    have he : autoStore s = startStore s := by simp [autoStore, ha, hd, hb, hs]
    rw [he]
    exact ⟨rfl, rfl, rfl⟩
  · intro hb
    unfold autoStore
    simp only [ha, hd, hb, hs, Bool.and_self, if_true, Bool.false_eq_true, if_false]
    refine ⟨congrArg CalSt.step (raise_cal ..), congrArg CalSt.result (raise_cal ..), caused_raise_same _ _ (by decide)⟩

theorem vinLost_banks {s : State} (hv : s.ao.vin = true) (hon : hubOn s = true) (ht : s.trip = none) : Answers .vinLost s fun t =>
    t.ao.vin = false ∧ t.power.stage = .banked ∧ t.tiles = [] ∧ t.nets = [] ∧ t.cores = [] ∧ t.mem = {} ∧ t.host = {} ∧
    (s.cal.auto = false → t.ao.retention.getLast?.map (·.code) = some 0x1011) ∧
    (s.ao.vsb = true → s.cal.auto = true → dirty s = true → storing s = false →
      (s.cal.blank = true → t.cal.step = .check ∧ t.cal.measuring = true ∧ t.cal.copy = s.cal.image) ∧
      (s.cal.blank = false → t.cal.step = .idle ∧ t.cal.result = 0x21 ∧ caused t .cal 1 = true)) := by
  obtain ⟨v, hvs⟩ : ∃ v : State, v = { s with ao := { s.ao with vin := false } } := ⟨_, rfl⟩
  have hx : exec .vinLost s = .next (let u := if hubOn v && v.trip.isNone then bankAtOnce v else v; if u.ao.vsb then autoStore u else u) := by
    change execVinLost s = _
    unfold execVinLost
    rw [if_neg (by simp [hv]), hvs]
  have hon' : hubOn v = true := by
    rw [hvs]
    exact hon
  have ht' : v.trip = none := by
    rw [hvs]
    exact ht
  obtain ⟨hstage, htiles, hnets, hcores, hmem, hhost, hcal, hvin, hvsb, hlast⟩ := bankAtOnce_frame v
  simp only [hon', ht', Option.isNone_none, Bool.and_self, if_true] at hx
  have hcal' : (bankAtOnce v).cal = s.cal := by rw [hcal, hvs]
  have hvin' : (bankAtOnce v).ao.vin = false := by rw [hvin, hvs]
  have hvsb' : (bankAtOnce v).ao.vsb = s.ao.vsb := by rw [hvsb, hvs]
  generalize bankAtOnce v = u at *
  rw [hvsb'] at hx
  cases hs : s.ao.vsb with
  | false =>
    rw [hs] at hx
    exact ⟨_, hx, hvin', hstage, htiles, hnets, hcores, hmem, hhost, fun _ => hlast, nofun⟩
  | true =>
    rw [hs, if_pos rfl] at hx
    obtain ⟨⟨apower, atiles, anets, acores, amem, ahost, avin⟩, auto⟩ := autoStore_frame u
    refine ⟨_, hx, avin.trans hvin', (congrArg PowerSt.stage apower).trans hstage, atiles.trans htiles, anets.trans hnets, acores.trans hcores,
      amem.trans hmem, ahost.trans hhost, fun ha => ?_, fun _ ha hd hst => ?_⟩
    · rw [auto (by rw [hcal', ha]), hlast]
    · have hdirty : dirty u = true := by rw [dirty, hcal', ← dirty, hd]
      have hstoring : storing u = false := by rw [storing, hcal', ← storing, hst]
      have hstore := autoStore_stores (by rw [hcal', ha]) hdirty hstoring
      rwa [hcal'] at hstore

/-! ### A tile and the going off of tiles -/

/-- What the taking off of a tile turns on: its state, whether it was forced, and whether it is barred. -/
def tileMarks (x : TileSt) : TileState × Bool × Bool := (x.st, x.forced, x.barred)

theorem setTile_marks {t : State} {j k : Nat} {x : TileSt} (h : j = k → tileMarks x = tileMarks (t.tile k)) :
    tileMarks ((t.setTile j x).tile k) = tileMarks (t.tile k) := by
  rw [State.setTile_tile]
  split
  · next hk => exact h hk.symm
  · rfl

theorem aside_marks (k : Nat) (m : TileState × Bool × Bool) : Aside (fun t => tileMarks (t.tile k) = m) where
  core _ _ h := h
  pool _ _ _ h := h
  ledgers _ h := h
  cap _ _ h := (setTile_marks (fun e => by rw [← e]; rfl)).trans h
  raise _ _ h := by rwa [tile_congr (raise_tiles _ _ _)]
  logEvent _ _ _ _ h := by rwa [tile_congr (logEvent_tiles _ _ _ _ _)]
  part _ _ _ _ h := h
  spare _ _ _ _ _ h := (setTile_marks (fun e => by rw [← e]; rfl)).trans h

theorem tileReset_tiles (s : State) (k : Nat) : (tileReset s k).tiles = s.tiles := by
  have hcred : ∀ (u : State) (f : CredRow → CredRow), (modCred u k f).tiles = u.tiles := by
    intro u f
    unfold modCred
    split <;> rfl
  have htally : ∀ (u : State) (f : TallyRow → TallyRow), (modTally u k f).tiles = u.tiles := by
    intro u f
    unfold modTally
    split <;> rfl
  unfold tileReset
  dsimp only
  rw [htally, hcred]
  refine forEach_keeps State.tiles _ _ (fun t n _ => ?_) s
  rfl

theorem netHalt_tiles (s : State) (n : Nat) : (netHalt s n).tiles = s.tiles := by
  unfold netHalt
  split <;> rfl

theorem stackRest_tiles (s : State) (k : Nat) : (stackRest s k).tiles = s.tiles := by
  unfold stackRest
  split <;> rfl

theorem tileSettle_other {j k : Nat} (h : k ≠ j) (s : State) (st : TileState) : (tileSettle s j st).tile k = s.tile k := by
  unfold tileSettle
  dsimp only
  split
  · simp [h]
  · simp [tile_congr (logEvent_tiles _ _ _ _ _), h]

theorem tileSettle_barred (s : State) (k : Nat) (st : TileState) : ((tileSettle s k st).tile k).barred = (s.tile k).barred := by
  unfold tileSettle
  dsimp only
  split <;> simp [tile_congr (logEvent_tiles _ _ _ _ _)]

theorem tileAtOff_other {j k : Nat} (h : k ≠ j) (s : State) : (tileAtOff s j).tile k = s.tile k := by
  refine (tileSettle_other h _ .off).trans ?_
  refine (State.setTile_tile _ _ _ _).trans ?_
  rw [if_neg h, tile_congr (tileReset_tiles s j)]

theorem tileAtOff_barred (s : State) (k : Nat) : ((tileAtOff s k).tile k).barred = (s.tile k).barred := by
  refine (tileSettle_barred _ k .off).trans ?_
  refine (congrArg TileSt.barred (State.setTile_tile _ _ _ _)).trans ?_
  rw [if_pos rfl, tile_congr (tileReset_tiles s k)]

theorem tileFallStep_other {j k : Nat} (h : k ≠ j) (s : State) : (tileFallStep s j).tile k = s.tile k := by
  unfold tileFallStep
  dsimp only
  split
  · rfl
  · split
    · rw [tile_congr (netDisable_tiles _ _)]
    · split
      · rw [tile_congr (netDisable_tiles _ _)]
      · exact tileAtOff_other h s

theorem tileFallStep_barred (s : State) (k : Nat) : ((tileFallStep s k).tile k).barred = (s.tile k).barred := by
  unfold tileFallStep
  dsimp only
  split
  · rfl
  · split
    · rw [tile_congr (netDisable_tiles _ _)]
    · split
      · rw [tile_congr (netDisable_tiles _ _)]
      · exact tileAtOff_barred s k

theorem tileHalted_tiles (s : State) (k : Nat) : (netHalt (netHalt (stackRest s k) (2 * k)) (2 * k + 1)).tiles = s.tiles := by
  rw [netHalt_tiles, netHalt_tiles, stackRest_tiles]

theorem tileFall_other {j k : Nat} (h : k ≠ j) (s : State) : (tileFall s j).tile k = s.tile k := by
  refine (tileFallStep_other h _).trans ?_
  refine (State.setTile_tile _ _ _ _).trans ?_
  rw [if_neg h, tile_congr (tileHalted_tiles s j)]

/-- A tile that falls. -/
theorem tileFall_falls (s : State) (k : Nat) : (((tileFall s k).tile k).st = .falling ∨ ((tileFall s k).tile k).st = .off) ∧
    ((tileFall s k).tile k).barred = (s.tile k).barred := by
  refine ⟨tileFallStep_st ?_, (tileFallStep_barred _ k).trans ?_⟩
  · exact (congrArg TileSt.st (State.setTile_tile _ _ _ _)).trans (by rw [if_pos rfl])
  · refine (congrArg TileSt.barred (State.setTile_tile _ _ _ _)).trans ?_
    rw [if_pos rfl, tile_congr (tileHalted_tiles s k)]

/-- The stack's part of a forced fall. -/
def forcedStack (s : State) (k : Nat) (how : ForceOff) : State :=
  if how = .lost 4 then stackLost s k 0 else if (s.tile k).forced then s else stackRest s k

theorem forceOff_lost (s : State) (k cause : Nat) : forceOff s k (.lost cause) = if (s.tile k).st = .off then s else
    if (s.tile k).forced then forceCores (forcedStack s k (.lost cause)) k (.lost cause) else
      tileFall ((stopTrans (releaseBase (forceCores (forcedStack s k (.lost cause)) k (.lost cause)) k) k).modTile k
        (fun x => { x with forced := true, st := .falling })) k := by
  unfold forceOff
  dsimp only
  split
  · rfl
  · have hskip : ((s.tile k).forced && !true) = false := by simp
    simp only [hskip, Bool.false_eq_true, if_false, forcedStack, stopTrans]

section
variable {k : Nat} {m : TileState × Bool × Bool} {s : State} (h : tileMarks (s.tile k) = m)
include h

theorem forcedCores_marks (j cause : Nat) : tileMarks ((forceCores (forcedStack s j (.lost cause)) j (.lost cause)).tile k) = m := by
  refine forceCores_aside (aside_marks k m) ?_ j _
  unfold forcedStack
  split
  · exact stackLost_aside (aside_marks k m) h _ _
  · split
    · exact h
    · exact stackRest_aside (aside_marks k m) h _

end

/-- The loss of another tile leaves tile `k` as it is. -/
theorem forceOff_other {j k : Nat} (h : k ≠ j) (s : State) (cause : Nat) : tileMarks ((forceOff s j (.lost cause)).tile k) = tileMarks (s.tile k) := by
  rw [forceOff_lost]
  have hcores := forcedCores_marks (rfl : tileMarks (s.tile k) = _) j cause
  split
  · rfl
  · split
    · exact hcores
    · have hback := releaseBase_aside (aside_marks k _) hcores j
      rw [tileFall_other h]
      generalize releaseBase (forceCores (forcedStack s j (.lost cause)) j (.lost cause)) j = u at hback ⊢
      exact (setTile_marks (t := stopTrans u j) (fun e => absurd e.symm h)).trans hback

/-- A tile taken Off by force falls, unless it has come to Off, and stays barred when it is. -/
theorem forceOff_falls {k : Nat} {s : State} (h : (s.tile k).forced = true → (s.tile k).st = .falling ∨ (s.tile k).st = .off) (cause : Nat) :
    (((forceOff s k (.lost cause)).tile k).st = .falling ∨ ((forceOff s k (.lost cause)).tile k).st = .off) ∧
    ((forceOff s k (.lost cause)).tile k).barred = (s.tile k).barred := by
  have hcores := forcedCores_marks (rfl : tileMarks (s.tile k) = _) k cause
  rw [forceOff_lost]
  split
  · next hoff => exact ⟨.inr hoff, rfl⟩
  · split
    · next hf =>
      simp only [tileMarks, Prod.mk.injEq] at hcores
      obtain ⟨hst, -, hbar⟩ := hcores
      rw [hst, hbar]
      exact ⟨h hf, rfl⟩
    · have hback := releaseBase_aside (aside_marks k _) hcores k
      generalize releaseBase (forceCores (forcedStack s k (.lost cause)) k (.lost cause)) k = u at hback ⊢
      simp only [tileMarks, Prod.mk.injEq] at hback
      obtain ⟨-, -, hbar⟩ := hback
      obtain ⟨hst, hkeep⟩ := tileFall_falls ((stopTrans u k).modTile k (fun x => { x with forced := true, st := .falling })) k
      refine ⟨hst, hkeep.trans ?_⟩
      refine (congrArg TileSt.barred (State.setTile_tile (stopTrans u k) _ _ _)).trans ?_
      rw [if_pos rfl]
      exact hbar

/-! ### VHBM (R658) -/

theorem offside_trip (x : Option TripRec) : Offside (fun t => t.trip = x) where
  core _ _ h := h
  pool _ _ _ h := h
  ledgers _ h := h
  cap _ _ h := h
  raise _ _ h := by rwa [raise_trip]
  logEvent _ _ _ _ h := by rwa [logEvent_trip]
  part _ _ _ _ h := h
  spare _ _ _ _ _ h := h
  tiles _ h := h
  hdrs _ h := h
  nets _ h := h
  cells _ h := h
  loops _ h := h
  surveys _ h := h
  therm _ h := h
  out _ h := h

/-- A tile that has been taken Off by force is on its way to Off, or there. -/
def ForcedFalls (s : State) (k : Nat) : Prop := (s.tile k).forced = true → (s.tile k).st = .falling ∨ (s.tile k).st = .off

theorem forceOff_keepsForced (s : State) (j k cause : Nat) (h : ForcedFalls s k) : ForcedFalls (forceOff s j (.lost cause)) k := by
  by_cases hk : k = j
  · subst hk
    exact fun _ => (forceOff_falls h cause).1
  · have hm := forceOff_other hk s cause
    simp only [tileMarks, Prod.mk.injEq] at hm
    obtain ⟨hst, hforced, -⟩ := hm
    rw [ForcedFalls, hst, hforced]
    exact h

theorem forceOff_keepsFalling (s : State) (j k cause : Nat) (h : (s.tile k).st = .falling ∨ (s.tile k).st = .off) :
    ((forceOff s j (.lost cause)).tile k).st = .falling ∨ ((forceOff s j (.lost cause)).tile k).st = .off := by
  by_cases hk : k = j
  · subst hk
    exact (forceOff_falls (fun _ => h) cause).1
  · have hm := forceOff_other hk s cause
    simp only [tileMarks, Prod.mk.injEq] at hm
    rw [hm.1]
    exact h

/-- Each tile of a list taken Off falls. -/
theorem forceOff_all (cause : Nat) (l : List Nat) {k : Nat} (hk : k ∈ l) {s : State} (h : ForcedFalls s k) :
    ((forEach l s fun s t => forceOff s t (.lost cause)).tile k).st = .falling ∨
    ((forEach l s fun s t => forceOff s t (.lost cause)).tile k).st = .off := by
  induction l generalizing s with
  | nil => cases hk
  | cons j l ih =>
    cases hk with
    | head =>
      have hkeep := fun t j ht => forceOff_keepsFalling t j k cause ht
      exact holds_forEach hkeep l (forceOff_falls h cause).1
    | tail _ hk => exact ih hk (forceOff_keepsForced s j k cause h)

theorem vhbmLost_low {mv : Nat} {s : State} (hmv : mv < 1067) : Answers (.vhbmLost mv) s fun t =>
    t.ao.vhbm = false ∧ t.trip = s.trip ∧ (workingTiles s = [] → t = { s with ao := { s.ao with vhbm := false } }) ∧
    (∀ k ∈ workingTiles s, (t.tile k).st = .falling ∨ (t.tile k).st = .off) := by
  have hx : exec (.vhbmLost mv) s = execVhbmLost mv s := rfl
  unfold execVhbmLost at hx
  dsimp only at hx
  rw [if_neg (by omega)] at hx
  by_cases hw : workingTiles s = []
  · rw [if_pos hw] at hx
    exact ⟨_, hx, rfl, rfl, fun _ => rfl, fun k hk => by rw [hw] at hk; cases hk⟩
  · rw [if_neg hw] at hx
    refine ⟨_, hx, ?_⟩
    generalize hu : logEvent _ _ _ _ _ = u
    have huao : u.ao = { s.ao with vhbm := false } := by rw [← hu, logEvent_ao]
    have hutrip : u.trip = s.trip := by rw [← hu, logEvent_trip]
    have hutile : ∀ k, u.tile k = s.tile k := fun k => by
      rw [← hu, tile_congr (logEvent_tiles _ _ _ _ _)]
      rfl
    have hforce : ∀ {P : State → Prop}, Offside P → (∀ {v : State} (x : Option Trans), P v → P { v with power := { v.power with trans := x } }) → P u →
        P (noted s (rejudge (forEach (workingTiles s) u fun s t => forceOff s t (.lost 4)))) := by
      intro P hP hpower h
      exact noted_offside hP (rejudge_stable hP.toStable (holds_forEach (P := P) (fun v t hv => forceOff_offside hP hv hpower t _) _ h)) s
    refine ⟨?_, hforce (offside_trip s.trip) (fun _ h => h) hutrip, fun h => absurd h hw, fun k hk => ?_⟩
    · rw [hforce (offside_ao u.ao) (fun _ h => h) rfl, huao]
    · obtain ⟨x, hr⟩ := rejudge_frame (forEach (workingTiles s) u fun s t => forceOff s t (.lost 4))
      rw [tile_congr (noted_tiles _ _).1, hr]
      have hmem := (List.mem_filter.mp hk).2
      have hforced : (s.tile k).forced = false := by
        simp only [Bool.and_eq_true, Bool.not_eq_true'] at hmem
        exact hmem.2
      exact forceOff_all 4 _ hk (fun hf => by rw [hutile, hforced] at hf; cases hf)

/-- Settles O4: the rails through what the start and the loss of the hub leave, VHBM through the tiles taken Off. -/
theorem railsComeAndGo : Obligations.RailsComeAndGo := by
  unfold Obligations.RailsComeAndGo
  refine ⟨⟨fun a s h => vsbValid_starts a h, fun s => ⟨_, rfl, rfl, rfl, rfl, rfl, rfl, rfl, rfl, rfl, rfl⟩, fun s h => vinValid_wakes h,
    fun s hv hon ht => vinLost_banks hv hon ht, fun s => ⟨_, rfl, rfl⟩⟩, fun mv s h => ?_, fun mv s h => vhbmLost_low h⟩
  have hx : exec (.vhbmLost mv) s = execVhbmLost mv s := rfl
  unfold execVhbmLost at hx
  exact hx.trans (if_pos h)

end Sys2Proof.Machine
end

section
/-!
SUPPORT. What the Hearth measures, judges and hears late (O12).
-/
namespace Sys2Proof.Machine
open Sys2Proof

/-! ### What the survey ADCs are asked for leaves alone -/

/-- A property that neither the token pool nor the survey ADCs touch. -/
structure Surveyed (P : State → Prop) : Prop extends Stable P where
  surveys : ∀ {t} (x : Sparse SurveySt), P t → P { t with surveys := x }
  events : ∀ {t} (x : EventSt), P t → P { t with events := x }

section
variable {P : State → Prop} {t : State} (hP : Surveyed P) (h : P t)
include hP h

theorem powerEvent_stable (code sev : Nat) (p : PageRef) (a : List Nat) : P (powerEvent t code sev p a) := by
  unfold powerEvent
  dsimp only
  split
  · exact hP.raise _ _ (hP.logEvent _ _ _ _ h)
  · exact hP.logEvent _ _ _ _ h

theorem urgentDrop_surveyed (d : Nat) (r : UrgReq) : P (urgentDrop t d r) := by
  have hlim : ∀ {u : State} (key us code sev : Nat) (p : PageRef) (a : List Nat), P u → P (logLimited u key us code sev p a) := by
    intro u key us code sev p a hu
    obtain e | ⟨x, e⟩ := logLimited_cases u key us code sev p a
    · rw [e]
      exact hu
    · rw [e]
      exact hP.events x (hP.logEvent _ _ _ _ hu)
  exact hlim _ _ _ _ _ _ (hP.raise _ _ (hP.surveys _ h))

theorem urgentReq_surveyed (d : Nat) (r : UrgReq) : P (urgentReq t d r).1 := by
  unfold urgentReq
  dsimp only
  split
  · exact urgentDrop_surveyed hP h d r
  · split
    · split
      · exact hP.surveys _ h
      · exact urgentDrop_surveyed hP h d r
    · exact hP.surveys _ h
    · split
      · exact hP.surveys _ h
      · exact urgentDrop_surveyed hP h d r

theorem feedUpdate_surveyed (d : Nat) : P (feedUpdate t d) := by
  have hcap : ∀ {u : State}, P u → P (if d < 8 then capUpdate u d else u) := by
    intro u hu
    split
    · exact capUpdate_stable hP.toStable hu d
    · exact hu
  unfold feedUpdate
  dsimp only
  split
  · exact h
  · split
    · exact powerEvent_stable hP (hcap (hP.surveys _ h)) _ _ _ _
    · exact hcap (hP.surveys _ h)

end

theorem surveyed_hearth (x : HearthSt) : Surveyed (fun t => t.hearth = x) where
  core _ _ h := h
  pool _ _ _ h := h
  ledgers _ h := h
  cap _ _ h := h
  raise _ _ h := by rwa [raise_hearth]
  logEvent _ _ _ _ h := by rwa [logEvent_hearth]
  surveys _ h := h
  events _ h := h

theorem surveyed_loops (x : Sparse LoopSt) : Surveyed (fun t => t.loops = x) where
  core _ _ h := h
  pool _ _ _ h := h
  ledgers _ h := h
  cap _ _ h := h
  raise _ _ h := by rwa [raise_loops]
  logEvent _ _ _ _ h := by rwa [logEvent_loops]
  surveys _ h := h
  events _ h := h

theorem surveyed_cells (x : Sparse CellSt) : Surveyed (fun t => t.cells = x) where
  core _ _ h := h
  pool _ _ _ h := h
  ledgers _ h := h
  cap _ _ h := h
  raise _ _ h := by rwa [raise_cells]
  logEvent _ _ _ _ h := by rwa [logEvent_cells]
  surveys _ h := h
  events _ h := h

theorem surveyed_inletCap (n : Nat) : Surveyed (fun t => t.token.inletCap = n) where
  core _ _ h := h
  pool _ _ hx h := hx.trans h
  ledgers _ h := h
  cap _ _ h := h
  raise _ _ h := by rwa [raise_token]
  logEvent _ _ _ _ h := by rwa [logEvent_token]
  surveys _ h := h
  events _ h := h

theorem cell_congr {s t : State} (h : t.cells = s.cells) (i : Nat) : t.cell i = s.cell i := by
  rw [State.cell, h, State.cell]

theorem urgentReq_cells (s : State) (d : Nat) (r : UrgReq) : (urgentReq s d r).1.cells = s.cells := urgentReq_surveyed (surveyed_cells s.cells) rfl d r

/-! ### Path resistance (R285, R286) -/

/-- A cell whose path the Hearth updates without isolating it. -/
def PathStays (s : State) (i : Nat) : Prop := (s.cell i).sumN = 0 ∨ (s.cell i).suspect = false ∨ (s.cell i).judged = false

theorem pathSuspect_frame {P : State → Prop} (hP : Surveyed P) (hcells : ∀ {t : State} (x : Sparse CellSt), P t → P { t with cells := x }) {t : State} (h : P t)
    (i : Nat) : P (pathSuspect t i) :=
  urgentReq_surveyed hP (hP.raise _ _ (hcells _ h)) _ _

theorem pathSuspect_cell (s : State) (i j : Nat) : (pathSuspect s i).cell j =
    if j = i then { s.cell i with suspect := true, judged := false, pathWant := pathChannels i, pathGot := [], pathTries := 0 } else s.cell j := by
  have hc := urgentReq_cells (raise (s.setCell i { s.cell i with suspect := true, judged := false, pathWant := pathChannels i, pathGot := [], pathTries := 0 })
    (.cell i) 3) (cellDie i) ⟨96, true, 0⟩
  refine (cell_congr (hc.trans (raise_cells _ _ _)) j).trans ?_
  rw [State.setCell_cell]

theorem pathUpdate_frame {P : State → Prop} (hP : Surveyed P) (hcells : ∀ {t : State} (x : Sparse CellSt), P t → P { t with cells := x }) {t : State} (h : P t)
    {i : Nat} (hi : PathStays t i) : P (pathUpdate t i) := by
  unfold pathUpdate
  dsimp only
  split
  · exact h
  · next hn =>
    split
    · exact hcells _ h
    · split
      · exact hcells _ (hcells _ (hcells _ h))
      · split
        · exact pathSuspect_frame hP hcells (hcells _ (hcells _ h)) i
        · split
          · next hs hj =>
            simp only [Bool.and_eq_true] at hj
            obtain e | e | e := hi
            · exact absurd e hn
            · simp [e] at hs
            · rw [e] at hj
              cases hj.1
          · exact hcells _ (hcells _ h)

theorem pathUpdate_cell {t : State} {i : Nat} (hi : PathStays t i) : ((pathUpdate t i).cell i).sumN = 0 ∧
    ∀ j, j ≠ i → (pathUpdate t i).cell j = t.cell j := by
  unfold pathUpdate
  dsimp only
  split
  · next hn => exact ⟨hn, fun _ _ => rfl⟩
  · next hn =>
    split
    · exact ⟨by simp, fun j hj => by simp [hj]⟩
    · split
      · exact ⟨by simp, fun j hj => by simp [hj]⟩
      · split
        · exact ⟨by simp [pathSuspect_cell], fun j hj => by simp [pathSuspect_cell, hj]⟩
        · split
          · next hs hj =>
            simp only [Bool.and_eq_true] at hj
            obtain e | e | e := hi
            · exact absurd e hn
            · simp [e] at hs
            · rw [e] at hj
              cases hj.1
          · exact ⟨by simp, fun j hj => by simp [hj]⟩

theorem pathUpdate_stays {t : State} {i : Nat} (hi : PathStays t i) {j : Nat} (hj : PathStays t j) : PathStays (pathUpdate t i) j := by
  obtain ⟨hzero, hother⟩ := pathUpdate_cell hi
  by_cases h : j = i
  · subst h
    exact .inl hzero
  · rw [PathStays, hother j h]
    exact hj

/-- The paths of a list of cells are updated: each ends without measurements, and no other cell changes. -/
theorem pathUpdates_cell (l : List Nat) {t : State} (hl : ∀ i ∈ l, PathStays t i) : ∀ i, i ∈ l ∨ (t.cell i).sumN = 0 → ((forEach l t pathUpdate).cell i).sumN = 0 := by
  induction l generalizing t with
  | nil => exact fun i hi => hi.resolve_left (List.not_mem_nil)
  | cons j l ih =>
    intro i hi
    have hj := hl j (by simp)
    obtain ⟨hzero, hother⟩ := pathUpdate_cell hj
    refine ih (fun k hk => pathUpdate_stays hj (hl k (by simp [hk]))) i ?_
    by_cases hij : i = j
    · subst hij
      exact .inr hzero
    · rw [hother i hij]
      exact hi.imp_left fun hm => (List.mem_cons.mp hm).resolve_left hij

theorem pathUpdates_frame {P : State → Prop} (hP : Surveyed P) (hcells : ∀ {t : State} (x : Sparse CellSt), P t → P { t with cells := x })
    (l : List Nat) {t : State} (h : P t) (hl : ∀ i ∈ l, PathStays t i) : P (forEach l t pathUpdate) := by
  induction l generalizing t with
  | nil => exact h
  | cons j l ih =>
    have hj := hl j (by simp)
    exact ih (pathUpdate_frame hP hcells h hj) fun k hk => pathUpdate_stays hj (hl k (by simp [hk]))

/-! ### The Hearth's measurements (R171, R255) -/

/-- The inlet cap in force, once untaken tokens and the cap computed have been noted. -/
def inletJudged (s : State) (u cap : Nat) : State :=
  { s with token := { s.token with untok := u % 512, lastCap := if s.hearth.watts = 0 then s.token.lastCap else cap } }

def inletNew (s : State) (cap : Nat) : Nat := if s.hearth.watts = 0 then 4928
  else if cap < s.token.inletCap || s.token.inletCap + 32 ≤ cap then cap else s.token.inletCap

theorem inletUpdate_eq (s : State) : ∃ f u cap, inletUpdate s =
    if inletNew s cap = s.token.inletCap then inletJudged { s with free := f } u cap
    else budgetUpdate { inletJudged { s with free := f } u cap with token := { (inletJudged { s with free := f } u cap).token with inletCap := inletNew s cap } } 1 := by
  unfold inletUpdate
  by_cases hw : calWtok s = 0
  · rw [if_pos hw]
    exact ⟨_, _, _, rfl⟩
  · rw [if_neg hw]
    exact ⟨_, _, _, rfl⟩

theorem inletUpdate_frame {P : State → Prop} (hP : Stable P) (hfree : ∀ {t : State} (n : Nat), P t → P { t with free := n })
    (htok : ∀ {t : State} (x : TokenSt), P t → P { t with token := x }) {t : State} (h : P t) : P (inletUpdate t) := by
  obtain ⟨f, u, cap, he⟩ := inletUpdate_eq t
  rw [he]
  split
  · exact htok _ (hfree f h)
  · exact budgetUpdate_stable hP (htok _ (htok _ (hfree f h))) 1

theorem inletUpdate_lifts {s : State} (h : s.hearth.watts = 0) : (inletUpdate s).token.inletCap = 4928 := by
  obtain ⟨f, u, cap, he⟩ := inletUpdate_eq s
  have hnew : inletNew s cap = 4928 := by rw [inletNew, if_pos h]
  rw [he, hnew]
  split
  · next hc => exact hc.symm
  · exact budgetUpdate_stable (surveyed_inletCap 4928).toStable rfl 1

theorem feedLow_eq (s : State) : (feedLow s).loops = s.loops ∧ (feedLow s).cells = s.cells ∧ (feedLow s).token = s.token ∧
    (∃ x, (feedLow s).hearth = { s.hearth with feedLowAt := x } ∧ x.isSome = decide (s.hearth.vinMv < 1746)) := by
  unfold feedLow
  split
  · next hv =>
    split
    · next hsome => exact ⟨rfl, rfl, rfl, s.hearth.feedLowAt, rfl, by rw [hsome, decide_eq_true hv]⟩
    · dsimp only
      rw [raise_loops, logEvent_loops, raise_cells, logEvent_cells, raise_token, logEvent_token, raise_hearth, logEvent_hearth]
      exact ⟨rfl, rfl, rfl, some s.ao.ticks, rfl, by rw [decide_eq_true hv]; rfl⟩
  · next hv => exact ⟨rfl, rfl, rfl, none, rfl, by rw [decide_eq_false hv]; rfl⟩

section
variable {s : State} {m : HearthMeas}

/-- The measured values on the HEARTH page. -/
def measuredHearth (s : State) (m : HearthMeas) : HearthSt :=
  { s.hearth with vinMv := m.vinMv, feedI := m.feedI, pkgP := m.pkgP, vhbmP := m.vhbmP, vsbMw := m.vsbMw }

/-- The measured values on the HEARTH page and in the loop engines. -/
def hearthMeasured (s : State) (m : HearthMeas) : State :=
  forEach ((List.range 12).filter (fun d => (s.loopE d).clk)) { s with hearth := measuredHearth s m }
    (fun s d => s.modLoop d (fun x => { x with vinMv := m.vinMv }))

theorem hearthMeasured_frame (s : State) (m : HearthMeas) : (hearthMeasured s m).hearth = measuredHearth s m ∧ (hearthMeasured s m).cells = s.cells := by
  have h := forEach_keeps (fun t : State => (t.hearth, t.cells)) ((List.range 12).filter (fun d => (s.loopE d).clk))
    (fun s d => s.modLoop d (fun x => { x with vinMv := m.vinMv })) (fun _ _ _ => rfl) { s with hearth := measuredHearth s m }
  simp only [Prod.mk.injEq] at h
  exact h

theorem hearthMeasured_loop {d : Nat} (hd : d < 12) (hc : (s.loopE d).clk = true) : ((hearthMeasured s m).loopE d).vinMv = m.vinMv := by
  refine forEach_establishes (P := fun d (t : State) => (t.loopE d).vinMv = m.vinMv) (fun t a => ?_) (fun t a b ha => ?_) _ ?_ _
  · simp
  · by_cases h : a = b
    · simp [h]
    · simp [h, ha]
  · exact List.mem_filter.mpr ⟨List.mem_range.mpr hd, hc⟩

theorem hearthMsUpdate_eq (hon : hubOn s = true) : exec (.hearthMsUpdate m) s = .next (feedLow (forEach (List.range 12)
    (forEach (measuredCells (inletUpdate (hearthMeasured s m))) (inletUpdate (hearthMeasured s m)) pathUpdate) feedUpdate)) := by
  have hx : exec (.hearthMsUpdate m) s = execHearthMsUpdate m s := rfl
  unfold execHearthMsUpdate at hx
  rw [if_neg (by simp [hon])] at hx
  exact hx

theorem hearthMsUpdate_measures (hon : hubOn s = true) (hpath : ∀ i ∈ measuredCells s, (s.cell i).suspect = false ∨ (s.cell i).judged = false) :
    Answers (.hearthMsUpdate m) s fun t =>
      t.hearth.vinMv = m.vinMv ∧ t.hearth.feedI = m.feedI ∧ t.hearth.pkgP = m.pkgP ∧ t.hearth.vhbmP = m.vhbmP ∧ t.hearth.vsbMw = m.vsbMw ∧
      (∀ d, d < 12 → (s.loopE d).clk = true → (t.loopE d).vinMv = m.vinMv) ∧ (s.hearth.watts = 0 → t.token.inletCap = 4928) ∧
      t.hearth.feedLowAt.isSome = decide (m.vinMv < 1746) ∧ ∀ i ∈ measuredCells s, (t.cell i).sumN = 0 := by
  have hx := hearthMsUpdate_eq (m := m) hon
  obtain ⟨vhearth, vcells⟩ := hearthMeasured_frame s m
  have hloop : ∀ d, d < 12 → (s.loopE d).clk = true → ((hearthMeasured s m).loopE d).vinMv = m.vinMv := fun d hd hc => hearthMeasured_loop hd hc
  generalize hearthMeasured s m = v at hx vhearth vcells hloop
  have uhearth : (inletUpdate v).hearth = v.hearth := inletUpdate_frame (surveyed_hearth v.hearth).toStable (fun _ h => h) (fun _ h => h) rfl
  have uloops : (inletUpdate v).loops = v.loops := inletUpdate_frame (surveyed_loops v.loops).toStable (fun _ h => h) (fun _ h => h) rfl
  have ucells : (inletUpdate v).cells = v.cells := inletUpdate_frame (surveyed_cells v.cells).toStable (fun _ h => h) (fun _ h => h) rfl
  have ucap : s.hearth.watts = 0 → (inletUpdate v).token.inletCap = 4928 := fun hw => inletUpdate_lifts (by rw [vhearth]; exact hw)
  generalize inletUpdate v = u at hx uhearth uloops ucells ucap
  have hmeas : measuredCells u = measuredCells s := by rw [measuredCells, ucells, vcells, measuredCells]
  have hcell : ∀ i, u.cell i = s.cell i := cell_congr (ucells.trans vcells)
  have hstay : ∀ i ∈ measuredCells s, PathStays u i := fun i hi => by
    rw [PathStays, hcell]
    exact .inr (hpath i hi)
  rw [hmeas] at hx
  have hpaths : ∀ {P : State → Prop}, Surveyed P → (∀ {t : State} (x : Sparse CellSt), P t → P { t with cells := x }) → P u →
      P (forEach (measuredCells s) u pathUpdate) := fun hP hcells h => pathUpdates_frame hP hcells _ h hstay
  have whearth := hpaths (surveyed_hearth u.hearth) (fun _ h => h) rfl
  have wloops := hpaths (surveyed_loops u.loops) (fun _ h => h) rfl
  have wcap := hpaths (surveyed_inletCap u.token.inletCap) (fun _ h => h) rfl
  have wcell : ∀ i ∈ measuredCells s, ((forEach (measuredCells s) u pathUpdate).cell i).sumN = 0 :=
    fun i hi => pathUpdates_cell _ hstay i (.inl hi)
  beta_reduce at whearth wloops wcap
  generalize forEach (measuredCells s) u pathUpdate = w at hx whearth wloops wcap wcell
  have hfeeds : ∀ {P : State → Prop}, Surveyed P → P w → P (forEach (List.range 12) w feedUpdate) :=
    fun {P} hP h => holds_forEach (P := P) (f := feedUpdate) (fun _ d hu => feedUpdate_surveyed hP hu d) _ h
  have yhearth := hfeeds (surveyed_hearth w.hearth) rfl
  have yloops := hfeeds (surveyed_loops w.loops) rfl
  have ycap := hfeeds (surveyed_inletCap w.token.inletCap) rfl
  have ycells := hfeeds (surveyed_cells w.cells) rfl
  beta_reduce at yhearth yloops ycap ycells
  generalize forEach (List.range 12) w feedUpdate = y at hx yhearth yloops ycap ycells
  obtain ⟨zloops, zcells, ztoken, low, zhearth, hlow⟩ := feedLow_eq y
  have hh : y.hearth = measuredHearth s m := yhearth.trans (whearth.trans (uhearth.trans vhearth))
  have hl : (feedLow y).loops = v.loops := zloops.trans (yloops.trans (wloops.trans uloops))
  refine ⟨_, hx, ?_⟩
  beta_reduce
  rw [zhearth, hh]
  refine ⟨rfl, rfl, rfl, rfl, rfl, fun d hd hc => ?_, fun hw => ?_, by rw [hlow, hh]; rfl, fun i hi => ?_⟩
  · rw [State.loopE, hl]
    exact hloop d hd hc
  · rw [ztoken, ycap, wcap, ucap hw]
  · rw [cell_congr (zcells.trans ycells)]
    exact wcell i hi

end

/-! ### Excursions (R176) -/

theorem outOfBand_reports {n : Nat} {s : State} (hst : (s.net n).st = .on ∨ (s.net n).st = .rolling) (hb : 100 < (s.net n).bandFrames)
    (ht : (s.net n).bandTold = false) : Answers (.outOfBand n) s fun t =>
      (logOpen s = true → newest t 0x1022 [n % 2 ^ 32, (vrefUv s n / 1000).toNat % 2 ^ 32, (s.net n).bandMv % 2 ^ 32,
        frameTicks (s.net n).bandFrames % 2 ^ 32] = true) ∧ caused t (.net n) 2 = true ∧
      t.nets = (s.setNet n { s.net n with bandTold := true }).nets ∧ t.cells = s.cells := by
  have hx : exec (.outOfBand n) s = execOutOfBand n s := rfl
  have hc : (decide ((s.net n).st = .on) || decide ((s.net n).st = .rolling)) = true := by simpa using hst
  unfold execOutOfBand at hx
  dsimp only at hx
  rw [if_pos (by simp [hc, hb, ht])] at hx
  generalize (vrefUv s n / 1000).toNat = v at hx ⊢
  generalize frameTicks (s.net n).bandFrames = fr at hx ⊢
  refine ⟨_, hx, ?_⟩
  obtain ⟨u, hu⟩ : ∃ u : State, u = s.setNet n { s.net n with bandTold := true } := ⟨_, rfl⟩
  rw [← hu]
  refine ⟨fun hopen => ?_, caused_raise_same _ _ (by decide), ?_, ?_⟩
  · rw [newest_raise]
    have hn := newest_logEvent (s := u) (by rw [hu]; exact hopen) 0x1022 2 (.net n) [n, v, (s.net n).bandMv, fr]
    simpa only [List.getD_cons_zero, List.getD_cons_succ] using hn
  · rw [raise_nets, logEvent_nets]
  · rw [raise_cells, logEvent_cells, hu]
    rfl

theorem outOfBand_told {n : Nat} {s : State} (ht : (s.net n).bandTold = true) : exec (.outOfBand n) s = .next s := by
  have hx : exec (.outOfBand n) s = execOutOfBand n s := rfl
  unfold execOutOfBand at hx
  rw [hx]
  simp [ht]

/-! ### INLET_LIMIT (Table 5.9) -/

section
variable {w : RegWrite} {s : State} (hw : writeOk s .hearth w = true) {v : Nat} (hv : v = fld (w.merged (w32 s.hearth.watts)).toNat 0 10)
include hw hv

theorem inletLimit_written (hr : v = 0 ∨ 100 ≤ v ∧ v ≤ 750) : Answers (.inletLimitWrite w) s fun t =>
      t.hearth.watts = v ∧ caused t .hearth 0 = true ∧ (v ≠ 0 → t.token = s.token) ∧ (v = 0 → t.token.inletCap = 4928) := by
  have hx : exec (.inletLimitWrite w) s = .next (writeInlet w s).1 := rfl
  unfold writeInlet at hx
  dsimp only at hx
  have hrange : ((decide (0 < v) && decide (v < 100)) || decide (750 < v)) = false := by
    simp only [Bool.or_eq_false_iff, Bool.and_eq_false_iff, decide_eq_false_iff_not]
    omega
  rw [← hv, guarded_passes hw _ (by simp [Checks.pass, hrange])] at hx
  refine ⟨_, hx, ?_⟩
  beta_reduce
  have hhearth : (raise { s with hearth := { s.hearth with watts := v } } .hearth 0).hearth.watts = v := congrArg HearthSt.watts (raise_hearth ..)
  have htoken : (raise { s with hearth := { s.hearth with watts := v } } .hearth 0).token = s.token := raise_token ..
  have hcaused : caused (raise { s with hearth := { s.hearth with watts := v } } .hearth 0) .hearth 0 = true := caused_raise_same _ _ (by decide)
  generalize raise { s with hearth := { s.hearth with watts := v } } .hearth 0 = u at hhearth htoken hcaused ⊢
  split
  · next hc =>
    have hzero : v = 0 := by
      simp only [Bool.and_eq_true, decide_eq_true_eq] at hc
      exact hc.1
    refine ⟨?_, ?_, fun h => absurd hzero h, fun _ => ?_⟩
    · have hkeep := budgetUpdate_stable (surveyed_hearth u.hearth).toStable (t := { u with token := { u.token with inletCap := 4928 } }) rfl 1
      rw [hkeep, hhearth]
    · exact budgetUpdate_stable (stable_caused .hearth 0) (t := { u with token := { u.token with inletCap := 4928 } }) hcaused 1
    · exact budgetUpdate_stable (surveyed_inletCap 4928).toStable rfl 1
  · next hc =>
    refine ⟨hhearth, hcaused, fun _ => htoken, fun hzero => ?_⟩
    simpa [hzero] using hc

theorem inletLimit_refused (hr : 0 < v ∧ v < 100 ∨ 750 < v) : Answers (.inletLimitWrite w) s fun t =>
      t.hearth = s.hearth ∧ t.token = s.token ∧ (t.hdr .hearth).lastRefusal = word [(0, 0x03), (8, 0x54), (24, w.master.num)] := by
  have hx : exec (.inletLimitWrite w) s = .next (writeInlet w s).1 := rfl
  unfold writeInlet at hx
  dsimp only at hx
  have hrange : ((decide (0 < v) && decide (v < 100)) || decide (750 < v)) = true := by simpa using hr
  rw [← hv, guarded_refuses hw _ (r := .outOfRange) (by rw [judge_of_writeOk hw]; simp [hrange]) (by decide)] at hx
  exact ⟨_, hx, recordRefusal_hearth .., recordRefusal_token .., recordRefusal_last ..⟩

end

/-! ### Path resistance -/

theorem pathJudge_stays {i : Nat} {s : State} (hs : (s.cell i).suspect = true) (hi : (s.cell i).isolated = false) (hj : (s.cell i).judged = false)
    (hw : (s.cell i).pathWant ≠ []) (ht : 8 ≤ (s.cell i).pathTries) (hr : (s.cell i).rF ≤ 2 * calPathBase s i) : Answers (.pathJudge i) s fun t =>
      (t.cell i).judged = true ∧ (t.cell i).pathWant = [] ∧ (t.cell i).isolated = false ∧
      (logOpen s = true → newest t 0x1064 [i % 2 ^ 32, (s.cell i).rF % 2 ^ 32, 0, 2] = true) ∧ caused t .hearth 1 = true ∧ ∀ j, j ≠ i → t.cell j = s.cell j := by
  have hx : exec (.pathJudge i) s = execPathJudge i s := rfl
  unfold execPathJudge at hx
  dsimp only at hx
  rw [if_neg (by simp [hs, hi, hj]), if_neg hw, if_pos ht] at hx
  have he : pathJudge s i false = powerEvent (s.setCell i { s.cell i with judged := true, pathWant := [] }) 0x1064 2 (.cell i) [i, (s.cell i).rF, 0, 2] := by
    have hbase : calPathBase (powerEvent (s.setCell i { s.cell i with judged := true, pathWant := [] }) 0x1064 2 (.cell i) [i, (s.cell i).rF, 0, 2]) i =
        calPathBase s i := calN_congr (by unfold powerEvent; simp) _ _
    unfold pathJudge
    simp only [Bool.false_and, Bool.false_eq_true, if_false, Bool.not_false, if_true]
    rw [hbase, if_neg (by omega)]
  rw [he] at hx
  refine ⟨_, hx, ?_⟩
  beta_reduce
  unfold powerEvent
  dsimp only
  rw [if_pos (by decide)]
  have hcell : ∀ j, (raise (logEvent (s.setCell i { s.cell i with judged := true, pathWant := [] }) 0x1064 2 (.cell i) [i, (s.cell i).rF, 0, 2]) .hearth 1).cell j =
      if j = i then { s.cell i with judged := true, pathWant := [] } else s.cell j := by
    intro j
    refine (cell_congr ((raise_cells _ _ _).trans (logEvent_cells _ _ _ _ _)) j).trans ?_
    rw [State.setCell_cell]
  refine ⟨by rw [hcell, if_pos rfl], by rw [hcell, if_pos rfl], by rw [hcell, if_pos rfl]; exact hi, fun hopen => ?_, caused_raise_same _ _ (by decide),
    fun j hne => by rw [hcell, if_neg hne]⟩
  rw [newest_raise]
  exact newest_logEvent (s := s.setCell i { s.cell i with judged := true, pathWant := [] }) hopen 0x1064 2 (.cell i) [i, (s.cell i).rF, 0, 2]

theorem pathConfirmRetry_asks {i ch : Nat} {l : List Nat} {s : State} (hw : (s.cell i).pathWant = ch :: l) (hs : (s.cell i).suspect = true)
    (hi : (s.cell i).isolated = false) (ht : (s.cell i).pathTries < 8) (hu : urgentPending s (cellDie i) ch = false) : Answers (.pathConfirmRetry i) s fun t =>
      (t.cell i).pathTries = (s.cell i).pathTries + 1 ∧ (∀ j, j ≠ i → t.cell j = s.cell j) ∧
      ((s.survey (cellDie i)).failed = false → dieOn s (cellDie i) = true → (s.survey (cellDie i)).urg = none →
        (s.survey (cellDie i)).running = none → (t.survey (cellDie i)).urg = some ⟨ch, true, 0⟩) := by
  have hx : exec (.pathConfirmRetry i) s = execPathConfirmRetry i s := rfl
  unfold execPathConfirmRetry at hx
  simp only [hw, hearthUrgent] at hx
  rw [if_neg (by simp [hs, hi, hu]; omega)] at hx
  obtain ⟨v, hv⟩ : ∃ v : CellSt, v = { s.cell i with pathTries := (s.cell i).pathTries + 1 } := ⟨_, rfl⟩
  have hask : exec (.pathConfirmRetry i) s = .next (urgentReq (s.setCell i v) (cellDie i) ⟨ch, true, 0⟩).1 := by
    rw [← hw] at hx
    rw [hv]
    exact hx
  have hcells := urgentReq_cells (s.setCell i v) (cellDie i) ⟨ch, true, 0⟩
  refine ⟨_, hask, ?_, fun j hj => ?_, fun hf hd hn hr => ?_⟩
  · rw [cell_congr hcells, State.setCell_cell, if_pos rfl, hv]
  · rw [cell_congr hcells, State.setCell_cell, if_neg hj]
  · have htaken := (urgentReq_taken (s := s.setCell i v) (d := cellDie i) hf hd hn ⟨ch, true, 0⟩).1 hr
    rw [htaken]
    simp

/-! ### A die answers again (R300) -/

/-- The faults of a list, erased one by one from what holds them. -/
theorem foldl_erase_filter {α : Type} [DecidableEq α] (p : α → Bool) (l : List α) : (l.filter p).foldl List.erase l = l.filter (fun a => !p a) := by
  induction l with
  | nil => rfl
  | cons a l ih =>
    by_cases h : p a = true
    · simp [h, ih]
    · have hskip : ∀ k : List α, (∀ b ∈ k, b ≠ a) → ∀ m : List α, k.foldl List.erase (a :: m) = a :: k.foldl List.erase m := by
        intro k
        induction k with
        | nil => exact fun _ _ => rfl
        | cons b k ihk =>
          intro hk m
          have hb : b ≠ a := hk b (by simp)
          rw [List.foldl_cons, List.erase_cons_tail (by simpa using fun e => hb e.symm), ihk (fun c hc => hk c (by simp [hc]))]
          rfl
      rw [List.filter_cons_of_neg h, hskip _ (fun b hb e => h (e ▸ (List.mem_filter.mp hb).2)), ih]
      simp [h]

theorem cellNet_lt (i : Nat) (h : cellDie i < 11) : cellNet i < 19 := by
  unfold cellNet
  split
  · split <;> omega
  · omega

/-- The faults of a list of dies that have nets of their own, learned one by one. -/
theorem faultsLearned_frame (l : List LateFault) (hl : ∀ f ∈ l, cellNet f.cell < 19) {s : State} {x : HearthSt} {a : ArbSt} (hx : s.hearth = x) (ha : s.arb = a) :
    (forEach l s fun s f => faultLearned { s with hearth := { s.hearth with late := s.hearth.late.erase f } } f.cell f.code f.args).hearth =
      { x with late := l.foldl List.erase x.late } ∧
    (forEach l s fun s f => faultLearned { s with hearth := { s.hearth with late := s.hearth.late.erase f } } f.cell f.code f.args).arb = a := by
  induction l generalizing s x with
  | nil => exact ⟨hx, ha⟩
  | cons f l ih =>
    have hn := hl f (by simp)
    have hh := faultLearned_apart (apart_hearth { x with late := x.late.erase f })
      (t := { s with hearth := { s.hearth with late := s.hearth.late.erase f } }) (by rw [hx]) hn f.code f.args
    have har := faultLearned_apart (apart_arb a) (t := { s with hearth := { s.hearth with late := s.hearth.late.erase f } }) ha hn f.code f.args
    exact ih (fun g hg => hl g (by simp [hg])) hh har

theorem hearNow_hears {s : State} {d : Nat} (hd : d < 11) (hu : s.arb.unreachable.contains d = false) :
    (hearNow s d).hearth.late = s.hearth.late.filter (fun f => decide (cellDie f.cell ≠ d)) ∧ (hearNow s d).arb = s.arb := by
  unfold hearNow
  rw [hu, if_neg (by simp)]
  obtain ⟨hh, ha⟩ := faultsLearned_frame (s.hearth.late.filter (fun f => cellDie f.cell = d))
    (fun f hf => cellNet_lt f.cell (by have := (List.mem_filter.mp hf).2; simp only [decide_eq_true_eq] at this; omega)) rfl (rfl : s.arb = s.arb)
  rw [hh, ha]
  refine ⟨?_, rfl⟩
  rw [foldl_erase_filter]
  exact List.filter_congr fun f _ => by simp

theorem dieAnswer_heard {d : Nat} {s : State} (hd : d < 11) (hu : s.arb.unreachable.contains d = true) : Answers (.dieAnswer d) s fun t =>
    t.arb.unreachable.contains d = false ∧ t.hearth.late = s.hearth.late.filter (fun f => decide (cellDie f.cell ≠ d)) := by
  have hx : exec (.dieAnswer d) s = execDieAnswer d s := rfl
  unfold execDieAnswer dieAnswered at hx
  rw [if_pos hu] at hx
  refine ⟨_, hx, ?_⟩
  have hgone : (s.arb.unreachable.filter (· ≠ d)).contains d = false := by simp
  obtain ⟨v, hv⟩ : ∃ v : State, v = { s with arb := { s.arb with unreachable := s.arb.unreachable.filter (· ≠ d) }, token := { s.token with
    undelivered := s.token.undelivered.filter (· ≠ d) } } := ⟨_, rfl⟩
  have hva : v.arb.unreachable.contains d = false := by
    rw [hv]
    exact hgone
  obtain ⟨hlate, harb⟩ := hearNow_hears hd hva
  have hvl : v.hearth.late = s.hearth.late := by rw [hv]
  rw [← hv]
  have htell : ∀ {P : State → Prop}, Stable P → P (hearNow v d) → P (rejudge (if d < 8 then noticeTile (hearNow v d) d true else hearNow v d)) := by
    intro P hP h
    refine rejudge_stable hP ?_
    split
    · exact noticeTile_stable hP h d true
    · exact h
  have hheard := htell (surveyed_hearth (hearNow v d).hearth).toStable rfl
  have harbs := htell (apart_arb (hearNow v d).arb).toStable rfl
  beta_reduce at hheard harbs ⊢
  rw [hheard, harbs, harb, hlate, hvl]
  exact ⟨hva, rfl⟩

/-- Settles O12: the Hearth's measurements cell by cell, and what it hears late fault by fault. -/
theorem hearthReportsAndPaths : Obligations.HearthReportsAndPaths := by
  unfold Obligations.HearthReportsAndPaths
  exact ⟨⟨fun n s hst hb => ⟨fun ht => outOfBand_reports hst hb ht, fun ht => outOfBand_told ht⟩, fun m s hon hp => hearthMsUpdate_measures hon hp,
    fun w s hw v hv hr => inletLimit_written hw hv hr, fun w s hw v hv hr => inletLimit_refused hw hv hr⟩,
    fun i s hs hi hj hw ht hr => pathJudge_stays hs hi hj hw ht hr, fun i ch l s hw hs hi ht hu => pathConfirmRetry_asks hw hs hi ht hu,
    fun d s hd hu => dieAnswer_heard hd hu⟩

end Sys2Proof.Machine
end

section
/-!
SUPPORT. Phases, cells and nets that leave service (O13).
-/
namespace Sys2Proof.Machine
open Sys2Proof

/-! ### Phases of a cell (Table 9.1, R272 to R277) -/

theorem watchPhases_look (c : CellSt) {k : Nat} (hk : k < 4) : look {} (watchPhases c).phWatch k = watchPhase c k := by
  have h : k = 0 ∨ k = 1 ∨ k = 2 ∨ k = 3 := by omega
  simp only [watchPhases, List.foldl_cons, List.foldl_nil, look_put]
  obtain rfl | rfl | rfl | rfl := h <;> simp

theorem phaseDue_watchPhases (c : CellSt) {k : Nat} (hk : k < 4) : phaseDue (watchPhases c) k =
    if 101 ≤ (watchPhase c k).oc || 4 ≤ (watchPhase c k).peak then some 0 else if 64 ≤ (watchPhase c k).idle then some 1 else none := by
  rw [phaseDue, watchPhases_look c hk]

/-- A phase in service is watched by its three counts. -/
theorem watchPhase_inService {c : CellSt} {k : Nat} (hi : c.isolated = false) (hp : c.phases.getLsbD k = true) : watchPhase c k =
    { oc := if 72 * 65536 < 100 * phaseQ c k then min 101 ((look {} c.phWatch k).oc + 1) else 0,
      peak := if 65536 < phaseQ c k then min 4 ((look {} c.phWatch k).peak + 1) else 0,
      idle := if phaseOpen c k then min 64 ((look {} c.phWatch k).idle + 1) else 0 } := by
  unfold watchPhase
  dsimp only
  rw [if_neg (by simp [hi, hp])]

theorem phases_fallDue (c : CellSt) (k : Nat) (hk : k < 4) (hi : c.isolated = false) (hp : c.phases.getLsbD k = true) :
    (100 ≤ (look {} c.phWatch k).oc → 72 * 65536 < 100 * phaseQ c k → phaseDue (watchPhases c) k = some 0) ∧
    (3 ≤ (look {} c.phWatch k).peak → 65536 < phaseQ c k → phaseDue (watchPhases c) k = some 0) ∧
    (63 ≤ (look {} c.phWatch k).idle → phaseOpen c k = true → 100 * phaseQ c k ≤ 72 * 65536 → phaseDue (watchPhases c) k = some 1) ∧
    (100 * phaseQ c k ≤ 72 * 65536 → phaseOpen c k = false → phaseDue (watchPhases c) k = none) := by
  have hlow : 100 * phaseQ c k ≤ 72 * 65536 → ¬ (72 * 65536 < 100 * phaseQ c k) ∧ ¬ (65536 < phaseQ c k) := by omega
  rw [phaseDue_watchPhases c hk, watchPhase_inService hi hp]
  refine ⟨fun hn hq => if_pos ?_, fun hn hq => if_pos ?_, fun hn ho hq => ?_, fun hq ho => ?_⟩
  · simp only [if_pos hq, Bool.or_eq_true, decide_eq_true_eq]
    omega
  · simp only [if_pos hq, Bool.or_eq_true, decide_eq_true_eq]
    omega
  · obtain ⟨h1, h2⟩ := hlow hq
    rw [if_neg h1, if_neg h2, ho, if_neg (by simp), if_pos]
    simp
    omega
  · obtain ⟨h1, h2⟩ := hlow hq
    rw [if_neg h1, if_neg h2, ho]
    rfl

/-- A cell as the loss of a phase leaves it. -/
def CellSt.phaseDropped (c : CellSt) (k cause : Nat) : CellSt :=
  { c with phases := c.phases &&& ~~~ BitVec.ofNat 4 (2 ^ k), phCause := setPhCause c.phCause k cause, phWatch := put {} c.phWatch k {} }

theorem dropPhase_cell (s : State) (i k cause j : Nat) : (dropPhase s i k cause).cell j = if j = i then
    (if (s.cell i).phases = 0xF then { (s.cell i).phaseDropped k cause with savedWt := some (s.cell i).shareWt, shareWt := max 1 ((3 * (s.cell i).shareWt + 2) / 4) }
      else (s.cell i).phaseDropped k cause) else s.cell j := State.setCell_cell s i j _

section
variable {i k : Nat} {s : State} (hi : i < 428) (hk : k < 4) (hiso : (s.cell i).isolated = false) (hd : dieOn s (cellDie i) = true)
  (hh : heardLater s i = true)
include hi hd

theorem stuckHighSide_eq (hk : k < 4) : exec (.stuckHighSide i k) s = .next (isolateFor s i 1) := by
  have hx : exec (.stuckHighSide i k) s = execStuckHighSide i k s := rfl
  have hn : i < numCells := hi
  unfold execStuckHighSide at hx
  rw [hx, if_pos (by simp [hn, hk, hd])]

include hk hiso

theorem phaseRemove_eq {cause : Nat} (hdue : phaseDue (s.cell i) k = some cause) (hp : (s.cell i).phases.getLsbD k = true) :
    exec (.phaseRemove i k) s = .next (if freshlyRestored s i then isolateCell (raise (dropPhase s i k cause) (.cell i) 1) i 8
      else if (s.cell i).phases ≠ 0xF then isolateFor (raise (dropPhase s i k cause) (.cell i) 1) i 0
      else faultReport (stretchClock (raise (dropPhase s i k cause) (.cell i) 1) (cellNet i)) i 0x1060 (phasesIn s i)
        [i, k, cause, twos 32 (maOf (phaseQ (s.cell i) k))]) := by
  have hx : exec (.phaseRemove i k) s = execPhaseRemove i k s := rfl
  have hn : i < numCells := hi
  have hg : (!(decide (i < numCells) && decide (k < 4)) || ((s.cell i).isolated && !isolatedNow s i) || !(s.cell i).phases.getLsbD k ||
      !dieOn s (cellDie i)) = false := by
    simp [hn, hk, hiso, hp, hd]
  unfold execPhaseRemove at hx
  simp only [hdue, hg, Bool.false_eq_true, if_false] at hx
  rw [hx]
  split
  · rfl
  · split
    · rfl
    · rw [hiso]
      rfl

include hh

/-- The first phase of a cell leaves it (R272, R274). -/
theorem phaseRemove_first {cause : Nat} (hdue : phaseDue (s.cell i) k = some cause) (hp : (s.cell i).phases = 0xF) (hf : freshlyRestored s i = false) :
    Answers (.phaseRemove i k) s fun t =>
      (t.cell i).phases = 0xF &&& ~~~ BitVec.ofNat 4 (2 ^ k) ∧ (t.cell i).savedWt = some (s.cell i).shareWt ∧
      (t.cell i).shareWt = max 1 ((3 * (s.cell i).shareWt + 2) / 4) ∧ (t.cell i).isolated = false ∧ caused t (.cell i) 1 = true ∧
      (t.cell i).phCause = setPhCause (s.cell i).phCause k cause ∧ ∀ j, j ≠ i → t.cell j = s.cell j := by
  have hbit : (s.cell i).phases.getLsbD k = true := by
    rw [hp]
    have h : k = 0 ∨ k = 1 ∨ k = 2 ∨ k = 3 := by omega
    obtain rfl | rfl | rfl | rfl := h <;> rfl
  have hx := phaseRemove_eq hi hk hiso hd hdue hbit
  have hcell : ∀ j, (raise (dropPhase s i k cause) (.cell i) 1).cell j = if j = i then { (s.cell i).phaseDropped k cause with
      savedWt := some (s.cell i).shareWt, shareWt := max 1 ((3 * (s.cell i).shareWt + 2) / 4) } else s.cell j := by
    intro j
    rw [cell_congr (raise_cells _ _ _), dropPhase_cell, if_pos hp]
  have hheard : heardLater (stretchClock (raise (dropPhase s i k cause) (.cell i) 1) (cellNet i)) i = true := by
    have harb : (raise (dropPhase s i k cause) (.cell i) 1).arb = s.arb := raise_arb _ _ _
    have hloops : (raise (dropPhase s i k cause) (.cell i) 1).loops = s.loops := raise_loops _ _ _
    unfold heardLater cellUnreachable at hh ⊢
    rw [stretchClock_arb, harb, State.loopE, stretchClock_loops, hloops]
    exact hh
  have hcaused := caused_stretchClock (cellNet i) (caused_raise_same (dropPhase s i k cause) (.cell i) (i := 1) (by decide))
  rw [if_neg (by simp [hf]), if_neg (by simp [hp])] at hx
  generalize raise (dropPhase s i k cause) (.cell i) 1 = u at hx hcell hheard hcaused
  obtain ⟨l, hl⟩ := faultReport_heard hheard 0x1060 (phasesIn s i) [i, k, cause, twos 32 (maOf (phaseQ (s.cell i) k))]
  rw [hl] at hx
  refine ⟨_, hx, ?_⟩
  have hfin : ∀ j, State.cell { stretchClock u (cellNet i) with hearth := { (stretchClock u (cellNet i)).hearth with late := l } } j = u.cell j :=
    fun j => cell_congr (stretchClock_cells u (cellNet i)) j
  beta_reduce
  rw [hfin, hcell, if_pos rfl]
  exact ⟨by rw [← hp]; rfl, rfl, rfl, hiso, hcaused, rfl, fun j hj => by rw [hfin, hcell, if_neg hj]⟩

/-- Another phase leaves the cell: the cell is isolated, with the cause or, just restored, for good (R276, R294). -/
theorem phaseRemove_isolates {cause : Nat} (hdue : phaseDue (s.cell i) k = some cause) (hp : (s.cell i).phases.getLsbD k = true)
    (hnot : (s.cell i).phases ≠ 0xF ∨ freshlyRestored s i = true) : ∃ t, exec (.phaseRemove i k) s = .next t ∧
      (t.cell i).isolated = true ∧ (t.cell i).isoCause = (if freshlyRestored s i then 8 else 0) ∧
      (freshlyRestored s i = true → (t.cell i).permanent = true) ∧ caused t (.cell i) 2 = true ∧ ∀ j, j ≠ i → t.cell j = s.cell j := by
  have hx := phaseRemove_eq hi hk hiso hd hdue hp
  have hcell : ∀ j, (raise (dropPhase s i k cause) (.cell i) 1).cell j = (dropPhase s i k cause).cell j := cell_congr (raise_cells _ _ _)
  have hat : ((dropPhase s i k cause).cell i).isolated = false ∧ ((dropPhase s i k cause).cell i).restoredAt = (s.cell i).restoredAt := by
    rw [dropPhase_cell, if_pos rfl]
    split <;> exact ⟨hiso, rfl⟩
  have hheard : heardLater (raise (dropPhase s i k cause) (.cell i) 1) i = true := by
    have harb : (raise (dropPhase s i k cause) (.cell i) 1).arb = s.arb := raise_arb _ _ _
    have hloops : (raise (dropPhase s i k cause) (.cell i) 1).loops = s.loops := raise_loops _ _ _
    unfold heardLater cellUnreachable at hh ⊢
    rw [harb, State.loopE, hloops]
    exact hh
  have hfresh : freshlyRestored (raise (dropPhase s i k cause) (.cell i) 1) i = freshlyRestored s i := by
    have hao : (raise (dropPhase s i k cause) (.cell i) 1).ao = s.ao := raise_ao _ _ _
    have hw : withinUs (raise (dropPhase s i k cause) (.cell i) 1) = withinUs s := by
      funext a b
      rw [withinUs, hao, withinUs]
    rw [freshlyRestored, hcell, hat.2, hw, freshlyRestored]
  have hother : ∀ j, j ≠ i → (raise (dropPhase s i k cause) (.cell i) 1).cell j = s.cell j := fun j hj => by
    rw [hcell, dropPhase_cell, if_neg hj]
  have huiso : ((raise (dropPhase s i k cause) (.cell i) 1).cell i).isolated = false := by rw [hcell, hat.1]
  generalize raise (dropPhase s i k cause) (.cell i) 1 = u at hx hheard hfresh hother huiso
  have hall : exec (.phaseRemove i k) s = .next (isolateCell u i (if freshlyRestored s i then 8 else 0)) := by
    rw [hx]
    cases hf : freshlyRestored s i with
    | true => rfl
    | false =>
      have hne : (s.cell i).phases ≠ 0xF := hnot.resolve_right (by rw [hf]; exact Bool.false_ne_true)
      rw [if_neg (by simp), if_pos hne, isolateFor, hfresh, hf]
  obtain ⟨hiso', hcaused, -⟩ := isolateCell_heard hheard huiso (if freshlyRestored s i then 8 else 0)
  refine ⟨_, hall, ?_, ?_, fun hf => ?_, hcaused, fun j hj => ?_⟩
  · rw [hiso', if_pos rfl]
    rfl
  · rw [hiso', if_pos rfl]
    rfl
  · rw [hiso', if_pos rfl, hf]
    simp [CellSt.isolatedFor]
  · rw [hiso', if_neg hj, hother j hj]

omit hk in
theorem stuckHighSide_isolates (hk : k < 4) : ∃ t, exec (.stuckHighSide i k) s = .next t ∧
      (t.cell i).isolated = true ∧ (t.cell i).isoCause = (if freshlyRestored s i then 8 else 1) ∧
      (freshlyRestored s i = true → (t.cell i).permanent = true) ∧ caused t (.cell i) 2 = true ∧ ∀ j, j ≠ i → t.cell j = s.cell j := by
  have hx := stuckHighSide_eq hi hd hk
  obtain ⟨hiso', hcaused, -⟩ := isolateCell_heard hh hiso (if freshlyRestored s i then 8 else 1)
  refine ⟨_, hx, ?_, ?_, fun hf => ?_, hcaused, fun j hj => ?_⟩
  · rw [isolateFor, hiso', if_pos rfl]
    rfl
  · rw [isolateFor, hiso', if_pos rfl]
    rfl
  · rw [isolateFor, hiso', if_pos rfl, hf]
    simp [CellSt.isolatedFor]
  · rw [isolateFor, hiso', if_neg hj]

end

/-! ### Restoring a cell (R293) -/

theorem restore_restores {i : Nat} {w : RegWrite} {s : State} (hw : writeOk s (.cell i) w = true) (hgo : w.ones.getLsbD 24 = true)
    (hiso : (s.cell i).isolated = true) (hc : (s.cell i).isoCause ≠ 1) (hp : (s.cell i).permanent = false) (hn : (s.net (cellNet i)).st = .on)
    (ht : 16 ≤ cellNet i ∨ (s.tile (cellNet i / 2)).st = .kindled) : Answers (.restore i w) s fun t =>
      (t.cell i).isolated = false ∧ (t.cell i).phases = 0xF ∧ (t.cell i).shareWt = (s.cell i).savedWt.getD (s.cell i).shareWt ∧
      (t.cell i).restoredAt = some s.ao.ticks := by
  have hx : exec (.restore i w) s = .next (writeCellFault i w s).1 := rfl
  have htile : (decide (16 ≤ cellNet i) || decide ((s.tile (cellNet i / 2)).st = .kindled)) = true := by simpa using ht
  unfold writeCellFault at hx
  dsimp only at hx
  rw [guarded_passes hw _ (by simp only [Checks.pass, hgo, hiso, hp, hn, htile]; simp [hc]), hgo] at hx
  simp only [Bool.not_true, Bool.false_eq_true, if_false] at hx
  refine ⟨_, hx, ?_⟩
  generalize hearNow s (cellDie i) = u
  have hcell : ∀ (v : State) (x : CellSt) (a : List Nat), (capApply (logEvent (v.setCell i x) 0x1067 1 (.cell i) a) (cellNet i)).cell i = x := by
    intro v x a
    have hcells := capApply_stable (surveyed_cells (v.setCell i x).cells).toStable (t := logEvent (v.setCell i x) 0x1067 1 (.cell i) a)
      (logEvent_cells _ _ _ _ _) (cellNet i)
    rw [cell_congr hcells, State.setCell_cell, if_pos rfl]
  rw [hcell]
  exact ⟨rfl, rfl, rfl, rfl⟩

/-! ### Nets that fail (R281, R301) -/

/-- A net that is disabled while it supplies: what is kept of it is whether it has failed. -/
theorem netDisable_net {s : State} {n : Nat} (h1 : (s.net n).st ≠ .off) (h2 : (s.net n).st ≠ .falling) :
    ((netDisable s n).net n).st = .falling ∧ ((netDisable s n).net n).slew = none ∧ ((netDisable s n).net n).dead = (s.net n).dead := by
  have key : ∀ u : State, u.nets = s.nets → ∀ v, let t := u.modNet n (fun x => { x with st := .falling, roll := none, slew := none, vsetUv := v })
      (t.net n).st = .falling ∧ (t.net n).slew = none ∧ (t.net n).dead = (s.net n).dead := by
    intro u hu v
    simp [net_congr hu]
  have hc : ∀ u : State, u.nets = s.nets → (if (u.loopE (netDie n)).clk then u else netCellsOff u n).nets = s.nets := by
    intro u hu
    split
    · exact hu
    · exact (netCellsOff_nets u n).trans hu
  unfold netDisable
  split
  · contradiction
  · contradiction
  · refine key _ (hc _ ?_) _
    split
    · split <;> rfl
    · rfl

theorem netDisable_other (s : State) {n j : Nat} (h : j ≠ n) : (netDisable s n).net j = s.net j := by
  have hc : ∀ u : State, u.nets = s.nets → (if (u.loopE (netDie n)).clk then u else netCellsOff u n).nets = s.nets := by
    intro u hu
    split
    · exact hu
    · exact (netCellsOff_nets u n).trans hu
  unfold netDisable
  split
  · rfl
  · rfl
  · refine (State.setNet_net _ _ _ _).trans ?_
    rw [if_neg h]
    refine net_congr (hc _ ?_) j
    split
    · split <;> rfl
    · rfl

/-- Disabling a net, or halting it, does not undo the failure of any net. -/
theorem netDisable_dead (s : State) (n j : Nat) : ((netDisable s n).net j).dead = (s.net j).dead := by
  by_cases h1 : (s.net n).st = .off
  · unfold netDisable
    rw [h1]
  by_cases h2 : (s.net n).st = .falling
  · unfold netDisable
    rw [h2]
  by_cases hj : j = n
  · subst hj
    exact (netDisable_net h1 h2).2.2
  · rw [netDisable_other s hj]

theorem netHalt_dead (s : State) (n j : Nat) : ((netHalt s n).net j).dead = (s.net j).dead := by
  have hset : ∀ x : NetSt, x.dead = (s.net n).dead → ((s.setNet n x).net j).dead = (s.net j).dead := by
    intro x hx
    rw [State.setNet_net]
    split
    · next h => rw [h, hx]
    · rfl
  unfold netHalt
  split
  · exact hset _ rfl
  · exact hset _ rfl
  · rfl

theorem tileReset_nets (s : State) (k : Nat) : (tileReset s k).nets = s.nets := by
  have hcred : ∀ (u : State) (f : CredRow → CredRow), (modCred u k f).nets = u.nets := by
    intro u f
    unfold modCred
    split <;> rfl
  have htally : ∀ (u : State) (f : TallyRow → TallyRow), (modTally u k f).nets = u.nets := by
    intro u f
    unfold modTally
    split <;> rfl
  unfold tileReset
  dsimp only
  rw [htally, hcred]
  refine forEach_keeps State.nets _ _ (fun t n _ => ?_) s
  rfl

theorem tileSettle_nets (s : State) (k : Nat) (st : TileState) : (tileSettle s k st).nets = s.nets := by
  unfold tileSettle
  dsimp only
  split
  · rfl
  · rw [logEvent_nets]
    rfl

theorem tileAtOff_nets (s : State) (k : Nat) : (tileAtOff s k).nets = s.nets := by
  unfold tileAtOff
  dsimp only
  rw [clearLocks_nets, tileSettle_nets, sensorsOff_nets, surveyOff_nets]
  exact tileReset_nets s k

theorem tileFall_dead (s : State) (k j : Nat) : ((tileFall s k).net j).dead = (s.net j).dead := by
  have hstep : ∀ u : State, ((tileFallStep u k).net j).dead = (u.net j).dead := by
    intro u
    unfold tileFallStep
    dsimp only
    split
    · rfl
    · split
      · exact netDisable_dead _ _ _
      · split
        · exact netDisable_dead _ _ _
        · rw [net_congr (tileAtOff_nets u k)]
  have hrest : (stackRest s k).nets = s.nets := by
    unfold stackRest
    split <;> rfl
  refine (hstep _).trans ?_
  refine (netHalt_dead _ (2 * k + 1) j).trans ?_
  rw [netHalt_dead, net_congr hrest]

theorem aside_nets (x : Sparse NetSt) : Aside (fun t => t.nets = x) where
  core _ _ h := h
  pool _ _ _ h := h
  ledgers _ h := h
  cap _ _ h := h
  raise _ _ h := by rwa [raise_nets]
  logEvent _ _ _ _ h := by rwa [logEvent_nets]
  part _ _ _ _ h := h
  spare _ _ _ _ _ h := h

/-- Taking a tile Off does not undo the failure of any net. -/
theorem forceOff_dead (s : State) (k cause j : Nat) : ((forceOff s k (.lost cause)).net j).dead = (s.net j).dead := by
  have hstack : (forcedStack s k (.lost cause)).nets = s.nets := by
    unfold forcedStack
    split
    · exact stackLost_aside (aside_nets s.nets) rfl _ _
    · split
      · rfl
      · exact stackRest_aside (aside_nets s.nets) rfl _
  have hcores := forceCores_aside (aside_nets s.nets) hstack k (.lost cause)
  rw [forceOff_lost]
  split
  · rfl
  · split
    · rw [net_congr hcores]
    · have hback := releaseBase_aside (aside_nets s.nets) hcores k
      rw [tileFall_dead]
      generalize releaseBase (forceCores (forcedStack s k (.lost cause)) k (.lost cause)) k = u at hback ⊢
      exact congrArg NetSt.dead (net_congr (t := stopTrans u k) hback j)

/-! ### The shorted or weak net -/

/-- The state in which what the failure of a net takes with it is settled: reported, the net dead and falling. -/
def netFailed (n : Nat) (u : State) : State := capApply (netDisable (u.modNet n (fun x => { x with dead := true })) n) n

theorem netFail_eq {s : State} {n : Nat} (hd : (s.net n).dead = false) (h1 : (s.net n).st ≠ .off) (h2 : (s.net n).st ≠ .falling) (short : Bool) :
    ∃ code a, netFail s n short = noted s (netConsequences (netFailed n (powerEvent s code 3 (.net n) a)) n) := by
  unfold netFail
  dsimp only
  rw [if_neg (by simp [hd, h1, h2])]
  cases short with
  | true => exact ⟨_, _, rfl⟩
  | false => exact ⟨_, _, rfl⟩

theorem netFailed_net {s : State} {n : Nat} (h1 : (s.net n).st ≠ .off) (h2 : (s.net n).st ≠ .falling) (code : Nat) (a : List Nat) : ((netFailed n (powerEvent s code 3 (.net n) a)).net n).st = .falling ∧
    ((netFailed n (powerEvent s code 3 (.net n) a)).net n).slew = none ∧ ((netFailed n (powerEvent s code 3 (.net n) a)).net n).dead = true := by
  have hu := powerEvent_nets s code 3 (.net n) a
  generalize powerEvent s code 3 (.net n) a = u at hu ⊢
  have hnet : (u.modNet n (fun x => { x with dead := true })).net n = { s.net n with dead := true } := by
    simp [net_congr hu]
  obtain ⟨hst, hslew, hdead⟩ := netDisable_net (s := u.modNet n (fun x => { x with dead := true })) (n := n) (by rw [hnet]; exact h1) (by rw [hnet]; exact h2)
  unfold netFailed
  rw [net_congr (capApply_stable (stable_nets _) rfl n)]
  exact ⟨hst, hslew, by rw [hdead, hnet]⟩

theorem netFailed_marks (s : State) (n code : Nat) (a : List Nat) (k : Nat) : tileMarks ((netFailed n (powerEvent s code 3 (.net n) a)).tile k) = tileMarks (s.tile k) := by
  have hu : (powerEvent s code 3 (.net n) a).tiles = s.tiles := by
    unfold powerEvent
    simp
  generalize powerEvent s code 3 (.net n) a = u at hu ⊢
  refine capApply_stable (aside_marks k _).toStable ?_ n
  rw [tile_congr (netDisable_tiles _ _)]
  exact congrArg tileMarks (tile_congr hu k)

/-! ### What the failure of a net takes with it -/

theorem portOff_nets (s : State) (p : Nat) : (portOff s p).nets = s.nets := by
  have hreplay : ∀ (u : State) (f : ReplayRow → ReplayRow), (modReplay u p f).nets = u.nets := by
    intro u f
    unfold modReplay
    split <;> rfl
  have hflits : (writeOffFlits s p (fun _ => true)).nets = s.nets := by
    unfold writeOffFlits
    dsimp only
    split
    · rfl
    · split
      · exact hreplay _ _
      · unfold logWriteOff
        rw [raise_nets, logEvent_nets]
        exact hreplay _ _
  refine Eq.trans ?_ hflits
  unfold portOff lanesOff
  refine forEach_keeps State.nets _ _ (fun t i _ => ?_) _
  rfl

theorem linkSet_nets (s : State) (l0 : Bool) (rate width : Nat) : (linkSet s l0 rate width).nets = s.nets := by
  unfold linkSet absence
  dsimp only
  rw [raise_nets, logEvent_nets]
  split <;> rfl

theorem netConsequences_edge {n : Nat} (h1 : 16 ≤ n) (h2 : n < 19) (s : State) : (netConsequences s n).nets = s.nets := by
  have hports : ∀ l : List Nat, (forEach l s portOff).nets = s.nets := fun l => forEach_keeps State.nets l portOff (fun t p _ => portOff_nets t p) s
  unfold netConsequences
  rw [if_neg (by omega)]
  split
  · rw [edgesCheck_nets, hports]
  · split
    · rw [edgesCheck_nets, hports]
    · rw [if_pos (by omega), edgesCheck_nets]
      split
      · exact linkSet_nets _ _ _ _
      · rfl

theorem netFail_edge {s : State} {n : Nat} (h1 : 16 ≤ n) (h2 : n < 19) (hd : (s.net n).dead = false) (hst : (s.net n).st = .on) (short : Bool) :
    ((netFail s n short).net n).dead = true ∧ ((netFail s n short).net n).st = .falling ∧ ((netFail s n short).net n).slew = none := by
  obtain ⟨code, a, he⟩ := netFail_eq hd (by simp [hst]) (by simp [hst]) short
  obtain ⟨hfall, hslew, hdead⟩ := netFailed_net (s := s) (n := n) (by simp [hst]) (by simp [hst]) code a
  have hnets : (noted s (netConsequences (netFailed n (powerEvent s code 3 (.net n) a)) n)).nets = (netFailed n (powerEvent s code 3 (.net n) a)).nets := by
    refine Eq.trans ?_ (netConsequences_edge h1 h2 _)
    obtain e | e := noted_cases s (netConsequences (netFailed n (powerEvent s code 3 (.net n) a)) n) <;> rw [e]
    exact raise_nets _ _ _
  rw [he, net_congr hnets]
  exact ⟨hdead, hfall, hslew⟩

theorem netFail_tile {s : State} {n : Nat} (hn : n < 16) (hf : (s.tile (n / 2)).forced = false) (hd : (s.net n).dead = false) (hst : (s.net n).st = .on)
    (short : Bool) : ((netFail s n short).net n).dead = true ∧ ((netFail s n short).tile (n / 2)).barred = true ∧
      (((netFail s n short).tile (n / 2)).st = .falling ∨ ((netFail s n short).tile (n / 2)).st = .off) := by
  obtain ⟨code, a, he⟩ := netFail_eq hd (by simp [hst]) (by simp [hst]) short
  obtain ⟨-, -, hdead⟩ := netFailed_net (s := s) (n := n) (by simp [hst]) (by simp [hst]) code a
  have hmarks := netFailed_marks s n code a (n / 2)
  rw [he]
  generalize netFailed n (powerEvent s code 3 (.net n) a) = u at hdead hmarks ⊢
  have hcons : netConsequences u n = rejudge (forceOff (barTile u (n / 2)) (n / 2) (.lost 4)) := if_pos hn
  have hbar : (barTile u (n / 2)).tile (n / 2) = { u.tile (n / 2) with barred := true } := by simp [barTile]
  have hforced : (u.tile (n / 2)).forced = false := by
    simp only [tileMarks, Prod.mk.injEq] at hmarks
    rw [hmarks.2.1, hf]
  obtain ⟨hfall, hbarred⟩ := forceOff_falls (s := barTile u (n / 2)) (k := n / 2) (fun h => by rw [hbar, hforced] at h; cases h) 4
  have hkept := forceOff_dead (barTile u (n / 2)) (n / 2) 4 n
  obtain ⟨x, hr⟩ := rejudge_frame (forceOff (barTile u (n / 2)) (n / 2) (.lost 4))
  have htiles := (noted_tiles s (rejudge (forceOff (barTile u (n / 2)) (n / 2) (.lost 4)))).1
  have hnets : (noted s (rejudge (forceOff (barTile u (n / 2)) (n / 2) (.lost 4)))).nets = (forceOff (barTile u (n / 2)) (n / 2) (.lost 4)).nets := by
    obtain e | e := noted_cases s (rejudge (forceOff (barTile u (n / 2)) (n / 2) (.lost 4))) <;> rw [e]
    · rw [raise_nets, hr]
    · rw [hr]
  rw [hr] at htiles
  rw [hcons, net_congr hnets, hkept]
  rw [hr] at *
  rw [tile_congr htiles]
  refine ⟨hdead, hbarred.trans (by rw [hbar]), hfall⟩

theorem netFail_hub {s : State} (hd : (s.net 19).dead = false) (hst : (s.net 19).st = .on) (short : Bool) :
    (netFail s 19 short).ao.hold = true ∧ (netFail s 19 short).power.stage = .banked := by
  obtain ⟨code, a, he⟩ := netFail_eq hd (by simp [hst]) (by simp [hst]) short
  rw [he]
  generalize netFailed 19 (powerEvent s code 3 (.net 19) a) = u
  have hcons : netConsequences u 19 = { bankAtOnce (keepRecords u) with ao := { (bankAtOnce (keepRecords u)).ao with hold := true } } := rfl
  have hstage := (bankAtOnce_frame (keepRecords u)).1
  rw [(noted_tiles _ _).2, hcons]
  refine ⟨?_, hstage⟩
  obtain e | e := noted_cases s { bankAtOnce (keepRecords u) with ao := { (bankAtOnce (keepRecords u)).ao with hold := true } } <;> rw [e]
  rw [raise_ao]

theorem netShort_eq {s : State} {n : Nat} (hn : n < 20) (hl : 20 ≤ (s.net n).lowFrames) : exec (.netShort n) s = .next (netFail s n true) := by
  have hx : exec (.netShort n) s = execNetShort n s := rfl
  unfold execNetShort at hx
  rw [hx, if_pos (by simp [hn, hl])]

theorem inputSwitchFailed_eq {s : State} {i : Nat} (hi : i < 428) (hiso : (s.cell i).isolated = true) (hl : 10 ≤ (s.cell i).leak) :
    exec (.inputSwitchFailed i) s = .next (netFail s (cellNet i) true) := by
  have hx : exec (.inputSwitchFailed i) s = execInputSwitchFailed i s := rfl
  have hn : i < numCells := hi
  unfold execInputSwitchFailed at hx
  rw [hx, if_pos (by simp [hn, hiso, hl])]

theorem cellNet_edge {i : Nat} (h1 : 384 ≤ i) (h2 : i < 420) : 16 ≤ cellNet i ∧ cellNet i < 19 := by
  unfold cellNet cellDie
  rw [if_neg (by omega), if_neg (by omega), if_pos h2]
  split
  · omega
  · split
    · omega
    · exact ⟨by decide, by decide⟩

theorem cellNet_tile {i : Nat} (h : i < 384) : cellNet i < 16 := by
  unfold cellNet
  rw [if_pos h]
  split <;> omega

/-- Settles O13: phases through the cell the Hearth hears of later, nets through what their failure takes with them. -/
theorem phasesCellsAndNetsLeaveService : Obligations.PhasesCellsAndNetsLeaveService := by
  unfold Obligations.PhasesCellsAndNetsLeaveService
  refine ⟨⟨fun i k cause s hi hk hdue hiso hp hd hh hf => phaseRemove_first hi hk hiso hd hh hdue hp hf, fun i k cause s hi hk hdue hiso hbit hp hd hh hf _ => ?_,
    fun i k cause s hi hk hiso hd hh hf => ⟨fun hdue hbit => ?_, ?_⟩, phases_fallDue, fun i k s hi hk hd hiso hh hf _ => ?_,
    fun i w s hw hgo hiso hc hp hn ht => restore_restores hw hgo hiso hc hp hn ht⟩, fun n s h1 h2 hd hst hl => ?_, fun i s h1 h2 hiso hl hd hst => ?_,
    fun n s hn hf hd hst hl => ?_, fun i n s hi hn hf hiso hl hd hst => ?_, fun s hd hst hl => ?_⟩
  · obtain ⟨t, hx, hiso', hcause, -, hcaused, hother⟩ := phaseRemove_isolates hi hk hiso hd hh hdue hbit (.inl hp)
    exact ⟨t, hx, hiso', by rw [hcause, hf]; rfl, hcaused, hother⟩
  · obtain ⟨t, hx, hiso', hcause, hperm, -, -⟩ := phaseRemove_isolates hi hk hiso hd hh hdue hbit (.inr hf)
    exact ⟨t, hx, hiso', by rw [hcause, hf]; rfl, hperm hf⟩
  · obtain ⟨t, hx, hiso', hcause, hperm, -, -⟩ := stuckHighSide_isolates hi hiso hd hh hk
    exact ⟨t, hx, hiso', by rw [hcause, hf]; rfl, hperm hf⟩
  · obtain ⟨t, hx, hiso', hcause, -, hcaused, hother⟩ := stuckHighSide_isolates hi hiso hd hh hk
    exact ⟨t, hx, hiso', by rw [hcause, hf]; rfl, hcaused, hother⟩
  · exact ⟨_, netShort_eq (by omega) hl, netFail_edge h1 h2 hd hst true⟩
  · obtain ⟨hlo, hhi⟩ := cellNet_edge h1 h2
    obtain ⟨hdead, hfall, -⟩ := netFail_edge hlo hhi hd hst true
    exact ⟨_, inputSwitchFailed_eq (by omega) hiso hl, hdead, hfall⟩
  · exact ⟨_, netShort_eq (by omega) hl, netFail_tile hn hf hd hst true⟩
  · subst hn
    exact ⟨_, inputSwitchFailed_eq (by omega) hiso hl, netFail_tile (cellNet_tile hi) hf hd hst true⟩
  · exact ⟨_, netShort_eq (by omega) hl, netFail_hub hd hst true⟩

end Sys2Proof.Machine
end
